-- ==== Sys2Proof/Word.lean ====
section
/-! DEFINITION. The words of the machine: the byte of a frame or message and the reading of the microsecond timebase. -/

namespace Sys2Proof

/-- One byte on the control link or on a control channel. -/
abbrev Byte := BitVec 8

/-- A reading of the part's free-running 32-bit count of microseconds (spec/00_scope.md, Timebase). -/
abbrev Stamp := BitVec 32

end Sys2Proof
end

