-- ==== Sys2Proof/Syntax.lean ====
section
/-! DEFINITION. The commands of the block: one constructor for each row of spec/opcode_table.json, with the operands
that the row's event brings from outside. The first operand of every command, `t`, is the reading of the timebase at
the event (log entry 1). A request of the host has no other operand: its row is the DISPATCH of that request, and its
tag, code and payload stand in the request queue (R3, R4; log entry 8). -/

namespace Sys2Proof

/-- A rear seat, and with it its link (RSL1, RSL2), its output (RO1, RO2) and its zone (REAR1, REAR2). -/
inductive Seat where
  | s1
  | s2
  deriving DecidableEq, Repr

/-- The four video feeds and their ports (R22: codes 1 UIF, 2 FF1, 3 FF2, 4 CAM). -/
inductive Feed where
  | uif
  | ff1
  | ff2
  | cam
  deriving DecidableEq, Repr

/-- The three outputs: FRO, and RO1 or RO2 for a seat. -/
inductive Output where
  | fro
  | ro (seat : Seat)
  deriving DecidableEq, Repr

/-- The two voices of the chime unit (R152). -/
inductive Voice where
  | v1
  | v2
  deriving DecidableEq, Repr

/-- The three vehicle values that have a watch (Table 2-2). -/
inductive Watched where
  | speed
  | steering
  | obstacle
  deriving DecidableEq, Repr

/-- What a write fault leaves in a slot's cells: an image and a check value (R169). -/
structure FaultyCells where
  image : List Int
  check : BitVec 32
  deriving DecidableEq, Repr

/-- The commands: one constructor for each row of the table. -/
inductive Instr where
  /-- RECEIVE_BYTE (R1): a byte arrives on LINK_RX; `stopHigh` is the level of its stop bit. -/
  | receiveByte (t : Stamp) (b : Byte) (stopHigh : Bool)
  /-- INTER_BYTE_WATCH_EXPIRY (R1). -/
  | interByteWatchExpiry (t : Stamp)
  /-- CANDIDATE_FRAME_COMPLETE (R2): the oldest complete candidate is checked. -/
  | candidateFrameComplete (t : Stamp)
  /-- UNKNOWN_REQUEST (R4): dispatch of a request whose code is not in Table 1-3. -/
  | unknownRequest (t : Stamp)
  /-- TRANSMIT_FRAME_END (R6): the last byte of the frame being sent has gone out. -/
  | transmitFrameEnd (t : Stamp)
  /-- IDENTIFY (R10). -/
  | identify (t : Stamp)
  /-- MODE_SET (R8). -/
  | modeSet (t : Stamp)
  /-- RESTART (R11). -/
  | restart (t : Stamp)
  /-- NOTICE_SELECT (R15). -/
  | noticeSelect (t : Stamp)
  /-- STATUS_LINE_MAP (R17). -/
  | statusLineMap (t : Stamp)
  /-- POWER_ON (R170): `resetHigh` is the level of RESET_N at power-on. -/
  | powerOn (t : Stamp) (resetHigh : Bool)
  /-- RESET_N_FALL (R170). -/
  | resetNFall (t : Stamp)
  /-- RESET_N_RISE (R170). -/
  | resetNRise (t : Stamp)
  /-- START_MODE_ENTRY (R170): the end of the calibration load. -/
  | startModeEntry (t : Stamp)
  /-- VEHICLE_REPORT (R31, R32). -/
  | vehicleReport (t : Stamp)
  /-- VEHICLE_WATCH_EXPIRY (R33). -/
  | vehicleWatchExpiry (t : Stamp) (value : Watched)
  /-- FEED_FORMAT (R24). -/
  | feedFormat (t : Stamp)
  /-- FRAME_START (R19, R20). -/
  | frameStart (t : Stamp) (feed : Feed)
  /-- FRAME_WATCH_EXPIRY (R21). -/
  | frameWatchExpiry (t : Stamp) (feed : Feed)
  /-- GEAR_EDGE (R28): the raw level of GEAR becomes `high`. -/
  | gearEdge (t : Stamp) (high : Bool)
  /-- GEAR_DEBOUNCE_EXPIRY (R29). -/
  | gearDebounceExpiry (t : Stamp)
  /-- CUE_DEADLINE_EXPIRY (R39). -/
  | cueDeadlineExpiry (t : Stamp)
  /-- HOLD_TIMER_EXPIRY (R44). -/
  | holdTimerExpiry (t : Stamp)
  /-- REVERSE_DISMISS (R47). -/
  | reverseDismiss (t : Stamp)
  /-- REVERSE_STATUS (R50). -/
  | reverseStatus (t : Stamp)
  /-- COMPUTATION_COMPLETE (R67). -/
  | computationComplete (t : Stamp)
  /-- GUIDE_QUERY (R71). -/
  | guideQuery (t : Stamp)
  /-- BAD_LINK_MESSAGE (R74): the bytes of a message as they arrive, kind byte first, check bytes last. -/
  | badLinkMessage (t : Stamp) (link : Seat) (message : List Byte)
  /-- PRESENCE_GAINED (R76). -/
  | presenceGained (t : Stamp) (link : Seat)
  /-- PRESENCE_LOST (R91). -/
  | presenceLost (t : Stamp) (link : Seat)
  /-- HAIL_TIMER_EXPIRY (R77). -/
  | hailTimerExpiry (t : Stamp) (link : Seat)
  /-- OFFERS (R78): the body of an OFFERS message whose check passed. -/
  | offers (t : Stamp) (link : Seat) (body : List Byte)
  /-- ACCEPT (R80). -/
  | accept (t : Stamp) (link : Seat)
  /-- REJECT (R80). -/
  | reject (t : Stamp) (link : Seat)
  /-- CLAIM_TIMER_EXPIRY (R80). -/
  | claimTimerExpiry (t : Stamp) (link : Seat)
  /-- POLL_TIMER_EXPIRY (R83). -/
  | pollTimerExpiry (t : Stamp) (link : Seat)
  /-- STATUS (R84, R85): the body of a STATUS message whose check passed. -/
  | status (t : Stamp) (link : Seat) (body : List Byte)
  /-- PARTNER_RESET (R90). -/
  | partnerReset (t : Stamp) (link : Seat)
  /-- HOLD_OFF_TIMER_EXPIRY (R89). -/
  | holdOffTimerExpiry (t : Stamp) (link : Seat)
  /-- SETTLE_TIMER_EXPIRY (R96). -/
  | settleTimerExpiry (t : Stamp) (link : Seat)
  /-- LINK_POLICY_SET (R93). -/
  | linkPolicySet (t : Stamp)
  /-- LINK_REOFFER (R92). -/
  | linkReoffer (t : Stamp)
  /-- LINK_RESTART (R90). -/
  | linkRestart (t : Stamp)
  /-- LINK_COMMAND (R88). -/
  | linkCommand (t : Stamp)
  /-- LINK_STATUS (R95). -/
  | linkStatus (t : Stamp)
  /-- DESCRIPTOR_READ_START (R94). -/
  | descriptorReadStart (t : Stamp)
  /-- DESCRIPTOR_READ_CONTINUE (R94). -/
  | descriptorReadContinue (t : Stamp)
  /-- OUTPUT_FRAME_START (R97). -/
  | outputFrameStart (t : Stamp) (output : Output)
  /-- ROUTE_SET (R98). -/
  | routeSet (t : Stamp)
  /-- CAMERA_PREVIEW (R101). -/
  | cameraPreview (t : Stamp)
  /-- BANNER_SET (R107). -/
  | bannerSet (t : Stamp)
  /-- PAGE_LOAD (R116, R172). -/
  | pageLoad (t : Stamp)
  /-- PAGE_REMOVE (R117). -/
  | pageRemove (t : Stamp)
  /-- PAGE_CLEAR (R118). -/
  | pageClear (t : Stamp)
  /-- ITEM_SET (R119). -/
  | itemSet (t : Stamp)
  /-- SEAT_ROOT_SET (R120). -/
  | seatRootSet (t : Stamp)
  /-- MENU_OPEN (R125). -/
  | menuOpen (t : Stamp)
  /-- MENU_CLOSE (R134). -/
  | menuClose (t : Stamp)
  /-- MENU_STATE (R137). -/
  | menuState (t : Stamp)
  /-- IDLE_TIMER_EXPIRY (R131). -/
  | idleTimerExpiry (t : Stamp) (seat : Seat)
  /-- REPEAT_TIMER_EXPIRY (R139). -/
  | repeatTimerExpiry (t : Stamp) (seat : Seat)
  /-- ZONE_LEVEL_SET (R143). -/
  | zoneLevelSet (t : Stamp)
  /-- BACKLIGHT_POLICY_SET (R146). -/
  | backlightPolicySet (t : Stamp)
  /-- CHIME_PATTERN_LOAD (R150). -/
  | chimePatternLoad (t : Stamp)
  /-- CHIME_PLAY (R156). -/
  | chimePlay (t : Stamp)
  /-- CHIME_CANCEL (R157). -/
  | chimeCancel (t : Stamp)
  /-- CHIME_STATUS (R162). -/
  | chimeStatus (t : Stamp)
  /-- FRONT_LEVEL_SET (R161). -/
  | frontLevelSet (t : Stamp)
  /-- STEP_END (R152). -/
  | stepEnd (t : Stamp) (voice : Voice)
  /-- BEEP_START (R159). -/
  | beepStart (t : Stamp)
  /-- DUCK_STEP (R160): the zone of `seat` takes its next step. -/
  | duckStep (t : Stamp) (seat : Seat)
  /-- CALIBRATION_READ (R167). -/
  | calibrationRead (t : Stamp)
  /-- CALIBRATION_WRITE (R166). -/
  | calibrationWrite (t : Stamp)
  /-- CALIBRATION_CHECK (R167). -/
  | calibrationCheck (t : Stamp)
  /-- CALIBRATION_PROGRAM (R168). -/
  | calibrationProgram (t : Stamp)
  /-- PROGRAMMING_COMPLETE (R169): `fault` is what a write fault left in the slot's cells, none without one. -/
  | programmingComplete (t : Stamp) (fault : Option FaultyCells)
  deriving DecidableEq, Repr

end Sys2Proof
end

