-- ==== Sys2Proof/Decode.lean ====
section
/-! DEFINITION. The reading of a word by the table's bits. No row of spec/opcode_table.json has bits: a command is an event at
the part, or the dispatch of a request that stands in the request queue, so no word spells one. -/

namespace Sys2Proof

/-- The command a word of the table spells: none, as the table gives no row any bits (log entry 6). -/
def decodeTableWord (_nbits _w : Nat) : Option Instr := none

end Sys2Proof
end

