-- ==== Sys2Proof/Config.lean ====
section
/-! DEFINITION. What the part fixes for good: the sizes of its stores (each with its rule), and the values the manual
leaves open, which are opaque: nothing in Lean can tell what they are. -/

namespace Sys2Proof.Config

/-- R3: the request queue holds up to 4 requests. -/
def requestQueueSize : Nat := 4

/-- Section 1.4: the notice board holds up to 24 pending notices. -/
def boardSize : Nat := 24

/-- Table 1-1: a frame's payload holds at most 240 bytes. -/
def maxPayload : Nat := 240

/-- R86: a link's command queue holds up to 4 commands. -/
def linkQueueSize : Nat := 4

/-- R115: the page store holds at most 32 pages. -/
def maxPages : Nat := 32

/-- R115: the page store holds at most 256 items in total. -/
def maxItems : Nat := 256

/-- R121: an open menu's history holds at most 6 entries. -/
def maxDepth : Nat := 6

/-- R154: the chime queue holds at most 8 chimes. -/
def chimeQueueSize : Nat := 8

/-- The pattern of pixels within a glyph of the built-in set: R108 says that the manual does not give it. Whether the
pixel in `row` (0 to 15) and `col` (0 to 7) of the glyph with `code` is lit (log entry 17). -/
opaque glyphPixel : (code row col : Nat) → Bool

/-- The item-count byte of a PAGE LOAD or PAGE REMOVE reply when the store holds 256 items: R116 gives the payload 2 bytes,
and 256 does not fit the one left for the items (log entry 37). -/
opaque fullItemCount : Byte

/-- One sample of the film audio carried in the lanes of a feed (R161), in the 16-bit sample range: it comes from outside the
part. The second argument numbers the samples (log entry 18). -/
opaque filmSample : Feed → Nat → BitVec 16

/-- One sample of a full-scale sine wave of a frequency in Hz (R161). The manual gives neither the sample rate nor the
phase (log entry 18). -/
opaque sineSample : (freq : Nat) → Nat → BitVec 16

/-- Whether a term of a mix that is no whole number is rounded away from zero, rather than toward it: R161 does not say how the
product of a sample and its gain is rounded. It may depend on which term it is, on both terms (each a gain in decibels and a sample),
and on the number of the sample (log entry 18). -/
opaque roundsAway : (isFilm : Bool) → (film chime : Option (Int × Int)) → Nat → Bool

end Sys2Proof.Config
end

