-- ==== Sys2Proof/Machine/Types.lean ====
section
/-! DEFINITION. The plain data the blocks of the part hold: one structure for each record of the manual's tables. A field
that the manual gives as a function of other fields is not stored twice: its docstring names the function that computes it
(log entry 31). A timer is `none` when stopped and `some e` when it runs to the expiry stamp e. -/

namespace Sys2Proof.Machine

/-- Two like things, one for each seat, link, rear output or rear zone. -/
structure Two (α : Type) where
  one : α
  two : α
  deriving DecidableEq, Repr

def Two.get {α : Type} (p : Two α) : Seat → α
  | .s1 => p.one
  | .s2 => p.two

def Two.set {α : Type} (p : Two α) (i : Seat) (a : α) : Two α :=
  match i with
  | .s1 => { p with one := a }
  | .s2 => { p with two := a }

def Two.map {α β : Type} (f : α → β) (p : Two α) : Two β := ⟨f p.one, f p.two⟩

/-! ## Control link interface -/

inductive PartMode where
  | run
  | standby
  deriving DecidableEq, Repr

/-- Cause of the last cold start (Table 1-5). -/
inductive StartCause where
  | powerOn
  | resetLine
  deriving DecidableEq, Repr

/-- Where the part is in the cold-start sequence (R170): held while RESET_N is low, loading from time 0 to the end of
the load, running after it. -/
inductive Phase where
  | held
  | loading
  | running
  deriving DecidableEq, Repr

/-- Result codes (Table 1-2). -/
inductive Result where
  | ok
  | started
  | unknownRequest
  | badLength
  | badValue
  | notNow
  | busy
  | noSpace
  | notFound
  | queueFull
  | refusedReverse
  | exhausted
  deriving DecidableEq, Repr

/-- The outcome of a request and the payload of its reply (R5). -/
structure Reply where
  result : Result
  payload : List Byte
  deriving DecidableEq, Repr

/-- One entry of the request queue: WAITING while `reply` is none, ANSWERED once it is some (section 1.2). -/
structure Request where
  tag : Byte
  code : Byte
  payload : List Byte
  reply : Option Reply
  deriving DecidableEq, Repr

/-- One entry of the refusal list: a tag and QUEUE_FULL or BUSY (section 1.2). -/
structure Refused where
  tag : Byte
  result : Result
  deriving DecidableEq, Repr

/-- The receiver (R1). An assembling receiver holds its candidate, sync byte first, and the expiry of its inter-byte
watch. -/
inductive Receiver where
  | hunting
  | assembling (candidate : List Byte) (watch : Stamp)
  deriving DecidableEq, Repr

/-- The thirteen notice kinds (Table 1-4), in the table's order. -/
inductive NoticeKind where
  | start
  | mode
  | feed
  | reverse
  | guide
  | link
  | route
  | menuChoice
  | menuClosed
  | key
  | level
  | chime
  | calibration
  deriving DecidableEq, Repr

inductive ModeCause where
  | request
  | reverseWake
  deriving DecidableEq, Repr

inductive StartNotice where
  | powerOn
  | resetLine
  | warm
  deriving DecidableEq, Repr

/-! ## Feed ports and vehicle intake -/

/-- Lock states of a feed port (Table 2-1). -/
inductive Lock where
  | noSignal
  | acquiring
  | locked
  | lost
  deriving DecidableEq, Repr

/-- The frame size and rate a feed is meant to have; the nominal period is computed from the rate (Table 2-1). -/
structure Format where
  width : Nat
  height : Nat
  rate : Nat
  deriving DecidableEq, Repr

/-- Feed port record (Table 2-1). CAM holds no format until it is first enabled (R25). -/
structure Port where
  enabled : Bool
  lock : Lock
  format : Option Format
  lastStamp : Option Stamp
  good : Nat
  bad : Nat
  watch : Option Stamp
  deriving DecidableEq, Repr

/-- The feed ports and the camera-power output CAM_PWR (R26). -/
structure Fdp where
  uif : Port
  ff1 : Port
  ff2 : Port
  cam : Port
  camPower : Bool
  deriving DecidableEq, Repr

/-- The two levels of the gear line (section 2.2). -/
inductive Gear where
  | notReverse
  | reverse
  deriving DecidableEq, Repr

/-- A debounce candidate (section 2.2). -/
structure GearCandidate where
  level : Gear
  edge : Stamp
  expiry : Stamp
  deriving DecidableEq, Repr

/-- Vehicle intake (Table 2-2, section 2.2). A value is fresh exactly while its watch runs (R32, R33, R35). -/
structure Vin where
  speed : Nat
  speedWatch : Option Stamp
  steering : Int
  steeringWatch : Option Stamp
  dimmer : Nat
  /-- none is the value NONE. -/
  obstacle : Option Nat
  obstacleWatch : Option Stamp
  /-- the level of the GEAR pin, true for high. -/
  gearRaw : Bool
  gear : Gear
  candidate : Option GearCandidate
  deriving DecidableEq, Repr

/-! ## Reverse view controller -/

/-- Controller states (Table 3-2). -/
inductive RvcState where
  | off
  | cueing
  | live
  | held
  | fault
  deriving DecidableEq, Repr

/-- Reasons (Table 3-3). -/
inductive RvcReason where
  | none
  | gearReverse
  | pictureUp
  | noPicture
  | pictureLost
  | gearReleased
  | holdExpired
  | speedExit
  | dismissed
  deriving DecidableEq, Repr

inductive HeldView where
  | none
  | camera
  | fault
  deriving DecidableEq, Repr

/-- Reverse view controller record (Table 3-1). -/
structure Rvc where
  state : RvcState
  reason : RvcReason
  heldView : HeldView
  reverseStamp : Option Stamp
  notReverseStamp : Option Stamp
  latestEdge : Option Gear
  cueDeadline : Option Stamp
  holdTimer : Option Stamp
  faultChime : Option Nat
  deriving DecidableEq, Repr

/-- The front view demanded of the compositor (Table 3-2). -/
inductive FrontView where
  | none
  | cue
  | picture
  | fault
  deriving DecidableEq, Repr

/-! ## Guide line engine -/

inductive GuideMode where
  | idle
  | tracking
  deriving DecidableEq, Repr

/-- Type of a guide set (R56). -/
inductive GuideType where
  | static
  | dynamic
  deriving DecidableEq, Repr

inductive Colour where
  | red
  | amber
  | green
  | white
  deriving DecidableEq, Repr

/-- The latched input set of a computation (R56): the angle (none is the stale marker), the guide fields of Table 4-2 and
the camera image size. The type is computed from the angle (`GuideInput.type`). -/
structure GuideInput where
  angle : Option Int
  curvature : List Int
  width : Nat
  bandCount : Nat
  bandDistance : List Nat
  bandColour : List Colour
  homography : List Int
  imageWidth : Nat
  imageHeight : Nat
  deriving DecidableEq, Repr

/-- A valid projected point (R60). -/
structure Pt where
  u : Int
  v : Int
  clamped : Bool
  deriving DecidableEq, Repr

inductive Clip where
  | none
  | first
  | second
  deriving DecidableEq, Repr

/-- What is drawn of a segment or crossbar: its two ends and which end was replaced (R63, R64). -/
structure Drawn where
  u1 : Int
  v1 : Int
  u2 : Int
  v2 : Int
  clip : Clip
  deriving DecidableEq, Repr

/-- A segment of a line (R61): `drawn` is none for a segment that is not drawn. -/
structure GuideSegment where
  colour : Colour
  drawn : Option Drawn
  deriving DecidableEq, Repr

/-- A crossbar (R62). -/
structure Crossbar where
  distance : Nat
  colour : Colour
  drawn : Option Drawn
  deriving DecidableEq, Repr

/-- A guide set (section 4.1): the whole result of one computation. An invalid point is none. -/
structure GuideSet where
  input : GuideInput
  curvature : Int
  leftPoints : List (Option Pt)
  rightPoints : List (Option Pt)
  leftSegments : List GuideSegment
  rightSegments : List GuideSegment
  crossbars : List Crossbar
  deriving DecidableEq, Repr

/-- Guide line engine record (Table 4-1). The installed type is that of the installed set (`Gle.installedType`). -/
structure Gle where
  mode : GuideMode
  camLocked : Bool
  inFlight : Option GuideInput
  followUp : Bool
  pending : Option GuideSet
  installed : Option GuideSet
  setNumber : Nat
  deriving DecidableEq, Repr

/-! ## Rear screen links -/

/-- Link states (Table 5-3). -/
inductive LinkState where
  | detached
  | hailing
  | claiming
  | streaming
  | noMode
  | recovery
  deriving DecidableEq, Repr

/-- Link reasons (Table 5-4). -/
inductive LinkReason where
  | none
  | badOffers
  | noAnswer
  | keepaliveLost
  | commandRetries
  | partnerRequest
  | hostRequest
  | detached
  deriving DecidableEq, Repr

/-- Cable classes (Table 5-5). -/
inductive Cable where
  | a
  | b
  | c
  deriving DecidableEq, Repr

/-- One offer of the offer list (Table 5-2). -/
structure Offer where
  width : Nat
  height : Nat
  refresh : Nat
  audio : Bool
  rejected : Bool
  deriving DecidableEq, Repr

/-- A seat policy, or the size and rate of an output. -/
structure Mode where
  width : Nat
  height : Nat
  refresh : Nat
  deriving DecidableEq, Repr

/-- Agreement record (Table 5-2). -/
structure Agreement where
  index : Nat
  width : Nat
  height : Nat
  refresh : Nat
  audio : Bool
  partnerId : Nat
  deriving DecidableEq, Repr

/-- The kind and value of a link command (R86). -/
inductive CommandKind where
  | backlight (level : Nat)
  | panelPower (on : Bool)
  | raw (code byte1 byte2 : Byte)
  deriving DecidableEq, Repr

/-- One command of a link's command queue (R86). -/
structure Command where
  kind : CommandKind
  toggle : Bool
  tries : Nat
  deriving DecidableEq, Repr

/-- Rear screen link record (Table 5-2). `staged` is none while the staged source is CALIBRATION; `descriptor` is none
when the link holds no descriptor; `outbox` holds the messages the link has sent to its partner (log entry 14). -/
structure Link where
  state : LinkState
  reason : LinkReason
  present : Bool
  offers : List Offer
  descriptor : Option (List Byte)
  readPos : Nat
  claimed : Option Nat
  staged : Option Mode
  inForce : Mode
  cable : Cable
  agreement : Option Agreement
  queue : List Command
  commandToggle : Bool
  keyAck : Bool
  misses : Nat
  statusSincePoll : Bool
  hailCount : Nat
  partnerLocked : Bool
  ambient : Option Nat
  hailTimer : Option Stamp
  claimTimer : Option Stamp
  pollTimer : Option Stamp
  holdOffTimer : Option Stamp
  settleTimer : Option Stamp
  outbox : List (List Byte)
  deriving DecidableEq, Repr

/-! ## Compositor -/

/-- Sources of an output (section 6.1). -/
inductive Source where
  | black
  | uif
  | ff1
  | ff2
  | cam
  deriving DecidableEq, Repr

inductive RouteCause where
  | route
  | reverse
  | preview
  | filmLock
  deriving DecidableEq, Repr

/-- Display geometry (R109). -/
structure Geometry where
  left : Nat
  top : Nat
  width : Nat
  height : Nat
  deriving DecidableEq, Repr

/-- A colour of the drawn planes. -/
structure Rgb where
  red : Nat
  green : Nat
  blue : Nat
  deriving DecidableEq, Repr

/-- One glyph cell of the menu plane: its code, its left column, its top row and the colour of its lit pixels. -/
structure GlyphCell where
  code : Nat
  x : Int
  y : Int
  colour : Rgb
  deriving DecidableEq, Repr

/-- What the menu plane draws (R136): the panel, the row filled amber (1 to 6), the glyph scale and the glyph cells. -/
structure MenuPicture where
  left : Nat
  width : Nat
  rowHeight : Nat
  scale : Nat
  focusRow : Option Nat
  cells : List GlyphCell
  deriving DecidableEq, Repr

/-- An output frame as it was composed at its start (R97): the sizes, the feed whose picture fills the geometry (none for
black), and the planes over it. -/
structure FrameContent where
  size : Mode
  geometry : Geometry
  picture : Option Feed
  guides : Option GuideSet
  menu : Option MenuPicture
  banner : Option (List Nat)
  deriving DecidableEq, Repr

/-- The fields every presentation row has (Table 6-1). `shown` is the shown banner, 0 for none; `nextFrame` is the stamp
of the next output frame start, none when the output has none; `frame` is the frame being drawn. -/
structure Row where
  routed : Source
  pending : Option Source
  effective : Source
  cause : RouteCause
  hostBanner : Bool
  shown : Nat
  size : Mode
  geometry : Geometry
  nextFrame : Option Stamp
  frame : Option FrameContent
  deriving DecidableEq, Repr

/-- The compositor (Table 6-1, section 6.1). -/
structure Cmp where
  front : Row
  rear : Two Row
  frontView : FrontView
  guidePlane : Bool
  guideSet : Option GuideSet
  menuPlane : Two Bool
  filmLock : Bool
  preview : Bool
  deriving DecidableEq, Repr

/-! ## Menu engine -/

/-- What an item does, with the fields of its kind (Table 7-2). -/
inductive ItemKind where
  | openPage (target : Nat)
  | report (code : Nat)
  | toggle (on : Bool)
  | slider (value max step : Nat)
  | back
  | volume
  | brightness
  deriving DecidableEq, Repr

/-- Item record (Table 7-2). -/
structure Item where
  kind : ItemKind
  label : List Nat
  enabled : Bool
  icon : Option Nat
  deriving DecidableEq, Repr

/-- Page record (Table 7-1). -/
structure Page where
  id : Nat
  title : List Nat
  items : List Item
  deriving DecidableEq, Repr

/-- An entry of a history stack (Table 7-3). -/
structure Entry where
  page : Nat
  focus : Option Nat
  top : Nat
  deriving DecidableEq, Repr

/-- Menu context (Table 7-3). The stack is held TOP FIRST; the context is OPEN exactly when it holds an entry (R121,
`MenuContext.isOpen`). -/
structure MenuContext where
  stack : List Entry
  idle : Option Stamp
  deriving DecidableEq, Repr

/-- The menu engine: page store, seat roots (0 for none) and contexts. -/
structure Mnu where
  store : List Page
  root : Two Nat
  ctx : Two MenuContext
  deriving DecidableEq, Repr

/-! ## Seat control -/

/-- Keys (Table 8-2). -/
inductive Key where
  | up
  | down
  | left
  | right
  | ok
  | back
  | menu
  | volUp
  | volDown
  | brightUp
  | brightDown
  | playPause
  | next
  | previous
  deriving DecidableEq, Repr

inductive KeyEvent where
  | press
  | release
  | repeat
  deriving DecidableEq, Repr

inductive Dir where
  | up
  | down
  deriving DecidableEq, Repr

inductive BacklightPolicy where
  | vehicle
  | screen
  | adaptive
  deriving DecidableEq, Repr

/-- Seat control record (Table 8-1). -/
structure SeatRec where
  held : Option Key
  forwarded : Bool
  repeatTimer : Option Stamp
  volume : Nat
  step : Nat
  lastDir : Option Dir
  lastStamp : Option Stamp
  offset : Int
  policy : BacklightPolicy
  threshold : Nat
  ambient : Option Nat
  target : Nat
  lastSent : Option Nat
  next : Option Nat
  deriving DecidableEq, Repr

/-- Seat control: the two records and the dimmer common to them. -/
structure Sct where
  seat : Two SeatRec
  dimmer : Nat
  deriving DecidableEq, Repr

/-- Outcome of handing a backlight value to a link (R87). -/
inductive Handing where
  | taken
  | inFlight
  | full
  | notStreaming
  deriving DecidableEq, Repr

/-! ## Chime unit -/

/-- One step of a pattern (Table 9-1): frequency 0 is silence. -/
structure Step where
  freq : Nat
  dur : Nat
  level : Nat
  deriving DecidableEq, Repr

/-- Pattern record (Table 9-1). -/
structure Pattern where
  steps : List Step
  repeatCount : Nat
  deriving DecidableEq, Repr

structure ZoneSet where
  front : Bool
  rear1 : Bool
  rear2 : Bool
  deriving DecidableEq, Repr

inductive ChimeClass where
  | click
  | once
  | repeat
  deriving DecidableEq, Repr

inductive Origin where
  | host
  | reverse
  | park
  | menu
  deriving DecidableEq, Repr

inductive ChimeOutcome where
  | ended
  | preempted
  | dropped
  | cancelled
  deriving DecidableEq, Repr

/-- Chime record (Table 9-3). It is WAITING when it stands in the queue and PLAYING when a voice holds it. -/
structure Chime where
  handle : Nat
  pattern : Nat
  zones : ZoneSet
  priority : Nat
  cls : ChimeClass
  origin : Origin
  order : Nat
  deriving DecidableEq, Repr

/-- A playing chime on its voice (Table 9-3): `ends` is the stamp at which its step ends, or, for the park beep record, at
which its next beep starts; `toneEnds` is the stamp at which the tone of the step or beep ends (R159). -/
structure Playing where
  chime : Chime
  stepIndex : Nat
  repeatsLeft : Nat
  ends : Stamp
  toneEnds : Stamp
  deriving DecidableEq, Repr

/-- The duck gain of a rear zone (R160): whether the zone was ducking after the last event, the gain in dB and the stamp
of the next step. -/
structure Duck where
  ducking : Bool
  gain : Int
  timer : Option Stamp
  deriving DecidableEq, Repr

/-- The chime unit: pattern table (slots 0 to 15), voices, queue in order, whether the park beep was active when it was last
judged (R158; log entry 38), park-beep gap in ms, duck gains, front chime level, last handle allocated and next arrival
order. -/
structure Chu where
  table : List Pattern
  voice1 : Option Playing
  voice2 : Option Playing
  queue : List Chime
  parkJudged : Bool
  parkGap : Nat
  duck : Two Duck
  frontLevel : Nat
  lastHandle : Nat
  nextOrder : Nat
  deriving DecidableEq, Repr

/-! ## Calibration store -/

/-- The states a slot is judged in (R164), and the state it reads while it is programmed (R167). -/
inductive SlotState where
  | blank
  | good
  | bad
  | programming
  deriving DecidableEq, Repr

/-- What a generation slot's cells hold: nothing yet; what programming in flight has written so far; an image and its
check value; or what a programming that a cold start cut off has left, which is judged BAD (R169). -/
inductive SlotCells where
  | blank
  | writing
  | written (image : List Int) (check : BitVec 32)
  | partly
  deriving DecidableEq, Repr

structure Slot where
  cells : SlotCells
  judged : SlotState
  deriving DecidableEq, Repr

/-- The numbers of the three generation slots. -/
inductive SlotNo where
  | g1
  | g2
  | g3
  deriving DecidableEq, Repr

/-- A programming operation in flight (R168): the slot, the snapshot with its CRC-32, and the stamp of the completion. -/
structure Programming where
  slot : SlotNo
  image : List Int
  check : BitVec 32
  ends : Stamp
  deriving DecidableEq, Repr

/-- The calibration store. The working copy is the image of 355 values in the order of R164. -/
structure Cal where
  working : List Int
  slot1 : Slot
  slot2 : Slot
  slot3 : Slot
  loadedGen : Nat
  loadedCheck : BitVec 32
  flight : Option Programming
  deriving DecidableEq, Repr

/-! ## Notices and frames of the control link -/

inductive MenuAction where
  | report
  | toggle
  | slider
  deriving DecidableEq, Repr

inductive CloseReason where
  | back
  | key
  | timeout
  | screenLost
  | request
  | pageRemoved
  | standby
  deriving DecidableEq, Repr

/-- The content of a notice, by kind (Table 1-4, Table 11-6). -/
inductive NoticeBody where
  | start (cause : StartNotice)
  | mode (mode : PartMode) (cause : ModeCause)
  | feed (lock : Lock) (stamp : Stamp)
  | reverse (state : RvcState) (reason : RvcReason) (heldView : HeldView) (edge : Stamp)
  | guide (number : Nat) (type : GuideType)
  | link (state : LinkState) (reason : LinkReason)
  | route (source : Source) (cause : RouteCause)
  | menuChoice (page item : Nat) (action : MenuAction) (value : Nat)
  | menuClosed (reason : CloseReason)
  | key (key : Key) (event : KeyEvent)
  | level (volume : Nat) (offset : Int)
  | chime (outcome : ChimeOutcome)
  | calibration (good : Bool) (slot : Nat)
  deriving DecidableEq, Repr

/-- An entry of the notice board (section 1.4). Its kind is that of its body. -/
structure BoardEntry where
  source : Nat
  body : NoticeBody
  stamp : Stamp
  merged : Bool
  deriving DecidableEq, Repr

/-- The two sorts of frame on which R6 alternates. -/
inductive FrameSort where
  | reply
  | notice
  deriving DecidableEq, Repr

/-- What the frame being sent is: a refusal-list reply, the reply of the oldest queue entry, or a notice (R6). -/
inductive Sending where
  | refusal
  | reply
  | notice
  deriving DecidableEq, Repr

/-- The frame being sent: its bytes and the stamp at which its last byte has gone out (5 µs a byte, section 1.1). -/
structure TxFrame where
  what : Sending
  bytes : List Byte
  ends : Stamp
  deriving DecidableEq, Repr

/-- One status line's condition code (Table 1-6) and polarity. -/
structure LineSetting where
  condition : Nat
  activeLow : Bool
  deriving DecidableEq, Repr

/-- Control link interface. `complete` holds the candidates handed to the frame check and not yet checked, oldest first
(log entry 9); `selection` has one Bool for each notice kind in the order of Table 1-4; `lineMap` is empty until it is
loaded and has one setting for each status line after that. -/
structure Cli where
  receiver : Receiver
  complete : List (List Byte)
  queue : List Request
  refusals : List Refused
  board : List BoardEntry
  overflow : Bool
  selection : List Bool
  prevSort : FrameSort
  lineMap : List LineSetting
  mode : PartMode
  startCause : StartCause
  warmPending : Bool
  tx : Option TxFrame
  deriving DecidableEq, Repr

end Sys2Proof.Machine
end

