-- ==== Sys2Proof/Machine/Bytes.lean ====
section
/-! DEFINITION. Bytes, checks, rounding and the timebase: the helpers that touch no state. -/

namespace Sys2Proof.Machine

/-! ## Byte order (spec/11: multi-byte fields are sent high byte first) -/

def u8 (n : Nat) : List Byte := [BitVec.ofNat 8 n]

def u16 (n : Nat) : List Byte := [BitVec.ofNat 8 (n / 256), BitVec.ofNat 8 n]

def u32 (n : Nat) : List Byte :=
  [BitVec.ofNat 8 (n / 16777216), BitVec.ofNat 8 (n / 65536), BitVec.ofNat 8 (n / 256), BitVec.ofNat 8 n]

def i8 (i : Int) : List Byte := [BitVec.ofInt 8 i]

def i16 (i : Int) : List Byte := u16 (BitVec.ofInt 16 i).toNat

def i32 (i : Int) : List Byte := u32 (BitVec.ofInt 32 i).toNat

def flag (b : Bool) : List Byte := if b then [1] else [0]

/-- The byte at an offset of a payload or body, as a number. -/
def byteAt (p : List Byte) (i : Nat) : Nat := (p.getD i 0).toNat

def u16At (p : List Byte) (i : Nat) : Nat := byteAt p i * 256 + byteAt p (i + 1)

def u32At (p : List Byte) (i : Nat) : Nat := u16At p i * 65536 + u16At p (i + 2)

def i16At (p : List Byte) (i : Nat) : Int := (BitVec.ofNat 16 (u16At p i)).toInt

def i32At (p : List Byte) (i : Nat) : Int := (BitVec.ofNat 32 (u32At p i)).toInt

/-- Bit `k` of the byte at offset `i`; the other bits of the byte are ignored (R171). -/
def bitAt (p : List Byte) (i k : Nat) : Bool := (p.getD i 0).getLsbD k

/-! ## Checks -/

def times8 {α : Type} (f : α → α) (x : α) : α := f (f (f (f (f (f (f (f x)))))))

/-- R2: CRC-16, polynomial 0x1021, most significant bit first. -/
def crc16Bit (r : BitVec 16) : BitVec 16 :=
  if r.msb then (r <<< 1) ^^^ 0x1021#16 else r <<< 1

def crc16Byte (r : BitVec 16) (b : Byte) : BitVec 16 :=
  times8 crc16Bit (r ^^^ (b.setWidth 16 <<< 8))

/-- R2: initial value 0xFFFF, no reflection, the final value not inverted. -/
def crc16 (bytes : List Byte) : BitVec 16 := bytes.foldl crc16Byte 0xFFFF#16

/-- R164: CRC-32, polynomial 0x04C11DB7, each byte entering least significant bit first. The register is held in
reflected bit order, so the polynomial stands reflected too. -/
def crc32Bit (r : BitVec 32) : BitVec 32 :=
  if r.getLsbD 0 then (r >>> 1) ^^^ 0xEDB88320#32 else r >>> 1

def crc32Byte (r : BitVec 32) (b : Byte) : BitVec 32 :=
  times8 crc32Bit (r ^^^ b.setWidth 32)

/-- R164: initial value 0xFFFFFFFF, the final value inverted. -/
def crc32 (bytes : List Byte) : BitVec 32 := ~~~ bytes.foldl crc32Byte 0xFFFFFFFF#32

/-! ## Frames and messages -/

/-- Kind bytes of a control frame (Table 1-1). -/
def kindRequest : Byte := 0x01

def kindReply : Byte := 0x02

def kindNotice : Byte := 0x03

/-- A control frame (Table 11-1): the sync byte, then length, kind, tag, code and payload, then the CRC-16 over them. -/
def frame (kind tag code : Byte) (payload : List Byte) : List Byte :=
  let body := [BitVec.ofNat 8 payload.length, kind, tag, code] ++ payload
  (0xA5#8 :: body) ++ u16 (crc16 body).toNat

/-- A control channel message (R74): kind, body length, body, CRC-16 over the three. -/
def message (kind : Byte) (body : List Byte) : List Byte :=
  let m := [kind, BitVec.ofNat 8 body.length] ++ body
  m ++ u16 (crc16 m).toNat

/-! ## Rounding (spec/00_scope.md, Rounding) -/

/-- The quotient rounded to the nearest integer, halves away from zero; `d` is positive. -/
def roundDiv (n : Int) (d : Nat) : Int :=
  if n < 0 then -(((2 * n.natAbs + d) / (2 * d) : Nat) : Int) else ((2 * n.natAbs + d) / (2 * d) : Nat)

def clampInt (lo hi x : Int) : Int := if x < lo then lo else if hi < x then hi else x

/-! ## Timebase -/

/-- The stamp `us` microseconds after `now`, modulo 2^32. -/
def afterUs (now : Stamp) (us : Nat) : Stamp := now + BitVec.ofNat 32 us

def afterMs (now : Stamp) (ms : Nat) : Stamp := afterUs now (1000 * ms)

/-- Whether the expiry stamp `e` has been reached at `now`: the difference of two stamps is taken modulo 2^32, and its
upper half stands for a stamp that is still to come (log entry 2). -/
def reached (now e : Stamp) : Bool := (now - e).toNat < 2147483648

/-- Whether a timer runs and its expiry is reached. -/
def expired (now : Stamp) (timer : Option Stamp) : Bool :=
  match timer with
  | none => false
  | some e => reached now e

/-- The milliseconds left on a timer, rounded down; 0 when it is stopped or its expiry is reached. -/
def timeLeft (now : Stamp) (timer : Option Stamp) : Nat :=
  match timer with
  | none => 0
  | some e => if reached now e then 0 else (e - now).toNat / 1000

end Sys2Proof.Machine
end

