-- ==== Sys2Proof/Machine/Image.lean ====
section
/-! DEFINITION. The calibration image (R164, Table 10-1): where each value stands, the built-in defaults, the checks of a
write (R55, R166), and the readings the blocks take of it. -/

namespace Sys2Proof.Machine

/-! ## Table 10-1 -/

/-- One field: its number, its first index and how many indices it has. -/
structure FieldRow where
  no : Nat
  first : Nat
  count : Nat
  deriving DecidableEq, Repr

/-- Table 10-1, in order of field number. -/
def fieldTable : List FieldRow :=
  [⟨1, 0, 1⟩, ⟨2, 0, 4⟩, ⟨3, 0, 1⟩, ⟨4, 0, 1⟩, ⟨5, 0, 1⟩, ⟨6, 0, 1⟩, ⟨7, 0, 1⟩, ⟨8, 0, 1⟩, ⟨9, 0, 1⟩, ⟨10, 0, 1⟩]
  ++ [⟨11, 1, 8⟩, ⟨12, 0, 1⟩, ⟨13, 0, 1⟩, ⟨14, 1, 4⟩, ⟨15, 1, 4⟩, ⟨16, 0, 9⟩]
  ++ [⟨17, 0, 1⟩, ⟨18, 0, 3⟩, ⟨19, 1, 3⟩, ⟨20, 0, 33⟩, ⟨21, 0, 33⟩, ⟨22, 0, 33⟩, ⟨23, 0, 33⟩]
  ++ [⟨24, 1, 2⟩, ⟨25, 0, 3⟩, ⟨26, 0, 1⟩, ⟨27, 0, 1⟩, ⟨28, 0, 1⟩, ⟨29, 0, 1⟩, ⟨30, 0, 1⟩]
  ++ [⟨31, 0, 1⟩, ⟨32, 0, 1⟩, ⟨33, 0, 1⟩, ⟨34, 0, 1⟩, ⟨35, 0, 1⟩, ⟨36, 0, 1⟩, ⟨37, 0, 1⟩, ⟨38, 0, 1⟩, ⟨39, 0, 1⟩, ⟨40, 0, 1⟩]
  ++ [⟨41, 0, 26⟩, ⟨42, 0, 26⟩, ⟨43, 0, 26⟩, ⟨44, 0, 26⟩, ⟨45, 0, 26⟩, ⟨46, 0, 26⟩]

def fieldOffsetIn (no index : Nat) : List FieldRow → Nat → Option Nat
  | [], _ => none
  | r :: rest, base =>
    if r.no = no then
      if r.first ≤ index ∧ index < r.first + r.count then some (base + (index - r.first)) else none
    else fieldOffsetIn no index rest (base + r.count)

/-- Where the value of a field and index stands in the image (R164: by field number, then by index); none when the field
number or the index is outside Table 10-1. -/
def fieldOffset (no index : Nat) : Option Nat := fieldOffsetIn no index fieldTable 0

/-- The value of a field and index. -/
def field (image : List Int) (no index : Nat) : Int :=
  match fieldOffset no index with
  | some k => image.getD k 0
  | none => 0

def fieldNat (image : List Int) (no index : Nat) : Nat := (field image no index).toNat

/-- The image with one value replaced. -/
def setField (image : List Int) (no index : Nat) (value : Int) : List Int :=
  match fieldOffset no index with
  | some k => image.set k value
  | none => image

/-- R164: each value is a signed 32-bit number sent high byte first. -/
def imageBytes (image : List Int) : List Byte := image.flatMap i32

def imageCheck (image : List Int) : BitVec 32 := crc32 (imageBytes image)

/-! ## Built-in defaults -/

/-- The 33 values of a banner: its length and its 32 glyph positions, 0 beyond the length (R164). -/
def bannerValues (text : List Int) : List Int :=
  (text.length : Int) :: (text ++ List.replicate (32 - text.length) 0)

/-- "Camera starting", "No camera picture" and "No picture" as glyph codes (Table 6-2; the codes of letters are those of
ASCII: DEDUCED, log entry 16). -/
def bannerText1 : List Int := [67, 97, 109, 101, 114, 97, 32, 115, 116, 97, 114, 116, 105, 110, 103]

def bannerText2 : List Int := [78, 111, 32, 99, 97, 109, 101, 114, 97, 32, 112, 105, 99, 116, 117, 114, 101]

def bannerText3 : List Int := [78, 111, 32, 112, 105, 99, 116, 117, 114, 101]

/-- The 26 values of a pattern: step count, repeat count, then frequency, duration and level of eight steps. Steps beyond
the count read 0, 10 and 15 (R164). -/
def patternValues (p : Pattern) : List Int :=
  [(p.steps.length : Int), (p.repeatCount : Int)]
  ++ p.steps.flatMap (fun st => [(st.freq : Int), (st.dur : Int), (st.level : Int)])
  ++ (List.replicate (8 - p.steps.length) ([0, 10, 15] : List Int)).flatten

/-- Table 9-2. A silent step of the table has no level of its own; it reads 15, as the unused steps do (log entry 36). -/
def builtinPatterns : List Pattern :=
  [⟨[⟨2000, 20, 4⟩], 1⟩,
   ⟨[⟨400, 60, 4⟩], 1⟩,
   ⟨[⟨1000, 120, 2⟩, ⟨0, 60, 15⟩, ⟨1000, 120, 2⟩], 1⟩,
   ⟨[⟨800, 300, 0⟩, ⟨0, 300, 15⟩], 0⟩,
   ⟨[⟨1500, 80, 2⟩], 0⟩,
   ⟨[⟨0, 10, 15⟩], 1⟩]

/-- R149: one step of silence lasting 10 ms at level 15, with repeat count 1. -/
def silentPattern : Pattern := ⟨[⟨0, 10, 15⟩], 1⟩

/-- The built-in defaults of Table 10-1: 355 values. -/
def builtinImage : List Int :=
  [0, 9, 2, 3, 7, 1280, 720, 30, 50, 2000, 3000, 100, 1]
  ++ [2100, 4300, 6600, 9000, 11500, 14100, 16800, 19600]
  ++ [1800, 4, 500, 1000, 2000, 3000, 0, 1, 2, 2]
  ++ [640, -1000, 640000, 160, 0, 720000, 1, 0, 1000]
  ++ [50, 1920, 720, 60, 1, 2, 3]
  ++ bannerValues bannerText1 ++ bannerValues bannerText2 ++ bannerValues bannerText3 ++ bannerValues []
  ++ [1, 1, 1920, 1080, 60, 4, 10, 1, 500, 150]
  ++ [30, 1, 6, 400, 2, 30, -18, 20, 40, 1500]
  ++ builtinPatterns.flatMap patternValues

/-! ## Readings of the working copy -/

def calStartMode (im : List Int) : PartMode := if field im 1 0 = 1 then .standby else .run

def calLine (im : List Int) (line : Nat) : LineSetting :=
  ⟨fieldNat im 2 line % 8, decide (8 ≤ fieldNat im 2 line)⟩

/-- The status-line map of the working calibration (R17). -/
def calLineMap (im : List Int) : List LineSetting := (List.range 4).map (calLine im)

def calCamFormat (im : List Int) : Format := ⟨fieldNat im 3 0, fieldNat im 4 0, fieldNat im 5 0⟩

def calDebounce (im : List Int) : Nat := fieldNat im 6 0

def calCueDeadline (im : List Int) : Nat := fieldNat im 7 0

def calHoldTime (im : List Int) : Nat := fieldNat im 8 0

def calExitSpeed (im : List Int) : Nat := fieldNat im 9 0

def calEngageChime (im : List Int) : Bool := field im 10 0 = 1

def colourOf : Nat → Colour
  | 0 => .red
  | 1 => .amber
  | 2 => .green
  | _ => .white

def calBandDistances (im : List Int) : List Nat := (List.range 4).map (fun i => fieldNat im 14 (i + 1))

def calLockSpeed (im : List Int) : Nat := fieldNat im 17 0

def calPanelMode (im : List Int) : Mode := ⟨fieldNat im 18 0, fieldNat im 18 1, fieldNat im 18 2⟩

def sourceOf : Nat → Source
  | 1 => .uif
  | 2 => .ff1
  | 3 => .ff2
  | 4 => .cam
  | _ => .black

/-- The default route of output 1 FRO, 2 RO1 or 3 RO2. -/
def calRoute (im : List Int) (output : Nat) : Source := sourceOf (fieldNat im 19 output)

/-- The text of banner 1 to 4. -/
def calBanner (im : List Int) (banner : Nat) : List Nat :=
  (List.range (fieldNat im (19 + banner) 0)).map (fun i => fieldNat im (19 + banner) (i + 1))

def cableOf : Nat → Cable
  | 0 => .a
  | 1 => .b
  | _ => .c

def seatNo : Seat → Nat
  | .s1 => 1
  | .s2 => 2

def calCable (im : List Int) (link : Seat) : Cable := cableOf (fieldNat im 24 (seatNo link))

def calSeatPolicy (im : List Int) : Mode := ⟨fieldNat im 25 0, fieldNat im 25 1, fieldNat im 25 2⟩

def calTryLimit (im : List Int) : Nat := fieldNat im 26 0

def calMenuTimeout (im : List Int) : Nat := fieldNat im 27 0

def calMenuClick (im : List Int) : Bool := field im 28 0 = 1

def calRepeatDelay (im : List Int) : Nat := fieldNat im 29 0

def calRepeatPeriod (im : List Int) : Nat := fieldNat im 30 0

def calVolume (im : List Int) : Nat := fieldNat im 31 0

def calBaseStep (im : List Int) : Nat := fieldNat im 32 0

def calStepCap (im : List Int) : Nat := fieldNat im 33 0

def calWindow (im : List Int) : Nat := fieldNat im 34 0

def policyOf : Nat → BacklightPolicy
  | 0 => .vehicle
  | 1 => .screen
  | _ => .adaptive

def calPolicy (im : List Int) : BacklightPolicy := policyOf (fieldNat im 35 0)

def calThreshold (im : List Int) : Nat := fieldNat im 36 0

def calDuckLevel (im : List Int) : Int := field im 37 0

def calChimeFloor (im : List Int) : Nat := fieldNat im 38 0

def calFrontLevel (im : List Int) : Nat := fieldNat im 39 0

def calFarLimit (im : List Int) : Nat := fieldNat im 40 0

/-- The pattern of slot 0 to 5: step s stands at indices 3s-1, 3s and 3s+1. -/
def calPattern (im : List Int) (slot : Nat) : Pattern :=
  let f := fun k => fieldNat im (41 + slot) k
  ⟨(List.range (f 0)).map (fun i => ⟨f (3 * i + 2), f (3 * i + 3), f (3 * i + 4)⟩), f 1⟩

/-! ## The checks of a write (R55, R166) -/

def within (lo hi v : Int) : Bool := decide (lo ≤ v) && decide (v ≤ hi)

/-- Whether a list strictly increases. -/
def increasing : List Nat → Bool
  | a :: b :: rest => decide (a < b) && increasing (b :: rest)
  | _ => true

/-- R55: a curvature value must not leave the table k0 = 0, k1 to k8 decreasing next to it. -/
def curvatureFits (im : List Int) (index : Nat) (v : Int) : Bool :=
  within 0 32767 v
  && decide ((if index ≤ 1 then 0 else field im 11 (index - 1)) ≤ v)
  && (decide (8 ≤ index) || decide (v ≤ field im 11 (index + 1)))

/-- R55: the distances b1 to bn of the bands in use strictly increase. -/
def bandsFit (im : List Int) : Bool := increasing ((calBandDistances im).take (fieldNat im 13 0))

def patternFits (index : Nat) (v : Int) : Bool :=
  if index = 0 then within 1 8 v
  else if index = 1 then within 0 15 v
  else if index % 3 = 2 then decide (v = 0) || within 200 4000 v
  else if index % 3 = 0 then within 10 2000 v
  else within 0 15 v

/-- The value a write stores for a field and index that stand in the table, after the rounding of R55, or none when the
value fails its check. -/
def storedValue (im : List Int) (no index : Nat) (v : Int) : Option Int :=
  let ok := fun (b : Bool) => if b then some v else none
  match no with
  | 1 => ok (within 0 1 v)
  | 2 => ok (within 0 15 v)
  | 3 => ok (within 320 1920 v)
  | 4 => ok (within 240 1080 v)
  | 5 => ok (decide (v = 25) || decide (v = 30))
  | 6 => ok (within 10 250 v)
  | 7 => ok (within 500 5000 v)
  | 8 => ok (within 0 10000 v)
  | 9 => ok (within 10 300 v)
  | 10 => ok (within 0 1 v)
  | 11 => ok (curvatureFits im index v)
  | 12 => if within 1200 2400 v then some (v - v % 2) else none
  | 13 => ok (within 1 4 v && bandsFit (setField im 13 0 v))
  | 14 =>
    let r := v - v % 250
    if within 250 4000 v && bandsFit (setField im 14 index r) then some r else none
  | 15 => ok (within 0 3 v)
  | 16 => some v
  | 17 => ok (within 0 300 v)
  | 18 => ok (if index = 0 then within 640 1920 v else if index = 1 then within 480 1080 v else within 50 60 v)
  | 19 => ok (if index = 1 then within 1 3 v else within 0 3 v)
  | 20 => ok (if index = 0 then within 0 32 v else within 0 255 v)
  | 21 => ok (if index = 0 then within 0 32 v else within 0 255 v)
  | 22 => ok (if index = 0 then within 0 32 v else within 0 255 v)
  | 23 => ok (if index = 0 then within 0 32 v else within 0 255 v)
  | 24 => ok (within 0 2 v)
  | 25 => ok (if index = 0 then within 160 3840 v else if index = 1 then within 120 2160 v else within 24 60 v)
  | 26 => ok (within 1 8 v)
  | 27 => ok (within 0 60 v)
  | 28 => ok (within 0 1 v)
  | 29 => ok (within 200 1000 v)
  | 30 => ok (within 50 500 v)
  | 31 => ok (within 0 60 v)
  | 32 => ok (within 1 4 v)
  | 33 => ok (within 2 15 v)
  | 34 => ok (within 100 1000 v)
  | 35 => ok (within 0 2 v)
  | 36 => ok (within 0 100 v)
  | 37 => ok (within (-30) (-6) v)
  | 38 => ok (within 0 60 v)
  | 39 => ok (within 0 60 v)
  | 40 => ok (within 500 3000 v)
  | _ => ok (patternFits index v)

/-- Whether a field is a guide field (Table 4-2), whose writes are triggers (R55, R65). -/
def isGuideField (no : Nat) : Bool := decide (11 ≤ no) && decide (no ≤ 16)

end Sys2Proof.Machine
end

