-- ==== Sys2Proof/Machine/Rules.lean ====
section
/-! DEFINITION. Decisions of the manual that are functions of a few values: nominal periods, effective sources, the
backlight target, the geometry. They touch no state. -/

namespace Sys2Proof.Machine

/-! ## Feed ports -/

/-- Table 2-1: the nominal period is 1,000,000 div rate; 0 for a port that holds no format. -/
def nominalPeriod (format : Option Format) : Nat :=
  match format with
  | none => 0
  | some f => 1000000 / f.rate

/-- R19: ten times the difference, without sign, is no greater than the nominal period. -/
def goodPeriod (nominal period : Nat) : Bool :=
  decide (10 * ((period : Int) - (nominal : Int)).natAbs ≤ nominal)

/-- R23, R25: the record of a port that waits for its first frame start. -/
def Port.cleared (p : Port) : Port :=
  { p with lock := .noSignal, lastStamp := none, good := 0, bad := 0, watch := none }

def Fdp.port (f : Fdp) : Feed → Port
  | .uif => f.uif
  | .ff1 => f.ff1
  | .ff2 => f.ff2
  | .cam => f.cam

def Fdp.setPort (f : Fdp) (i : Feed) (p : Port) : Fdp :=
  match i with
  | .uif => { f with uif := p }
  | .ff1 => { f with ff1 := p }
  | .ff2 => { f with ff2 := p }
  | .cam => { f with cam := p }

/-! ## Sources -/

def Source.feed : Source → Option Feed
  | .black => none
  | .uif => some .uif
  | .ff1 => some .ff1
  | .ff2 => some .ff2
  | .cam => some .cam

def Source.isFilm : Source → Bool
  | .ff1 => true
  | .ff2 => true
  | _ => false

/-- R102: the front row's effective source and cause, the first of four that holds. -/
def frontSource (rvcOff preview filmLock : Bool) (routed : Source) : Source × RouteCause :=
  if !rvcOff then (.cam, .reverse)
  else if preview then (.cam, .preview)
  else if routed.isFilm && filmLock then (.uif, .filmLock)
  else (routed, .route)

/-- Table 3-2: the front view demanded for a state and held view. -/
def frontViewOf (state : RvcState) (heldView : HeldView) : FrontView :=
  match state with
  | .off => .none
  | .cueing => .cue
  | .live => .picture
  | .held => if heldView = .fault then .fault else .picture
  | .fault => .fault

/-- R105: the front row's shown banner, 0 for none. -/
def frontBanner (view : FrontView) (rvcOff hostBanner : Bool) : Nat :=
  match view with
  | .cue => 1
  | .fault => 2
  | _ => if rvcOff && hostBanner then 4 else 0

/-- R106: a rear row's shown banner, 0 for none. -/
def rearBanner (streaming feedUnlocked hostBanner : Bool) : Nat :=
  if streaming && feedUnlocked then 3 else if hostBanner then 4 else 0

/-- R97: the period of an output in microseconds. -/
def outputPeriod (refresh : Nat) : Nat := 1000000 / refresh

def evenDown (n : Nat) : Nat := n - n % 2

/-- R109: the display geometry of a source of size ws × hs in an output of size wo × ho; without a source size (BLACK) it
is the whole output. -/
def geometryOf (source : Option (Nat × Nat)) (wo ho : Nat) : Geometry :=
  match source with
  | none => ⟨0, 0, wo, ho⟩
  | some (ws, hs) =>
    if wo * hs ≤ ws * ho then
      let h := evenDown (hs * wo / ws)
      ⟨0, evenDown ((ho - h) / 2), wo, h⟩
    else
      let w := evenDown (ws * ho / hs)
      ⟨evenDown ((wo - w) / 2), 0, w, ho⟩

/-! ## Seat control -/

/-- R145: the base, by policy. -/
def backlightBase (policy : BacklightPolicy) (threshold dimmer : Nat) (ambient : Option Nat) : Int :=
  match policy, ambient with
  | _, none => dimmer
  | .vehicle, some _ => dimmer
  | .screen, some a => a
  | .adaptive, some a => max (a : Int) ((dimmer : Int) - threshold)

/-- R145: the base plus 5 times the offset, clamped to 5 to 100. -/
def backlightTarget (policy : BacklightPolicy) (threshold dimmer : Nat) (ambient : Option Nat) (offset : Int) : Nat :=
  (clampInt 5 100 (backlightBase policy threshold dimmer ambient + 5 * offset)).toNat

def SeatRec.targetNow (r : SeatRec) (dimmer : Nat) : Nat :=
  backlightTarget r.policy r.threshold dimmer r.ambient r.offset

/-! ## Park beep -/

/-- R158: the record is wanted while reverse view is not OFF and a fresh distance is below the far limit. -/
def parkActive (rvcOff fresh : Bool) (distance : Option Nat) (farLimit : Nat) : Bool :=
  match distance with
  | none => false
  | some d => !rvcOff && fresh && decide (d < farLimit)

/-- R159: the silent gap in ms after a beep of `onTime` ms at distance d. -/
def parkGapOf (d onTime : Nat) : Nat :=
  if d ≤ 300 then 0 else (150 + (d - 300) * 650 / 1200) - onTime

end Sys2Proof.Machine
end

