-- ==== Sys2Proof/Machine/Cold.lean ====
section
/-! DEFINITION. The value of every block after a cold start (R18, R25, R35, R53, R73, R96, R114, R115, R120, R121, R148,
R149, R163, R165), from the working copy where the manual says so. -/

namespace Sys2Proof.Machine

/-- R18. The part mode before the part enters its start mode is STANDBY (DESIGN CHOICE, log entry 7). -/
def coldCli (cause : StartCause) : Cli where
  receiver := .hunting
  complete := []
  queue := []
  refusals := []
  board := []
  overflow := false
  selection := List.replicate 13 true
  prevSort := .notice
  lineMap := []
  mode := .standby
  startCause := cause
  warmPending := false
  tx := none

def coldPort (format : Option Format) : Port := ⟨false, .noSignal, format, none, 0, 0, none⟩

/-- R25, R26. -/
def coldFdp : Fdp where
  uif := coldPort (some ⟨1920, 720, 60⟩)
  ff1 := coldPort (some ⟨1280, 720, 30⟩)
  ff2 := coldPort (some ⟨1280, 720, 30⟩)
  cam := coldPort none
  camPower := false

/-- R35, R30. The level of the GEAR pin is an input and stays as it is. -/
def coldVin (gearRaw : Bool) : Vin where
  speed := 0
  speedWatch := none
  steering := 0
  steeringWatch := none
  dimmer := 100
  obstacle := none
  obstacleWatch := none
  gearRaw := gearRaw
  gear := .notReverse
  candidate := none

/-- R53, Table 3-1. -/
def coldRvc : Rvc := ⟨.off, .none, .none, none, none, none, none, none, none⟩

/-- R73, Table 4-1. -/
def coldGle : Gle := ⟨.idle, false, none, false, none, none, 0⟩

/-- R96, Table 5-2. Whether a partner is attached to the lanes is an input and stays as it is. -/
def coldLink (image : List Int) (link : Seat) (present : Bool) : Link where
  state := .detached
  reason := .none
  present := present
  offers := []
  descriptor := none
  readPos := 0
  claimed := none
  staged := none
  inForce := calSeatPolicy image
  cable := calCable image link
  agreement := none
  queue := []
  commandToggle := false
  keyAck := false
  misses := 0
  statusSincePoll := false
  hailCount := 0
  partnerLocked := false
  ambient := none
  hailTimer := none
  claimTimer := none
  pollTimer := none
  holdOffTimer := none
  settleTimer := none
  outbox := []

/-- R114. The sizes and the geometry of a row that has had no frame start read 0 (DESIGN CHOICE, log entry 15). -/
def coldRow (routed : Source) (effective : Source × RouteCause) : Row where
  routed := routed
  pending := none
  effective := effective.1
  cause := effective.2
  hostBanner := false
  shown := 0
  size := ⟨0, 0, 0⟩
  geometry := ⟨0, 0, 0, 0⟩
  nextFrame := none
  frame := none

/-- R114. -/
def coldCmp (image : List Int) : Cmp where
  front := coldRow (calRoute image 1) (frontSource true false true (calRoute image 1))
  rear := ⟨coldRow (calRoute image 2) (calRoute image 2, .route), coldRow (calRoute image 3) (calRoute image 3, .route)⟩
  frontView := .none
  guidePlane := false
  guideSet := none
  menuPlane := ⟨false, false⟩
  filmLock := true
  preview := false

/-- R115, R120, R121. -/
def coldMnu : Mnu := ⟨[], ⟨0, 0⟩, ⟨⟨[], none⟩, ⟨[], none⟩⟩⟩

/-- R148. -/
def coldSeat (image : List Int) : SeatRec where
  held := none
  forwarded := false
  repeatTimer := none
  volume := calVolume image
  step := calBaseStep image
  lastDir := none
  lastStamp := none
  offset := 0
  policy := calPolicy image
  threshold := calThreshold image
  ambient := none
  target := backlightTarget (calPolicy image) (calThreshold image) 100 none 0
  lastSent := none
  next := none

def coldSct (image : List Int) : Sct := ⟨⟨coldSeat image, coldSeat image⟩, 100⟩

/-- R149: slots 0 to 5 from the calibration, slots 6 to 15 silent. -/
def coldTable (image : List Int) : List Pattern :=
  (List.range 6).map (calPattern image) ++ List.replicate 10 silentPattern

/-- R163. The first arrival order is 0 (DESIGN CHOICE, log entry 3). -/
def coldChu (image : List Int) : Chu where
  table := coldTable image
  voice1 := none
  voice2 := none
  queue := []
  parkJudged := false
  parkGap := 0
  duck := ⟨⟨false, 0, none⟩, ⟨false, 0, none⟩⟩
  frontLevel := calFrontLevel image
  lastHandle := 0
  nextOrder := 0

/-! ## The calibration load (R164, R165, R169) -/

/-- R164: BLANK when never written; GOOD when the CRC-32 of the image equals the check value; BAD otherwise. A slot that a
cold start cut off is BAD, and a BAD slot is skipped at every later load (R169; log entry 21). -/
def judgeSlot (s : Slot) : Slot :=
  match s.cells with
  | .blank => ⟨.blank, .blank⟩
  | .written image check =>
    ⟨.written image check, if s.judged ≠ .bad ∧ imageCheck image = check then .good else .bad⟩
  | .writing => ⟨.partly, .bad⟩
  | .partly => ⟨.partly, .bad⟩

def Slot.goodImage (s : Slot) : Option (List Int) :=
  match s.judged, s.cells with
  | .good, .written image _ => some image
  | _, _ => none

/-- R165: the image of the GOOD slot with the highest number and that number; the built-in defaults and 0 without one. -/
def newestGood (s1 s2 s3 : Slot) : List Int × Nat :=
  match s3.goodImage, s2.goodImage, s1.goodImage with
  | some image, _, _ => (image, 3)
  | none, some image, _ => (image, 2)
  | none, none, some image => (image, 1)
  | none, none, none => (builtinImage, 0)

/-- R165: judge the slots and load the working copy. An operation in flight is abandoned (R169). -/
def Cal.load (c : Cal) : Cal :=
  let s1 := judgeSlot c.slot1
  let s2 := judgeSlot c.slot2
  let s3 := judgeSlot c.slot3
  let newest := newestGood s1 s2 s3
  { working := newest.1, slot1 := s1, slot2 := s2, slot3 := s3, loadedGen := newest.2,
    loadedCheck := imageCheck newest.1, flight := none }

/-- The store of a part as it leaves the factory: no slot has ever been written (log entry 5). -/
def blankCal : Cal where
  working := builtinImage
  slot1 := ⟨.blank, .blank⟩
  slot2 := ⟨.blank, .blank⟩
  slot3 := ⟨.blank, .blank⟩
  loadedGen := 0
  loadedCheck := imageCheck builtinImage
  flight := none

end Sys2Proof.Machine
end

