-- ==== Sys2Proof/Machine/State.lean ====
section
/-! DEFINITION. The state of the part, the reasons a step can stop, and the state after reset. -/

namespace Sys2Proof.Machine

/-- The whole state: the timebase, the place in the cold-start sequence, the level of RESET_N (true for high), the eleven
blocks, and the queue of commands that wait, first in first out. -/
structure State where
  timebase : Stamp
  phase : Phase
  resetN : Bool
  cli : Cli
  fdp : Fdp
  vin : Vin
  rvc : Rvc
  gle : Gle
  rsl : Two Link
  cmp : Cmp
  mnu : Mnu
  sct : Sct
  chu : Chu
  cal : Cal
  pending : List Instr
  deriving DecidableEq, Repr

/-- The faults: the manual gives this block none, so there is no constructor. Every command on every state has an effect
the manual states, or arises in no such state and changes nothing. -/
inductive Fault where
  deriving DecidableEq, Repr

/-- The refusals. -/
inductive Refusal where
  /-- Raised by exec's arm of a command that the model gives no meaning yet. Safe: nothing can be proved of a next state.
  No arm of this model raises it. -/
  | notModelled (mnemonic : String)
  deriving DecidableEq, Repr

/-- The part right after reset: time 0 of the cold start of a power-on with RESET_N high, every block at its cold-start
value and the calibration loaded (R170, R165). The values the manual does not state: the timebase reads 0 (log entry 3);
RESET_N is high, GEAR is low and no partner is attached (log entry 4); no slot has been programmed (log entry 5). -/
def State.reset : State where
  timebase := 0
  phase := .loading
  resetN := true
  cli := coldCli .powerOn
  fdp := coldFdp
  vin := coldVin false
  rvc := coldRvc
  gle := coldGle
  rsl := ⟨coldLink builtinImage .s1 false, coldLink builtinImage .s2 false⟩
  cmp := coldCmp builtinImage
  mnu := coldMnu
  sct := coldSct builtinImage
  chu := coldChu builtinImage
  cal := blankCal
  pending := []

end Sys2Proof.Machine
end

