-- ==== Sys2Proof/Machine/Codes.lean ====
section
/-! DEFINITION. The codes the manual gives its named values in frames, notices and replies, and the layout of a notice
(Tables 1-2, 1-4, 11-5, 11-6). -/

namespace Sys2Proof.Machine

/-- Table 1-2. -/
def Result.code : Result → Byte
  | .ok => 0x00
  | .started => 0x01
  | .unknownRequest => 0x10
  | .badLength => 0x11
  | .badValue => 0x12
  | .notNow => 0x13
  | .busy => 0x14
  | .noSpace => 0x15
  | .notFound => 0x16
  | .queueFull => 0x17
  | .refusedReverse => 0x18
  | .exhausted => 0x19

/-- The place of a kind in Table 1-4, from 0. -/
def NoticeKind.index : NoticeKind → Nat
  | .start => 0
  | .mode => 1
  | .feed => 2
  | .reverse => 3
  | .guide => 4
  | .link => 5
  | .route => 6
  | .menuChoice => 7
  | .menuClosed => 8
  | .key => 9
  | .level => 10
  | .chime => 11
  | .calibration => 12

/-- Table 1-4. -/
def NoticeKind.code : NoticeKind → Byte
  | .start => 0x01
  | .mode => 0x02
  | .feed => 0x10
  | .reverse => 0x20
  | .guide => 0x28
  | .link => 0x30
  | .route => 0x40
  | .menuChoice => 0x50
  | .menuClosed => 0x51
  | .key => 0x60
  | .level => 0x61
  | .chime => 0x70
  | .calibration => 0x80

def NoticeBody.kind : NoticeBody → NoticeKind
  | .start _ => .start
  | .mode _ _ => .mode
  | .feed _ _ => .feed
  | .reverse _ _ _ _ => .reverse
  | .guide _ _ => .guide
  | .link _ _ => .link
  | .route _ _ => .route
  | .menuChoice _ _ _ _ => .menuChoice
  | .menuClosed _ => .menuClosed
  | .key _ _ => .key
  | .level _ _ => .level
  | .chime _ => .chime
  | .calibration _ _ => .calibration

def PartMode.code : PartMode → Nat
  | .run => 0
  | .standby => 1

def ModeCause.code : ModeCause → Nat
  | .request => 0
  | .reverseWake => 1

def StartCause.code : StartCause → Nat
  | .powerOn => 0
  | .resetLine => 1

def StartCause.notice : StartCause → StartNotice
  | .powerOn => .powerOn
  | .resetLine => .resetLine

def StartNotice.code : StartNotice → Nat
  | .powerOn => 0
  | .resetLine => 1
  | .warm => 2

def Lock.code : Lock → Nat
  | .noSignal => 0
  | .acquiring => 1
  | .locked => 2
  | .lost => 3

def feedNo : Feed → Nat
  | .uif => 1
  | .ff1 => 2
  | .ff2 => 3
  | .cam => 4

def outputNo : Output → Nat
  | .fro => 1
  | .ro .s1 => 2
  | .ro .s2 => 3

def RvcState.code : RvcState → Nat
  | .off => 0
  | .cueing => 1
  | .live => 2
  | .held => 3
  | .fault => 4

def RvcReason.code : RvcReason → Nat
  | .none => 0
  | .gearReverse => 1
  | .pictureUp => 2
  | .noPicture => 3
  | .pictureLost => 4
  | .gearReleased => 5
  | .holdExpired => 6
  | .speedExit => 7
  | .dismissed => 8

def HeldView.code : HeldView → Nat
  | .none => 0
  | .camera => 1
  | .fault => 2

def Gear.code : Gear → Nat
  | .notReverse => 0
  | .reverse => 1

def GuideType.code : GuideType → Nat
  | .static => 0
  | .dynamic => 1

def Colour.code : Colour → Nat
  | .red => 0
  | .amber => 1
  | .green => 2
  | .white => 3

def Clip.code : Clip → Nat
  | .none => 0
  | .first => 1
  | .second => 2

def LinkState.code : LinkState → Nat
  | .detached => 0
  | .hailing => 1
  | .claiming => 2
  | .streaming => 3
  | .noMode => 4
  | .recovery => 5

def LinkReason.code : LinkReason → Nat
  | .none => 0
  | .badOffers => 1
  | .noAnswer => 2
  | .keepaliveLost => 3
  | .commandRetries => 4
  | .partnerRequest => 5
  | .hostRequest => 6
  | .detached => 7

def Cable.code : Cable → Nat
  | .a => 0
  | .b => 1
  | .c => 2

/-- Source codes of section 6.1: those of the feed ports, and 0 for BLACK. -/
def Source.code : Source → Nat
  | .black => 0
  | .uif => 1
  | .ff1 => 2
  | .ff2 => 3
  | .cam => 4

def RouteCause.code : RouteCause → Nat
  | .route => 0
  | .reverse => 1
  | .preview => 2
  | .filmLock => 3

def MenuAction.code : MenuAction → Nat
  | .report => 1
  | .toggle => 2
  | .slider => 3

/-- Table 7-5. -/
def CloseReason.code : CloseReason → Nat
  | .back => 1
  | .key => 2
  | .timeout => 3
  | .screenLost => 4
  | .request => 5
  | .pageRemoved => 6
  | .standby => 7

/-- Table 8-2. -/
def Key.code : Key → Nat
  | .up => 1
  | .down => 2
  | .left => 3
  | .right => 4
  | .ok => 5
  | .back => 6
  | .menu => 7
  | .volUp => 8
  | .volDown => 9
  | .brightUp => 10
  | .brightDown => 11
  | .playPause => 12
  | .next => 13
  | .previous => 14

def keyOf : Nat → Option Key
  | 1 => some .up
  | 2 => some .down
  | 3 => some .left
  | 4 => some .right
  | 5 => some .ok
  | 6 => some .back
  | 7 => some .menu
  | 8 => some .volUp
  | 9 => some .volDown
  | 10 => some .brightUp
  | 11 => some .brightDown
  | 12 => some .playPause
  | 13 => some .next
  | 14 => some .previous
  | _ => none

/-- Table 8-2, the column Repeatable. -/
def Key.repeatable : Key → Bool
  | .up => true
  | .down => true
  | .left => true
  | .right => true
  | .volUp => true
  | .volDown => true
  | .brightUp => true
  | .brightDown => true
  | _ => false

def KeyEvent.code : KeyEvent → Nat
  | .press => 1
  | .release => 2
  | .repeat => 3

def ChimeClass.code : ChimeClass → Nat
  | .click => 0
  | .once => 1
  | .repeat => 2

def Origin.code : Origin → Nat
  | .host => 0
  | .reverse => 1
  | .park => 2
  | .menu => 3

def ChimeOutcome.code : ChimeOutcome → Nat
  | .ended => 0
  | .preempted => 1
  | .dropped => 2
  | .cancelled => 3

def SlotState.code : SlotState → Nat
  | .blank => 0
  | .good => 1
  | .bad => 2
  | .programming => 3

def ZoneSet.code (z : ZoneSet) : Nat :=
  (if z.front then 1 else 0) + (if z.rear1 then 2 else 0) + (if z.rear2 then 4 else 0)

/-- Table 11-6. -/
def NoticeBody.bytes : NoticeBody → List Byte
  | .start c => u8 c.code
  | .mode m c => u8 m.code ++ u8 c.code
  | .feed l st => u8 l.code ++ u32 st.toNat
  | .reverse st r h e => u8 st.code ++ u8 r.code ++ u8 h.code ++ u32 e.toNat
  | .guide n ty => u16 n ++ u8 ty.code
  | .link st r => u8 st.code ++ u8 r.code
  | .route src c => u8 src.code ++ u8 c.code
  | .menuChoice p i a v => u8 p ++ u8 i ++ u8 a.code ++ u8 v
  | .menuClosed r => u8 r.code
  | .key k e => u8 k.code ++ u8 e.code
  | .level v o => u8 v ++ i8 o
  | .chime o => u8 o.code
  | .calibration good slot => u8 (if good then 1 else 2) ++ u8 slot

/-- R14, Table 11-5: the flags (bit 0 merged, bit 1 overflow), the source, the timestamp, the body. -/
def noticePayload (e : BoardEntry) (overflow : Bool) : List Byte :=
  u8 ((if e.merged then 1 else 0) + (if overflow then 2 else 0)) ++ u8 e.source ++ u32 e.stamp.toNat ++ e.body.bytes

end Sys2Proof.Machine
end

