-- ==== Sys2Proof/Machine/Ops.lean ====
section
/-! DEFINITION. The operations every command is built from: posting a notice (R13), the choice and beginning of the next
frame (R6, R14), the dispatch of a request (R4, R5), and the common shape of an event. -/

namespace Sys2Proof.Machine

/-! ## Access to the blocks -/

def State.link (s : State) (i : Seat) : Link := s.rsl.get i

def State.setLink (s : State) (i : Seat) (l : Link) : State := { s with rsl := s.rsl.set i l }

def State.seat (s : State) (i : Seat) : SeatRec := s.sct.seat.get i

def State.setSeat (s : State) (i : Seat) (r : SeatRec) : State := { s with sct := { s.sct with seat := s.sct.seat.set i r } }

def State.port (s : State) (i : Feed) : Port := s.fdp.port i

def State.setPort (s : State) (i : Feed) (p : Port) : State := { s with fdp := s.fdp.setPort i p }

def State.rearRow (s : State) (i : Seat) : Row := s.cmp.rear.get i

def State.setRearRow (s : State) (i : Seat) (r : Row) : State := { s with cmp := { s.cmp with rear := s.cmp.rear.set i r } }

def State.setFront (s : State) (r : Row) : State := { s with cmp := { s.cmp with front := r } }

def State.ctx (s : State) (i : Seat) : MenuContext := s.mnu.ctx.get i

def State.setCtx (s : State) (i : Seat) (c : MenuContext) : State := { s with mnu := { s.mnu with ctx := s.mnu.ctx.set i c } }

def State.image (s : State) : List Int := s.cal.working

def State.rvcOff (s : State) : Bool := s.rvc.state = .off

def State.inRun (s : State) : Bool := s.cli.mode = .run

/-! ## The notice board -/

/-- Whether a board entry has the kind of a body and a source (R13). -/
def BoardEntry.sameMatter (e : BoardEntry) (source : Nat) (body : NoticeBody) : Bool :=
  e.source = source && e.body.kind = body.kind

/-- R13 on the board: merge into the entry of the same kind and source, else join the tail, else set the overflow
indicator. A disabled kind leaves no trace. -/
def Cli.post (c : Cli) (now : Stamp) (source : Nat) (body : NoticeBody) : Cli :=
  if !c.selection.getD body.kind.index false then c
  else if c.board.any (·.sameMatter source body) then
    { c with board := c.board.map (fun e => if e.sameMatter source body then ⟨source, body, now, true⟩ else e) }
  else if c.board.length < Config.boardSize then { c with board := c.board ++ [⟨source, body, now, false⟩] }
  else { c with overflow := true }

/-- A block posts a notice: its timestamp is the reading of the timebase at the event (R13). -/
def State.post (s : State) (source : Nat) (body : NoticeBody) : State :=
  { s with cli := s.cli.post s.timebase source body }

/-! ## The transmitter -/

/-- The stamp at which the last byte of a frame begun at `now` has gone out: one byte takes 5 µs (section 1.1). -/
def frameEnds (now : Stamp) (bytes : List Byte) : Stamp := afterUs now (5 * bytes.length)

def Cli.beginFrame (c : Cli) (now : Stamp) (what : Sending) (bytes : List Byte) : Cli :=
  { c with tx := some ⟨what, bytes, frameEnds now bytes⟩ }

/-- R6 step 1: the oldest refusal leaves the list and is sent. -/
def Cli.beginRefusal (c : Cli) (now : Stamp) (r : Refused) (rest : List Refused) : Cli :=
  { c with refusals := rest }.beginFrame now .refusal (frame kindReply r.tag r.result.code [])

/-- R6 step 2, R5: the reply of the oldest queue entry is sent; the entry stays in the queue until its last byte. -/
def Cli.beginReply (c : Cli) (now : Stamp) (tag : Byte) (r : Reply) : Cli :=
  { c with prevSort := .reply }.beginFrame now .reply (frame kindReply tag r.result.code r.payload)

/-- R6 step 2, R14: the oldest notice leaves the board; its frame carries the overflow flag, which is then cleared. -/
def Cli.beginNotice (c : Cli) (now : Stamp) (e : BoardEntry) (rest : List BoardEntry) : Cli :=
  { c with board := rest, overflow := false, prevSort := .notice }.beginFrame now .notice
    (frame kindNotice 0 e.body.kind.code (noticePayload e c.overflow))

/-- The reply of the oldest queue entry, when that entry is ANSWERED. -/
def Cli.readyReply (c : Cli) : Option (Byte × Reply) :=
  match c.queue with
  | [] => none
  | q :: _ => q.reply.map (fun r => (q.tag, r))

/-- R6: a free transmitter chooses and begins the next frame; with nothing to send the line stays idle. -/
def Cli.sendNext (c : Cli) (now : Stamp) : Cli :=
  match c.tx with
  | some _ => c
  | none =>
    match c.refusals with
    | r :: rest => c.beginRefusal now r rest
    | [] =>
      match c.readyReply, c.board with
      | none, [] => c
      | some (tag, r), [] => c.beginReply now tag r
      | none, e :: rest => c.beginNotice now e rest
      | some (tag, r), e :: rest => if c.prevSort = .notice then c.beginReply now tag r else c.beginNotice now e rest

/-! ## Ducking after an event (R160) -/

def ZoneSet.hasRear (z : ZoneSet) : Seat → Bool
  | .s1 => z.rear1
  | .s2 => z.rear2

def holdsRear (voice : Option Playing) (i : Seat) : Bool :=
  match voice with
  | none => false
  | some p => p.chime.zones.hasRear i

/-- R160: a zone is ducking while a playing chime's zone set holds it. -/
def Chu.ducks (c : Chu) (i : Seat) : Bool := holdsRear c.voice1 i || holdsRear c.voice2 i

/-- R160: when a zone's ducking starts, its first step falls 10 ms later, and when it stops, 20 ms later; a gain that
stands at its goal takes no step. -/
def Duck.follow (d : Duck) (now : Stamp) (ducking : Bool) (level : Int) : Duck :=
  if d.ducking = ducking then d
  else if ducking then ⟨true, d.gain, if d.gain = level then none else some (afterMs now 10)⟩
  else ⟨false, d.gain, if d.gain = 0 then none else some (afterMs now 20)⟩

/-- The ducking of both zones is judged once an event is over, so that a chime that ends and another that is placed on
the same event leave a zone ducking without a break (R160). -/
def State.followDucks (s : State) : State :=
  let follow := fun i => (s.chu.duck.get i).follow s.timebase (s.chu.ducks i) (calDuckLevel s.image)
  { s with chu := { s.chu with duck := ⟨follow .s1, follow .s2⟩ } }

/-! ## Events -/

def State.atTime (s : State) (t : Stamp) : State := { s with timebase := t }

/-- What ends every event of a running part: the zones' ducking follows the voices, and an idle transmitter begins the next
frame (R6; log entry 10). -/
def State.settle (s : State) : State :=
  let s := s.followDucks
  { s with cli := s.cli.sendNext s.timebase }

/-- An event at stamp `t`. Before the part enters its start mode, and while RESET_N is low, no block acts on it (R18, R30,
R170; log entry 12). -/
def State.event (s : State) (t : Stamp) (act : State → State) : State :=
  let s := s.atTime t
  if s.phase = .running then (act s).settle else s

/-! ## Requests -/

/-- The oldest WAITING request (section 1.2). -/
def oldestWaiting : List Request → Option Request
  | [] => none
  | q :: rest => match q.reply with
    | none => some q
    | some _ => oldestWaiting rest

/-- The queue with its oldest WAITING entry ANSWERED by a reply. -/
def answerOldest : List Request → Reply → List Request
  | [], _ => []
  | q :: rest, r => match q.reply with
    | none => { q with reply := some r } :: rest
    | some _ => q :: answerOldest rest r

/-- R4, R11: the request that may be dispatched; none while a warm restart is pending. -/
def Cli.nextRequest (c : Cli) : Option Request := if c.warmPending then none else oldestWaiting c.queue

/-- R4: the oldest WAITING entry becomes ANSWERED with a reply. -/
def State.answer (s : State) (r : Reply) : State := { s with cli := { s.cli with queue := answerOldest s.cli.queue r } }

def ok (payload : List Byte) : Reply := ⟨.ok, payload⟩

/-- A reply with any other result carries no payload (R5). -/
def refuse (r : Result) : Reply := ⟨r, []⟩

/-- What a request's owner makes of it: the state it leaves and the reply. -/
abbrev Owner := List Byte → State → State × Reply

/-- The checks of R4, after the code has been found in Table 1-3: the payload length, then the part mode, then the owner. -/
def State.judge (s : State) (lengthOk : List Byte → Bool) (inStandby : Bool) (owner : Owner) (payload : List Byte) : State × Reply :=
  if !lengthOk payload then (s, refuse .badLength)
  else if s.cli.mode = .standby && !inStandby then (s, refuse .notNow)
  else owner payload s

/-- The dispatch of a request of a given code: it takes place when that code is the one of the request to be dispatched
(R4; log entry 8). -/
def State.dispatch (s : State) (code : Byte) (lengthOk : List Byte → Bool) (inStandby : Bool) (owner : Owner) : State :=
  match s.cli.nextRequest with
  | none => s
  | some q =>
    if q.code = code then
      let r := s.judge lengthOk inStandby owner q.payload
      r.1.answer r.2
    else s

/-- The length check of a request whose payload has one length. -/
def lengthIs (n : Nat) (p : List Byte) : Bool := p.length = n

/-- The meaning of a request's row: its dispatch, as an event. -/
def State.request (s : State) (t : Stamp) (code : Byte) (lengthOk : List Byte → Bool) (inStandby : Bool) (owner : Owner) :
    Host.Outcome State Fault Refusal :=
  .next (s.event t (fun s => s.dispatch code lengthOk inStandby owner))

/-- The meaning of a row that is not a request: an event. -/
def State.happens (s : State) (t : Stamp) (act : State → State) : Host.Outcome State Fault Refusal := .next (s.event t act)

/-- The seat, link or zone a request's byte names (1 or 2). -/
def seatOf : Nat → Option Seat
  | 1 => some .s1
  | 2 => some .s2
  | _ => none

/-- The output a request's byte names (1 FRO, 2 RO1, 3 RO2). -/
def outputOf : Nat → Option Output
  | 1 => some .fro
  | 2 => some (.ro .s1)
  | 3 => some (.ro .s2)
  | _ => none

end Sys2Proof.Machine
end

