-- ==== Sys2Proof/Machine/Flags.lean ====
section
/-! DEFINITION. The status flags and pins that the part computes from its state: the status-line conditions and the levels
of STAT0 to STAT3 (R16, Table 1-6), CAM_PWR (R26), and freshness. -/

namespace Sys2Proof.Machine

def voiceHoldsFront (voice : Option Playing) : Bool :=
  match voice with
  | none => false
  | some p => p.chime.zones.front

/-- Table 1-6: whether a status-line condition is true. -/
def State.condition (s : State) : Nat → Bool
  | 1 => !s.cli.board.isEmpty
  | 2 => !s.rvcOff
  | 3 => s.rvc.state = .fault
  | 4 => voiceHoldsFront s.chu.voice1 || voiceHoldsFront s.chu.voice2
  | 5 => (s.link .s1).state = .streaming
  | 6 => (s.link .s2).state = .streaming
  | 7 => s.cmp.filmLock
  | _ => false

/-- R16: the level of a status line, true for high. Until the map is loaded every line is held low. -/
def State.statusLine (s : State) (line : Nat) : Bool :=
  match s.cli.lineMap[line]? with
  | none => false
  | some m => if m.activeLow then !s.condition m.condition else s.condition m.condition

/-- R26: the level of CAM_PWR, true for high. -/
def State.camPwr (s : State) : Bool := s.fdp.camPower

/-- Section 1.1, R18: LINK_TX is held high while the transmitter sends nothing. -/
def State.linkTxIdle (s : State) : Bool := s.cli.tx.isNone

def State.speedFresh (s : State) : Bool := s.vin.speedWatch.isSome

def State.steeringFresh (s : State) : Bool := s.vin.steeringWatch.isSome

def State.obstacleFresh (s : State) : Bool := s.vin.obstacleWatch.isSome

end Sys2Proof.Machine
end

