-- ==== Sys2Proof/Machine/Chimes.lean ====
section
/-! DEFINITION. The chime unit's shared operations (R151 to R155, R158, R159, R163). -/

namespace Sys2Proof.Machine

/-! ## Voices and placement (R152) -/

def ZoneSet.meets (a b : ZoneSet) : Bool := (a.front && b.front) || (a.rear1 && b.rear1) || (a.rear2 && b.rear2)

def ZoneSet.isEmpty (z : ZoneSet) : Bool := !(z.front || z.rear1 || z.rear2)

def ZoneSet.ofSeat : Seat → ZoneSet
  | .s1 => ⟨false, true, false⟩
  | .s2 => ⟨false, false, true⟩

def ZoneSet.frontOnly : ZoneSet := ⟨true, false, false⟩

def Chu.voice (c : Chu) : Voice → Option Playing
  | .v1 => c.voice1
  | .v2 => c.voice2

def Chu.setVoice (c : Chu) (v : Voice) (p : Option Playing) : Chu :=
  match v with
  | .v1 => { c with voice1 := p }
  | .v2 => { c with voice2 := p }

/-- Whether the chime on a voice shares a zone with a set. -/
def clashes (voice : Option Playing) (z : ZoneSet) : Bool :=
  match voice with
  | none => false
  | some p => p.chime.zones.meets z

/-- R152: a voice is free and no zone of the set is in the zone set of the chime on the other voice. -/
def Chu.canPlace (c : Chu) (z : ZoneSet) : Bool :=
  (c.voice1.isNone && !clashes c.voice2 z) || (c.voice2.isNone && !clashes c.voice1 z)

def Chu.pattern (c : Chu) (slot : Nat) : Pattern := c.table.getD slot silentPattern

def Pattern.stepAt (p : Pattern) (i : Nat) : Step := p.steps.getD i ⟨0, 10, 15⟩

/-- R159: the on-time of a park beep is the duration of pattern 4's first step. -/
def Chu.parkOnTime (c : Chu) : Nat := ((c.pattern 4).stepAt 0).dur

/-- R159: a beep starts. It fixes the gap from the distance held; without a distance the gap stays (log entry 24). -/
def State.startBeep (s : State) (p : Playing) (v : Voice) : State :=
  let on := s.chu.parkOnTime
  let gap := match s.vin.obstacle with
    | some d => parkGapOf d on
    | none => s.chu.parkGap
  let p := { p with toneEnds := afterMs s.timebase on, ends := afterMs s.timebase (on + gap) }
  { s with chu := { s.chu.setVoice v (some p) with parkGap := gap } }

/-- R152: placement on a voice starts a chime at step 0 with its pattern's repeat count; the placement of the park beep
record is a beep start (R159). -/
def State.startOn (s : State) (ch : Chime) (v : Voice) : State :=
  let pat := s.chu.pattern ch.pattern
  let ends := afterMs s.timebase (pat.stepAt 0).dur
  let p : Playing := ⟨ch, 0, pat.repeatCount, ends, ends⟩
  if ch.origin = .park then s.startBeep p v else { s with chu := s.chu.setVoice v (some p) }

/-- R152: a chime that can be placed takes voice 1 if that voice is free, and voice 2 otherwise. -/
def State.place (s : State) (ch : Chime) : State := s.startOn ch (if s.chu.voice1.isNone then .v1 else .v2)

/-! ## The end of a chime (R151) -/

/-- The reverse view controller learns that a chime has ended: when it is the one held as its fault chime, it holds none
(R42). -/
def Rvc.chimeEnded (r : Rvc) (handle : Nat) : Rvc :=
  if r.faultChime = some handle then { r with faultChime := none } else r

/-- R151: a chime ends; its record has left its voice or the queue. A HOST chime posts a CHIME notice, and the end of a
REVERSE chime is told to the controller. -/
def State.endChime (s : State) (ch : Chime) (outcome : ChimeOutcome) : State :=
  match ch.origin with
  | .host => s.post ch.handle (.chime outcome)
  | .reverse => { s with rvc := s.rvc.chimeEnded ch.handle }
  | .park => s
  | .menu => s

/-! ## The queue (R154, R155) -/

/-- Whether `a` stands ahead of `b` in the queue: by priority, then by arrival order. -/
def Chime.ahead (a b : Chime) : Bool :=
  decide (b.priority < a.priority) || (decide (a.priority = b.priority) && decide (a.order < b.order))

/-- A chime takes its place in the order of the queue. -/
def insertChime (ch : Chime) : List Chime → List Chime
  | [] => [ch]
  | q :: rest => if ch.ahead q then ch :: q :: rest else q :: insertChime ch rest

/-- R154: a chime joins the queue; whether it has joined. A full queue drops its last entry for a chime of higher
priority. -/
def State.joinQueue (s : State) (ch : Chime) : State × Bool :=
  if s.chu.queue.length < Config.chimeQueueSize then
    ({ s with chu := { s.chu with queue := insertChime ch s.chu.queue } }, true)
  else
    match s.chu.queue.getLast? with
    | none => (s, false)
    | some last =>
      if last.priority < ch.priority then
        let s := { s with chu := { s.chu with queue := insertChime ch s.chu.queue.dropLast } }
        (s.endChime last .dropped, true)
      else (s, false)

/-- One placement of R155: the first waiting entry that can be placed. -/
def State.fillOnce (s : State) : State :=
  match s.chu.queue.find? (fun ch => s.chu.canPlace ch.zones) with
  | none => s
  | some ch => ({ s with chu := { s.chu with queue := s.chu.queue.erase ch } }).place ch

/-- R155: the free voices are filled from the queue, starting once more from the head for the second. -/
def State.fill (s : State) : State := s.fillOnce.fillOnce

/-! ## Arrival (R151, R153) -/

def Chu.holdsHandle (c : Chu) (h : Nat) : Bool :=
  (match c.voice1 with | some p => p.chime.handle = h | none => false)
  || (match c.voice2 with | some p => p.chime.handle = h | none => false)
  || c.queue.any (·.handle = h)

/-- R151: the first handle after the last one allocated, counting 1 to 255 and then 1 again, that no record holds. -/
def Chu.nextHandle (c : Chu) : Nat :=
  match (List.range 255).find? (fun k => !c.holdsHandle ((c.lastHandle + k) % 255 + 1)) with
  | some k => (c.lastHandle + k) % 255 + 1
  | none => 0

/-- What a request to the chime unit asks for (Table 9-4). -/
structure ChimeRequest where
  pattern : Nat
  zones : ZoneSet
  priority : Nat
  cls : ChimeClass
  origin : Origin
  deriving DecidableEq, Repr

/-- What becomes of an arrival (R153). -/
inductive Arrival where
  | playing (handle : Nat)
  | waiting (handle : Nat)
  | discarded
  | refused
  deriving DecidableEq, Repr

/-- R151: the record of an arrival, with the next arrival order and a handle. -/
def Chu.form (c : Chu) (r : ChimeRequest) : Chime :=
  ⟨c.nextHandle, r.pattern, r.zones, r.priority, r.cls, r.origin, c.nextOrder⟩

def Chu.formed (c : Chu) : Chu := { c with lastHandle := c.nextHandle, nextOrder := c.nextOrder + 1 }

/-- R153 step 3: whether the chime on a voice blocks a new one: with no voice free both block, with a voice free the one
that shares a zone. -/
def Chu.blocks (c : Chu) (v : Voice) (z : ZoneSet) : Bool :=
  match c.voice v with
  | none => false
  | some p => (c.voice1.isSome && c.voice2.isSome) || p.chime.zones.meets z

/-- Whether the new chime's priority is higher than that of the chime on a voice, when that chime blocks. -/
def Chu.outranks (c : Chu) (v : Voice) (z : ZoneSet) (priority : Nat) : Bool :=
  match c.voice v with
  | none => true
  | some p => !c.blocks v z || decide (p.chime.priority < priority)

/-- R153: a preempted chime, which has left its voice, ends, or returns to the queue when it is of class REPEAT. -/
def State.preempted (s : State) (voice : Option Playing) : State :=
  match voice with
  | none => s
  | some p =>
    if p.chime.cls = .repeat then
      let r := s.joinQueue p.chime
      if r.2 then r.1 else r.1.endChime p.chime .dropped
    else s.endChime p.chime .preempted

/-- R153, "a preemption takes its steps in this order": the blocking chimes leave their voices, the new chime is placed,
and a voice still free is filled. Of two preempted chimes that of voice 1 ends or returns first (DESIGN CHOICE, log entry 13). -/
def State.preempt (s : State) (ch : Chime) : State :=
  let out1 := if s.chu.blocks .v1 ch.zones then s.chu.voice1 else none
  let out2 := if s.chu.blocks .v2 ch.zones then s.chu.voice2 else none
  let s := { s with chu := { s.chu with voice1 := if out1.isSome then none else s.chu.voice1,
                                        voice2 := if out2.isSome then none else s.chu.voice2 } }
  (((s.preempted out1).preempted out2).place ch).fill

/-- R153, R154: an arrival is judged at once. A refused or discarded one takes no record, handle or order. Its handle is
allocated before a chime that it preempts or displaces gives its own up (DEDUCED, log entry 23). -/
def State.arrive (s : State) (r : ChimeRequest) : State × Arrival :=
  let ch := s.chu.form r
  let formed := { s with chu := s.chu.formed }
  if s.chu.canPlace r.zones then (formed.place ch, .playing ch.handle)
  else if r.cls = .click then (s, .discarded)
  else if s.chu.outranks .v1 r.zones r.priority && s.chu.outranks .v2 r.zones r.priority then
    (formed.preempt ch, .playing ch.handle)
  else
    let j := formed.joinQueue ch
    if j.2 then (j.1, .waiting ch.handle) else (s, .refused)

/-! ## Requests of the other blocks (R42, R123, R158) -/

/-- R123: a click (pattern 0) or refuse click (pattern 1) in a seat's zone. -/
def State.click (s : State) (i : Seat) (pattern : Nat) : State :=
  (s.arrive ⟨pattern, ZoneSet.ofSeat i, 1, .click, .menu⟩).1

/-- R42: the engage chime; its handle is not kept. -/
def State.engageChime (s : State) : State :=
  if calEngageChime s.image then (s.arrive ⟨2, ZoneSet.frontOnly, 5, .once, .reverse⟩).1 else s

/-- R42: the fault chime; its handle is kept when the chime unit takes the request. -/
def State.faultChime (s : State) : State :=
  let a := s.arrive ⟨3, ZoneSet.frontOnly, 7, .repeat, .reverse⟩
  let handle := match a.2 with
    | .playing h => some h
    | .waiting h => some h
    | _ => none
  { a.1 with rvc := { a.1.rvc with faultChime := handle } }

def voiceHas (voice : Option Playing) (p : Chime → Bool) : Bool :=
  match voice with
  | none => false
  | some x => p x.chime

/-- A chime that satisfies `p` is cancelled: its record is removed, and a voice it held is filled (R151, R155, R157). -/
def State.removeChime (s : State) (p : Chime → Bool) : State :=
  if voiceHas s.chu.voice1 p then ({ s with chu := { s.chu with voice1 := none } }).fill
  else if voiceHas s.chu.voice2 p then ({ s with chu := { s.chu with voice2 := none } }).fill
  else { s with chu := { s.chu with queue := s.chu.queue.filter (fun ch => !p ch) } }

/-- R42: the controller cancels its fault chime, which becomes none; without one it hands no cancel. -/
def State.cancelFaultChime (s : State) : State :=
  match s.rvc.faultChime with
  | none => s
  | some h =>
    let s := { s with rvc := { s.rvc with faultChime := none } }
    s.removeChime (fun ch => ch.handle = h && ch.origin = .reverse)

def isPark (ch : Chime) : Bool := ch.origin = .park

def Chu.hasPark (c : Chu) : Bool := voiceHas c.voice1 isPark || voiceHas c.voice2 isPark || c.queue.any isPark

def State.parkActive (s : State) : Bool :=
  Sys2Proof.Machine.parkActive s.rvcOff s.obstacleFresh s.vin.obstacle (calFarLimit s.image)

/-- R158: the park beep condition is judged; the record arrives or is removed. -/
def State.judgePark (s : State) : State :=
  let active := s.parkActive
  let s := { s with chu := { s.chu with parkJudged := active } }
  if active then
    if s.chu.hasPark then s else (s.arrive ⟨4, ZoneSet.frontOnly, 6, .repeat, .park⟩).1
  else if s.chu.hasPark then s.removeChime isPark
  else s

/-! ## Standby and warm restart (R163) -/

def State.endAll (s : State) : List Chime → State
  | [] => s
  | ch :: rest => (s.endChime ch .cancelled).endAll rest

def voiceChimes (voice : Option Playing) : List Chime :=
  match voice with
  | none => []
  | some p => [p.chime]

/-- R163: on entry to STANDBY every chime is removed, and each HOST chime posts CANCELLED, in the order voice 1, voice 2, queue
(DESIGN CHOICE, log entry 13). -/
def State.chimesStandby (s : State) : State :=
  let all := voiceChimes s.chu.voice1 ++ voiceChimes s.chu.voice2 ++ s.chu.queue
  ({ s with chu := { s.chu with voice1 := none, voice2 := none, queue := [] } }).endAll all

def survivesWarm (ch : Chime) : Bool := ch.origin = .reverse || ch.origin = .park

/-- R149, R163: at a warm restart the chimes of origin REVERSE and PARK are kept and the others removed without a notice;
the voices freed are filled, and slots 6 to 15 return to the silent pattern. -/
def State.chimesWarm (s : State) : State :=
  let keep := fun (v : Option Playing) => if voiceHas v survivesWarm then v else none
  ({ s with chu := { s.chu with
      voice1 := keep s.chu.voice1, voice2 := keep s.chu.voice2,
      queue := s.chu.queue.filter survivesWarm,
      table := s.chu.table.take 6 ++ List.replicate 10 silentPattern } }).fill

end Sys2Proof.Machine
end

