-- ==== Sys2Proof/Machine/Pages.lean ====
section
/-! DEFINITION. Pages, items and history entries: focus moves, the window rule and adjustment (R121, R122, R124). -/

namespace Sys2Proof.Machine

/-- The page with an id; R115: no two pages of the store share one. -/
def findPage (store : List Page) (id : Nat) : Option Page := store.find? (·.id = id)

/-- The item numbered `n`, from 1. -/
def Page.item (p : Page) (n : Nat) : Option Item := if n = 0 then none else p.items[n - 1]?

def Page.isEnabled (p : Page) (n : Nat) : Bool :=
  match p.item n with
  | none => false
  | some it => it.enabled

/-- The item numbers of a page, lowest first. -/
def Page.numbers (p : Page) : List Nat := (List.range p.items.length).map (· + 1)

/-- R122: the enabled item with the lowest number. -/
def Page.firstEnabled (p : Page) : Option Nat := p.numbers.find? p.isEnabled

/-- R122: the enabled item with the lowest number above `f`. -/
def Page.enabledAbove (p : Page) (f : Nat) : Option Nat := p.numbers.find? (fun n => decide (f < n) && p.isEnabled n)

/-- R122: the enabled item with the highest number below `f`. -/
def Page.enabledBelow (p : Page) (f : Nat) : Option Nat := p.numbers.reverse.find? (fun n => decide (n < f) && p.isEnabled n)

/-- R122, the window rule. -/
def windowTop (focus : Option Nat) (top : Nat) : Nat :=
  match focus with
  | none => 1
  | some f => if f < top then f else if top + 6 ≤ f then f - 5 else top

def Entry.rewindow (e : Entry) : Entry := { e with top := windowTop e.focus e.top }

/-- R122: a new entry starts with its focus at the first enabled item and its window top at 1. -/
def Page.newEntry (p : Page) : Entry := Entry.rewindow ⟨p.id, p.firstEnabled, 1⟩

/-- R124 steps 1 to 3. -/
def Page.adjustFocus (p : Page) (focus : Option Nat) : Option Nat :=
  let f1 := match focus with
    | none => none
    | some f => some (if p.items.length < f then p.items.length else f)
  let f2 := match f1 with
    | none => none
    | some f => if p.isEnabled f then some f else (p.enabledAbove f).or (p.enabledBelow f)
  match f2 with
  | none => p.firstEnabled
  | some f => some f

/-- R124: an entry is adjusted to its page. -/
def Page.adjust (p : Page) (e : Entry) : Entry := Entry.rewindow { e with focus := p.adjustFocus e.focus }

def MenuContext.isOpen (c : MenuContext) : Bool := !c.stack.isEmpty

/-- R115: the items of all pages. -/
def itemTotal : List Page → Nat
  | [] => 0
  | p :: rest => p.items.length + itemTotal rest

end Sys2Proof.Machine
end

