-- ==== Sys2Proof/Machine/Draw.lean ====
section
/-! DEFINITION. What an output frame shows: the menu plane's layout (R136), and the value of every pixel of a composed
frame, plane over plane (R97, R103, R108, R111, R112, R136). -/

namespace Sys2Proof.Machine

/-! ## The menu plane (R136) -/

def white : Rgb := ⟨255, 255, 255⟩

def black : Rgb := ⟨0, 0, 0⟩

def grey : Rgb := ⟨128, 128, 128⟩

def amberFill : Rgb := ⟨255, 176, 0⟩

def panelFill : Rgb := ⟨24, 24, 24⟩

/-- R108, R136: the glyph scale for a strip or row `h` rows tall. -/
def glyphScale (h : Nat) : Nat := if h / 16 = 0 then 1 else h / 16

/-- Glyphs side by side from column `x`, each 8·f wide; one that would pass `limit` is not drawn. -/
def textCells (codes : List Nat) (x limit y : Int) (f : Nat) (colour : Rgb) : List GlyphCell :=
  match codes with
  | [] => []
  | c :: rest =>
    (if x + 8 * f ≤ limit then [⟨c, x, y, colour⟩] else []) ++ textCells rest (x + 8 * f) limit y f colour

/-- The decimal digits of a number below 1000, codes 0x30 to 0x39. -/
def digits (n : Nat) : List Nat :=
  if n < 10 then [0x30 + n]
  else if n < 100 then [0x30 + n / 10, 0x30 + n % 10]
  else [0x30 + n / 100, 0x30 + n / 10 % 10, 0x30 + n % 10]

/-- The offset of a BRIGHTNESS row: 0x2B or 0x2D for its sign, then its digits; 0 has no sign. -/
def signedDigits (i : Int) : List Nat :=
  if i = 0 then digits 0 else if i < 0 then 0x2D :: digits i.natAbs else 0x2B :: digits i.natAbs

/-- R136: the value region at the right end of an item's row, and how many cells it takes from the label. -/
def valueRegion (kind : ItemKind) (volume : Nat) (offset : Int) : List Nat × Nat :=
  match kind with
  | .openPage _ => ([0x1A], 1)
  | .toggle on => ([if on then 0x11 else 0x10], 1)
  | .slider value _ _ => (digits value, 3)
  | .volume => (digits volume, 3)
  | .brightness => (signedDigits offset, 3)
  | .report _ => ([], 0)
  | .back => ([], 0)

/-- One item row: the icon and one blank cell when an icon is present, the label, and the value region, right-aligned at
the text end. A disabled item is grey throughout (Table 7-2) and the focused one black; in an enabled row without the focus R136
colours the icon and the label alone, and the value is drawn in their white (DESIGN CHOICE, log entry 19). R136 ends the label
alone before the value cells; an icon that would enter them, on a narrow output, is not drawn either (DESIGN CHOICE, log entry 19). -/
def itemCells (it : Item) (focused : Bool) (volume : Nat) (offset : Int) (x0 x1 y : Int) (f : Nat) : List GlyphCell :=
  let colour := if focused then black else if it.enabled then white else grey
  let value := valueRegion it.kind volume offset
  let labelEnd := x1 - 8 * f * value.2
  let icon := match it.icon with
    | some g => textCells [g] x0 labelEnd y f colour
    | none => []
  let labelX := if it.icon.isSome then x0 + 16 * f else x0
  icon ++ textCells it.label labelX labelEnd y f colour ++ textCells value.1 (x1 - 8 * f * value.1.length) x1 y f colour

/-- R136: the top of the glyphs in row `row` of the panel (0 for the title), whose rows are `h` tall; in a row lower than its
glyphs the division is rounded down to a negative number, and the glyphs begin above the row. -/
def glyphTop (h f row : Nat) : Int := (h + h * row : Nat) + ((h : Int) - 16 * f) / 2

/-- The menu plane of an output of width `wo` and height `ho` (R136). Glyph 0x19 keeps its cell when 0x18 is not drawn, both
marks are white, and the title runs to the text end under them (DESIGN CHOICE, log entry 19). -/
def menuPicture (page : Page) (e : Entry) (volume : Nat) (offset : Int) (wo ho : Nat) : MenuPicture :=
  let h := ho / 10
  let f := glyphScale h
  let left := wo / 16
  let width := 3 * wo / 8
  let x0 : Int := left + 4 * f
  let x1 : Int := left + width - 4 * f
  let textTop := glyphTop h f
  let title := textCells page.title x0 x1 (textTop 0) f white
  let upMark := if 1 < e.top then textCells [0x18] (x1 - 8 * f) x1 (textTop 0) f white else []
  let downMark := if e.top + 5 < page.items.length then textCells [0x19] (x1 - 16 * f) x1 (textTop 0) f white else []
  let row := fun (k : Nat) =>
    match page.item (e.top + k) with
    | none => []
    | some it => itemCells it (e.focus = some (e.top + k)) volume offset x0 x1 (textTop (k + 1)) f
  { left := left, width := width, rowHeight := h, scale := f,
    focusRow := e.focus.bind (fun n => if e.top ≤ n ∧ n < e.top + 6 then some (n - e.top + 1) else none),
    cells := title ++ upMark ++ downMark ++ (List.range 6).flatMap row }

/-! ## Pixels -/

/-- The value of one pixel: a colour, or the picture of a feed at a place of the geometry it is scaled to. What the feed
shows there comes from outside the part (log entry 17). -/
inductive Pixel where
  | rgb (colour : Rgb)
  | picture (feed : Feed) (x y : Nat)
  deriving DecidableEq, Repr

/-- Whether the pixel at (x, y) is a lit pixel of a glyph whose cell has its top-left corner at (cx, cy). -/
def glyphLit (code : Nat) (cx cy : Int) (f : Nat) (x y : Int) : Bool :=
  decide (cx ≤ x) && decide (x < cx + 8 * f) && decide (cy ≤ y) && decide (y < cy + 16 * f)
  && Config.glyphPixel code ((y - cy).toNat / f) ((x - cx).toNat / f)

/-- R97, R103: the source plane: the picture inside the geometry, black outside it and when there is no picture. -/
def FrameContent.sourcePixel (c : FrameContent) (x y : Nat) : Pixel :=
  match c.picture with
  | none => .rgb black
  | some feed =>
    let g := c.geometry
    if g.left ≤ x ∧ x < g.left + g.width ∧ g.top ≤ y ∧ y < g.top + g.height then .picture feed (x - g.left) (y - g.top)
    else .rgb black

/-- Table 6-4. -/
def Colour.rgb : Colour → Rgb
  | .red => ⟨255, 0, 0⟩
  | .amber => ⟨255, 176, 0⟩
  | .green => ⟨0, 200, 0⟩
  | .white => ⟨255, 255, 255⟩

/-- R111: a camera image point mapped onto the front output. -/
def mapPoint (g : Geometry) (cw ch : Nat) (u v : Int) : Int × Int :=
  (g.left + u * g.width / cw, g.top + v * g.height / ch)

/-- R111: the point of the one-pixel line at a step: along the coordinate that changes the more, the other rounded. -/
def linePoint (p q : Int × Int) (k : Nat) : Int × Int :=
  let dx := q.1 - p.1
  let dy := q.2 - p.2
  let n := max dx.natAbs dy.natAbs
  if n = 0 then p
  else if dy.natAbs ≤ dx.natAbs then (p.1 + (if dx < 0 then -(k : Int) else k), roundDiv (p.2 * n + dy * k) n)
  else (roundDiv (p.1 * n + dx * k) n, p.2 + (if dy < 0 then -(k : Int) else k))

/-- R112: the steps of a cycle of 28 at which a dashed line is drawn. -/
def dashOn (type : GuideType) (k : Nat) : Bool :=
  match type with
  | .dynamic => true
  | .static => decide (k % 28 < 16)

def GuideInput.type (i : GuideInput) : GuideType := if i.angle.isSome then .dynamic else .static

/-- R111: whether a segment covers a pixel of the output: a square of 4 × 4 pixels at each drawn step, inside the
geometry. -/
def Drawn.covers (d : Drawn) (type : GuideType) (g : Geometry) (cw ch x y : Nat) : Bool :=
  let p := mapPoint g cw ch d.u1 d.v1
  let q := mapPoint g cw ch d.u2 d.v2
  let n := max (q.1 - p.1).natAbs (q.2 - p.2).natAbs
  decide (g.left ≤ x ∧ x < g.left + g.width ∧ g.top ≤ y ∧ y < g.top + g.height)
  && (List.range (n + 1)).any (fun k =>
      let m := linePoint p q k
      dashOn type k && decide (m.1 - 2 ≤ x ∧ (x : Int) < m.1 + 2 ∧ m.2 - 2 ≤ y ∧ (y : Int) < m.2 + 2))

/-- R112: the drawn segments and crossbars of a set in the order they are drawn: left line, right line, crossbars. -/
def GuideSet.strokes (s : GuideSet) : List (Colour × Drawn) :=
  (s.leftSegments ++ s.rightSegments).filterMap (fun x => x.drawn.map (fun d => (x.colour, d)))
  ++ s.crossbars.filterMap (fun x => x.drawn.map (fun d => (x.colour, d)))

/-- R112: the guide plane; where drawn pixels overlap, the later drawing covers the earlier. -/
def FrameContent.guidePixel (c : FrameContent) (x y : Nat) : Option Rgb :=
  match c.guides with
  | none => none
  | some s =>
    (s.strokes.reverse.find? (fun d =>
      d.2.covers s.input.type c.geometry s.input.imageWidth s.input.imageHeight x y)).map (fun d => d.1.rgb)

/-- R136: the menu plane. A glyph that passes its row is cut at the edges of the panel alone (DESIGN CHOICE, log entry 19). -/
def MenuPicture.pixel (m : MenuPicture) (x y : Nat) : Option Rgb :=
  let h := m.rowHeight
  if m.left ≤ x ∧ x < m.left + m.width ∧ h ≤ y ∧ y < h + 7 * h then
    match m.cells.reverse.find? (fun c => glyphLit c.code c.x c.y m.scale x y) with
    | some c => some c.colour
    | none => if m.focusRow = some (y / h - 1) then some amberFill else some panelFill
  else none

/-- R108: whether one of the glyphs of a banner is lit at a pixel. -/
def bannerLit : List Nat → Int → Int → Nat → Int → Int → Bool
  | [], _, _, _, _, _ => false
  | c :: rest, cx, cy, f, x, y => glyphLit c cx cy f x y || bannerLit rest (cx + 8 * f) cy f x y

/-- R108: the banner plane: a black strip at the foot of the output with the glyphs in white. -/
def FrameContent.bannerPixel (c : FrameContent) (x y : Nat) : Option Rgb :=
  match c.banner with
  | none => none
  | some text =>
    let h := c.size.height / 10
    let f := glyphScale h
    let top := c.size.height - h
    if y < top then none
    else
      let left : Int := ((c.size.width : Int) - 8 * f * text.length) / 2
      some (if bannerLit text left ((top : Int) + f) f x y then white else black)

/-- R97: the value of a pixel of a frame: the source plane, under the guide plane or the menu plane, under the banner
plane. -/
def FrameContent.pixel (c : FrameContent) (x y : Nat) : Pixel :=
  match c.bannerPixel x y with
  | some colour => .rgb colour
  | none =>
    match c.menu.bind (fun m => m.pixel x y) with
    | some colour => .rgb colour
    | none =>
      match c.guidePixel x y with
      | some colour => .rgb colour
      | none => c.sourcePixel x y

end Sys2Proof.Machine
end

