-- ==== Sys2Proof/Machine/GuideMath.lean ====
section
/-! DEFINITION. The guide arithmetic: from a latched input set to a guide set (R56 to R64). All of it is exact integer
arithmetic with the stated rounding. -/

namespace Sys2Proof.Machine

/-! ## Stage 1: the curvature (R57, R59) -/

/-- Entry ki of the curvature table; k0 is 0 (Table 4-2). -/
def GuideInput.k (i : GuideInput) (n : Nat) : Int := if n = 0 then 0 else i.curvature.getD (n - 1) 0

/-- R57: the magnitude of K for |a|. -/
def GuideInput.magnitude (i : GuideInput) (a : Nat) : Int :=
  if 4800 ≤ a then i.k 8
  else roundDiv (600 * i.k (a / 600) + (i.k (a / 600 + 1) - i.k (a / 600)) * (a - 600 * (a / 600) : Nat)) 600

/-- R57, R59: K takes the sign of the angle, and is 0 for the stale marker. -/
def GuideInput.curvatureK (i : GuideInput) : Int :=
  match i.angle with
  | none => 0
  | some a => if a = 0 then 0 else if a < 0 then -(i.magnitude a.natAbs) else i.magnitude a.natAbs

/-! ## Stage 2: the path and its edge lines (R58) -/

/-- The distance of band `i` in use, from 1; b0 is 0. -/
def GuideInput.band (i : GuideInput) (n : Nat) : Nat := if n = 0 then 0 else i.bandDistance.getD (n - 1) 0

def GuideInput.colour (i : GuideInput) (n : Nat) : Colour := i.bandColour.getD (n - 1) .red

/-- R58: bn / 250 + 1 points. -/
def GuideInput.pointCount (i : GuideInput) : Nat := i.band i.bandCount / 250 + 1

/-- R58: the lateral offset y(s) = K × s² / (2 × 10⁸), rounded. -/
def lateral (k : Int) (s : Nat) : Int := roundDiv (k * ((s * s : Nat) : Int)) 200000000

/-! ## Stage 3: projection (R60) -/

def GuideInput.h (i : GuideInput) (n : Nat) : Int := i.homography.getD n 0

/-- R60: a ground point in the camera image; none when D is 0 or negative. -/
def GuideInput.project (i : GuideInput) (x y : Int) : Option Pt :=
  let nu := i.h 0 * x + i.h 1 * y + i.h 2
  let nv := i.h 3 * x + i.h 4 * y + i.h 5
  let d := i.h 6 * x + i.h 7 * y + i.h 8
  if d ≤ 0 then none
  else
    let u := roundDiv nu d.toNat
    let v := roundDiv nv d.toNat
    let cu := clampInt (-32768) 32767 u
    let cv := clampInt (-32768) 32767 v
    some ⟨cu, cv, !(decide (cu = u) && decide (cv = v))⟩

/-- R58, R60: point `n` of the line at the lateral distance `side` from the path. -/
def GuideInput.point (i : GuideInput) (k side : Int) (n : Nat) : Option Pt :=
  i.project ((250 * n : Nat) : Int) (lateral k (250 * n) + side)

def GuideInput.points (i : GuideInput) (k side : Int) : List (Option Pt) :=
  (List.range i.pointCount).map (i.point k side)

/-! ## Stage 4: segments, crossbars, clipping (R61 to R64) -/

/-- R56: whether a point is inside the image. -/
def Pt.inside (p : Pt) (w h : Nat) : Bool :=
  decide (0 ≤ p.u) && decide (p.u ≤ (w : Int) - 1) && decide (0 ≤ p.v) && decide (p.v ≤ (h : Int) - 1)

/-- The border value the outside coordinate violates, when it violates one (R64). -/
def violated (out : Int) (size : Nat) : Option Int :=
  if out < 0 then some 0 else if (size : Int) - 1 < out then some ((size : Int) - 1) else none

/-- R64: the crossing with a border of the coordinate a: the fraction t is `num / den`, and the other coordinate is the
inside end's plus its change times t, rounded. -/
structure Crossing where
  num : Nat
  den : Nat
  border : Int
  other : Int
  deriving DecidableEq, Repr

def crossing (inA outA inB outB border : Int) : Crossing :=
  let num := (border - inA).natAbs
  let den := (outA - inA).natAbs
  ⟨num, den, border, roundDiv (inB * den + (outB - inB) * num) den⟩

/-- R64: the end that replaces the outside end: the crossing nearest the inside end. -/
def clipEnd (inside outside : Pt) (w h : Nat) : Int × Int :=
  let cu := (violated outside.u w).map (crossing inside.u outside.u inside.v outside.v)
  let cv := (violated outside.v h).map (crossing inside.v outside.v inside.u outside.u)
  match cu, cv with
  | some a, none => (a.border, a.other)
  | none, some b => (b.other, b.border)
  | some a, some b => if a.num * b.den ≤ b.num * a.den then (a.border, a.other) else (b.other, b.border)
  | none, none => (outside.u, outside.v)

/-- R63: what is drawn between two ends. -/
def judgeEnds (p q : Option Pt) (w h : Nat) : Option Drawn :=
  match p, q with
  | some a, some b =>
    match a.inside w h, b.inside w h with
    | true, true => some ⟨a.u, a.v, b.u, b.v, .none⟩
    | true, false => let c := clipEnd a b w h; some ⟨a.u, a.v, c.1, c.2, .second⟩
    | false, true => let c := clipEnd b a w h; some ⟨c.1, c.2, b.u, b.v, .first⟩
    | false, false => none
  | _, _ => none

/-- R61: the band that contains a distance: the first band in use that reaches it. -/
def GuideInput.bandOf (i : GuideInput) (s : Nat) : Nat :=
  match (List.range i.bandCount).find? (fun n => decide (s ≤ i.band (n + 1))) with
  | some n => n + 1
  | none => i.bandCount

/-- R61: segment j joins points j and j + 1; its far end lies at 250·(j + 1). -/
def GuideInput.segment (i : GuideInput) (points : List (Option Pt)) (j : Nat) : GuideSegment :=
  ⟨i.colour (i.bandOf (250 * (j + 1))), judgeEnds (points.getD j none) (points.getD (j + 1) none) i.imageWidth i.imageHeight⟩

/-- R62: the crossbar of band n + 1, from the left point to the right point at its distance. -/
def GuideInput.crossbar (i : GuideInput) (left right : List (Option Pt)) (n : Nat) : Crossbar :=
  let d := i.band (n + 1)
  ⟨d, i.colour (n + 1), judgeEnds (left.getD (d / 250) none) (right.getD (d / 250) none) i.imageWidth i.imageHeight⟩

/-- The whole computation (R56 to R64). -/
def GuideInput.compute (i : GuideInput) : GuideSet :=
  let k := i.curvatureK
  let half : Int := ((i.width / 2 : Nat) : Int)
  let left := i.points k half
  let right := i.points k (-half)
  { input := i, curvature := k, leftPoints := left, rightPoints := right,
    leftSegments := (List.range (i.pointCount - 1)).map (i.segment left),
    rightSegments := (List.range (i.pointCount - 1)).map (i.segment right),
    crossbars := (List.range i.bandCount).map (i.crossbar left right) }

end Sys2Proof.Machine
end

