-- ==== Sys2Proof/Machine/Compositor.lean ====
section
/-! DEFINITION. The compositor's shared operations: effective sources, banners, the guide plane, output frames, and the
rows across standby and restarts (R97, R99, R100, R102 to R106, R109, R110, R113, R114). -/

namespace Sys2Proof.Machine

/-! ## Judgements -/

/-- Whether a source is a feed whose port is LOCKED (R103). -/
def State.sourceLocked (s : State) (src : Source) : Bool :=
  match src.feed with
  | none => false
  | some f => (s.port f).lock = .locked

/-- Whether a source is a feed whose port is not LOCKED (R106). -/
def State.sourceUnlocked (s : State) (src : Source) : Bool :=
  match src.feed with
  | none => false
  | some f => !decide ((s.port f).lock = .locked)

/-- R110: the front row's guide plane. -/
def State.judgeGuidePlane (s : State) : State :=
  { s with cmp := { s.cmp with guidePlane :=
      s.cmp.frontView = .picture && s.cmp.front.effective = .cam && s.cmp.front.cause = .reverse
      && (s.port .cam).lock = .locked && s.cmp.guideSet.isSome } }

/-- R102, R104: the front row's effective source is judged; a change of it or of its cause posts a ROUTE notice. R104 says both that
each change of the cause posts and that a route equal to the effective source posts none, and UIF routed in the place of a film that
the film lock hides is both: it changes the cause from FILM_LOCK to ROUTE, and it posts (DESIGN CHOICE, log entry 41). -/
def State.judgeFront (s : State) : State :=
  let d := frontSource s.rvcOff s.cmp.preview s.cmp.filmLock s.cmp.front.routed
  if s.cmp.front.effective = d.1 ∧ s.cmp.front.cause = d.2 then s
  else ((s.setFront { s.cmp.front with effective := d.1, cause := d.2 }).post 1 (.route d.1 d.2)).judgeGuidePlane

/-- R105: the front row's shown banner is decided. -/
def State.judgeFrontBanner (s : State) : State :=
  s.setFront { s.cmp.front with shown := frontBanner s.cmp.frontView s.rvcOff s.cmp.front.hostBanner }

/-- R106: a rear row's shown banner is decided. -/
def State.judgeRearBanner (s : State) (i : Seat) : State :=
  let r := s.rearRow i
  s.setRearRow i { r with shown := rearBanner ((s.link i).state = .streaming) (s.sourceUnlocked r.effective) r.hostBanner }

/-- R102, R104: a rear row's effective source is its routed source, with cause ROUTE. -/
def State.judgeRear (s : State) (i : Seat) : State :=
  let r := s.rearRow i
  if r.effective = r.routed ∧ r.cause = .route then s
  else
    ((s.setRearRow i { r with effective := r.routed, cause := .route }).post (outputNo (.ro i))
      (.route r.routed .route)).judgeRearBanner i

/-- R99: a pending route comes into effect: the routed source takes it. -/
def Row.takePending (r : Row) : Row :=
  match r.pending with
  | none => r
  | some src => { r with routed := src, pending := none }

def State.frontRouteTakesEffect (s : State) : State := (s.setFront s.cmp.front.takePending).judgeFront

def State.rearRouteTakesEffect (s : State) (i : Seat) : State := (s.setRearRow i (s.rearRow i).takePending).judgeRear i

/-- R100: the film lock is engaged or released; on a change the front row is judged again. -/
def State.setFilmLock (s : State) (engaged : Bool) : State :=
  if s.cmp.filmLock = engaged then s
  else ({ s with cmp := { s.cmp with filmLock := engaged } }).judgeFront

/-- R22, R103, R106, R110: the compositor receives a new lock state of a feed's port: the rear rows that show the feed decide
their banner, and the guide plane is judged for CAM. -/
def State.lockToCompositor (s : State) (f : Feed) : State :=
  let banner := fun (s : State) (i : Seat) => if (s.rearRow i).effective.feed = some f then s.judgeRearBanner i else s
  let s := banner (banner s .s1) .s2
  if f = .cam then s.judgeGuidePlane else s

/-! ## Output frames (R97) -/

/-- The size of the format that the port of a source holds (R109); none for BLACK. -/
def State.sourceSize (s : State) (src : Source) : Option (Nat × Nat) :=
  match src.feed with
  | none => none
  | some f => (s.port f).format.map (fun fmt => (fmt.width, fmt.height))

/-- R97, R109: a row reads its output size and rate and computes its display geometry. -/
def State.sized (s : State) (r : Row) (mode : Mode) : Row :=
  { r with size := mode, geometry := geometryOf (s.sourceSize r.effective) mode.width mode.height }

/-- The text of the shown banner, read from the working calibration at the frame start (R108). -/
def State.bannerText (s : State) (r : Row) : Option (List Nat) :=
  if r.shown = 0 then none else some (calBanner s.image r.shown)

/-- R103: the feed whose picture the source plane holds; none when it is drawn black. -/
def State.pictureOf (s : State) (r : Row) : Option Feed := if s.sourceLocked r.effective then r.effective.feed else none

/-- R105, Table 3-2: in the FAULT view the camera plane is drawn black, also while HELD keeps that view and CAM has become LOCKED again
(R40). R103, which shows the picture of a port that becomes LOCKED, is read as giving way there (DEDUCED, log entry 42). -/
def State.frontPicture (s : State) : Option Feed := if s.cmp.frontView = .fault then none else s.pictureOf s.cmp.front

/-- R97: the front output's frame, composed from the row as it stands. -/
def State.frontContent (s : State) : FrameContent :=
  let r := s.cmp.front
  { size := r.size, geometry := r.geometry, picture := s.frontPicture,
    guides := if s.cmp.guidePlane then s.cmp.guideSet else none, menu := none, banner := s.bannerText r }

/-- R136: the menu plane of a rear output, while the seat's menu is open. -/
def State.menuContent (s : State) (i : Seat) : Option MenuPicture :=
  let r := s.rearRow i
  match (s.ctx i).stack with
  | [] => none
  | e :: _ =>
    if s.cmp.menuPlane.get i then
      (findPage s.mnu.store e.page).map (fun p =>
        menuPicture p e (s.seat i).volume (s.seat i).offset r.size.width r.size.height)
    else none

def State.rearContent (s : State) (i : Seat) : FrameContent :=
  let r := s.rearRow i
  { size := r.size, geometry := r.geometry, picture := s.pictureOf r, guides := none,
    menu := s.menuContent i, banner := s.bannerText r }

/-- R97: a front output frame starts. -/
def State.frontFrame (s : State) : State :=
  let mode := calPanelMode s.image
  let s := s.frontRouteTakesEffect
  let s := s.setFront (s.sized s.cmp.front mode)
  s.setFront { s.cmp.front with frame := some s.frontContent, nextFrame := some (afterUs s.timebase (outputPeriod mode.refresh)) }

def Agreement.mode (a : Agreement) : Mode := ⟨a.width, a.height, a.refresh⟩

/-- R97: a rear output frame starts; its size and rate are those of the link's agreement. -/
def State.rearFrame (s : State) (i : Seat) : State :=
  match (s.link i).agreement with
  | none => s
  | some a =>
    let mode := a.mode
    let s := s.rearRouteTakesEffect i
    let s := s.setRearRow i (s.sized (s.rearRow i) mode)
    s.setRearRow i { s.rearRow i with
      frame := some (s.rearContent i), nextFrame := some (afterUs s.timebase (outputPeriod mode.refresh)) }

/-- OUTPUT_FRAME_START: the next frame of an output starts when its stamp is reached. -/
def State.outputFrame (s : State) : Output → State
  | .fro => if expired s.timebase s.cmp.front.nextFrame then s.frontFrame else s
  | .ro i => if expired s.timebase (s.rearRow i).nextFrame then s.rearFrame i else s

/-! ## Rows across the states of the part -/

/-- R97: the first front output frame starts one period after the event at which the part enters RUN. -/
def State.startFrontFrames (s : State) : State :=
  s.setFront { s.cmp.front with nextFrame := some (afterUs s.timebase (outputPeriod (calPanelMode s.image).refresh)) }

/-- R113: the rear row begins its output frames, with the first frame start on this event. -/
def State.startRear (s : State) (i : Seat) : State := (s.judgeRearBanner i).rearFrame i

/-- R113: the rear row stops: the frame in progress is cut off, a pending route comes into effect, the source and the
banner are judged again. -/
def State.stopRear (s : State) (i : Seat) : State :=
  ((s.setRearRow i { s.rearRow i with frame := none, nextFrame := none }).rearRouteTakesEffect i).judgeRearBanner i

/-- R114: entry to STANDBY, but for the camera power, which follows (R26): preview goes off, a pending front route comes
into effect, the front row is judged, and its frames stop. -/
def State.compositorStandby (s : State) : State :=
  let s := ({ s with cmp := { s.cmp with preview := false } }).frontRouteTakesEffect
  s.setFront { s.cmp.front with frame := none, nextFrame := none }

/-- R114: a row at a warm restart. -/
def Row.warm (r : Row) (route : Source) : Row := { r with routed := route, pending := none, hostBanner := false }

/-- R114: a warm restart. The rows' order is FRO, RO1, RO2 (DESIGN CHOICE, log entry 13). -/
def State.compositorWarm (s : State) : State :=
  let s := s.setFront (s.cmp.front.warm (calRoute s.image 1))
  let s := s.setRearRow .s1 ((s.rearRow .s1).warm (calRoute s.image 2))
  let s := s.setRearRow .s2 ((s.rearRow .s2).warm (calRoute s.image 3))
  let s := s.judgeFront.judgeFrontBanner
  let s := (s.judgeRear .s1).judgeRearBanner .s1
  (s.judgeRear .s2).judgeRearBanner .s2

/-! ## Chime FRONT and the audio of the zones stand in Audio.lean -/

/-- R83, R103: the video-present flag of a link's POLL. -/
def State.videoPresent (s : State) (i : Seat) : Bool := s.sourceLocked (s.rearRow i).effective

end Sys2Proof.Machine
end

