-- ==== Sys2Proof/Machine/Audio.lean ====
section
/-! DEFINITION. The audio of the three zones (R160, R161): the terms of each zone's mix with their gains, and one sample of
it. -/

namespace Sys2Proof.Machine

/-- The step a playing chime sounds at a moment, none between the tone of a park beep and the next beep (R152, R159). -/
def Chu.soundingStep (c : Chu) (now : Stamp) (p : Playing) : Option Step :=
  let st := (c.pattern p.chime.pattern).stepAt p.stepIndex
  if st.freq = 0 then none
  else if p.chime.origin = .park && reached now p.toneEnds then none
  else some st

/-- The step heard in the zones that satisfy `hears`: no two playing chimes share a zone (R152). -/
def Chu.heard (c : Chu) (now : Stamp) (hears : ZoneSet → Bool) : Option Step :=
  match c.voice1, c.voice2 with
  | some p, q =>
    if hears p.chime.zones then c.soundingStep now p
    else match q with
      | some p2 => if hears p2.chime.zones then c.soundingStep now p2 else none
      | none => none
  | none, some p2 => if hears p2.chime.zones then c.soundingStep now p2 else none
  | none, none => none

/-- A tone with its gain in decibels. -/
structure Tone where
  freq : Nat
  gain : Int
  deriving DecidableEq, Repr

/-- The film of a zone with its gain in decibels. -/
structure Film where
  feed : Feed
  gain : Int
  deriving DecidableEq, Repr

/-- The audio of a rear zone (R161): its film term, its chime term, and whether the link carries it. -/
structure ZoneMix where
  film : Option Film
  chime : Option Tone
  carried : Bool
  deriving DecidableEq, Repr

/-- R161: the film term: at v - 60 dB plus the duck gain; muted at v = 0, silent for BLACK or a port that is not LOCKED. -/
def State.filmTerm (s : State) (i : Seat) : Option Film :=
  let v := (s.seat i).volume
  if v = 0 then none
  else (s.pictureOf (s.rearRow i)).map (fun f => ⟨f, (v : Int) - 60 + (s.chu.duck.get i).gain⟩)

/-- R161: the chime term: at max(v, chime floor) - 60 dB less 2 dB for each unit of the step's level. -/
def State.chimeTerm (s : State) (i : Seat) : Option Tone :=
  (s.chu.heard s.timebase (·.hasRear i)).map (fun st =>
    ⟨st.freq, (max (s.seat i).volume (calChimeFloor s.image) : Nat) - 60 - 2 * st.level⟩)

def State.zoneMix (s : State) (i : Seat) : ZoneMix where
  film := s.filmTerm i
  chime := s.chimeTerm i
  carried := match (s.link i).agreement with
    | none => false
    | some a => decide ((s.link i).state = .streaming) && a.audio

/-- R161: CHIME_OUT carries the chimes of the FRONT zone, at the front chime level less 60 dB less 2 dB for each unit of
the step's level; a level of 0 silences it. -/
def State.chimeOut (s : State) : Option Tone :=
  if s.chu.frontLevel = 0 then none
  else (s.chu.heard s.timebase (·.front)).map (fun st => ⟨st.freq, (s.chu.frontLevel : Int) - 60 - 2 * st.level⟩)

/-- R161: a sum saturated to the 16-bit sample range. -/
def saturate16 (x : Int) : Int := clampInt (-32768) 32767 x

/-- The greatest number up to a bound that satisfies a test, 0 when none does. -/
def greatestUpTo (fits : Nat → Bool) : Nat → Nat
  | 0 => 0
  | n + 1 => if fits (n + 1) then n + 1 else greatestUpTo fits n

/-- R161: the magnitude `k` at most the magnitude `m` at a gain in decibels: k ≤ m · 10^(decibels / 20), in whole numbers. That 20 dB
stand for a factor of 10 is PRESUMED (log entry 43). -/
def withinGain (decibels : Int) (m k : Nat) : Bool := decide (k ^ 20 * 10 ^ (-decibels).toNat ≤ m ^ 20 * 10 ^ decibels.toNat)

/-- R161: a sample at a gain in decibels: the sign is kept, and a product that is no whole number is rounded to one of its two
neighbours, which of them is open (log entry 18). At 0 dB, full scale, it is the sample itself. -/
def atGain (decibels sample : Int) (away : Bool) : Int :=
  let m := sample.natAbs
  let k := greatestUpTo (withinGain decibels m) (m * 10 ^ decibels.toNat)
  let exact := decide (k ^ 20 * 10 ^ (-decibels).toNat = m ^ 20 * 10 ^ decibels.toNat)
  let size := if !exact && away then k + 1 else k
  if sample < 0 then -(size : Int) else size

/-- Sample number `n` of a zone's mix: the two terms, each at its gain, added, and the sum saturated (R161). -/
def ZoneMix.sample (m : ZoneMix) (n : Nat) : Int :=
  let film := m.film.map (fun f => (f.gain, (Config.filmSample f.feed n).toInt))
  let chime := m.chime.map (fun t => (t.gain, (Config.sineSample t.freq n).toInt))
  let term := fun (isFilm : Bool) (x : Option (Int × Int)) =>
    match x with
    | none => 0
    | some (gain, sample) => atGain gain sample (Config.roundsAway isFilm film chime n)
  saturate16 (term true film + term false chime)

end Sys2Proof.Machine
end

