-- ==== Sys2Proof/Machine/Guide.lean ====
section
/-! DEFINITION. The guide line engine: triggers, computations, the pending set and installation (R54, R56, R65 to R72),
and the replies of GUIDE QUERY. -/

namespace Sys2Proof.Machine

/-! ## Triggers and computations -/

/-- R56: the camera image size: the format the CAM port holds, or the calibration when it has held none since the cold
start. -/
def State.camImage (s : State) : Format :=
  match (s.port .cam).format with
  | some f => f
  | none => calCamFormat s.image

/-- R56, R66: the input set a computation that begins now latches. -/
def State.guideInput (s : State) : GuideInput where
  angle := if s.steeringFresh then some s.vin.steering else none
  curvature := (List.range 8).map (fun i => field s.image 11 (i + 1))
  width := fieldNat s.image 12 0
  bandCount := fieldNat s.image 13 0
  bandDistance := calBandDistances s.image
  bandColour := (List.range 4).map (fun i => colourOf (fieldNat s.image 15 (i + 1)))
  homography := (List.range 9).map (fun i => field s.image 16 i)
  imageWidth := s.camImage.width
  imageHeight := s.camImage.height

/-- R65: a trigger begins a computation when none is in flight, and otherwise sets the follow-up mark. -/
def State.guideTrigger (s : State) : State :=
  match s.gle.inFlight with
  | none => { s with gle := { s.gle with inFlight := some s.guideInput } }
  | some _ => { s with gle := { s.gle with followUp := true } }

/-- R54, R65: a trigger that counts in TRACKING alone. -/
def State.trackingTrigger (s : State) : State := if s.gle.mode = .tracking then s.guideTrigger else s

def Gle.installedType (g : Gle) : Option GuideType := g.installed.map (fun set => set.input.type)

/-- R68, R70: a pending set is installed: the set number counts, the compositor is handed the set, and a change of type
posts a GUIDE notice. Without a pending set nothing happens. -/
def State.install (s : State) : State :=
  match s.gle.pending with
  | none => s
  | some set =>
    let n := (s.gle.setNumber + 1) % 65536
    let typeChanged := !decide (s.gle.installedType = some set.input.type)
    let s := { s with gle := { s.gle with installed := some set, pending := none, setNumber := n },
                      cmp := { s.cmp with guideSet := some set } }
    let s := if typeChanged then s.post 0 (.guide n set.input.type) else s
    s.judgeGuidePlane

/-- R67: a computation completes: its set becomes pending; a marked follow-up begins at once; then installation is judged. -/
def State.computationDone (s : State) : State :=
  match s.gle.inFlight with
  | none => s
  | some inp =>
    let next := if s.gle.followUp then some s.guideInput else none
    let s := { s with gle := { s.gle with pending := some inp.compute, inFlight := next, followUp := false } }
    if s.gle.camLocked then s else s.install

/-- R69: the camera lock view follows the lock of CAM; a change to another state than LOCKED installs the pending set. -/
def State.lockToGuide (s : State) (locked : Bool) : State :=
  let s := { s with gle := { s.gle with camLocked := locked } }
  if locked then s else s.install

/-- R68: a CAM frame start handed over with the lock state of the port. -/
def State.frameToGuide (s : State) (lock : Lock) : State := if lock = .locked then s.install else s

/-- R54: the engine enters TRACKING, which is a trigger. -/
def State.guideTrack (s : State) : State := ({ s with gle := { s.gle with mode := .tracking } }).guideTrigger

/-- R54: the engine enters IDLE and clears its follow-up mark. -/
def State.guideIdle (s : State) : State := { s with gle := { s.gle with mode := .idle, followUp := false } }

/-! ## GUIDE QUERY (R71, R72, section 11.4) -/

def GuideMode.code : GuideMode → Nat
  | .idle => 0
  | .tracking => 1

def pointBytes : Option Pt → List Byte
  | none => u16 0 ++ u16 0 ++ u8 0
  | some p => i16 p.u ++ i16 p.v ++ u8 (1 + (if p.clamped then 2 else 0))

def drawnFlags : Option Drawn → List Byte
  | none => u8 0
  | some d => u8 (1 + 2 * d.clip.code)

def drawnEnds : Option Drawn → List Byte
  | none => u16 0 ++ u16 0 ++ u16 0 ++ u16 0
  | some d => i16 d.u1 ++ i16 d.v1 ++ i16 d.u2 ++ i16 d.v2

def segmentBytes (x : GuideSegment) : List Byte := drawnFlags x.drawn ++ u8 x.colour.code ++ drawnEnds x.drawn

def crossbarBytes (x : Crossbar) : List Byte := u16 x.distance ++ u8 x.colour.code ++ drawnFlags x.drawn ++ drawnEnds x.drawn

/-- Offsets 0 to 18 of section 0 (Table 11-7); all 0 when no set is installed. -/
def Gle.summarySet (g : Gle) : List Byte :=
  match g.installed with
  | none => List.replicate 19 0
  | some s =>
    u8 1 ++ u16 g.setNumber ++ u8 s.input.type.code ++ flag s.input.angle.isSome ++ i16 (s.input.angle.getD 0)
    ++ i32 s.curvature ++ u16 s.input.imageWidth ++ u16 s.input.imageHeight ++ u16 s.input.width
    ++ u8 s.input.bandCount ++ u8 s.input.pointCount

/-- Section 0 (Table 11-7); `outcome` is that of the compute flag. -/
def Gle.summary (g : Gle) (outcome : Nat) : List Byte :=
  g.summarySet ++ u8 g.mode.code ++ flag g.camLocked ++ flag g.inFlight.isSome ++ flag g.followUp ++ flag g.pending.isSome
  ++ u8 outcome

/-- The records of sections 1 to 5 (Table 11-8): how many, and their bytes. -/
def GuideSet.records (s : GuideSet) : Nat → Nat × List Byte
  | 1 => (s.leftPoints.length, s.leftPoints.flatMap pointBytes)
  | 2 => (s.rightPoints.length, s.rightPoints.flatMap pointBytes)
  | 3 => (s.leftSegments.length, s.leftSegments.flatMap segmentBytes)
  | 4 => (s.rightSegments.length, s.rightSegments.flatMap segmentBytes)
  | _ => (s.crossbars.length, s.crossbars.flatMap crossbarBytes)

/-- R72: a section of the installed set. -/
def Gle.sectionBytes (g : Gle) (n outcome : Nat) : List Byte :=
  if n = 0 then g.summary outcome
  else match g.installed with
    | none => u16 0 ++ u8 0
    | some s => let r := s.records n; u16 g.setNumber ++ u8 r.1 ++ r.2

/-- R71: the owner of GUIDE QUERY. The compute flag is a trigger in either mode; the reply reads the engine after it
(log entry 20). -/
def ownGuideQuery : Owner := fun p s =>
  if 5 < byteAt p 0 then (s, refuse .badValue)
  else if bitAt p 1 0 then
    let outcome := if s.gle.inFlight.isSome then 2 else 1
    let s' := s.guideTrigger
    (s', ok (s'.gle.sectionBytes (byteAt p 0) outcome))
  else (s, ok (s.gle.sectionBytes (byteAt p 0) 0))

/-- COMPUTATION_COMPLETE (R67). -/
def execComputationComplete (t : Stamp) (s : State) : Host.Outcome State Fault Refusal := s.happens t State.computationDone

/-- GUIDE_QUERY (R71). -/
def execGuideQuery (t : Stamp) (s : State) : Host.Outcome State Fault Refusal :=
  s.request t 0x28 (lengthIs 2) true ownGuideQuery

end Sys2Proof.Machine
end

