-- ==== Sys2Proof/Machine/Ports.lean ====
section
/-! DEFINITION. Feed ports: the handing of a lock state to the compositor and the guide line engine (R22), enabling and
disabling (R23, R27), camera power (R26). The reverse view controller's part of a handing stands in Reverse.lean: a port is
disabled only while the controller is OFF or the port is not CAM, and there the controller does not act (R40, R41). -/

namespace Sys2Proof.Machine

/-- R22: a port's lock state has changed: a FEED notice, then the handing to the compositor and, for CAM, to the guide line
engine. -/
def State.lockChanged (s : State) (f : Feed) (lock : Lock) : State :=
  let s := (s.post (feedNo f) (.feed lock s.timebase)).lockToCompositor f
  if f = .cam then s.lockToGuide (lock = .locked) else s

/-- R23: a port goes to NO_SIGNAL with its stamp, counts and watch cleared; a change of its lock state is handed on. -/
def State.clearPort (s : State) (f : Feed) (enabled : Bool) : State :=
  let p := s.port f
  let s := s.setPort f { p.cleared with enabled := enabled }
  if p.lock = .noSignal then s else s.lockChanged f .noSignal

/-- R23: a port is enabled in NO_SIGNAL and waits for its first frame start; CAM takes its format anew (R27). -/
def State.enablePort (s : State) (f : Feed) : State :=
  let p := { (s.port f).cleared with enabled := true }
  s.setPort f (if f = .cam then { p with format := some (calCamFormat s.image) } else p)

def State.disablePort (s : State) (f : Feed) : State := s.clearPort f false

/-- R26: camera power is judged; a change of it enables or disables the CAM port. -/
def State.judgeCameraPower (s : State) : State :=
  let want := !s.rvcOff || s.cmp.preview
  if want = s.fdp.camPower then s
  else
    let s := { s with fdp := { s.fdp with camPower := want } }
    if want then s.enablePort .cam else s.disablePort .cam

def State.enableFeeds (s : State) : State := ((s.enablePort .uif).enablePort .ff1).enablePort .ff2

/-- R23: entry to STANDBY; the ports' order is UIF, FF1, FF2 (DESIGN CHOICE, log entry 13). -/
def State.disableFeeds (s : State) : State := ((s.disablePort .uif).disablePort .ff1).disablePort .ff2

/-- R25: at a warm restart UIF, FF1 and FF2 are set to NO_SIGNAL, in this order (DESIGN CHOICE, log entry 13), and remain enabled
as they were. -/
def State.feedsWarm (s : State) : State :=
  let clear := fun (s : State) (f : Feed) => s.clearPort f (s.port f).enabled
  clear (clear (clear s .uif) .ff1) .ff2

end Sys2Proof.Machine
end

