-- ==== Sys2Proof/Machine/Seats.lean ====
section
/-! DEFINITION. Seat control (R138 to R148): the backlight target and its handing to the link (R86, R87, R145, R147), zone
volume and brightness, the release of a held key, and the owners of its requests. -/

namespace Sys2Proof.Machine

/-! ## The link's answer to a backlight value (R86, R87) -/

/-- R86: a command is appended at the tail; it takes the opposite of the command toggle, and the command toggle takes
its. -/
def Link.append (l : Link) (kind : CommandKind) : Link :=
  { l with queue := l.queue ++ [⟨kind, !l.commandToggle, 0⟩], commandToggle := !l.commandToggle }

def Command.isBacklight (c : Command) : Bool :=
  match c.kind with
  | .backlight _ => true
  | _ => false

/-- R87, cases 1 to 5. -/
def Link.takeBacklight (l : Link) (value : Nat) : Link × Handing :=
  if l.state ≠ .streaming then (l, .notStreaming)
  else match l.queue.find? (·.isBacklight) with
    | some c =>
      if c.tries = 0 then
        ({ l with queue := l.queue.map (fun q => if q.isBacklight then { q with kind := .backlight value } else q) }, .taken)
      else (l, .inFlight)
    | none => if l.queue.length < Config.linkQueueSize then (l.append (.backlight value), .taken) else (l, .full)

/-- R147: what seat control makes of the outcome. -/
def SeatRec.handed (r : SeatRec) (value : Nat) : Handing → SeatRec
  | .taken => { r with lastSent := some value, next := none }
  | .inFlight => { r with next := some value }
  | .full => { r with next := some value }
  | .notStreaming => { r with next := none }

/-- Seat control hands a value to the seat's link (R87, R147). -/
def State.handBacklight (s : State) (i : Seat) (value : Nat) : State :=
  let a := (s.link i).takeBacklight value
  (s.setLink i a.1).setSeat i ((s.seat i).handed value a.2)

/-- R147: the target is worth handing when there is no reference or it differs from it by 2 or more; the reference is the
next backlight when one is held, and otherwise the last backlight sent. -/
def SeatRec.worthHanding (r : SeatRec) : Bool :=
  match r.next.or r.lastSent with
  | none => true
  | some ref => decide (2 ≤ ((r.target : Int) - (ref : Int)).natAbs)

/-- R145, R147: the target is recomputed and judged for handing. -/
def State.recomputeTarget (s : State) (i : Seat) : State :=
  let r := s.seat i
  let r := { r with target := r.targetNow s.sct.dimmer }
  let s := s.setSeat i r
  if r.worthHanding then s.handBacklight i r.target else s

/-- R145: an ambient level handed over by the seat's link. -/
def State.takeAmbient (s : State) (i : Seat) (level : Option Nat) : State :=
  (s.setSeat i { s.seat i with ambient := level }).recomputeTarget i

/-- R145: a dimmer handed over by the vehicle intake, for both seats. -/
def State.takeDimmer (s : State) (level : Nat) : State :=
  (({ s with sct := { s.sct with dimmer := level } }).recomputeTarget .s1).recomputeTarget .s2

/-- R87, R147: the link has removed a command; a next backlight that is held is handed again. -/
def State.commandRemoved (s : State) (i : Seat) : State :=
  match (s.seat i).next with
  | none => s
  | some v => s.handBacklight i v

/-! ## Volume and brightness (R142 to R144) -/

def State.postLevel (s : State) (i : Seat) : State :=
  s.post (seatNo i) (.level (s.seat i).volume (s.seat i).offset)

/-- R142 step 1: whether a press continues the run. -/
def SeatRec.continues (r : SeatRec) (dir : Dir) (now : Stamp) (windowMs : Nat) : Bool :=
  match r.lastStamp with
  | none => false
  | some st => r.lastDir = some dir && decide ((now - st).toNat ≤ 1000 * windowMs)

/-- R142 step 2: the volume stops at 60 and at 0. -/
def movedVolume (v step : Nat) : Dir → Nat
  | .up => if 60 < v + step then 60 else v + step
  | .down => v - step

/-- R142 step 3: the step after a press (log entry 22). -/
def nextStep (step base cap : Nat) : Nat := if cap < base then base else if cap < step + 1 then cap else step + 1

/-- R142: a VOL_UP or VOL_DOWN press or repeat. -/
def State.volumePress (s : State) (i : Seat) (dir : Dir) : State :=
  let r := s.seat i
  let base := calBaseStep s.image
  let step := if r.continues dir s.timebase (calWindow s.image) then r.step else base
  let v := movedVolume r.volume step dir
  let s := s.setSeat i { r with volume := v, step := nextStep step base (calStepCap s.image), lastDir := some dir,
                                lastStamp := some s.timebase }
  if v = r.volume then s else s.postLevel i

/-- R144: the offset stops at +10 and at -10. -/
def movedOffset (o : Int) : Dir → Int
  | .up => if 10 ≤ o then o else o + 1
  | .down => if o ≤ -10 then o else o - 1

/-- R144: a BRIGHT_UP or BRIGHT_DOWN press or repeat. -/
def State.brightPress (s : State) (i : Seat) (dir : Dir) : State :=
  let r := s.seat i
  let o := movedOffset r.offset dir
  if o = r.offset then s
  else ((s.setSeat i { r with offset := o }).postLevel i).recomputeTarget i

/-! ## Release (R140) -/

/-- R140: the held key is released; `quiet` is the release that is part of a warm restart, which posts no notice. -/
def State.releaseKey (s : State) (i : Seat) (quiet : Bool) : State :=
  let r := s.seat i
  match r.held with
  | none => s
  | some k =>
    let s := s.setSeat i { r with held := none, repeatTimer := none, forwarded := false }
    if r.forwarded && !quiet then s.post (seatNo i) (.key k .release) else s

/-- R75, R140, R147: the link tells seat control, on its entry to RECOVERY or DETACHED and on LINK REOFFER. -/
def State.linkFellBack (s : State) (i : Seat) (quiet : Bool) : State :=
  let s := s.releaseKey i quiet
  s.setSeat i { s.seat i with next := none }

/-! ## Warm restart (R148) -/

/-- R148, before the links detach: the key is released without a notice, the step state returns to the base step, and both
backlight values become none. -/
def State.seatWarm (s : State) (i : Seat) : State :=
  let s := s.releaseKey i true
  s.setSeat i { s.seat i with step := calBaseStep s.image, lastDir := none, lastStamp := none, next := none, lastSent := none }

/-! ## Requests (R143, R146) -/

/-- R143: the owner of ZONE LEVEL SET. -/
def ownZoneLevelSet : Owner := fun p s =>
  match seatOf (byteAt p 0) with
  | none => (s, refuse .badValue)
  | some i =>
    let v := if 60 < byteAt p 1 then 60 else byteAt p 1
    let s' := if v = (s.seat i).volume then s else (s.setSeat i { s.seat i with volume := v }).postLevel i
    (s', ok (u8 (s'.seat i).volume ++ i8 (s'.seat i).offset))

/-- R146: the owner of BACKLIGHT POLICY SET. -/
def ownBacklightPolicySet : Owner := fun p s =>
  match seatOf (byteAt p 0) with
  | none => (s, refuse .badValue)
  | some i =>
    if 2 < byteAt p 1 then (s, refuse .badValue)
    else if 100 < byteAt p 2 then (s, refuse .badValue)
    else
      let s' := (s.setSeat i { s.seat i with policy := policyOf (byteAt p 1), threshold := byteAt p 2 }).recomputeTarget i
      (s', ok (u8 (s'.seat i).target))

/-- ZONE_LEVEL_SET (R143). -/
def execZoneLevelSet (t : Stamp) (s : State) : Host.Outcome State Fault Refusal :=
  s.request t 0x60 (lengthIs 2) false ownZoneLevelSet

/-- BACKLIGHT_POLICY_SET (R146). -/
def execBacklightPolicySet (t : Stamp) (s : State) : Host.Outcome State Fault Refusal :=
  s.request t 0x61 (lengthIs 3) false ownBacklightPolicySet

end Sys2Proof.Machine
end

