-- ==== Sys2Proof/Machine/Menus.lean ====
section
/-! DEFINITION. The menu engine (R115 to R137): opening, closing, keys in an open menu, and the page record of PAGE LOAD. -/

namespace Sys2Proof.Machine

/-! ## Opening and closing (R125, R126, R131, R132) -/

/-- R131: the idle timer is started or restarted with the menu timeout read now; 0 leaves it stopped. -/
def State.idleStart (s : State) : Option Stamp :=
  if calMenuTimeout s.image = 0 then none else some (afterMs s.timebase (1000 * calMenuTimeout s.image))

def State.restartIdle (s : State) (i : Seat) : State := s.setCtx i { s.ctx i with idle := s.idleStart }

def State.setMenuPlane (s : State) (i : Seat) (on : Bool) : State :=
  { s with cmp := { s.cmp with menuPlane := s.cmp.menuPlane.set i on } }

/-- R125, R126: the stack is set to a single new entry on a page, the idle timer is started and the menu plane turned on. -/
def State.openMenu (s : State) (i : Seat) (p : Page) : State :=
  (s.setCtx i ⟨[p.newEntry], s.idleStart⟩).setMenuPlane i true

/-- The close itself: the stack emptied, the idle timer stopped, the menu plane off (R132). -/
def State.emptyMenu (s : State) (i : Seat) : State := (s.setCtx i ⟨[], none⟩).setMenuPlane i false

/-- R132: a seat's menu closes; a close that is part of a warm restart posts no notice (`quiet`, R135). A closed menu stays
as it is. -/
def State.closeMenu (s : State) (i : Seat) (reason : CloseReason) (quiet : Bool) : State :=
  if (s.ctx i).isOpen then
    let s := s.emptyMenu i
    if quiet then s else s.post (seatNo i) (.menuClosed reason)
  else s

/-- R133: the seat's link has left STREAMING. -/
def State.screenLost (s : State) (i : Seat) (quiet : Bool) : State :=
  s.closeMenu i (if s.inRun then .screenLost else .standby) quiet

/-- R125, R126: the page a seat's root names, when it is present. -/
def State.rootPage (s : State) (i : Seat) : Option Page :=
  if s.mnu.root.get i = 0 then none else findPage s.mnu.store (s.mnu.root.get i)

/-! ## Consumed presses (R123) -/

def State.menuClick (s : State) (i : Seat) (pattern : Nat) : State := if calMenuClick s.image then s.click i pattern else s

/-- R123: a consumed press restarts the idle timer unless it closed the menu, and asks for the click, pattern 0, or the
refuse click, pattern 1. -/
def State.consumed (s : State) (i : Seat) (pattern : Nat) : State :=
  (if (s.ctx i).isOpen then s.restartIdle i else s).menuClick i pattern

/-! ## Keys in an open menu (R127 to R130) -/

/-- The top entry replaced by another. -/
def State.setTop (s : State) (i : Seat) (e : Entry) : State :=
  s.setCtx i { s.ctx i with stack := e :: (s.ctx i).stack.tail }

/-- R127: UP and DOWN. -/
def State.menuMove (s : State) (i : Seat) (p : Page) (e : Entry) (dir : Dir) : State :=
  match e.focus with
  | none => s
  | some f =>
    match (match dir with | .up => p.enabledBelow f | .down => p.enabledAbove f) with
    | none => s
    | some g => (s.setTop i (Entry.rewindow { e with focus := some g })).consumed i 0

/-- R130: the top entry is removed; the entry below is adjusted and shown, or the menu closes with reason BACK. -/
def State.menuPop (s : State) (i : Seat) : State :=
  match (s.ctx i).stack with
  | [] => s
  | [_] => (s.closeMenu i .back false).consumed i 0
  | _ :: below :: rest =>
    let e := match findPage s.mnu.store below.page with
      | some p => p.adjust below
      | none => below
    (s.setCtx i { s.ctx i with stack := e :: rest }).consumed i 0

/-- An item of a page in the store is replaced. -/
def setItem (store : List Page) (page n : Nat) (it : Item) : List Page :=
  store.map (fun p => if p.id = page then { p with items := p.items.set (n - 1) it } else p)

def State.setStore (s : State) (store : List Page) : State := { s with mnu := { s.mnu with store := store } }

def State.postChoice (s : State) (i : Seat) (page n : Nat) (a : MenuAction) (v : Nat) : State :=
  s.post (seatNo i) (.menuChoice page n a v)

/-- R128: OK on the focused item. -/
def State.menuOk (s : State) (i : Seat) (e : Entry) (n : Nat) (it : Item) : State :=
  match it.kind with
  | .openPage target =>
    match findPage s.mnu.store target with
    | some p =>
      if (s.ctx i).stack.length < Config.maxDepth then
        (s.setCtx i { s.ctx i with stack := p.newEntry :: (s.ctx i).stack }).consumed i 0
      else s.consumed i 1
    | none => s.consumed i 1
  | .report code => (s.postChoice i e.page n .report code).consumed i 0
  | .toggle on =>
    let s := s.setStore (setItem s.mnu.store e.page n { it with kind := .toggle (!on) })
    (s.postChoice i e.page n .toggle (if on then 0 else 1)).consumed i 0
  | .back => s.menuPop i
  | .slider _ _ _ => s
  | .volume => s
  | .brightness => s

/-- R129: a slider's value after a step, stopping at max and at 0. -/
def slid (value max step : Nat) : Dir → Nat
  | .up => if max < value + step then max else value + step
  | .down => value - step

/-- R129: LEFT (down) and RIGHT (up) on the focused item. -/
def State.menuSide (s : State) (i : Seat) (e : Entry) (n : Nat) (it : Item) (dir : Dir) : State :=
  match it.kind with
  | .slider value max step =>
    let v := slid value max step dir
    if v = value then s
    else
      let s := s.setStore (setItem s.mnu.store e.page n { it with kind := .slider v max step })
      (s.postChoice i e.page n .slider v).consumed i 0
  | .volume => (s.volumePress i dir).consumed i 0
  | .brightness => (s.brightPress i dir).consumed i 0
  | .openPage _ => s
  | .report _ => s
  | .toggle _ => s
  | .back => s

/-- The focused item of an entry, with its number. -/
def Page.focused (p : Page) (e : Entry) : Option (Nat × Item) :=
  match e.focus with
  | none => none
  | some n => (p.item n).map (fun it => (n, it))

/-- R127 to R130: a key press in an open menu. -/
def State.menuKey (s : State) (i : Seat) (k : Key) : State :=
  match (s.ctx i).stack with
  | [] => s
  | e :: _ =>
    match k with
    | .back => s.menuPop i
    | .menu => (s.closeMenu i .key false).consumed i 0
    | k =>
      match findPage s.mnu.store e.page with
      | none => s
      | some p =>
        match k, p.focused e with
        | .up, _ => s.menuMove i p e .up
        | .down, _ => s.menuMove i p e .down
        | .ok, some (n, it) => s.menuOk i e n it
        | .left, some (n, it) => s.menuSide i e n it .down
        | .right, some (n, it) => s.menuSide i e n it .up
        | _, _ => s

/-- R126: a MENU press in a closed context opens the root; none when the press is not taken. -/
def State.menuKeyOpen (s : State) (i : Seat) : Option State :=
  (s.rootPage i).map (fun p => (s.openMenu i p).consumed i 0)

/-! ## Adjustment after a change of a page (R124) -/

/-- R124: the top entry of a seat that shows the page is adjusted. -/
def State.adjustSeat (s : State) (p : Page) (i : Seat) : State :=
  match (s.ctx i).stack with
  | [] => s
  | e :: rest => if e.page = p.id then s.setCtx i { s.ctx i with stack := p.adjust e :: rest } else s

def State.adjustBoth (s : State) (p : Page) : State := (s.adjustSeat p .s1).adjustSeat p .s2

/-! ## The page record (Table 11-4, R116, R172) -/

/-- One item of a page record as its bytes stand. -/
structure RawItem where
  kind : Nat
  flags : Byte
  icon : Nat
  a : Nat
  b : Nat
  c : Nat
  label : List Nat
  deriving DecidableEq, Repr

structure RawPage where
  id : Nat
  title : List Nat
  items : List RawItem
  deriving DecidableEq, Repr

def numbers (bytes : List Byte) : List Nat := bytes.map (·.toNat)

/-- R172 step 3: one item is walked: 6 bytes, the label length, the label. -/
def walkItem (p : List Byte) : Option (RawItem × List Byte) :=
  match p with
  | kind :: flags :: icon :: a :: b :: c :: len :: rest =>
    if rest.length < len.toNat then none
    else some (⟨kind.toNat, flags, icon.toNat, a.toNat, b.toNat, c.toNat, numbers (rest.take len.toNat)⟩, rest.drop len.toNat)
  | _ => none

def walkItems : Nat → List Byte → Option (List RawItem × List Byte)
  | 0, p => some ([], p)
  | m + 1, p =>
    match walkItem p with
    | none => none
    | some (it, rest) => (walkItems m rest).map (fun r => (it :: r.1, r.2))

/-- R172: the record is walked with the lengths it declares; none when the walk fails or does not end at the last byte. -/
def walkPage (p : List Byte) : Option RawPage :=
  match p with
  | id :: t :: rest =>
    match rest.drop t.toNat with
    | m :: after =>
      match walkItems m.toNat after with
      | some (items, []) => some ⟨id.toNat, numbers (rest.take t.toNat), items⟩
      | _ => none
    | [] => none
  | _ => none

/-- R116: the kind of an item with the fields of its kind, when they are within their ranges. -/
def RawItem.kindOf (r : RawItem) : Option ItemKind :=
  match r.kind with
  | 1 => if 1 ≤ r.a ∧ r.a ≤ 63 then some (.openPage r.a) else none
  | 2 => some (.report r.a)
  | 3 => if r.a = 0 then some (.toggle false) else if r.a = 1 then some (.toggle true) else none
  | 4 => if 1 ≤ r.b ∧ r.b ≤ 100 ∧ 1 ≤ r.c ∧ r.c ≤ r.b ∧ r.a ≤ r.b then some (.slider r.a r.b r.c) else none
  | 5 => some .back
  | 6 => some .volume
  | 7 => some .brightness
  | _ => none

/-- R116, R171: an item whose fields pass; bit 0 of the flags enables it, bit 1 says whether the icon byte is used. -/
def RawItem.check (r : RawItem) : Option Item :=
  match r.kindOf with
  | none => none
  | some kind =>
    if 1 ≤ r.label.length ∧ r.label.length ≤ 24 then
      some ⟨kind, r.label, r.flags.getLsbD 0, if r.flags.getLsbD 1 then some r.icon else none⟩
    else none

def checkItems : List RawItem → Option (List Item)
  | [] => some []
  | r :: rest =>
    match r.check, checkItems rest with
    | some it, some its => some (it :: its)
    | _, _ => none

/-- R116: the page of a record whose fields pass. -/
def RawPage.check (r : RawPage) : Option Page :=
  if 1 ≤ r.id ∧ r.id ≤ 63 ∧ r.title.length ≤ 24 ∧ 1 ≤ r.items.length ∧ r.items.length ≤ 12 then
    (checkItems r.items).map (fun items => ⟨r.id, r.title, items⟩)
  else none

/-- R116: a new id adds a page; a present id replaces that page in place. -/
def putPage (store : List Page) (p : Page) : List Page :=
  if store.any (fun q => q.id = p.id) then store.map (fun q => if q.id = p.id then p else q) else store ++ [p]

/-- R116: whether the store has space for a page. -/
def hasSpace (store : List Page) (p : Page) : Bool :=
  match findPage store p.id with
  | none => decide (store.length < Config.maxPages) && decide (itemTotal store + p.items.length ≤ Config.maxItems)
  | some old => decide (itemTotal store - old.items.length + p.items.length ≤ Config.maxItems)

/-- The page count and the item count of the store (R116, R117), one byte each. A full store's 256 items do not fit a
byte, and the manual does not say what it then reads: a free value (log entry 37). -/
def storeCounts (store : List Page) : List Byte :=
  u8 store.length ++ [if itemTotal store < 256 then BitVec.ofNat 8 (itemTotal store) else Config.fullItemCount]

end Sys2Proof.Machine
end

