-- ==== Sys2Proof/Machine/MenuRequests.lean ====
section
/-! DEFINITION. The requests of the menu engine (R116 to R120, R125, R134, R137) and the expiry of its idle timer (R131). -/

namespace Sys2Proof.Machine

/-- R116: the owner of PAGE LOAD; the walk of R172 has passed as the length check. -/
def ownPageLoad : Owner := fun p s =>
  match (walkPage p).bind RawPage.check with
  | none => (s, refuse .badValue)
  | some page =>
    if hasSpace s.mnu.store page then
      let present := (findPage s.mnu.store page.id).isSome
      let s' := s.setStore (putPage s.mnu.store page)
      let s' := if present then s'.adjustBoth page else s'
      (s', ok (storeCounts s'.mnu.store))
    else (s, refuse .noSpace)

/-- R117: a seat whose stack holds a removed page closes. -/
def State.closeIfHolds (s : State) (id : Nat) (i : Seat) : State :=
  if (s.ctx i).stack.any (fun e => e.page = id) then s.closeMenu i .pageRemoved false else s

/-- R117: the owner of PAGE REMOVE. Seat 1 is examined before seat 2 (DESIGN CHOICE, log entry 13). -/
def ownPageRemove : Owner := fun p s =>
  let id := byteAt p 0
  if id = 0 ∨ 63 < id then (s, refuse .badValue)
  else match findPage s.mnu.store id with
    | none => (s, refuse .notFound)
    | some _ =>
      let s' := ((s.setStore (s.mnu.store.filter (fun q => !decide (q.id = id)))).closeIfHolds id .s1).closeIfHolds id .s2
      (s', ok (storeCounts s'.mnu.store))

/-- R118: the owner of PAGE CLEAR. Seat 1 closes before seat 2 (DESIGN CHOICE, log entry 13). -/
def ownPageClear : Owner := fun _ s =>
  (((s.setStore []).closeMenu .s1 .pageRemoved false).closeMenu .s2 .pageRemoved false, ok [])

/-- R119: the kind of an item after ITEM SET with a value byte, none when the value is refused. -/
def setKind (kind : ItemKind) (value : Nat) : Option ItemKind :=
  match kind with
  | .toggle _ => if value = 0 then some (.toggle false) else if value = 1 then some (.toggle true) else none
  | .slider _ max step => some (.slider (if max < value then max else value) max step)
  | k => some k

/-- R119: the value an item holds: the state of a TOGGLE, the value of a SLIDER, 0 otherwise. -/
def heldValue : ItemKind → Nat
  | .toggle on => if on then 1 else 0
  | .slider v _ _ => v
  | _ => 0

/-- R119, R124: an item takes its new fields; when its enabled flag changes, the seats that show the page are adjusted. -/
def State.changeItem (s : State) (page n : Nat) (old new : Item) : State :=
  let s := s.setStore (setItem s.mnu.store page n new)
  if old.enabled = new.enabled then s
  else match findPage s.mnu.store page with
    | none => s
    | some p => s.adjustBoth p

/-- R119: the owner of ITEM SET. -/
def ownItemSet : Owner := fun p s =>
  if 1 < byteAt p 2 then (s, refuse .badValue)
  else match findPage s.mnu.store (byteAt p 0) with
    | none => (s, refuse .notFound)
    | some page =>
      match page.item (byteAt p 1) with
      | none => (s, refuse .notFound)
      | some it =>
        match setKind it.kind (byteAt p 3) with
        | none => (s, refuse .badValue)
        | some kind =>
          (s.changeItem page.id (byteAt p 1) it { it with kind := kind, enabled := byteAt p 2 = 1 }, ok (u8 (heldValue kind)))

/-- R120: the owner of SEAT ROOT SET. -/
def ownSeatRootSet : Owner := fun p s =>
  match seatOf (byteAt p 0) with
  | none => (s, refuse .badValue)
  | some i =>
    if 63 < byteAt p 1 then (s, refuse .badValue)
    else ({ s with mnu := { s.mnu with root := s.mnu.root.set i (byteAt p 1) } }, ok [])

/-- R125: the page MENU OPEN names: the seat's root for 0. -/
def State.namedPage (s : State) (i : Seat) (id : Nat) : Option Page :=
  if id = 0 then s.rootPage i else findPage s.mnu.store id

/-- R125: the owner of MENU OPEN. -/
def ownMenuOpen : Owner := fun p s =>
  match seatOf (byteAt p 0) with
  | none => (s, refuse .badValue)
  | some i =>
    if 63 < byteAt p 1 then (s, refuse .badValue)
    else if (s.link i).state ≠ .streaming then (s, refuse .notNow)
    else match s.namedPage i (byteAt p 1) with
      | none => (s, refuse .notFound)
      | some page => (s.openMenu i page, ok [])

/-- R134: the owner of MENU CLOSE. -/
def ownMenuClose : Owner := fun p s =>
  match seatOf (byteAt p 0) with
  | none => (s, refuse .badValue)
  | some i => if (s.ctx i).isOpen then (s.closeMenu i .request false, ok []) else (s, refuse .notNow)

def entryBytes (e : Entry) : List Byte := u8 e.page ++ u8 (e.focus.getD 0) ++ u8 e.top

/-- Table 11-12; the entries stand from the bottom. -/
def State.menuStateBytes (s : State) (i : Seat) : List Byte :=
  let c := s.ctx i
  flag c.isOpen ++ u8 c.stack.length ++ u8 (s.mnu.root.get i) ++ flag (s.rootPage i).isSome
  ++ u16 (timeLeft s.timebase c.idle) ++ flag c.idle.isSome ++ u8 s.mnu.store.length ++ u16 (itemTotal s.mnu.store)
  ++ c.stack.reverse.flatMap entryBytes

/-- R137: the owner of MENU STATE. -/
def ownMenuState : Owner := fun p s =>
  match seatOf (byteAt p 0) with
  | none => (s, refuse .badValue)
  | some i => (s, ok (s.menuStateBytes i))

/-- R131: the idle timer of an open menu expires: it closes with reason TIMEOUT. -/
def State.idleExpired (s : State) (i : Seat) : State :=
  if expired s.timebase (s.ctx i).idle then s.closeMenu i .timeout false else s

/-- PAGE_LOAD (R116, R172). -/
def execPageLoad (t : Stamp) (s : State) : Host.Outcome State Fault Refusal :=
  s.request t 0x50 (fun p => (walkPage p).isSome) false ownPageLoad

/-- PAGE_REMOVE (R117). -/
def execPageRemove (t : Stamp) (s : State) : Host.Outcome State Fault Refusal :=
  s.request t 0x51 (lengthIs 1) false ownPageRemove

/-- PAGE_CLEAR (R118). -/
def execPageClear (t : Stamp) (s : State) : Host.Outcome State Fault Refusal :=
  s.request t 0x52 (lengthIs 0) false ownPageClear

/-- ITEM_SET (R119). -/
def execItemSet (t : Stamp) (s : State) : Host.Outcome State Fault Refusal :=
  s.request t 0x53 (lengthIs 4) false ownItemSet

/-- SEAT_ROOT_SET (R120). -/
def execSeatRootSet (t : Stamp) (s : State) : Host.Outcome State Fault Refusal :=
  s.request t 0x54 (lengthIs 2) false ownSeatRootSet

/-- MENU_OPEN (R125). -/
def execMenuOpen (t : Stamp) (s : State) : Host.Outcome State Fault Refusal :=
  s.request t 0x55 (lengthIs 2) false ownMenuOpen

/-- MENU_CLOSE (R134). -/
def execMenuClose (t : Stamp) (s : State) : Host.Outcome State Fault Refusal :=
  s.request t 0x56 (lengthIs 1) false ownMenuClose

/-- MENU_STATE (R137). -/
def execMenuState (t : Stamp) (s : State) : Host.Outcome State Fault Refusal :=
  s.request t 0x57 (lengthIs 1) false ownMenuState

/-- IDLE_TIMER_EXPIRY (R131). -/
def execIdleTimerExpiry (t : Stamp) (seat : Seat) (s : State) : Host.Outcome State Fault Refusal :=
  s.happens t (fun s => s.idleExpired seat)

end Sys2Proof.Machine
end

