-- ==== Sys2Proof/Machine/Keys.lean ====
section
/-! DEFINITION. Held keys, auto-repeat and where a key goes (R138, R139, R141). -/

namespace Sys2Proof.Machine

/-- R141: a press or repeat is forwarded to the host as a KEY notice. -/
def State.forwardKey (s : State) (i : Seat) (k : Key) (ev : KeyEvent) : State :=
  (s.post (seatNo i) (.key k ev)).setSeat i { s.seat i with forwarded := true }

/-- R141: a navigation key goes to the menu engine when the seat's context is OPEN and is forwarded when it is CLOSED. -/
def State.navigate (s : State) (i : Seat) (k : Key) (ev : KeyEvent) : State :=
  if (s.ctx i).isOpen then s.menuKey i k else s.forwardKey i k ev

/-- R141: MENU goes to the menu engine in either state; it is forwarded when the engine does not take it (R126). -/
def State.menuPress (s : State) (i : Seat) (ev : KeyEvent) : State :=
  if (s.ctx i).isOpen then s.menuKey i .menu
  else match s.menuKeyOpen i with
    | some s' => s'
    | none => s.forwardKey i .menu ev

/-- R141: a press or repeat is dispatched by its key. -/
def State.dispatchKey (s : State) (i : Seat) (k : Key) (ev : KeyEvent) : State :=
  match k with
  | .up => s.navigate i .up ev
  | .down => s.navigate i .down ev
  | .left => s.navigate i .left ev
  | .right => s.navigate i .right ev
  | .ok => s.navigate i .ok ev
  | .back => s.navigate i .back ev
  | .menu => s.menuPress i ev
  | .volUp => s.volumePress i .up
  | .volDown => s.volumePress i .down
  | .brightUp => s.brightPress i .up
  | .brightDown => s.brightPress i .down
  | .playPause => s.forwardKey i .playPause ev
  | .next => s.forwardKey i .next ev
  | .previous => s.forwardKey i .previous ev

/-- R138: the pressed key becomes the held key; another key that is held is released first. -/
def State.holdKey (s : State) (i : Seat) (k : Key) : State :=
  if (s.seat i).held = some k then s
  else
    let s := s.releaseKey i false
    s.setSeat i { s.seat i with held := some k, forwarded := false }

/-- R138, R139: a PRESS. -/
def State.keyPress (s : State) (i : Seat) (k : Key) : State :=
  let s := (s.holdKey i k).dispatchKey i k .press
  let timer := if k.repeatable then some (afterMs s.timebase (calRepeatDelay s.image)) else none
  s.setSeat i { s.seat i with repeatTimer := timer }

/-- R138: a RELEASE of the held key releases it; any other is ignored. -/
def State.keyRelease (s : State) (i : Seat) (k : Key) : State :=
  if (s.seat i).held = some k then s.releaseKey i false else s

/-- R139: at the expiry of the repeat timer the held key is dispatched once more, and the timer starts again. -/
def State.keyRepeat (s : State) (i : Seat) : State :=
  if expired s.timebase (s.seat i).repeatTimer then
    match (s.seat i).held with
    | none => s
    | some k =>
      let s := s.dispatchKey i k .repeat
      s.setSeat i { s.seat i with repeatTimer := some (afterMs s.timebase (calRepeatPeriod s.image)) }
  else s

/-- R85: one key event of a report: a key code and an event code; one that names neither is dropped. -/
def State.keyEvent (s : State) (i : Seat) (key event : Nat) : State :=
  match keyOf key with
  | none => s
  | some k => if event = 1 then s.keyPress i k else if event = 2 then s.keyRelease i k else s

/-- REPEAT_TIMER_EXPIRY (R139). -/
def execRepeatTimerExpiry (t : Stamp) (seat : Seat) (s : State) : Host.Outcome State Fault Refusal :=
  s.happens t (fun s => s.keyRepeat seat)

end Sys2Proof.Machine
end

