-- ==== Sys2Proof/Machine/Links.lean ====
section
/-! DEFINITION. The rear screen links: messages, bring-up, polling, recovery, detach and re-offer (R74 to R92, R96). -/

namespace Sys2Proof.Machine

/-! ## Messages (R74, Table 11-9) -/

def msgHail : List Byte := message 0x01 []

def msgClaim (index : Nat) : List Byte := message 0x02 (u8 index)

def msgReset : List Byte := message 0x04 []

def Link.send (l : Link) (m : List Byte) : Link := { l with outbox := l.outbox ++ [m] }

/-- The command kind and value bytes 1 to 3 of a POLL (Table 11-9). -/
def CommandKind.pollBytes : CommandKind → List Byte
  | .backlight v => u8 1 ++ u8 v ++ [0, 0]
  | .panelPower on => u8 2 ++ flag on ++ [0, 0]
  | .raw code b1 b2 => u8 3 ++ [code, b1, b2]

def bit (b : Bool) (weight : Nat) : Nat := if b then weight else 0

/-- R83: the body of a POLL: the head command's toggle, kind and value, or the link's command toggle with kind NONE. -/
def pollBody (l : Link) (video : Bool) : List Byte :=
  let toggle := match l.queue with
    | [] => l.commandToggle
    | c :: _ => c.toggle
  let command := match l.queue with
    | [] => [0, 0, 0, 0]
    | c :: _ => c.kind.pollBytes
  let audio := match l.agreement with
    | none => false
    | some a => a.audio
  u8 (bit toggle 1 + bit l.keyAck 2 + bit audio 4 + bit video 8) ++ command

/-- R83: the head command's try count is increased by 1. -/
def Link.countTry (l : Link) : Link :=
  match l.queue with
  | [] => l
  | c :: rest => { l with queue := { c with tries := c.tries + 1 } :: rest }

/-- R83: a POLL is sent, status since poll becomes no, and the poll timer starts for 10 ms. -/
def Link.poll (l : Link) (now : Stamp) (video : Bool) : Link :=
  { (l.countTry).send (message 0x03 (pollBody l video)) with statusSincePoll := false, pollTimer := some (afterMs now 10) }

/-! ## Changes of state (R75) -/

/-- R75: the LINK notice of a change of state. -/
def State.postLink (s : State) (i : Seat) : State :=
  s.post (seatNo i) (.link (s.link i).state (s.link i).reason)

/-- R89 steps 1 and 3 to 5: what every fall-back clears in the link record. -/
def Link.cleared (l : Link) : Link :=
  { l with agreement := none, claimed := none, hailTimer := none, claimTimer := none, pollTimer := none, queue := [],
           commandToggle := false, keyAck := false, misses := 0, statusSincePoll := false, partnerLocked := false,
           ambient := none }

/-- R75, R89 step 5: what a fall-back of a link that held `before` hands to the neighbours: the ambient level NONE, and,
after an exit from STREAMING, the stop of the rear row and the loss of the screen; then the release of the held key. -/
def State.fellBack (s : State) (i : Seat) (before : Link) (quiet : Bool) : State :=
  let s := if before.ambient.isSome then s.takeAmbient i none else s
  let s := if before.state = .streaming then (s.stopRear i).screenLost i quiet else s
  s.linkFellBack i quiet

/-- R89: entry to RECOVERY. -/
def State.enterRecovery (s : State) (i : Seat) (reason : LinkReason) : State :=
  let l := s.link i
  let l' := { l.cleared.send msgReset with state := .recovery, reason := reason,
                                           holdOffTimer := some (afterMs s.timebase 200) }
  ((s.setLink i l').postLink i).fellBack i l false

/-- R91: the record of a detached link. -/
def Link.detached (l : Link) (reason : LinkReason) : Link :=
  { l.cleared with state := .detached, reason := reason, holdOffTimer := none, offers := [], descriptor := none, readPos := 0 }

/-- R91: entry to DETACHED; `quiet` when it is part of a warm restart. A detached link stays as it is. -/
def State.detach (s : State) (i : Seat) (reason : LinkReason) (quiet : Bool) : State :=
  let l := s.link i
  if l.state = .detached then s
  else ((s.setLink i (l.detached reason)).postLink i).fellBack i l quiet

/-- R77: the record of a link on entry to HAILING: the first HAIL is sent and the hail timer runs for 20 ms. -/
def Link.hailing (l : Link) (now : Stamp) : Link :=
  { l.send msgHail with state := .hailing, offers := [], descriptor := none, claimed := none, readPos := 0, hailCount := 1,
                        hailTimer := some (afterMs now 20), holdOffTimer := none }

/-- R77: entry to HAILING from DETACHED or RECOVERY. -/
def State.enterHailing (s : State) (i : Seat) : State := (s.setLink i ((s.link i).hailing s.timebase)).postLink i

/-- R76: a link in DETACHED enters HAILING when the part is in RUN, the partner is present and the settle timer is
stopped. -/
def State.judgeHailing (s : State) (i : Seat) : State :=
  let l := s.link i
  if l.state = .detached ∧ s.inRun ∧ l.present ∧ l.settleTimer.isNone then s.enterHailing i else s

/-- R92: LINK REOFFER: the record is cleared and the link enters HAILING at once. -/
def State.reoffer (s : State) (i : Seat) : State :=
  let l := s.link i
  ((s.setLink i (l.cleared.hailing s.timebase)).postLink i).fellBack i l false

/-! ## Selection (R79, R82, R93) -/

/-- Table 5-5. -/
def Cable.budget : Cable → Nat
  | .a => 80000000
  | .b => 150000000
  | .c => 300000000

def Offer.rate (o : Offer) : Nat := o.width * o.height * o.refresh

/-- R79: whether an offer is a candidate. -/
def Link.admits (l : Link) (o : Offer) : Bool :=
  !o.rejected && decide (o.rate ≤ l.cable.budget) && decide (o.width ≤ l.inForce.width)
  && decide (o.height ≤ l.inForce.height) && decide (o.refresh ≤ l.inForce.refresh)

/-- R79: the candidate with the largest pixel rate, the lowest index among equals; offers are numbered from `n`. -/
def Link.best (l : Link) : List Offer → Nat → Option (Nat × Offer) → Option (Nat × Offer)
  | [], _, found => found
  | o :: rest, n, found =>
    let better := match found with
      | none => true
      | some f => decide (f.2.rate < o.rate)
    l.best rest (n + 1) (if l.admits o && better then some (n, o) else found)

def Link.choose (l : Link) : Option Nat := (l.best l.offers 1 none).map (·.1)

/-- R79, R82: selection: the class is read, the best candidate is claimed, or the link enters NO_MODE. -/
def State.select (s : State) (i : Seat) : State :=
  let l := { s.link i with cable := calCable s.image i }
  match l.choose with
  | some n => s.setLink i { l.send (msgClaim n) with claimed := some n, claimTimer := some (afterMs s.timebase 100) }
  | none => (s.setLink i { l with claimed := none, claimTimer := none, state := .noMode }).postLink i

/-- R79, R93: entry to CLAIMING: the in-force policy is set from the staged policy, and selection takes place. -/
def State.enterClaiming (s : State) (i : Seat) : State :=
  let l := s.link i
  let policy := match l.staged with
    | some p => p
    | none => calSeatPolicy s.image
  (((s.setLink i { l with state := .claiming, hailTimer := none, inForce := policy }).postLink i)).select i

/-! ## OFFERS (R78) -/

/-- The offer that stands at an offset of an OFFERS body (Table 11-9), when its fields are within their ranges. -/
def offerAt (body : List Byte) (k : Nat) : Option Offer :=
  let w := u16At body k
  let h := u16At body (k + 2)
  let r := byteAt body (k + 4)
  let a := byteAt body (k + 5)
  if 160 ≤ w ∧ w ≤ 3840 ∧ 120 ≤ h ∧ h ≤ 2160 ∧ 24 ≤ r ∧ r ≤ 60 ∧ a ≤ 1 then some ⟨w, h, r, a = 1, false⟩ else none

def offersFrom (body : List Byte) : Nat → Nat → Option (List Offer)
  | 0, _ => some []
  | c + 1, k =>
    match offerAt body k, offersFrom body c (k + 6) with
    | some o, some os => some (o :: os)
    | _, _ => none

/-- R78: the offers and the descriptor of a good message; none of a bad one. -/
def parseOffers (body : List Byte) : Option (List Offer × List Byte) :=
  let c := byteAt body 0
  let d := byteAt body (1 + 6 * c)
  if c = 0 ∨ 6 < c ∨ 128 < d ∨ body.length ≠ 2 + 6 * c + d then none
  else (offersFrom body c 1).map (fun os => (os, body.drop (2 + 6 * c)))

/-- R74: an OFFERS body of 2 to 166 bytes suits its kind. -/
def offersSuits (body : List Byte) : Bool := decide (2 ≤ body.length) && decide (body.length ≤ 166)

/-- R78: an OFFERS message, taken in HAILING alone (R74). -/
def State.takeOffers (s : State) (i : Seat) (body : List Byte) : State :=
  if offersSuits body ∧ (s.link i).state = .hailing then
    match parseOffers body with
    | none => s.enterRecovery i .badOffers
    | some (os, d) =>
      (s.setLink i { s.link i with offers := os, descriptor := some d, readPos := 0 }).enterClaiming i
  else s

/-! ## ACCEPT and REJECT (R80, R81) -/

/-- R78: the first four bytes of the descriptor, high byte first, when it holds four bytes or more, and 0 otherwise. -/
def partnerId (descriptor : Option (List Byte)) : Nat :=
  match descriptor with
  | none => 0
  | some d => if 4 ≤ d.length then u32At d 0 else 0

/-- R80: the agreement formed from the claimed offer. -/
def Link.agree (l : Link) : Option Agreement :=
  match l.claimed with
  | none => none
  | some n => (l.offers[n - 1]?).map (fun o => ⟨n, o.width, o.height, o.refresh, o.audio, partnerId l.descriptor⟩)

/-- R81 step 3, R147: the backlight target as it stands is appended without the comparison, and becomes the last backlight
sent. -/
def State.sendTarget (s : State) (i : Seat) : State :=
  let v := (s.seat i).target
  (s.setLink i ((s.link i).append (.backlight v))).setSeat i { s.seat i with lastSent := some v, next := none }

/-- R81: entry to STREAMING with an agreement. -/
def State.enterStreaming (s : State) (i : Seat) (a : Agreement) : State :=
  let l := s.link i
  let s := (s.setLink i { l with state := .streaming, agreement := some a, claimTimer := none }).postLink i
  let l := s.link i
  let s := s.setLink i ({ l with misses := 0, statusSincePoll := false, partnerLocked := false }.append (.panelPower true))
  let s := s.sendTarget i
  let s := s.setLink i ((s.link i).poll s.timebase (s.videoPresent i))
  s.startRear i

/-- R80: an ACCEPT, taken in CLAIMING alone (R74). -/
def State.takeAccept (s : State) (i : Seat) : State :=
  if (s.link i).state = .claiming then
    match (s.link i).agree with
    | none => s
    | some a => s.enterStreaming i a
  else s

/-- R80: the claimed offer is marked rejected. -/
def Link.rejectClaimed (l : Link) : Link :=
  match l.claimed with
  | none => l
  | some n => { l with offers := l.offers.modify (n - 1) (fun o => { o with rejected := true }) }

/-- R80: a REJECT, taken in CLAIMING alone (R74): the offer is marked and selection runs again. -/
def State.takeReject (s : State) (i : Seat) : State :=
  if (s.link i).state = .claiming then
    (s.setLink i { (s.link i).rejectClaimed with claimTimer := none }).select i
  else s

/-! ## STATUS (R84, R85) -/

/-- R74: a STATUS body holds 3 + 2e bytes for an event count e of at most 4. -/
def statusSuits (body : List Byte) : Bool :=
  decide (3 ≤ body.length) && decide (byteAt body 2 ≤ 4) && decide (body.length = 3 + 2 * byteAt body 2)

/-- R84: the ambient level: 0 to 100, or NONE for 0xFF; a level above 100 is clamped. -/
def ambientOf (b : Nat) : Option Nat := if b = 255 then none else if 100 < b then some 100 else some b

/-- R84: whether a command-ack toggle acknowledges the head command. -/
def Link.acknowledges (l : Link) (ack : Bool) : Bool :=
  match l.queue with
  | [] => false
  | c :: _ => decide (0 < c.tries) && c.toggle = ack

/-- R84, acknowledgement: the head command leaves the queue, and seat control is told. -/
def State.takeAck (s : State) (i : Seat) (ack : Bool) : State :=
  if (s.link i).acknowledges ack then
    (s.setLink i { s.link i with queue := (s.link i).queue.tail }).commandRemoved i
  else s

/-- R84, ambient level: a new level is handed to seat control. -/
def State.takeAmbientLevel (s : State) (i : Seat) (level : Option Nat) : State :=
  if (s.link i).ambient = level then s
  else (s.setLink i { s.link i with ambient := level }).takeAmbient i level

/-- R85: the key events of a report, in order. -/
def State.keyEvents (s : State) (i : Seat) (body : List Byte) : Nat → Nat → State
  | 0, _ => s
  | e + 1, k => (s.keyEvent i (byteAt body k) (byteAt body (k + 1))).keyEvents i body e (k + 2)

/-- R85: a report whose toggle differs from the key-ack toggle is new. -/
def State.takeReport (s : State) (i : Seat) (body : List Byte) : State :=
  let toggle := bitAt body 0 2
  if toggle = (s.link i).keyAck then s
  else (s.setLink i { s.link i with keyAck := toggle }).keyEvents i body (byteAt body 2) 3

/-- R84: a STATUS, taken in STREAMING alone (R74). -/
def State.takeStatus (s : State) (i : Seat) (body : List Byte) : State :=
  if statusSuits body ∧ (s.link i).state = .streaming then
    let s := s.setLink i { s.link i with misses := 0, statusSincePoll := true }
    let s := s.takeAck i (bitAt body 0 0)
    let s := s.setLink i { s.link i with partnerLocked := bitAt body 0 1 }
    let s := s.takeAmbientLevel i (ambientOf (byteAt body 1))
    s.takeReport i body
  else s

/-! ## RESET and bad messages (R74, R90) -/

/-- R74, R90: a partner RESET is taken in HAILING, CLAIMING, STREAMING and NO_MODE. -/
def LinkState.takesReset : LinkState → Bool
  | .detached => false
  | .hailing => true
  | .claiming => true
  | .streaming => true
  | .noMode => true
  | .recovery => false

def State.takeReset (s : State) (i : Seat) (reason : LinkReason) : State :=
  if (s.link i).state.takesReset then s.enterRecovery i reason else s

/-- R74: a message as its bytes arrive: its kind and body when its length byte and its check fit. -/
def openMessage (m : List Byte) : Option (Byte × List Byte) :=
  match m with
  | kind :: len :: rest =>
    let body := rest.take len.toNat
    if rest.length = len.toNat + 2 ∧ rest.drop len.toNat = u16 (crc16 (kind :: len :: body)).toNat then some (kind, body) else none
  | _ => none

/-- R74: whether a message's check, kind and length all pass. -/
def messagePasses (m : List Byte) : Bool :=
  match openMessage m with
  | none => false
  | some (kind, body) =>
    (kind = 0x81 && offersSuits body) || (kind = 0x82 && body.isEmpty) || (kind = 0x83 && body.isEmpty)
    || (kind = 0x84 && statusSuits body) || (kind = 0x85 && body.isEmpty)

/-- R74: the bytes of a message arrive. One whose check fails, whose kind is unknown or whose length does not suit its kind
is discarded; a message that passes is taken as its kind (log entry 29). -/
def State.takeMessage (s : State) (i : Seat) (m : List Byte) : State :=
  if messagePasses m then
    match openMessage m with
    | none => s
    | some (kind, body) =>
      if kind = 0x81 then s.takeOffers i body
      else if kind = 0x82 then s.takeAccept i
      else if kind = 0x83 then s.takeReject i
      else if kind = 0x84 then s.takeStatus i body
      else s.takeReset i .partnerRequest
  else s

/-! ## Timers (R77, R80, R83, R89, R96) -/

/-- R77: the hail timer expires. -/
def State.hailExpired (s : State) (i : Seat) : State :=
  let l := s.link i
  if l.state = .hailing ∧ expired s.timebase l.hailTimer then
    if l.hailCount < 5 then
      s.setLink i { l.send msgHail with hailCount := l.hailCount + 1, hailTimer := some (afterMs s.timebase 20) }
    else s.enterRecovery i .noAnswer
  else s

/-- R80: the claim timer expires. -/
def State.claimExpired (s : State) (i : Seat) : State :=
  let l := s.link i
  if l.state = .claiming ∧ expired s.timebase l.claimTimer then s.enterRecovery i .noAnswer else s

/-- R83: whether the head command has been sent in as many POLLs as the try limit. -/
def Link.triesSpent (l : Link) (limit : Nat) : Bool :=
  match l.queue with
  | [] => false
  | c :: _ => decide (limit ≤ c.tries)

/-- R83: the poll timer expires: a miss is counted, the try limit is judged, and the next POLL is sent. -/
def State.pollExpired (s : State) (i : Seat) : State :=
  let l := s.link i
  if l.state = .streaming ∧ expired s.timebase l.pollTimer then
    let misses := if l.statusSincePoll then l.misses else l.misses + 1
    let s := s.setLink i { l with misses := misses }
    if 3 ≤ misses then s.enterRecovery i .keepaliveLost
    else if l.triesSpent (calTryLimit s.image) then s.enterRecovery i .commandRetries
    else s.setLink i ((s.link i).poll s.timebase (s.videoPresent i))
  else s

/-- R89: the hold-off timer expires in RECOVERY. -/
def State.holdOffExpired (s : State) (i : Seat) : State :=
  let l := s.link i
  if l.state = .recovery ∧ expired s.timebase l.holdOffTimer then s.enterHailing i else s

/-- R96: the settle timer expires, and R76 is judged. -/
def State.settleExpired (s : State) (i : Seat) : State :=
  if expired s.timebase (s.link i).settleTimer then
    (s.setLink i { s.link i with settleTimer := none }).judgeHailing i
  else s

/-! ## Presence (R76, R91) -/

def State.setPresent (s : State) (i : Seat) (present : Bool) : State := s.setLink i { s.link i with present := present }

def State.presenceGained (s : State) (i : Seat) : State := (s.setPresent i true).judgeHailing i

def State.presenceLost (s : State) (i : Seat) : State := (s.setPresent i false).detach i .detached false

/-! ## Warm restart (R96) -/

/-- R96: a link at a warm restart: a RESET when the partner is present, DETACHED with HOST_REQUEST, staged source
CALIBRATION, the settle timer for 200 ms. -/
def State.linkWarm (s : State) (i : Seat) : State :=
  let l := s.link i
  let l := if l.present then l.send msgReset else l
  let s := s.setLink i { l with staged := none, settleTimer := some (afterMs s.timebase 200) }
  s.detach i .hostRequest true

end Sys2Proof.Machine
end

