-- ==== Sys2Proof/Machine/LinkRequests.lean ====
section
/-! DEFINITION. The requests of the rear screen links (R88, R90, R92 to R95) and the commands that come from a partner, a
timer of a link or the presence of a partner (R74 to R91, R96). -/

namespace Sys2Proof.Machine

/-! ## Requests -/

/-- R93: the owner of LINK POLICY SET. -/
def ownLinkPolicySet : Owner := fun p s =>
  match seatOf (byteAt p 0) with
  | none => (s, refuse .badValue)
  | some i =>
    let w := u16At p 1
    let h := u16At p 3
    let r := byteAt p 5
    if w < 160 ∨ 3840 < w then (s, refuse .badValue)
    else if h < 120 ∨ 2160 < h then (s, refuse .badValue)
    else if r < 24 ∨ 60 < r then (s, refuse .badValue)
    else (s.setLink i { s.link i with staged := some ⟨w, h, r⟩ }, ok [])

/-- R92: the states in which LINK REOFFER is taken. -/
def LinkState.takesReoffer : LinkState → Bool
  | .detached => false
  | .hailing => false
  | .claiming => true
  | .streaming => true
  | .noMode => true
  | .recovery => false

/-- R92: the owner of LINK REOFFER. -/
def ownLinkReoffer : Owner := fun p s =>
  match seatOf (byteAt p 0) with
  | none => (s, refuse .badValue)
  | some i => if (s.link i).state.takesReoffer then (s.reoffer i, ok []) else (s, refuse .notNow)

/-- R90: the owner of LINK RESTART. -/
def ownLinkRestart : Owner := fun p s =>
  match seatOf (byteAt p 0) with
  | none => (s, refuse .badValue)
  | some i =>
    if (s.link i).state.takesReset then (s.enterRecovery i .hostRequest, ok []) else (s, refuse .notNow)

/-- R88 steps 2 and 3: the command a payload names; none when the kind or the value is refused. -/
def hostCommand (p : List Byte) : Option CommandKind :=
  if byteAt p 1 = 2 then
    if byteAt p 2 = 0 then some (.panelPower false)
    else if byteAt p 2 = 1 then some (.panelPower true)
    else none
  else if byteAt p 1 = 3 then
    if byteAt p 2 < 0x80 ∨ 0xFE < byteAt p 2 then none else some (.raw (p.getD 2 0) (p.getD 3 0) (p.getD 4 0))
  else none

/-- R88: the owner of LINK COMMAND. -/
def ownLinkCommand : Owner := fun p s =>
  match seatOf (byteAt p 0) with
  | none => (s, refuse .badValue)
  | some i =>
    match hostCommand p with
    | none => (s, refuse .badValue)
    | some kind =>
      let l := s.link i
      if l.state ≠ .streaming then (s, refuse .notNow)
      else if Config.linkQueueSize ≤ l.queue.length then (s, refuse .queueFull)
      else (s.setLink i (l.append kind), ok (u8 (l.queue.length + 1)))

/-- Offsets 6 to 17 of Table 11-11. -/
def agreementBytes : Option Agreement → List Byte
  | none => List.replicate 12 0
  | some a => u8 1 ++ u8 a.index ++ u16 a.width ++ u16 a.height ++ u8 a.refresh ++ flag a.audio ++ u32 a.partnerId

def Mode.bytes (m : Mode) : List Byte := u16 m.width ++ u16 m.height ++ u8 m.refresh

def CommandKind.code : CommandKind → Nat
  | .backlight _ => 1
  | .panelPower _ => 2
  | .raw _ _ _ => 3

/-- Offsets 31 and 32 of Table 11-11. -/
def headCommandBytes : List Command → List Byte
  | [] => [0, 0]
  | c :: _ => u8 c.kind.code ++ u8 c.tries

def offerBytes (o : Offer) : List Byte := u16 o.width ++ u16 o.height ++ u8 o.refresh ++ flag o.audio ++ flag o.rejected

def descriptorLength (d : Option (List Byte)) : Nat :=
  match d with
  | none => 0
  | some bytes => bytes.length

/-- R95, Tables 5-7 and 11-11. With staged source CALIBRATION the staged policy reads the working calibration. -/
def State.linkStatusBytes (s : State) (i : Seat) : List Byte :=
  let l := s.link i
  u8 l.state.code ++ u8 l.reason.code ++ flag l.present ++ u8 (descriptorLength l.descriptor) ++ u8 l.readPos
  ++ u8 (l.claimed.getD 0) ++ agreementBytes l.agreement ++ u8 l.cable.code ++ l.inForce.bytes
  ++ (l.staged.getD (calSeatPolicy s.image)).bytes ++ flag l.staged.isSome ++ u8 l.queue.length
  ++ headCommandBytes l.queue ++ flag l.commandToggle ++ flag l.keyAck ++ u8 l.misses ++ flag l.partnerLocked
  ++ u8 (l.ambient.getD 255) ++ u8 l.offers.length ++ l.offers.flatMap offerBytes

/-- R95: the owner of LINK STATUS. -/
def ownLinkStatus : Owner := fun p s =>
  match seatOf (byteAt p 0) with
  | none => (s, refuse .badValue)
  | some i => (s, ok (s.linkStatusBytes i))

/-- R94, Table 11-10: the piece of a descriptor that starts at `start`, at most 32 bytes. -/
def descriptorPiece (d : List Byte) (start : Nat) : List Byte := (d.drop start).take 32

/-- R94: a descriptor is read from `start`: the read position moves behind the piece, and the final flag is set when the
piece ends the descriptor. -/
def State.readDescriptor (s : State) (i : Seat) (start : Nat) : State × Reply :=
  match (s.link i).descriptor with
  | none => (s, refuse .notNow)
  | some d =>
    let piece := descriptorPiece d start
    let next := start + piece.length
    (s.setLink i { s.link i with readPos := next }, ok (flag (decide (d.length ≤ next)) ++ u8 piece.length ++ piece))

/-- R94: the owner of DESCRIPTOR READ START. -/
def ownDescriptorReadStart : Owner := fun p s =>
  match seatOf (byteAt p 0) with
  | none => (s, refuse .badValue)
  | some i => s.readDescriptor i 0

/-- R94: the owner of DESCRIPTOR READ CONTINUE. -/
def ownDescriptorReadContinue : Owner := fun p s =>
  match seatOf (byteAt p 0) with
  | none => (s, refuse .badValue)
  | some i => s.readDescriptor i (s.link i).readPos

/-- LINK_POLICY_SET (R93). -/
def execLinkPolicySet (t : Stamp) (s : State) : Host.Outcome State Fault Refusal :=
  s.request t 0x30 (lengthIs 6) false ownLinkPolicySet

/-- LINK_REOFFER (R92). -/
def execLinkReoffer (t : Stamp) (s : State) : Host.Outcome State Fault Refusal :=
  s.request t 0x31 (lengthIs 1) false ownLinkReoffer

/-- LINK_RESTART (R90). -/
def execLinkRestart (t : Stamp) (s : State) : Host.Outcome State Fault Refusal :=
  s.request t 0x32 (lengthIs 1) false ownLinkRestart

/-- LINK_COMMAND (R88). -/
def execLinkCommand (t : Stamp) (s : State) : Host.Outcome State Fault Refusal :=
  s.request t 0x33 (lengthIs 5) false ownLinkCommand

/-- LINK_STATUS (R95). -/
def execLinkStatus (t : Stamp) (s : State) : Host.Outcome State Fault Refusal :=
  s.request t 0x34 (lengthIs 1) false ownLinkStatus

/-- DESCRIPTOR_READ_START (R94). -/
def execDescriptorReadStart (t : Stamp) (s : State) : Host.Outcome State Fault Refusal :=
  s.request t 0x35 (lengthIs 1) false ownDescriptorReadStart

/-- DESCRIPTOR_READ_CONTINUE (R94). -/
def execDescriptorReadContinue (t : Stamp) (s : State) : Host.Outcome State Fault Refusal :=
  s.request t 0x36 (lengthIs 1) false ownDescriptorReadContinue

/-! ## Messages, timers and presence -/

/-- BAD_LINK_MESSAGE (R74). -/
def execBadLinkMessage (t : Stamp) (link : Seat) (message : List Byte) (s : State) : Host.Outcome State Fault Refusal :=
  s.happens t (fun s => s.takeMessage link message)

/-- OFFERS (R78). -/
def execOffers (t : Stamp) (link : Seat) (body : List Byte) (s : State) : Host.Outcome State Fault Refusal :=
  s.happens t (fun s => s.takeOffers link body)

/-- ACCEPT (R80). -/
def execAccept (t : Stamp) (link : Seat) (s : State) : Host.Outcome State Fault Refusal :=
  s.happens t (fun s => s.takeAccept link)

/-- REJECT (R80). -/
def execReject (t : Stamp) (link : Seat) (s : State) : Host.Outcome State Fault Refusal :=
  s.happens t (fun s => s.takeReject link)

/-- STATUS (R84, R85). -/
def execStatus (t : Stamp) (link : Seat) (body : List Byte) (s : State) : Host.Outcome State Fault Refusal :=
  s.happens t (fun s => s.takeStatus link body)

/-- PARTNER_RESET (R90). -/
def execPartnerReset (t : Stamp) (link : Seat) (s : State) : Host.Outcome State Fault Refusal :=
  s.happens t (fun s => s.takeReset link .partnerRequest)

/-- HAIL_TIMER_EXPIRY (R77). -/
def execHailTimerExpiry (t : Stamp) (link : Seat) (s : State) : Host.Outcome State Fault Refusal :=
  s.happens t (fun s => s.hailExpired link)

/-- CLAIM_TIMER_EXPIRY (R80). -/
def execClaimTimerExpiry (t : Stamp) (link : Seat) (s : State) : Host.Outcome State Fault Refusal :=
  s.happens t (fun s => s.claimExpired link)

/-- POLL_TIMER_EXPIRY (R83). -/
def execPollTimerExpiry (t : Stamp) (link : Seat) (s : State) : Host.Outcome State Fault Refusal :=
  s.happens t (fun s => s.pollExpired link)

/-- HOLD_OFF_TIMER_EXPIRY (R89). -/
def execHoldOffTimerExpiry (t : Stamp) (link : Seat) (s : State) : Host.Outcome State Fault Refusal :=
  s.happens t (fun s => s.holdOffExpired link)

/-- SETTLE_TIMER_EXPIRY (R96). -/
def execSettleTimerExpiry (t : Stamp) (link : Seat) (s : State) : Host.Outcome State Fault Refusal :=
  s.happens t (fun s => s.settleExpired link)

/-- An event on a pin that the part reads at all times: the level is recorded whatever the phase, and the blocks act on it
once the part runs (R30, R96, R170; log entries 4 and 12). -/
def State.pinEvent (s : State) (t : Stamp) (record act : State → State) : Host.Outcome State Fault Refusal :=
  if s.phase = .running then s.happens t act else .next (record (s.atTime t))

/-- PRESENCE_GAINED (R76). -/
def execPresenceGained (t : Stamp) (link : Seat) (s : State) : Host.Outcome State Fault Refusal :=
  s.pinEvent t (fun s => s.setPresent link true) (fun s => s.presenceGained link)

/-- PRESENCE_LOST (R91). -/
def execPresenceLost (t : Stamp) (link : Seat) (s : State) : Host.Outcome State Fault Refusal :=
  s.pinEvent t (fun s => s.setPresent link false) (fun s => s.presenceLost link)

end Sys2Proof.Machine
end

