-- ==== Sys2Proof/Machine/Reverse.lean ====
section
/-! DEFINITION. The reverse view controller (R36 to R53): its changes of state, the handing to its neighbours, its timers and
its two requests. -/

namespace Sys2Proof.Machine

/-! ## A change of state (R36) -/

/-- What a change sets in the controller's record (R36, first step). -/
structure RvcChange where
  state : RvcState
  reason : RvcReason
  heldView : HeldView
  cueDeadline : Option Stamp
  holdTimer : Option Stamp
  deriving DecidableEq, Repr

def Rvc.changed (r : Rvc) (c : RvcChange) : Rvc :=
  { r with state := c.state, reason := c.reason, heldView := c.heldView, cueDeadline := c.cueDeadline,
           holdTimer := c.holdTimer }

/-- R49: the stamp of the latest edge. Without an edge, which does not arise, the stamp reads 0. -/
def Rvc.edgeStamp (r : Rvc) : Stamp :=
  match r.latestEdge with
  | some .reverse => r.reverseStamp.getD 0
  | some .notReverse => r.notReverseStamp.getD 0
  | none => 0

/-- R49: the REVERSE notice of the controller as it stands. -/
def Rvc.notice (r : Rvc) : NoticeBody := .reverse r.state r.reason r.heldView r.edgeStamp

/-- R36, R102, R105, R110: the compositor receives the front view and, when the controller has left or entered OFF
(`crossed`), takes or gives back the front row; on leaving OFF it turns preview off. -/
def State.reverseToCompositor (s : State) (crossed : Bool) : State :=
  let preview := s.cmp.preview && (!crossed || s.rvcOff)
  let s := { s with cmp := { s.cmp with frontView := frontViewOf s.rvc.state s.rvc.heldView, preview := preview } }
  (if crossed then s.judgeFront else s).judgeFrontBanner.judgeGuidePlane

/-- R36, R54: the guide line engine is told to compute when the controller has left OFF and to stop when it has entered
it. -/
def State.reverseToGuide (s : State) (crossed : Bool) : State :=
  if crossed then (if s.rvcOff then s.guideIdle else s.guideTrack) else s

/-- R42: the chime that a change from one state to another asks for. -/
def State.reverseChime (s : State) (before after : RvcState) : State :=
  match before, after with
  | .off, .live => s.engageChime
  | .cueing, .live => s.engageChime
  | .cueing, .fault => s.faultChime
  | .live, .fault => s.faultChime
  | _, _ => s

/-- R36: a change of the controller's state: the record is set, the fault chime is cancelled on an exit from FAULT (R42,
R43), one REVERSE notice is posted, and the neighbours take the change. Their order among themselves, which R36 leaves open,
is compositor, feed ports, guide line engine, chime unit (DESIGN CHOICE, log entry 13); the chime unit judges the park beep
before it takes the chime asked for (R158). -/
def State.changeRvc (s : State) (c : RvcChange) : State :=
  let before := s.rvc.state
  let crossed := !decide (decide (before = .off) = decide (c.state = .off))
  let s := { s with rvc := s.rvc.changed c }
  let s := if before = .fault then s.cancelFaultChime else s
  let s := s.post 0 s.rvc.notice
  let s := (s.reverseToCompositor crossed).judgeCameraPower.reverseToGuide crossed
  let s := if crossed then s.judgePark else s
  s.reverseChime before c.state

/-! ## Entries to the states -/

def State.enterCueing (s : State) : State :=
  s.changeRvc ⟨.cueing, .gearReverse, .none, some (afterMs s.timebase (calCueDeadline s.image)), none⟩

def State.enterLive (s : State) (reason : RvcReason) : State := s.changeRvc ⟨.live, reason, .none, none, none⟩

def State.enterFault (s : State) (reason : RvcReason) : State := s.changeRvc ⟨.fault, reason, .none, none, none⟩

def State.enterHeld (s : State) (heldView : HeldView) : State :=
  s.changeRvc ⟨.held, .gearReleased, heldView, none, some (afterMs s.timebase (calHoldTime s.image))⟩

def State.enterOff (s : State) (reason : RvcReason) : State := s.changeRvc ⟨.off, reason, .none, none, none⟩

/-! ## Confirmed levels (R37, R38, R43, R46) -/

/-- R37: the edge stamp of a confirmed level is recorded before the controller acts on it. -/
def Rvc.record (r : Rvc) (level : Gear) (edge : Stamp) : Rvc :=
  match level with
  | .reverse => { r with reverseStamp := some edge, latestEdge := some .reverse }
  | .notReverse => { r with notReverseStamp := some edge, latestEdge := some .notReverse }

/-- R38, R46: a confirmed REVERSE in OFF or HELD enters LIVE when CAM is LOCKED and CUEING otherwise. -/
def State.confirmedReverse (s : State) : State :=
  let engage := if (s.port .cam).lock = .locked then s.enterLive .gearReverse else s.enterCueing
  match s.rvc.state with
  | .off => engage
  | .held => engage
  | .cueing => s
  | .live => s
  | .fault => s

/-- R43, R45: whether the speed held is fresh and at or above the exit speed. -/
def State.exitSpeedReached (s : State) : Bool := s.speedFresh && decide (calExitSpeed s.image ≤ s.vin.speed)

/-- R43: LIVE or FAULT is left on a confirmed NOT_REVERSE. -/
def State.release (s : State) (heldView : HeldView) : State :=
  if calHoldTime s.image = 0 then s.enterOff .gearReleased
  else if s.exitSpeedReached then s.enterOff .speedExit
  else s.enterHeld heldView

/-- R43: a confirmed NOT_REVERSE. -/
def State.confirmedNotReverse (s : State) : State :=
  match s.rvc.state with
  | .cueing => s.enterOff .gearReleased
  | .live => s.release .camera
  | .fault => s.release .fault
  | .off => s
  | .held => s

/-- R37: the vehicle intake hands over a confirmed level with its edge stamp. -/
def State.takeLevel (s : State) (level : Gear) (edge : Stamp) : State :=
  let s := { s with rvc := s.rvc.record level edge }
  match level with
  | .reverse => s.confirmedReverse
  | .notReverse => s.confirmedNotReverse

/-! ## Camera lock, timers and speed (R39 to R41, R44, R45) -/

/-- R40: CAM has become LOCKED. -/
def State.camLocked (s : State) : State :=
  match s.rvc.state with
  | .cueing => s.enterLive .pictureUp
  | .fault => s.enterLive .pictureUp
  | .off => s
  | .live => s
  | .held => s

/-- R41: CAM has left LOCKED. -/
def State.camLeft (s : State) : State := if s.rvc.state = .live then s.enterFault .pictureLost else s

/-- R39: the cue deadline expires. -/
def State.cueExpired (s : State) : State :=
  if s.rvc.state = .cueing ∧ expired s.timebase s.rvc.cueDeadline then s.enterFault .noPicture else s

/-- R44: the hold timer expires. -/
def State.holdExpired (s : State) : State :=
  if s.rvc.state = .held ∧ expired s.timebase s.rvc.holdTimer then s.enterOff .holdExpired else s

/-- R45: a fresh speed is handed over. -/
def State.freshSpeed (s : State) : State :=
  if s.rvc.state = .held ∧ s.exitSpeedReached then s.enterOff .speedExit else s

/-! ## Requests (R47, R50) -/

/-- R47: the owner of REVERSE DISMISS. -/
def ownReverseDismiss : Owner := fun _ s =>
  if s.rvc.state = .held then (s.enterOff .dismissed, ok []) else (s, refuse .notNow)

/-- Table 3-6: which of the two stamps are present. -/
def Rvc.stampsPresent (r : Rvc) : Nat :=
  (if r.reverseStamp.isSome then 1 else 0) + (if r.notReverseStamp.isSome then 2 else 0)

/-- R50: the timer of the present state: its code and the timer. -/
def Rvc.timer (r : Rvc) : Nat × Option Stamp :=
  match r.state with
  | .cueing => (1, r.cueDeadline)
  | .held => (2, r.holdTimer)
  | .off => (0, none)
  | .live => (0, none)
  | .fault => (0, none)

/-- Table 3-6. -/
def State.reverseStatusBytes (s : State) : List Byte :=
  let r := s.rvc
  u8 r.state.code ++ u8 r.reason.code ++ u8 r.heldView.code ++ u8 s.vin.gear.code ++ u8 r.stampsPresent
  ++ u32 (r.reverseStamp.getD 0).toNat ++ u32 (r.notReverseStamp.getD 0).toNat ++ u8 r.timer.1
  ++ u16 (timeLeft s.timebase r.timer.2) ++ flag s.gle.installed.isSome ++ u16 s.gle.setNumber
  ++ u8 (r.faultChime.getD 0)

/-- R50: the owner of REVERSE STATUS. -/
def ownReverseStatus : Owner := fun _ s => (s, ok s.reverseStatusBytes)

/-- CUE_DEADLINE_EXPIRY (R39). -/
def execCueDeadlineExpiry (t : Stamp) (s : State) : Host.Outcome State Fault Refusal := s.happens t State.cueExpired

/-- HOLD_TIMER_EXPIRY (R44). -/
def execHoldTimerExpiry (t : Stamp) (s : State) : Host.Outcome State Fault Refusal := s.happens t State.holdExpired

/-- REVERSE_DISMISS (R47). -/
def execReverseDismiss (t : Stamp) (s : State) : Host.Outcome State Fault Refusal :=
  s.request t 0x21 (lengthIs 0) false ownReverseDismiss

/-- REVERSE_STATUS (R50). -/
def execReverseStatus (t : Stamp) (s : State) : Host.Outcome State Fault Refusal :=
  s.request t 0x20 (lengthIs 0) true ownReverseStatus

end Sys2Proof.Machine
end

