-- ==== Sys2Proof/Machine/Modes.lean ====
section
/-! DEFINITION. Changes of part mode (R7, R8, R9), the gear line (R28, R29) and the point at which the part enters its start
mode (R170). -/

namespace Sys2Proof.Machine

/-! ## Part mode (R7) -/

def State.setMode (s : State) (m : PartMode) : State := { s with cli := { s.cli with mode := m } }

def State.postMode (s : State) (cause : ModeCause) : State := s.post 0 (.mode s.cli.mode cause)

/-- R7: entry to STANDBY: the mode is set before the blocks take its effects (R133), and the MODE notice follows them (R8).
The blocks' order is links, menus, seats, chimes, compositor, camera power, ports (DESIGN CHOICE, log entry 13). -/
def State.enterStandby (s : State) : State :=
  let s := s.setMode .standby
  let s := (s.detach .s1 .detached false).detach .s2 .detached false
  let s := (s.closeMenu .s1 .standby false).closeMenu .s2 .standby false
  let s := (s.releaseKey .s1 false).releaseKey .s2 false
  let s := s.chimesStandby.compositorStandby.judgeCameraPower.disableFeeds
  s.postMode .request

/-- R7, R23, R76, R97: what the blocks do on entry to RUN: the ports are enabled, the links judge the presence of their
partners, and the front output's frames begin. -/
def State.runEffects (s : State) : State := ((s.enableFeeds.judgeHailing .s1).judgeHailing .s2).startFrontFrames

/-- R7: entry to RUN; the MODE notice follows the blocks' effects (R8, R9). -/
def State.enterRun (s : State) (cause : ModeCause) : State := ((s.setMode .run).runEffects).postMode cause

/-! ## The gear line (R28 to R30) -/

def levelOf (raw : Bool) : Gear := if raw then .reverse else .notReverse

/-- A candidate begins at this moment, with the debounce time read now (R28). -/
def State.newCandidate (s : State) (level : Gear) : GearCandidate :=
  ⟨level, s.timebase, afterMs s.timebase (calDebounce s.image)⟩

def State.setGear (s : State) (raw : Bool) (gear : Gear) (candidate : Option GearCandidate) : State :=
  { s with vin := { s.vin with gearRaw := raw, gear := gear, candidate := candidate } }

/-- R28: a raw edge cancels the candidate that exists, and otherwise begins one for the new level. A change to the level
that is already confirmed, which no edge of a watched line is, begins none. -/
def State.gearEdge (s : State) (raw : Bool) : State :=
  if raw = s.vin.gearRaw then s
  else match s.vin.candidate with
    | some _ => s.setGear raw s.vin.gear none
    | none => s.setGear raw s.vin.gear (if levelOf raw = s.vin.gear then none else some (s.newCandidate (levelOf raw)))

/-- R9: a confirmed REVERSE in STANDBY puts the part into RUN before the controller acts. -/
def State.reverseWake (s : State) (level : Gear) : State :=
  if level = .reverse ∧ s.cli.mode = .standby then s.enterRun .reverseWake else s

/-- R29: the candidate's debounce timer expires: its level is confirmed and handed to the controller. -/
def State.debounceExpired (s : State) : State :=
  match s.vin.candidate with
  | none => s
  | some c =>
    if reached s.timebase c.expiry then
      ((s.setGear s.vin.gearRaw c.level none).reverseWake c.level).takeLevel c.level c.edge
    else s

/-- R30: the gear line is watched from here: the confirmed level is NOT_REVERSE, and a high raw level begins a candidate. -/
def State.watchGear (s : State) : State :=
  s.setGear s.vin.gearRaw .notReverse (if s.vin.gearRaw then some (s.newCandidate .reverse) else none)

/-! ## The start mode (R170) -/

/-- R170, "end of load": the map is loaded and START posted (R17, R18), the gear line watched (R30), the links sense presence
(R96), and in RUN the ports are enabled and the front output begins (R25, R97). No MODE notice is posted: the part mode is set
here, not changed (R7). -/
def State.startMode (s : State) : State :=
  let s := { s with phase := .running,
                    cli := { s.cli with mode := calStartMode s.image, lineMap := calLineMap s.image } }
  let s := (s.post 0 (.start s.cli.startCause.notice)).watchGear
  if s.inRun then s.runEffects else s

/-! ## Requests -/

/-- R8: the owner of MODE SET. -/
def ownModeSet : Owner := fun p s =>
  if 1 < byteAt p 0 then (s, refuse .badValue)
  else if byteAt p 0 = s.cli.mode.code then (s, ok [])
  else if byteAt p 0 = 0 then (s.enterRun .request, ok [])
  else if s.rvcOff then (s.enterStandby, ok [])
  else (s, refuse .refusedReverse)

/-- MODE_SET (R8). -/
def execModeSet (t : Stamp) (s : State) : Host.Outcome State Fault Refusal := s.request t 0x02 (lengthIs 1) true ownModeSet

/-- GEAR_EDGE (R28). Before the gear line is watched the level is followed and no edge is taken (R30). -/
def execGearEdge (t : Stamp) (high : Bool) (s : State) : Host.Outcome State Fault Refusal :=
  s.pinEvent t (fun s => { s with vin := { s.vin with gearRaw := high } }) (fun s => s.gearEdge high)

/-- GEAR_DEBOUNCE_EXPIRY (R29). -/
def execGearDebounceExpiry (t : Stamp) (s : State) : Host.Outcome State Fault Refusal := s.happens t State.debounceExpired

/-- START_MODE_ENTRY (R170): the calibration load has ended. It arises while the part loads, and in no other phase. -/
def execStartModeEntry (t : Stamp) (s : State) : Host.Outcome State Fault Refusal :=
  if s.phase = .loading then .next (s.atTime t).startMode.settle else .next (s.atTime t)

end Sys2Proof.Machine
end

