-- ==== Sys2Proof/Machine/Feeds.lean ====
section
/-! DEFINITION. The lock machine of the feed ports (R19 to R22) and FEED FORMAT (R24). -/

namespace Sys2Proof.Machine

/-- R22, R40, R41: a port's lock state has become `after`: it is handed on, and for CAM the controller is told when it
becomes LOCKED and when it leaves LOCKED. The blocks' order, which R22 leaves open, is compositor, guide line engine,
controller (DESIGN CHOICE, log entry 13): a GUIDE notice of a set installed on the loss of the lock stands ahead of the REVERSE
notice. -/
def State.handLock (s : State) (f : Feed) (before after : Lock) : State :=
  if before = after then s
  else
    let s := s.lockChanged f after
    if f ≠ .cam then s
    else if after = .locked then s.camLocked
    else if before = .locked then s.camLeft
    else s

/-- R19: the judgement of the period that ends at a frame start; none when the port has no last stamp. -/
def Port.periodGood (p : Port) (now : Stamp) : Option Bool :=
  p.lastStamp.map (fun st => goodPeriod (nominalPeriod p.format) (now - st).toNat)

/-- R21: the expiry of a frame watch that starts now: 3 nominal periods later. -/
def Port.watchFrom (p : Port) (now : Stamp) : Option Stamp := some (afterUs now (3 * nominalPeriod p.format))

/-- R19, R20, R21: the record of an enabled port after a frame start. -/
def Port.framed (p : Port) (now : Stamp) : Port :=
  let q := { p with lastStamp := some now, watch := p.watchFrom now }
  match p.lock, p.periodGood now with
  | .noSignal, _ => { q with lock := .acquiring, good := 0, bad := 0 }
  | .lost, _ => { q with lock := .acquiring, good := 0, bad := 0 }
  | .acquiring, some true =>
    if 4 ≤ p.good + 1 then { q with lock := .locked, good := p.good + 1, bad := 0 } else { q with good := p.good + 1 }
  | .acquiring, some false => { q with good := 0 }
  | .locked, some true => { q with bad := 0 }
  | .locked, some false =>
    if 3 ≤ p.bad + 1 then { q with lock := .acquiring, good := 0, bad := p.bad + 1 } else { q with bad := p.bad + 1 }
  | .acquiring, none => q
  | .locked, none => q

/-- R19 to R22: a frame start at a port; a disabled port does not take it. -/
def State.frameStart (s : State) (f : Feed) : State :=
  let p := s.port f
  if p.enabled then
    let q := p.framed s.timebase
    let s := (s.setPort f q).handLock f p.lock q.lock
    if f = .cam then s.frameToGuide q.lock else s
  else s

/-- R21: where the expiry of the frame watch takes a lock state. -/
def Lock.afterWatch : Lock → Lock
  | .locked => .lost
  | .acquiring => .noSignal
  | .noSignal => .noSignal
  | .lost => .lost

/-- R21: the frame watch of a port expires. -/
def State.frameWatchExpired (s : State) (f : Feed) : State :=
  let p := s.port f
  if expired s.timebase p.watch then
    (s.setPort f { p.cleared with lock := p.lock.afterWatch }).handLock f p.lock p.lock.afterWatch
  else s

/-! ## FEED FORMAT (R24) -/

/-- R24: the port a FEED FORMAT may name. -/
def formatFeed : Nat → Option Feed
  | 1 => some .uif
  | 2 => some .ff1
  | 3 => some .ff2
  | _ => none

/-- R24: the record of a port that takes a new format. -/
def Port.reformed (p : Port) (fmt : Format) (now : Stamp) : Port :=
  let q := { p with format := some fmt }
  match p.lock with
  | .locked => { q with lock := .acquiring, good := 0, bad := 0, watch := q.watchFrom now }
  | .acquiring => { q with good := 0, watch := q.watchFrom now }
  | .noSignal => q
  | .lost => q

/-- R24: the owner of FEED FORMAT. -/
def ownFeedFormat : Owner := fun p s =>
  match formatFeed (byteAt p 0) with
  | none => (s, refuse .badValue)
  | some f =>
    let w := u16At p 1
    let h := u16At p 3
    let r := byteAt p 5
    if w < 320 ∨ 1920 < w then (s, refuse .badValue)
    else if h < 240 ∨ 1080 < h then (s, refuse .badValue)
    else if r < 24 ∨ 60 < r then (s, refuse .badValue)
    else
      let port := s.port f
      let q := port.reformed ⟨w, h, r⟩ s.timebase
      ((s.setPort f q).handLock f port.lock q.lock, ok [])

/-- FRAME_START (R19, R20). -/
def execFrameStart (t : Stamp) (feed : Feed) (s : State) : Host.Outcome State Fault Refusal :=
  s.happens t (fun s => s.frameStart feed)

/-- FRAME_WATCH_EXPIRY (R21). -/
def execFrameWatchExpiry (t : Stamp) (feed : Feed) (s : State) : Host.Outcome State Fault Refusal :=
  s.happens t (fun s => s.frameWatchExpired feed)

/-- FEED_FORMAT (R24). -/
def execFeedFormat (t : Stamp) (s : State) : Host.Outcome State Fault Refusal :=
  s.request t 0x11 (lengthIs 6) false ownFeedFormat

end Sys2Proof.Machine
end

