-- ==== Sys2Proof/Machine/Vehicle.lean ====
section
/-! DEFINITION. Vehicle reports and the watches of their values (R31 to R35). -/

namespace Sys2Proof.Machine

/-! ## Taking a report (R31, R32) -/

/-- A VEHICLE REPORT's present values after clamping (R31): an absent value is none; the obstacle value none is NONE. -/
structure Report where
  speed : Option Nat
  steering : Option Int
  dimmer : Option Nat
  obstacle : Option (Option Nat)
  clamped : Nat
  deriving DecidableEq, Repr

/-- R31: an obstacle distance: 0xFFFF is NONE, any other value above 5000 is clamped. -/
def obstacleOf (n : Nat) : Option Nat := if n = 65535 then none else some (min n 5000)

/-- R31: the present-mask, the clamping and the clamped-mask. -/
def readReport (p : List Byte) : Report :=
  let present := fun (k : Nat) => bitAt p 0 k
  let speed := u16At p 1
  let steering := i16At p 3
  let dimmer := byteAt p 5
  let obstacle := u16At p 6
  { speed := if present 0 then some (min speed 3000) else none
    steering := if present 1 then some (clampInt (-7800) 7800 steering) else none
    dimmer := if present 2 then some (min dimmer 100) else none
    obstacle := if present 3 then some (obstacleOf obstacle) else none
    clamped := bit (present 0 && decide (3000 < speed)) 1
      + bit (present 1 && !decide (clampInt (-7800) 7800 steering = steering)) 2
      + bit (present 2 && decide (100 < dimmer)) 4
      + bit (present 3 && decide (5000 < obstacle) && !decide (obstacle = 65535)) 8 }

/-- R32: the present fields replace the values held, and their watches start (Table 2-2). -/
def Vin.take (v : Vin) (r : Report) (now : Stamp) : Vin :=
  { v with
    speed := r.speed.getD v.speed
    speedWatch := if r.speed.isSome then some (afterMs now 500) else v.speedWatch
    steering := r.steering.getD v.steering
    steeringWatch := if r.steering.isSome then some (afterMs now 300) else v.steeringWatch
    dimmer := r.dimmer.getD v.dimmer
    obstacle := r.obstacle.getD v.obstacle
    obstacleWatch := if r.obstacle.isSome then some (afterMs now 400) else v.obstacleWatch }

/-! ## Delivery (Table 2-3) -/

/-- R100: the compositor judges the film lock at a fresh speed. -/
def State.speedToCompositor (s : State) : State := s.setFilmLock (decide (calLockSpeed s.image ≤ s.vin.speed))

/-- R32: the dependent blocks receive the fields of one report. Their order, which R32 leaves open, is compositor, reverse
view controller, guide line engine, seat control, chime unit (DESIGN CHOICE, log entry 13). -/
def State.deliver (s : State) (r : Report) : State :=
  let s := if r.speed.isSome then s.speedToCompositor.freshSpeed else s
  let s := if r.steering.isSome then s.trackingTrigger else s
  let s := match r.dimmer with
    | some d => s.takeDimmer d
    | none => s
  if r.obstacle.isSome then s.judgePark else s

/-- R31, R32, R34: the owner of VEHICLE REPORT. -/
def ownVehicleReport : Owner := fun p s =>
  let r := readReport p
  (({ s with vin := s.vin.take r s.timebase }).deliver r, ok (u8 r.clamped))

/-! ## Watches (R33) -/

def Vin.watch (v : Vin) : Watched → Option Stamp
  | .speed => v.speedWatch
  | .steering => v.steeringWatch
  | .obstacle => v.obstacleWatch

/-- R33: a field becomes stale: its watch stops and its value is kept. -/
def Vin.stale (v : Vin) : Watched → Vin
  | .speed => { v with speedWatch := none }
  | .steering => { v with steeringWatch := none }
  | .obstacle => { v with obstacleWatch := none }

/-- R33: the loss of freshness is handed to the blocks of Table 2-3. The controller does nothing with a stale speed (R45). -/
def State.deliverStale (s : State) : Watched → State
  | .speed => s.setFilmLock true
  | .steering => s.trackingTrigger
  | .obstacle => s.judgePark

/-- R33: the watch of a field expires. -/
def State.watchExpired (s : State) (value : Watched) : State :=
  if expired s.timebase (s.vin.watch value) then ({ s with vin := s.vin.stale value }).deliverStale value else s

/-- VEHICLE_REPORT (R31, R32). -/
def execVehicleReport (t : Stamp) (s : State) : Host.Outcome State Fault Refusal :=
  s.request t 0x10 (lengthIs 8) true ownVehicleReport

/-- VEHICLE_WATCH_EXPIRY (R33). -/
def execVehicleWatchExpiry (t : Stamp) (value : Watched) (s : State) : Host.Outcome State Fault Refusal :=
  s.happens t (fun s => s.watchExpired value)

end Sys2Proof.Machine
end

