-- ==== Sys2Proof/Machine/CompositorRequests.lean ====
section
/-! DEFINITION. The requests of the compositor (R98, R99, R101, R107) and the start of an output frame (R97). -/

namespace Sys2Proof.Machine

/-- R98: whether a source code is allowed for an output. -/
def routeAllowed (output : Output) (source : Nat) : Bool :=
  match output with
  | .fro => decide (1 ≤ source) && decide (source ≤ 3)
  | .ro _ => decide (source ≤ 3)

/-- R98, R99: a route becomes pending; a rear row whose link is not in STREAMING takes it into effect at dispatch. -/
def State.setPending (s : State) (output : Output) (source : Source) : State :=
  match output with
  | .fro => s.setFront { s.cmp.front with pending := some source }
  | .ro i =>
    let s := s.setRearRow i { s.rearRow i with pending := some source }
    if (s.link i).state = .streaming then s else s.rearRouteTakesEffect i

/-- R98: the owner of ROUTE SET. -/
def ownRouteSet : Owner := fun p s =>
  match outputOf (byteAt p 0) with
  | none => (s, refuse .badValue)
  | some output =>
    if routeAllowed output (byteAt p 1) then (s.setPending output (sourceOf (byteAt p 1)), ok []) else (s, refuse .badValue)

/-- R101: the preview setting takes a value; the front row is judged, and then camera power. -/
def State.setPreview (s : State) (on : Bool) : State :=
  (({ s with cmp := { s.cmp with preview := on } }).judgeFront).judgeCameraPower

/-- R101: the owner of CAMERA PREVIEW. The value is judged before the controller's state, in the order of the rule's sentences
(DEDUCED, log entry 40). -/
def ownCameraPreview : Owner := fun p s =>
  if 1 < byteAt p 0 then (s, refuse .badValue)
  else if !s.rvcOff then (s, refuse .refusedReverse)
  else (s.setPreview (decide (byteAt p 0 = 1)), ok [])

/-- R107: the host banner of a row takes a value and its shown banner is decided again. -/
def State.setBanner (s : State) (output : Output) (on : Bool) : State :=
  match output with
  | .fro => (s.setFront { s.cmp.front with hostBanner := on }).judgeFrontBanner
  | .ro i => (s.setRearRow i { s.rearRow i with hostBanner := on }).judgeRearBanner i

/-- R107: the owner of BANNER SET. -/
def ownBannerSet : Owner := fun p s =>
  match outputOf (byteAt p 0) with
  | none => (s, refuse .badValue)
  | some output =>
    if byteAt p 1 ≠ 0 ∧ byteAt p 1 ≠ 4 then (s, refuse .badValue)
    else if output = .fro ∧ !s.rvcOff then (s, refuse .refusedReverse)
    else (s.setBanner output (decide (byteAt p 1 = 4)), ok [])

/-- OUTPUT_FRAME_START (R97). -/
def execOutputFrameStart (t : Stamp) (output : Output) (s : State) : Host.Outcome State Fault Refusal :=
  s.happens t (fun s => s.outputFrame output)

/-- ROUTE_SET (R98). -/
def execRouteSet (t : Stamp) (s : State) : Host.Outcome State Fault Refusal := s.request t 0x40 (lengthIs 2) false ownRouteSet

/-- CAMERA_PREVIEW (R101). -/
def execCameraPreview (t : Stamp) (s : State) : Host.Outcome State Fault Refusal :=
  s.request t 0x12 (lengthIs 1) false ownCameraPreview

/-- BANNER_SET (R107). -/
def execBannerSet (t : Stamp) (s : State) : Host.Outcome State Fault Refusal :=
  s.request t 0x41 (lengthIs 2) false ownBannerSet

end Sys2Proof.Machine
end

