-- ==== Sys2Proof/Machine/ChimeRequests.lean ====
section
/-! DEFINITION. The requests of the chime unit (R150, R156, R157, R161, R162) and its own events: the end of a step (R152),
the start of a park beep (R159) and a duck step (R160). -/

namespace Sys2Proof.Machine

/-! ## CHIME PATTERN LOAD (R150) -/

/-- R150: the payload holds 3 bytes and 5 for each step of its step count. -/
def patternLength (p : List Byte) : Bool := p.length = 3 + 5 * byteAt p 1

/-- Table 11-3. -/
def readPattern (p : List Byte) : Pattern where
  steps := (List.range (byteAt p 1)).map (fun k => ⟨u16At p (3 + 5 * k), u16At p (5 + 5 * k), byteAt p (7 + 5 * k)⟩)
  repeatCount := byteAt p 2

/-- R150, second check. -/
def stepFits (st : Step) : Bool :=
  (decide (st.freq = 0) || (decide (200 ≤ st.freq) && decide (st.freq ≤ 4000)))
  && decide (10 ≤ st.dur) && decide (st.dur ≤ 2000) && decide (st.level ≤ 15)

/-- R149: a slot is in use while a chime record names it, playing or waiting. -/
def Chu.inUse (c : Chu) (slot : Nat) : Bool :=
  let names := fun (ch : Chime) => decide (ch.pattern = slot)
  voiceHas c.voice1 names || voiceHas c.voice2 names || c.queue.any names

/-- R150: the owner of CHIME PATTERN LOAD. -/
def ownChimePatternLoad : Owner := fun p s =>
  if 15 < byteAt p 0 ∨ byteAt p 1 = 0 ∨ 8 < byteAt p 1 ∨ 15 < byteAt p 2 then (s, refuse .badValue)
  else if !(readPattern p).steps.all stepFits then (s, refuse .badValue)
  else if s.chu.inUse (byteAt p 0) then (s, refuse .busy)
  else ({ s with chu := { s.chu with table := s.chu.table.set (byteAt p 0) (readPattern p) } }, ok [])

/-! ## CHIME PLAY and CHIME CANCEL (R156, R157) -/

/-- A zone mask: bit 0 FRONT, bit 1 REAR1, bit 2 REAR2; none when it is empty or names another zone. -/
def zonesOf (mask : Byte) : Option ZoneSet :=
  if mask = 0 ∨ 7 < mask.toNat then none else some ⟨mask.getLsbD 0, mask.getLsbD 1, mask.getLsbD 2⟩

def classOf : Nat → Option ChimeClass
  | 1 => some .once
  | 2 => some .repeat
  | _ => none

/-- R156: the chime a payload asks for; none when a check fails. -/
def readPlay (p : List Byte) : Option ChimeRequest :=
  match zonesOf (p.getD 1 0), classOf (byteAt p 3) with
  | some z, some c =>
    if byteAt p 0 ≤ 15 ∧ 2 ≤ byteAt p 2 ∧ byteAt p 2 ≤ 7 then some ⟨byteAt p 0, z, byteAt p 2, c, .host⟩ else none
  | _, _ => none

/-- R156: the reply to an arrival of origin HOST. -/
def arrivalReply : Arrival → Reply
  | .playing h => ok (u8 h ++ u8 1)
  | .waiting h => ok (u8 h ++ u8 2)
  | .discarded => refuse .queueFull
  | .refused => refuse .queueFull

/-- R156: the owner of CHIME PLAY. -/
def ownChimePlay : Owner := fun p s =>
  match readPlay p with
  | none => (s, refuse .badValue)
  | some r => let a := s.arrive r; (a.1, arrivalReply a.2)

/-- Every chime record present: those on the voices, then the queue. -/
def Chu.records (c : Chu) : List Chime := voiceChimes c.voice1 ++ voiceChimes c.voice2 ++ c.queue

def isHost (h : Nat) (ch : Chime) : Bool := decide (ch.handle = h) && decide (ch.origin = .host)

/-- R157: the owner of CHIME CANCEL. -/
def ownChimeCancel : Owner := fun p s =>
  let h := byteAt p 0
  if h = 0 then (s, refuse .badValue)
  else match s.chu.records.find? (isHost h) with
    | none => (s, refuse .notFound)
    | some ch => ((s.removeChime (isHost h)).endChime ch .cancelled, ok [])

/-! ## CHIME STATUS (R162, Table 11-13) -/

def chimeBytes (ch : Chime) : List Byte :=
  u8 ch.handle ++ u8 ch.pattern ++ u8 ch.zones.code ++ u8 ch.priority ++ u8 ch.cls.code ++ u8 ch.origin.code

def voiceBytes : Option Playing → List Byte
  | none => List.replicate 9 0
  | some p => u8 1 ++ chimeBytes p.chime ++ u8 p.stepIndex ++ u8 p.repeatsLeft

/-- Table 9-6: 0 inactive, 1 active with no record, 2 record waiting, 3 record playing. -/
def Chu.parkStatus (c : Chu) : Nat :=
  if voiceHas c.voice1 isPark || voiceHas c.voice2 isPark then 3
  else if c.queue.any isPark then 2
  else if c.parkJudged then 1
  else 0

def Chu.statusBytes (c : Chu) : List Byte :=
  voiceBytes c.voice1 ++ voiceBytes c.voice2 ++ u8 c.parkStatus ++ u16 c.parkGap ++ i8 (c.duck.get .s1).gain
  ++ i8 (c.duck.get .s2).gain ++ u8 c.frontLevel ++ u8 c.lastHandle ++ u8 c.queue.length ++ c.queue.flatMap chimeBytes

/-- R162: the owner of CHIME STATUS. -/
def ownChimeStatus : Owner := fun _ s => (s, ok s.chu.statusBytes)

/-! ## FRONT LEVEL SET (R161) -/

def ownFrontLevelSet : Owner := fun p s =>
  if 60 < byteAt p 0 then (s, refuse .badValue)
  else ({ s with chu := { s.chu with frontLevel := byteAt p 0 } }, ok [])

/-! ## The end of a step (R152) -/

/-- A playing chime begins a step at this moment. -/
def Playing.atStep (p : Playing) (now : Stamp) (pat : Pattern) (index repeatsLeft : Nat) : Playing :=
  let ends := afterMs now (pat.stepAt index).dur
  { p with stepIndex := index, repeatsLeft := repeatsLeft, ends := ends, toneEnds := ends }

/-- R152: what follows the end of a step: none when the chime ends. -/
def Playing.next (p : Playing) (now : Stamp) (pat : Pattern) : Option Playing :=
  if p.stepIndex + 1 < pat.steps.length then some (p.atStep now pat (p.stepIndex + 1) p.repeatsLeft)
  else if pat.repeatCount = 0 then some (p.atStep now pat 0 p.repeatsLeft)
  else if p.repeatsLeft ≤ 1 then none
  else some (p.atStep now pat 0 (p.repeatsLeft - 1))

def State.setVoice (s : State) (v : Voice) (p : Option Playing) : State := { s with chu := s.chu.setVoice v p }

/-- R151, R155: a chime whose pattern has finished ends, and its voice is filled. -/
def State.finish (s : State) (v : Voice) (ch : Chime) : State := ((s.setVoice v none).endChime ch .ended).fill

/-- R152: the step of the chime on a voice ends. The park beep record plays under R159 in its place. -/
def State.stepEnded (s : State) (v : Voice) : State :=
  match s.chu.voice v with
  | none => s
  | some p =>
    if p.chime.origin ≠ .park ∧ reached s.timebase p.ends then
      match p.next s.timebase (s.chu.pattern p.chime.pattern) with
      | some q => s.setVoice v (some q)
      | none => s.finish v p.chime
    else s

/-! ## The park beep (R159) -/

/-- R159: the next beep of the park beep record starts, when a voice holds it and its gap has ended. -/
def State.beepOn (s : State) (v : Voice) : State :=
  match s.chu.voice v with
  | none => s
  | some p => if p.chime.origin = .park ∧ reached s.timebase p.ends then s.startBeep p v else s

/-- R159: at most one record is of origin PARK (R158), so at most one of the voices acts. -/
def State.beepStarts (s : State) : State := if voiceHas s.chu.voice1 isPark then s.beepOn .v1 else s.beepOn .v2

/-! ## Duck steps (R160) -/

/-- R160: 3 dB toward the duck level without passing it. -/
def duckToward (gain level : Int) : Int :=
  if level < gain then max level (gain - 3) else min level (gain + 3)

/-- R160: a duck step: 3 dB toward the duck level while ducking, 1 dB up to 0 while not; a gain at its goal takes no further
step. -/
def Duck.step (d : Duck) (now : Stamp) (level : Int) : Duck :=
  if d.ducking then
    let g := duckToward d.gain level
    { d with gain := g, timer := if g = level then none else some (afterMs now 10) }
  else
    let g := min 0 (d.gain + 1)
    { d with gain := g, timer := if g = 0 then none else some (afterMs now 20) }

def State.setDuck (s : State) (i : Seat) (d : Duck) : State :=
  { s with chu := { s.chu with duck := s.chu.duck.set i d } }

/-- R160: the next duck step of a zone falls. -/
def State.duckStep (s : State) (i : Seat) : State :=
  let d := s.chu.duck.get i
  if expired s.timebase d.timer then s.setDuck i (d.step s.timebase (calDuckLevel s.image)) else s

/-- CHIME_PATTERN_LOAD (R150). -/
def execChimePatternLoad (t : Stamp) (s : State) : Host.Outcome State Fault Refusal :=
  s.request t 0x70 patternLength false ownChimePatternLoad

/-- CHIME_PLAY (R156). -/
def execChimePlay (t : Stamp) (s : State) : Host.Outcome State Fault Refusal := s.request t 0x71 (lengthIs 4) false ownChimePlay

/-- CHIME_CANCEL (R157). -/
def execChimeCancel (t : Stamp) (s : State) : Host.Outcome State Fault Refusal :=
  s.request t 0x72 (lengthIs 1) false ownChimeCancel

/-- CHIME_STATUS (R162). -/
def execChimeStatus (t : Stamp) (s : State) : Host.Outcome State Fault Refusal :=
  s.request t 0x73 (lengthIs 0) false ownChimeStatus

/-- FRONT_LEVEL_SET (R161). -/
def execFrontLevelSet (t : Stamp) (s : State) : Host.Outcome State Fault Refusal :=
  s.request t 0x74 (lengthIs 1) false ownFrontLevelSet

/-- STEP_END (R152). -/
def execStepEnd (t : Stamp) (voice : Voice) (s : State) : Host.Outcome State Fault Refusal :=
  s.happens t (fun s => s.stepEnded voice)

/-- BEEP_START (R159). -/
def execBeepStart (t : Stamp) (s : State) : Host.Outcome State Fault Refusal := s.happens t State.beepStarts

/-- DUCK_STEP (R160). -/
def execDuckStep (t : Stamp) (seat : Seat) (s : State) : Host.Outcome State Fault Refusal :=
  s.happens t (fun s => s.duckStep seat)

end Sys2Proof.Machine
end

