-- ==== Sys2Proof/Machine/Calibration.lean ====
section
/-! DEFINITION. The calibration store: its requests and the completion of a programming (R164 to R169). -/

namespace Sys2Proof.Machine

/-! ## Slots -/

def SlotNo.number : SlotNo → Nat
  | .g1 => 1
  | .g2 => 2
  | .g3 => 3

def Cal.slot (c : Cal) : SlotNo → Slot
  | .g1 => c.slot1
  | .g2 => c.slot2
  | .g3 => c.slot3

def Cal.setSlot (c : Cal) (n : SlotNo) (x : Slot) : Cal :=
  match n with
  | .g1 => { c with slot1 := x }
  | .g2 => { c with slot2 := x }
  | .g3 => { c with slot3 := x }

/-- R164: a slot that is not BLANK is consumed. -/
def Slot.consumed (x : Slot) : Bool := !decide (x.judged = .blank)

/-- R10: the number of slots that are not blank; one in programming counts. -/
def Cal.used (c : Cal) : Nat := bit c.slot1.consumed 1 + bit c.slot2.consumed 1 + bit c.slot3.consumed 1

/-- R168: the lowest BLANK slot. -/
def Cal.lowestBlank (c : Cal) : Option SlotNo :=
  if !c.slot1.consumed then some .g1 else if !c.slot2.consumed then some .g2 else if !c.slot3.consumed then some .g3 else none

/-! ## Requests (R166 to R168) -/

/-- R167: the owner of CALIBRATION READ. -/
def ownCalibrationRead : Owner := fun p s =>
  match fieldOffset (byteAt p 0) (byteAt p 1) with
  | none => (s, refuse .badValue)
  | some _ => (s, ok (i32 (field s.image (byteAt p 0) (byteAt p 1))))

/-- R160: a zone when the duck level goes from `old` to a new value `level`. A ducking zone whose gain the write makes the goal
takes no further step; one whose gain rested at the old goal takes its next step 10 ms after the write; any other goes on. -/
def Duck.released (d : Duck) (now : Stamp) (old level : Int) : Duck :=
  if !d.ducking || old = level then d
  else if d.gain = level then { d with timer := none }
  else if d.gain = old then { d with timer := some (afterMs now 10) }
  else d

/-- R160: the duck level was `old` before the write that has just taken place. -/
def State.releaseDucks (s : State) (old : Int) : State :=
  { s with chu := { s.chu with duck := s.chu.duck.map (fun d => d.released s.timebase old (calDuckLevel s.image)) } }

/-- R166: a value enters the working copy. A guide field is a trigger (R55, R65), and a new duck level reaches the ducking zones
(R160). -/
def State.writeField (s : State) (no index : Nat) (value : Int) : State :=
  let old := calDuckLevel s.image
  let s := { s with cal := { s.cal with working := setField s.image no index value } }
  if isGuideField no then s.trackingTrigger
  else if no = 37 then s.releaseDucks old
  else s

/-- R166: the owner of CALIBRATION WRITE. -/
def ownCalibrationWrite : Owner := fun p s =>
  let no := byteAt p 0
  let index := byteAt p 1
  if s.cal.flight.isSome then (s, refuse .busy)
  else match fieldOffset no index with
    | none => (s, refuse .badValue)
    | some _ =>
      match storedValue s.image no index (i32At p 2) with
      | none => (s, refuse .badValue)
      | some v => (s.writeField no index v, ok (i32 v))

/-- R167: the reply of CALIBRATION CHECK. -/
def Cal.checkBytes (c : Cal) : List Byte :=
  u32 c.loadedCheck.toNat ++ u32 (imageCheck c.working).toNat
  ++ u8 c.slot1.judged.code ++ u8 c.slot2.judged.code ++ u8 c.slot3.judged.code ++ u8 c.loadedGen

/-- R167: the owner of CALIBRATION CHECK. -/
def ownCalibrationCheck : Owner := fun _ s => (s, ok s.cal.checkBytes)

/-- R168: programming of a slot begins: the working copy and its CRC-32 are snapshot, the slot is consumed, and the completion
falls 60 ms later. -/
def Cal.startProgram (c : Cal) (n : SlotNo) (now : Stamp) : Cal :=
  { c.setSlot n ⟨.writing, .programming⟩ with flight := some ⟨n, c.working, imageCheck c.working, afterMs now 60⟩ }

/-- R168: the owner of CALIBRATION PROGRAM. -/
def ownCalibrationProgram : Owner := fun _ s =>
  if !s.rvcOff then (s, refuse .refusedReverse)
  else if s.cal.flight.isSome then (s, refuse .busy)
  else match s.cal.lowestBlank with
    | none => (s, refuse .exhausted)
    | some n => ({ s with cal := s.cal.startProgram n s.timebase }, ⟨.started, u8 n.number⟩)

/-! ## Completion (R169) -/

/-- R169: the slot after its programming. A fault that leaves what the snapshot holds is none (log entry 21). -/
def Programming.result (f : Programming) (fault : Option FaultyCells) : Slot :=
  match fault with
  | none => ⟨.written f.image f.check, .good⟩
  | some c => ⟨.written c.image c.check, if c.image = f.image ∧ c.check = f.check then .good else .bad⟩

/-- R169: the programming in flight completes: the slot is judged, the operation ends and a CALIBRATION notice is posted. -/
def State.programmed (s : State) (fault : Option FaultyCells) : State :=
  match s.cal.flight with
  | none => s
  | some f =>
    if reached s.timebase f.ends then
      let x := f.result fault
      ({ s with cal := { s.cal.setSlot f.slot x with flight := none } }).post 0
        (.calibration (decide (x.judged = SlotState.good)) f.slot.number)
    else s

/-- CALIBRATION_READ (R167). -/
def execCalibrationRead (t : Stamp) (s : State) : Host.Outcome State Fault Refusal :=
  s.request t 0x80 (lengthIs 2) true ownCalibrationRead

/-- CALIBRATION_WRITE (R166). -/
def execCalibrationWrite (t : Stamp) (s : State) : Host.Outcome State Fault Refusal :=
  s.request t 0x81 (lengthIs 6) true ownCalibrationWrite

/-- CALIBRATION_CHECK (R167). -/
def execCalibrationCheck (t : Stamp) (s : State) : Host.Outcome State Fault Refusal :=
  s.request t 0x82 (lengthIs 0) true ownCalibrationCheck

/-- CALIBRATION_PROGRAM (R168). -/
def execCalibrationProgram (t : Stamp) (s : State) : Host.Outcome State Fault Refusal :=
  s.request t 0x83 (lengthIs 0) true ownCalibrationProgram

/-- PROGRAMMING_COMPLETE (R169). -/
def execProgrammingComplete (t : Stamp) (fault : Option FaultyCells) (s : State) : Host.Outcome State Fault Refusal :=
  s.happens t (fun s => s.programmed fault)

end Sys2Proof.Machine
end

