-- ==== Sys2Proof/Machine/Operands.lean ====
section
/-! DEFINITION. The operand forms of the control link: the parts of a received frame (Table 1-1), the request codes of
Table 1-3, and the payloads of the CLI's own requests (R8, R15, R17). -/

namespace Sys2Proof.Machine

/-! ## The parts of a candidate frame (Table 1-1) -/

/-- R1: a candidate is complete when it holds length + 7 bytes. -/
def candidateComplete (c : List Byte) : Bool := decide (2 ≤ c.length) && c.length = byteAt c 1 + 7

/-- R2: the bytes from length through the end of the payload. -/
def checkedBytes (c : List Byte) : List Byte := (c.drop 1).take (byteAt c 1 + 4)

/-- R2: the two check bytes. -/
def checkBytes (c : List Byte) : List Byte := c.drop (byteAt c 1 + 5)

/-- R2: whether a candidate passes the frame check. -/
def framePasses (c : List Byte) : Bool := checkBytes c = u16 (crc16 (checkedBytes c)).toNat

/-- R2: a frame of kind REQUEST. -/
def isRequest (c : List Byte) : Bool := c.getD 2 0 = kindRequest

def framePayload (c : List Byte) : List Byte := (c.drop 5).take (byteAt c 1)

/-- The request a frame carries, WAITING. -/
def requestOf (c : List Byte) : Request := ⟨c.getD 3 0, c.getD 4 0, framePayload c, none⟩

/-! ## Request codes (Table 1-3) -/

def requestCodes : List Byte :=
  [0x01, 0x02, 0x03, 0x04, 0x05, 0x10, 0x11, 0x12, 0x20, 0x21, 0x28]
  ++ [0x30, 0x31, 0x32, 0x33, 0x34, 0x35, 0x36, 0x40, 0x41]
  ++ [0x50, 0x51, 0x52, 0x53, 0x54, 0x55, 0x56, 0x57, 0x60, 0x61]
  ++ [0x70, 0x71, 0x72, 0x73, 0x74, 0x80, 0x81, 0x82, 0x83]

/-- R4, first check: whether a request code stands in Table 1-3. -/
def knownCode (code : Byte) : Bool := requestCodes.contains code

/-! ## Payloads of the CLI's requests -/

/-- R15: the selection a payload of 13 bytes names; none when a byte is neither 0 nor 1. -/
def readSelection (p : List Byte) : Option (List Bool) :=
  if p.all (fun b => decide (b.toNat ≤ 1)) then some (p.map (fun b => decide (b = 1))) else none

/-- R17: the line and setting a payload names; none when one of the three is out of range. -/
def readLine (p : List Byte) : Option (Nat × LineSetting) :=
  if byteAt p 0 ≤ 3 ∧ byteAt p 1 ≤ 7 ∧ byteAt p 2 ≤ 1 then some (byteAt p 0, ⟨byteAt p 1, decide (byteAt p 2 = 1)⟩) else none

end Sys2Proof.Machine
end

