-- ==== Sys2Proof/Machine/Control.lean ====
section
/-! DEFINITION. The control link interface: the receiver (R1), the frame check (R2, R3), the end of a frame (R6) with the warm
restart (R12), and the CLI's own requests (R4, R8, R10, R11, R15, R17). -/

namespace Sys2Proof.Machine

/-! ## The receiver (R1) -/

/-- R1: the inter-byte watch of 2 ms, started by a byte at `now`. -/
def byteWatch (now : Stamp) : Stamp := afterMs now 2

/-- R1: a byte is appended to the candidate being assembled. -/
def Cli.assemble (c : Cli) (now : Stamp) (candidate : List Byte) : Cli :=
  if candidate.length = 2 ∧ Config.maxPayload < byteAt candidate 1 then { c with receiver := .hunting }
  else if candidateComplete candidate then { c with receiver := .hunting, complete := c.complete ++ [candidate] }
  else { c with receiver := .assembling candidate (byteWatch now) }

/-- R1: a byte is received; `stopHigh` is the level of its stop bit. -/
def Cli.receive (c : Cli) (now : Stamp) (b : Byte) (stopHigh : Bool) : Cli :=
  match c.receiver with
  | .hunting =>
    if stopHigh ∧ b = 0xA5 then { c with receiver := .assembling [b] (byteWatch now) } else c
  | .assembling candidate _ =>
    if stopHigh then c.assemble now (candidate ++ [b]) else { c with receiver := .hunting }

def State.receiveByte (s : State) (b : Byte) (stopHigh : Bool) : State := { s with cli := s.cli.receive s.timebase b stopHigh }

/-- R1: the inter-byte watch expires. -/
def State.byteWatchExpired (s : State) : State :=
  match s.cli.receiver with
  | .hunting => s
  | .assembling _ watch => if reached s.timebase watch then { s with cli := { s.cli with receiver := .hunting } } else s

/-! ## The frame check (R2, R3) -/

/-- R3: a request that has passed the check joins the queue, or the refusal list with QUEUE_FULL. -/
def Cli.joinRequest (c : Cli) (q : Request) : Cli :=
  if c.queue.length < Config.requestQueueSize then { c with queue := c.queue ++ [q] }
  else { c with refusals := c.refusals ++ [⟨q.tag, .queueFull⟩] }

/-- R2: the oldest complete candidate is checked. -/
def State.checkFrame (s : State) : State :=
  match s.cli.complete with
  | [] => s
  | f :: rest =>
    let c := { s.cli with complete := rest }
    { s with cli := if framePasses f && isRequest f then c.joinRequest (requestOf f) else c }

/-! ## Warm restart (R12) -/

/-- R12, first two steps: the requests in the queue are refused BUSY, the board is emptied and the overflow indicator
cleared. -/
def Cli.warm (c : Cli) : Cli :=
  { c with queue := [], refusals := c.refusals ++ c.queue.map (fun q => ⟨q.tag, .busy⟩), board := [], overflow := false,
           warmPending := false }

/-- R120, R115, R135: the page store is emptied, both roots cleared and both menus closed without a notice. -/
def State.menusWarm (s : State) : State :=
  let s := (s.closeMenu .s1 .request true).closeMenu .s2 .request true
  { s with mnu := { s.mnu with store := [], root := ⟨0, 0⟩ } }

/-- R12: the warm restart. The blocks' order is menus, seats, compositor, ports, links, targets, chimes (DESIGN CHOICE,
log entry 13). -/
def State.warmRestart (s : State) : State :=
  let s := ({ s with cli := s.cli.warm }).menusWarm
  let s := ((s.seatWarm .s1).seatWarm .s2).compositorWarm.feedsWarm
  let s := (s.linkWarm .s1).linkWarm .s2
  let s := ((s.recomputeTarget .s1).recomputeTarget .s2).chimesWarm
  s.post 0 (.start .warm)

/-! ## The end of a frame (R6) -/

/-- R11: whether a queue entry is the RESTART whose reply makes the pending warm restart take place. -/
def Cli.isRestartReply (c : Cli) (q : Request) : Bool :=
  c.warmPending && decide (q.code = 0x03) && decide (q.reply = some (ok []))

/-- R6: the last byte of a queue entry's reply has been sent: the entry leaves the queue, and a pending warm restart takes
place after the RESTART reply (R11). -/
def State.replySent (s : State) : State :=
  match s.cli.queue with
  | [] => s
  | q :: rest =>
    let restart := s.cli.isRestartReply q
    let s := { s with cli := { s.cli with queue := rest } }
    if restart then s.warmRestart else s

/-- R6: the last byte of the frame being sent has gone out, and the transmitter becomes free; the next frame begins as the
event ends (`State.settle`). -/
def State.frameEnded (s : State) : State :=
  match s.cli.tx with
  | none => s
  | some f =>
    if reached s.timebase f.ends then
      let s := { s with cli := { s.cli with tx := none } }
      match f.what with
      | .reply => s.replySent
      | .refusal => s
      | .notice => s
    else s

/-! ## Requests -/

/-- R4, first check: a request whose code is not in Table 1-3. -/
def State.dispatchUnknown (s : State) : State :=
  match s.cli.nextRequest with
  | none => s
  | some q => if knownCode q.code then s else s.answer (refuse .unknownRequest)

/-- Table 1-5. -/
def State.identifyBytes (s : State) : List Byte :=
  u16 0x4C46 ++ u8 3 ++ u8 s.cal.used ++ u8 s.cal.loadedGen ++ u8 s.cli.startCause.code ++ u8 s.cli.mode.code

/-- R10: the owner of IDENTIFY. -/
def ownIdentify : Owner := fun _ s => (s, ok s.identifyBytes)

/-- R11: the owner of RESTART. -/
def ownRestart : Owner := fun _ s => ({ s with cli := { s.cli with warmPending := true } }, ok [])

/-- R15: the owner of NOTICE SELECT. -/
def ownNoticeSelect : Owner := fun p s =>
  match readSelection p with
  | none => (s, refuse .badValue)
  | some sel => ({ s with cli := { s.cli with selection := sel } }, ok [])

/-- R17: the owner of STATUS LINE MAP. -/
def ownStatusLineMap : Owner := fun p s =>
  match readLine p with
  | none => (s, refuse .badValue)
  | some (line, setting) => ({ s with cli := { s.cli with lineMap := s.cli.lineMap.set line setting } }, ok [])

/-- RECEIVE_BYTE (R1). -/
def execReceiveByte (t : Stamp) (b : Byte) (stopHigh : Bool) (s : State) : Host.Outcome State Fault Refusal :=
  s.happens t (fun s => s.receiveByte b stopHigh)

/-- INTER_BYTE_WATCH_EXPIRY (R1). -/
def execInterByteWatchExpiry (t : Stamp) (s : State) : Host.Outcome State Fault Refusal := s.happens t State.byteWatchExpired

/-- CANDIDATE_FRAME_COMPLETE (R2). -/
def execCandidateFrameComplete (t : Stamp) (s : State) : Host.Outcome State Fault Refusal := s.happens t State.checkFrame

/-- UNKNOWN_REQUEST (R4). -/
def execUnknownRequest (t : Stamp) (s : State) : Host.Outcome State Fault Refusal := s.happens t State.dispatchUnknown

/-- TRANSMIT_FRAME_END (R6). -/
def execTransmitFrameEnd (t : Stamp) (s : State) : Host.Outcome State Fault Refusal := s.happens t State.frameEnded

/-- IDENTIFY (R10). -/
def execIdentify (t : Stamp) (s : State) : Host.Outcome State Fault Refusal := s.request t 0x01 (lengthIs 0) true ownIdentify

/-- RESTART (R11). -/
def execRestart (t : Stamp) (s : State) : Host.Outcome State Fault Refusal := s.request t 0x03 (lengthIs 0) true ownRestart

/-- NOTICE_SELECT (R15). -/
def execNoticeSelect (t : Stamp) (s : State) : Host.Outcome State Fault Refusal :=
  s.request t 0x04 (lengthIs 13) true ownNoticeSelect

/-- STATUS_LINE_MAP (R17). -/
def execStatusLineMap (t : Stamp) (s : State) : Host.Outcome State Fault Refusal :=
  s.request t 0x05 (lengthIs 3) true ownStatusLineMap

end Sys2Proof.Machine
end

