-- ==== Sys2Proof/Machine/Startup.lean ====
section
/-! DEFINITION. The cold start (R18, R170): power-on and the reset line. -/

namespace Sys2Proof.Machine

/-- R170, time 0: every block takes its cold-start value, from a given working copy. What is outside the part stays: the
commands still to come, the level of GEAR and the presence of the partners (log entry 4). -/
def State.coldBlocks (s : State) (cause : StartCause) (cal : Cal) : State :=
  { s with
    cli := coldCli cause
    fdp := coldFdp
    vin := coldVin s.vin.gearRaw
    rvc := coldRvc
    gle := coldGle
    rsl := ⟨coldLink cal.working .s1 (s.link .s1).present, coldLink cal.working .s2 (s.link .s2).present⟩
    cmp := coldCmp cal.working
    mnu := coldMnu
    sct := coldSct cal.working
    chu := coldChu cal.working
    cal := cal }

/-- R169: a cold start abandons a programming in flight; the partly written slot is BAD from the load on. -/
def Slot.abandoned (x : Slot) : Slot :=
  match x.cells with
  | .writing => ⟨.partly, .bad⟩
  | .blank => x
  | .written _ _ => x
  | .partly => x

/-- R170: while RESET_N is low nothing is loaded: the working copy reads as the built-in defaults (DESIGN CHOICE, log entry
27). The slots keep what was written in them. -/
def Cal.unloaded (c : Cal) : Cal :=
  { working := builtinImage, slot1 := c.slot1.abandoned, slot2 := c.slot2.abandoned, slot3 := c.slot3.abandoned,
    loadedGen := 0, loadedCheck := imageCheck builtinImage, flight := none }

/-- R170: the part is held at time 0 while RESET_N is low. -/
def State.hold (s : State) (cause : StartCause) : State :=
  { s.coldBlocks cause s.cal.unloaded with phase := .held, resetN := false }

/-- R170, R165: the sequence runs: the slots are judged and the working copy loaded within it (log entry 6). -/
def State.load (s : State) (cause : StartCause) : State :=
  { s.coldBlocks cause s.cal.load with phase := .loading, resetN := true }

/-- R170: power-on: the sequence runs when RESET_N is high and is held until it rises otherwise. -/
def State.powerOn (s : State) (resetHigh : Bool) : State := if resetHigh then s.load .powerOn else s.hold .powerOn

/-- R170: a fall of RESET_N, whenever it falls, begins a cold start with cause RESET_LINE (R18). -/
def State.resetFalls (s : State) : State := if s.resetN then s.hold .resetLine else s

/-- R170: the return of RESET_N high runs the sequence from time 0; the start cause is that of the cold start it belongs to. -/
def State.resetRises (s : State) : State := if s.resetN then s else s.load s.cli.startCause

/-- POWER_ON (R170). -/
def execPowerOn (t : Stamp) (resetHigh : Bool) (s : State) : Host.Outcome State Fault Refusal :=
  .next ((s.atTime t).powerOn resetHigh)

/-- RESET_N_FALL (R170). -/
def execResetNFall (t : Stamp) (s : State) : Host.Outcome State Fault Refusal := .next (s.atTime t).resetFalls

/-- RESET_N_RISE (R170). -/
def execResetNRise (t : Stamp) (s : State) : Host.Outcome State Fault Refusal := .next (s.atTime t).resetRises

end Sys2Proof.Machine
end

