-- ==== Sys2Proof/Machine/Dispatch.lean ====
section
/-! DEFINITION. The dispatch of the commands: one arm for each constructor, one direct call of its meaning. -/

namespace Sys2Proof.Machine

/-- The effect of a command on everything but the queue of commands that wait. -/
def exec (i : Instr) (s : State) : Host.Outcome State Fault Refusal :=
  match i with
  | .receiveByte t b stopHigh => Sys2Proof.Machine.execReceiveByte t b stopHigh s
  | .interByteWatchExpiry t => Sys2Proof.Machine.execInterByteWatchExpiry t s
  | .candidateFrameComplete t => Sys2Proof.Machine.execCandidateFrameComplete t s
  | .unknownRequest t => Sys2Proof.Machine.execUnknownRequest t s
  | .transmitFrameEnd t => Sys2Proof.Machine.execTransmitFrameEnd t s
  | .identify t => Sys2Proof.Machine.execIdentify t s
  | .modeSet t => Sys2Proof.Machine.execModeSet t s
  | .restart t => Sys2Proof.Machine.execRestart t s
  | .noticeSelect t => Sys2Proof.Machine.execNoticeSelect t s
  | .statusLineMap t => Sys2Proof.Machine.execStatusLineMap t s
  | .powerOn t resetHigh => Sys2Proof.Machine.execPowerOn t resetHigh s
  | .resetNFall t => Sys2Proof.Machine.execResetNFall t s
  | .resetNRise t => Sys2Proof.Machine.execResetNRise t s
  | .startModeEntry t => Sys2Proof.Machine.execStartModeEntry t s
  | .vehicleReport t => Sys2Proof.Machine.execVehicleReport t s
  | .vehicleWatchExpiry t value => Sys2Proof.Machine.execVehicleWatchExpiry t value s
  | .feedFormat t => Sys2Proof.Machine.execFeedFormat t s
  | .frameStart t feed => Sys2Proof.Machine.execFrameStart t feed s
  | .frameWatchExpiry t feed => Sys2Proof.Machine.execFrameWatchExpiry t feed s
  | .gearEdge t high => Sys2Proof.Machine.execGearEdge t high s
  | .gearDebounceExpiry t => Sys2Proof.Machine.execGearDebounceExpiry t s
  | .cueDeadlineExpiry t => Sys2Proof.Machine.execCueDeadlineExpiry t s
  | .holdTimerExpiry t => Sys2Proof.Machine.execHoldTimerExpiry t s
  | .reverseDismiss t => Sys2Proof.Machine.execReverseDismiss t s
  | .reverseStatus t => Sys2Proof.Machine.execReverseStatus t s
  | .computationComplete t => Sys2Proof.Machine.execComputationComplete t s
  | .guideQuery t => Sys2Proof.Machine.execGuideQuery t s
  | .badLinkMessage t link message => Sys2Proof.Machine.execBadLinkMessage t link message s
  | .presenceGained t link => Sys2Proof.Machine.execPresenceGained t link s
  | .presenceLost t link => Sys2Proof.Machine.execPresenceLost t link s
  | .hailTimerExpiry t link => Sys2Proof.Machine.execHailTimerExpiry t link s
  | .offers t link body => Sys2Proof.Machine.execOffers t link body s
  | .accept t link => Sys2Proof.Machine.execAccept t link s
  | .reject t link => Sys2Proof.Machine.execReject t link s
  | .claimTimerExpiry t link => Sys2Proof.Machine.execClaimTimerExpiry t link s
  | .pollTimerExpiry t link => Sys2Proof.Machine.execPollTimerExpiry t link s
  | .status t link body => Sys2Proof.Machine.execStatus t link body s
  | .partnerReset t link => Sys2Proof.Machine.execPartnerReset t link s
  | .holdOffTimerExpiry t link => Sys2Proof.Machine.execHoldOffTimerExpiry t link s
  | .settleTimerExpiry t link => Sys2Proof.Machine.execSettleTimerExpiry t link s
  | .linkPolicySet t => Sys2Proof.Machine.execLinkPolicySet t s
  | .linkReoffer t => Sys2Proof.Machine.execLinkReoffer t s
  | .linkRestart t => Sys2Proof.Machine.execLinkRestart t s
  | .linkCommand t => Sys2Proof.Machine.execLinkCommand t s
  | .linkStatus t => Sys2Proof.Machine.execLinkStatus t s
  | .descriptorReadStart t => Sys2Proof.Machine.execDescriptorReadStart t s
  | .descriptorReadContinue t => Sys2Proof.Machine.execDescriptorReadContinue t s
  | .outputFrameStart t output => Sys2Proof.Machine.execOutputFrameStart t output s
  | .routeSet t => Sys2Proof.Machine.execRouteSet t s
  | .cameraPreview t => Sys2Proof.Machine.execCameraPreview t s
  | .bannerSet t => Sys2Proof.Machine.execBannerSet t s
  | .pageLoad t => Sys2Proof.Machine.execPageLoad t s
  | .pageRemove t => Sys2Proof.Machine.execPageRemove t s
  | .pageClear t => Sys2Proof.Machine.execPageClear t s
  | .itemSet t => Sys2Proof.Machine.execItemSet t s
  | .seatRootSet t => Sys2Proof.Machine.execSeatRootSet t s
  | .menuOpen t => Sys2Proof.Machine.execMenuOpen t s
  | .menuClose t => Sys2Proof.Machine.execMenuClose t s
  | .menuState t => Sys2Proof.Machine.execMenuState t s
  | .idleTimerExpiry t seat => Sys2Proof.Machine.execIdleTimerExpiry t seat s
  | .repeatTimerExpiry t seat => Sys2Proof.Machine.execRepeatTimerExpiry t seat s
  | .zoneLevelSet t => Sys2Proof.Machine.execZoneLevelSet t s
  | .backlightPolicySet t => Sys2Proof.Machine.execBacklightPolicySet t s
  | .chimePatternLoad t => Sys2Proof.Machine.execChimePatternLoad t s
  | .chimePlay t => Sys2Proof.Machine.execChimePlay t s
  | .chimeCancel t => Sys2Proof.Machine.execChimeCancel t s
  | .chimeStatus t => Sys2Proof.Machine.execChimeStatus t s
  | .frontLevelSet t => Sys2Proof.Machine.execFrontLevelSet t s
  | .stepEnd t voice => Sys2Proof.Machine.execStepEnd t voice s
  | .beepStart t => Sys2Proof.Machine.execBeepStart t s
  | .duckStep t seat => Sys2Proof.Machine.execDuckStep t seat s
  | .calibrationRead t => Sys2Proof.Machine.execCalibrationRead t s
  | .calibrationWrite t => Sys2Proof.Machine.execCalibrationWrite t s
  | .calibrationCheck t => Sys2Proof.Machine.execCalibrationCheck t s
  | .calibrationProgram t => Sys2Proof.Machine.execCalibrationProgram t s
  | .programmingComplete t fault => Sys2Proof.Machine.execProgrammingComplete t fault s

end Sys2Proof.Machine
end

