-- ==== Sys2Proof/Machine/Step.lean ====
section
/-! DEFINITION. One step of the part: the command at the front of the queue, or a microsecond of the timebase. -/

namespace Sys2Proof.Machine

/-- With no command waiting the part idles, and its timebase counts one microsecond (DESIGN CHOICE, log entry 1). -/
def State.tick (s : State) : State := s.atTime (afterUs s.timebase 1)

/-- One step: the command at the front of the queue is run with the queue's rest; on an empty queue the part idles. -/
def step (s : State) : Host.Outcome State Fault Refusal :=
  match s.pending with
  | [] => .next s.tick
  | c :: rest => exec c { s with pending := rest }

/-- The state with the command that a word of the table spells put at the front of its queue; as it is when the word spells
none (log entry 6). -/
def State.withFetchWord (s : State) (nbits w : Nat) : State :=
  match decodeTableWord nbits w with
  | none => s
  | some c => { s with pending := c :: s.pending }

end Sys2Proof.Machine
end

