-- ==== Sys2Proof/WellFormed.lean ====
section
/-! DEFINITION. The commands that can arise: what the manual says of the operands an event brings. A request has no operand of
its own: its payload is judged at dispatch (R4). -/

namespace Sys2Proof

/-- R164: a value of an image is a signed 32-bit number, and an image holds 355 of them. -/
def imageFits (image : List Int) : Bool :=
  image.length = 355 && image.all (fun v => decide (-2147483648 ≤ v) && decide (v ≤ 2147483647))

/-- R169: what a write fault can leave in the cells of a slot. -/
def FaultyCells.fits (c : FaultyCells) : Bool := imageFits c.image

/-- Whether a command can arise: an OFFERS or STATUS has a body that suits its kind, and a BAD_LINK_MESSAGE fails a check
(R74); a write fault leaves an image (R164, R169). -/
def Instr.wellFormed (i : Instr) : Bool :=
  match i with
  | .receiveByte _ _ _ => true
  | .interByteWatchExpiry _ => true
  | .candidateFrameComplete _ => true
  | .unknownRequest _ => true
  | .transmitFrameEnd _ => true
  | .identify _ => true
  | .modeSet _ => true
  | .restart _ => true
  | .noticeSelect _ => true
  | .statusLineMap _ => true
  | .powerOn _ _ => true
  | .resetNFall _ => true
  | .resetNRise _ => true
  | .startModeEntry _ => true
  | .vehicleReport _ => true
  | .vehicleWatchExpiry _ _ => true
  | .feedFormat _ => true
  | .frameStart _ _ => true
  | .frameWatchExpiry _ _ => true
  | .gearEdge _ _ => true
  | .gearDebounceExpiry _ => true
  | .cueDeadlineExpiry _ => true
  | .holdTimerExpiry _ => true
  | .reverseDismiss _ => true
  | .reverseStatus _ => true
  | .computationComplete _ => true
  | .guideQuery _ => true
  | .badLinkMessage _ _ message => !Machine.messagePasses message
  | .presenceGained _ _ => true
  | .presenceLost _ _ => true
  | .hailTimerExpiry _ _ => true
  | .offers _ _ body => Machine.offersSuits body
  | .accept _ _ => true
  | .reject _ _ => true
  | .claimTimerExpiry _ _ => true
  | .pollTimerExpiry _ _ => true
  | .status _ _ body => Machine.statusSuits body
  | .partnerReset _ _ => true
  | .holdOffTimerExpiry _ _ => true
  | .settleTimerExpiry _ _ => true
  | .linkPolicySet _ => true
  | .linkReoffer _ => true
  | .linkRestart _ => true
  | .linkCommand _ => true
  | .linkStatus _ => true
  | .descriptorReadStart _ => true
  | .descriptorReadContinue _ => true
  | .outputFrameStart _ _ => true
  | .routeSet _ => true
  | .cameraPreview _ => true
  | .bannerSet _ => true
  | .pageLoad _ => true
  | .pageRemove _ => true
  | .pageClear _ => true
  | .itemSet _ => true
  | .seatRootSet _ => true
  | .menuOpen _ => true
  | .menuClose _ => true
  | .menuState _ => true
  | .idleTimerExpiry _ _ => true
  | .repeatTimerExpiry _ _ => true
  | .zoneLevelSet _ => true
  | .backlightPolicySet _ => true
  | .chimePatternLoad _ => true
  | .chimePlay _ => true
  | .chimeCancel _ => true
  | .chimeStatus _ => true
  | .frontLevelSet _ => true
  | .stepEnd _ _ => true
  | .beepStart _ => true
  | .duckStep _ _ => true
  | .calibrationRead _ => true
  | .calibrationWrite _ => true
  | .calibrationCheck _ => true
  | .calibrationProgram _ => true
  | .programmingComplete _ none => true
  | .programmingComplete _ (some c) => c.fits

end Sys2Proof
end

