-- ==== Sys2Proof/Safety.lean ====
section
/-! DEFINITION. What counts as a sound state: the laws the manual states of the part, each as a decidable proposition over the
state, and the relations statements about one step are made of. -/

namespace Sys2Proof.Machine

/-! ## Commands -/

/-- The reading of the timebase at a command's event. -/
def stampOf (c : Instr) : Stamp :=
  match c with
  | .receiveByte t _ _ => t
  | .interByteWatchExpiry t => t
  | .candidateFrameComplete t => t
  | .unknownRequest t => t
  | .transmitFrameEnd t => t
  | .identify t => t
  | .modeSet t => t
  | .restart t => t
  | .noticeSelect t => t
  | .statusLineMap t => t
  | .powerOn t _ => t
  | .resetNFall t => t
  | .resetNRise t => t
  | .startModeEntry t => t
  | .vehicleReport t => t
  | .vehicleWatchExpiry t _ => t
  | .feedFormat t => t
  | .frameStart t _ => t
  | .frameWatchExpiry t _ => t
  | .gearEdge t _ => t
  | .gearDebounceExpiry t => t
  | .cueDeadlineExpiry t => t
  | .holdTimerExpiry t => t
  | .reverseDismiss t => t
  | .reverseStatus t => t
  | .computationComplete t => t
  | .guideQuery t => t
  | .badLinkMessage t _ _ => t
  | .presenceGained t _ => t
  | .presenceLost t _ => t
  | .hailTimerExpiry t _ => t
  | .offers t _ _ => t
  | .accept t _ => t
  | .reject t _ => t
  | .claimTimerExpiry t _ => t
  | .pollTimerExpiry t _ => t
  | .status t _ _ => t
  | .partnerReset t _ => t
  | .holdOffTimerExpiry t _ => t
  | .settleTimerExpiry t _ => t
  | .linkPolicySet t => t
  | .linkReoffer t => t
  | .linkRestart t => t
  | .linkCommand t => t
  | .linkStatus t => t
  | .descriptorReadStart t => t
  | .descriptorReadContinue t => t
  | .outputFrameStart t _ => t
  | .routeSet t => t
  | .cameraPreview t => t
  | .bannerSet t => t
  | .pageLoad t => t
  | .pageRemove t => t
  | .pageClear t => t
  | .itemSet t => t
  | .seatRootSet t => t
  | .menuOpen t => t
  | .menuClose t => t
  | .menuState t => t
  | .idleTimerExpiry t _ => t
  | .repeatTimerExpiry t _ => t
  | .zoneLevelSet t => t
  | .backlightPolicySet t => t
  | .chimePatternLoad t => t
  | .chimePlay t => t
  | .chimeCancel t => t
  | .chimeStatus t => t
  | .frontLevelSet t => t
  | .stepEnd t _ => t
  | .beepStart t => t
  | .duckStep t _ => t
  | .calibrationRead t => t
  | .calibrationWrite t => t
  | .calibrationCheck t => t
  | .calibrationProgram t => t
  | .programmingComplete t _ => t

/-- A row of Table 1-3: the request's code, the payload lengths it admits, and whether it is available in STANDBY (every
request is available in RUN). -/
structure RequestRow where
  code : Byte
  lengthOk : List Byte → Bool
  inStandby : Bool

/-- Table 1-3, for the commands that are requests. -/
def requestRow (c : Instr) : Option RequestRow :=
  match c with
  | .receiveByte _ _ _ => none
  | .interByteWatchExpiry _ => none
  | .candidateFrameComplete _ => none
  | .unknownRequest _ => none
  | .transmitFrameEnd _ => none
  | .identify _ => some ⟨0x01, lengthIs 0, true⟩
  | .modeSet _ => some ⟨0x02, lengthIs 1, true⟩
  | .restart _ => some ⟨0x03, lengthIs 0, true⟩
  | .noticeSelect _ => some ⟨0x04, lengthIs 13, true⟩
  | .statusLineMap _ => some ⟨0x05, lengthIs 3, true⟩
  | .powerOn _ _ => none
  | .resetNFall _ => none
  | .resetNRise _ => none
  | .startModeEntry _ => none
  | .vehicleReport _ => some ⟨0x10, lengthIs 8, true⟩
  | .vehicleWatchExpiry _ _ => none
  | .feedFormat _ => some ⟨0x11, lengthIs 6, false⟩
  | .frameStart _ _ => none
  | .frameWatchExpiry _ _ => none
  | .gearEdge _ _ => none
  | .gearDebounceExpiry _ => none
  | .cueDeadlineExpiry _ => none
  | .holdTimerExpiry _ => none
  | .reverseDismiss _ => some ⟨0x21, lengthIs 0, false⟩
  | .reverseStatus _ => some ⟨0x20, lengthIs 0, true⟩
  | .computationComplete _ => none
  | .guideQuery _ => some ⟨0x28, lengthIs 2, true⟩
  | .badLinkMessage _ _ _ => none
  | .presenceGained _ _ => none
  | .presenceLost _ _ => none
  | .hailTimerExpiry _ _ => none
  | .offers _ _ _ => none
  | .accept _ _ => none
  | .reject _ _ => none
  | .claimTimerExpiry _ _ => none
  | .pollTimerExpiry _ _ => none
  | .status _ _ _ => none
  | .partnerReset _ _ => none
  | .holdOffTimerExpiry _ _ => none
  | .settleTimerExpiry _ _ => none
  | .linkPolicySet _ => some ⟨0x30, lengthIs 6, false⟩
  | .linkReoffer _ => some ⟨0x31, lengthIs 1, false⟩
  | .linkRestart _ => some ⟨0x32, lengthIs 1, false⟩
  | .linkCommand _ => some ⟨0x33, lengthIs 5, false⟩
  | .linkStatus _ => some ⟨0x34, lengthIs 1, false⟩
  | .descriptorReadStart _ => some ⟨0x35, lengthIs 1, false⟩
  | .descriptorReadContinue _ => some ⟨0x36, lengthIs 1, false⟩
  | .outputFrameStart _ _ => none
  | .routeSet _ => some ⟨0x40, lengthIs 2, false⟩
  | .cameraPreview _ => some ⟨0x12, lengthIs 1, false⟩
  | .bannerSet _ => some ⟨0x41, lengthIs 2, false⟩
  | .pageLoad _ => some ⟨0x50, fun p => (walkPage p).isSome, false⟩
  | .pageRemove _ => some ⟨0x51, lengthIs 1, false⟩
  | .pageClear _ => some ⟨0x52, lengthIs 0, false⟩
  | .itemSet _ => some ⟨0x53, lengthIs 4, false⟩
  | .seatRootSet _ => some ⟨0x54, lengthIs 2, false⟩
  | .menuOpen _ => some ⟨0x55, lengthIs 2, false⟩
  | .menuClose _ => some ⟨0x56, lengthIs 1, false⟩
  | .menuState _ => some ⟨0x57, lengthIs 1, false⟩
  | .idleTimerExpiry _ _ => none
  | .repeatTimerExpiry _ _ => none
  | .zoneLevelSet _ => some ⟨0x60, lengthIs 2, false⟩
  | .backlightPolicySet _ => some ⟨0x61, lengthIs 3, false⟩
  | .chimePatternLoad _ => some ⟨0x70, patternLength, false⟩
  | .chimePlay _ => some ⟨0x71, lengthIs 4, false⟩
  | .chimeCancel _ => some ⟨0x72, lengthIs 1, false⟩
  | .chimeStatus _ => some ⟨0x73, lengthIs 0, false⟩
  | .frontLevelSet _ => some ⟨0x74, lengthIs 1, false⟩
  | .stepEnd _ _ => none
  | .beepStart _ => none
  | .duckStep _ _ => none
  | .calibrationRead _ => some ⟨0x80, lengthIs 2, true⟩
  | .calibrationWrite _ => some ⟨0x81, lengthIs 6, true⟩
  | .calibrationCheck _ => some ⟨0x82, lengthIs 0, true⟩
  | .calibrationProgram _ => some ⟨0x83, lengthIs 0, true⟩
  | .programmingComplete _ _ => none

/-- The part runs, and the request that may be dispatched has this code and payload (R4). -/
abbrev State.asks (s : State) (code : Byte) (payload : List Byte) : Prop :=
  s.phase = .running ∧ s.cli.nextRequest.map (fun q => (q.code, q.payload)) = some (code, payload)

/-- What a dispatch leaves when the request's owner has left `s` and gives the reply `r` (R4), as the event ends. -/
def State.replied (s : State) (r : Reply) : State := (s.answer r).settle

/-- What the dispatch of a request leaves that is answered without any other effect. -/
def State.onlyReplies (s : State) (t : Stamp) (r : Reply) : State := { s with timebase := t }.replied r

/-! ## Control link -/

/-- R13: at most one entry of a given kind and source, and at most 24 entries (section 1.4). -/
abbrev Cli.boardLaw (c : Cli) : Prop :=
  c.board.length ≤ 24 ∧ (c.board.map (fun e => (e.body.kind, e.source))).Nodup

/-- Section 1.2: the queue holds up to 4 requests, and every ANSWERED entry is older than every WAITING one. -/
abbrev Cli.queueLaw (c : Cli) : Prop :=
  c.queue.length ≤ 4 ∧ c.queue.Pairwise (fun a b => b.reply.isSome → a.reply.isSome)

/-! ## Reverse view -/

/-- Table 3-1, section 3.1: the timers, the held view and the fault chime belong to their states, and the camera's lock to
LIVE. -/
abbrev State.rvcLaw (s : State) : Prop :=
  (s.rvc.cueDeadline.isSome ↔ s.rvc.state = .cueing)
  ∧ (s.rvc.holdTimer.isSome ↔ s.rvc.state = .held)
  ∧ (s.rvc.heldView ≠ .none ↔ s.rvc.state = .held)
  ∧ (s.rvc.faultChime.isSome → s.rvc.state = .fault)
  ∧ (s.rvc.state = .live → (s.port .cam).lock = .locked)
  ∧ (s.rvc.state = .cueing → (s.port .cam).lock ≠ .locked)
  ∧ (s.rvc.state = .fault → (s.port .cam).lock ≠ .locked)
  ∧ (s.cli.mode = .standby → s.rvc.state = .off)

/-- Section 2.2, section 3.1: a candidate is for the level that is not confirmed, and the confirmed level is REVERSE exactly in
CUEING, LIVE and FAULT. -/
abbrev State.gearLaw (s : State) : Prop :=
  (∀ c ∈ s.vin.candidate, c.level ≠ s.vin.gear)
  ∧ (s.vin.gear = .reverse ↔ s.rvc.state = .cueing ∨ s.rvc.state = .live ∨ s.rvc.state = .fault)

/-! ## Feed ports -/

/-- R23, R26: camera power and the enabling of the ports follow their conditions, and a disabled port is in NO_SIGNAL. -/
abbrev State.portLaw (s : State) : Prop :=
  s.fdp.camPower = (!s.rvcOff || s.cmp.preview)
  ∧ s.fdp.cam.enabled = s.fdp.camPower
  ∧ s.fdp.uif.enabled = s.inRun ∧ s.fdp.ff1.enabled = s.inRun ∧ s.fdp.ff2.enabled = s.inRun
  ∧ (s.cli.mode = .standby → s.cmp.preview = false)

/-- R20, R21, R23: a disabled port is in NO_SIGNAL; stamp, watch and counts go with the lock state. -/
abbrev Port.law (p : Port) : Prop :=
  (p.enabled = false → p.lock = .noSignal)
  ∧ (p.lock = .noSignal ∨ p.lock = .lost → p.lastStamp = none ∧ p.watch = none)
  ∧ (p.lock = .acquiring ∨ p.lock = .locked → p.lastStamp.isSome ∧ p.watch.isSome)
  ∧ (p.lock = .acquiring → p.good ≤ 3) ∧ (p.lock = .locked → p.bad ≤ 2) ∧ p.good ≤ 4 ∧ p.bad ≤ 3

/-! ## Guide line engine -/

/-- R68, R69: the camera lock view is the CAM port's lock, a pending set exists only while it is LOCKED, and the compositor
holds the installed set (R110). -/
abbrev State.guideLaw (s : State) : Prop :=
  (s.gle.camLocked = true ↔ (s.port .cam).lock = .locked)
  ∧ (s.gle.pending.isSome → s.gle.camLocked = true)
  ∧ s.cmp.guideSet = s.gle.installed
  ∧ (s.gle.mode = .tracking ↔ s.rvc.state ≠ .off)
  ∧ (s.gle.followUp = true → s.gle.inFlight.isSome)

/-! ## Links -/

/-- R86: at most 4 commands, at most one of them BACKLIGHT; outside STREAMING the queue is empty (R81, R89). -/
abbrev Link.queueLaw (l : Link) : Prop :=
  l.queue.length ≤ 4 ∧ (l.queue.filter (·.isBacklight)).length ≤ 1 ∧ (l.state ≠ .streaming → l.queue = [])

/-- R79: an offer is within the class budget and the policy in force. -/
abbrev Link.within (l : Link) (o : Offer) : Prop :=
  o.rate ≤ l.cable.budget ∧ o.width ≤ l.inForce.width ∧ o.height ≤ l.inForce.height ∧ o.refresh ≤ l.inForce.refresh

/-- R80: an agreement is held exactly in STREAMING; its mode is a stored offer within the budget and the policy. -/
abbrev Link.agreementLaw (l : Link) : Prop :=
  (l.agreement.isSome ↔ l.state = .streaming)
  ∧ (∀ a ∈ l.agreement, 1 ≤ a.index
      ∧ ∃ o ∈ l.offers[a.index - 1]?, o.width = a.width ∧ o.height = a.height ∧ o.refresh = a.refresh ∧ l.within o)

/-- R79: in CLAIMING the claimed offer is a stored one within the budget and the policy. -/
abbrev Link.claimLaw (l : Link) : Prop :=
  l.state = .claiming → ∃ n ∈ l.claimed, 1 ≤ n ∧ ∃ o ∈ l.offers[n - 1]?, l.within o

/-! ## Compositor -/

/-- R102: the effective sources and causes are those the rule decides. -/
abbrev State.sourceLaw (s : State) : Prop :=
  (s.cmp.front.effective, s.cmp.front.cause) = frontSource s.rvcOff s.cmp.preview s.cmp.filmLock s.cmp.front.routed
  ∧ (∀ i ∈ [Seat.s1, Seat.s2], (s.rearRow i).effective = (s.rearRow i).routed ∧ (s.rearRow i).cause = .route)

/-- R105, R110: the front view is the one the controller demands, the shown banner follows it, and the guide plane follows
its four conditions. -/
abbrev State.viewLaw (s : State) : Prop :=
  s.cmp.frontView = frontViewOf s.rvc.state s.rvc.heldView
  ∧ s.cmp.front.shown = frontBanner s.cmp.frontView s.rvcOff s.cmp.front.hostBanner
  ∧ (s.cmp.guidePlane = true ↔ s.cmp.frontView = .picture ∧ s.cmp.front.effective = .cam ∧ s.cmp.front.cause = .reverse
      ∧ (s.port .cam).lock = .locked ∧ s.cmp.guideSet.isSome)

/-- R106: the shown banner of a rear row. -/
abbrev State.rearBannerLaw (s : State) (i : Seat) : Prop :=
  (s.rearRow i).shown
    = rearBanner (decide ((s.link i).state = .streaming)) (s.sourceUnlocked (s.rearRow i).effective) (s.rearRow i).hostBanner

/-- R97, R99, R113: a rear row has frame starts and may hold a pending route only while its link streams. -/
abbrev State.rowLaw (s : State) (i : Seat) : Prop :=
  ((s.rearRow i).nextFrame.isSome ↔ (s.link i).state = .streaming)
  ∧ ((s.rearRow i).pending.isSome → (s.link i).state = .streaming)

/-- R100: the film lock is released only while the speed is fresh. -/
abbrev State.filmLaw (s : State) : Prop := s.cmp.filmLock = false → s.speedFresh = true

/-! ## Menus -/

/-- R115: at most 32 pages and 256 items, no two pages with one id. -/
abbrev Mnu.storeLaw (m : Mnu) : Prop :=
  m.store.length ≤ 32 ∧ itemTotal m.store ≤ 256 ∧ (m.store.map (·.id)).Nodup

/-- R121: an open menu's history holds 1 to 6 entries, each naming a page of the store; R123: its link is in STREAMING; R132:
its menu plane is on; R131: a closed menu's idle timer is stopped. -/
abbrev State.menuLaw (s : State) (i : Seat) : Prop :=
  (s.ctx i).stack.length ≤ 6
  ∧ (∀ e ∈ (s.ctx i).stack, (findPage s.mnu.store e.page).isSome)
  ∧ ((s.ctx i).stack ≠ [] → (s.link i).state = .streaming)
  ∧ (s.cmp.menuPlane.get i = (s.ctx i).isOpen)
  ∧ ((s.ctx i).idle.isSome → (s.ctx i).stack ≠ [])

/-! ## Seats -/

/-- R144: the volume, the offset and the backlight values lie within their ranges. -/
abbrev SeatRec.law (r : SeatRec) : Prop :=
  r.volume ≤ 60 ∧ -10 ≤ r.offset ∧ r.offset ≤ 10 ∧ 5 ≤ r.target ∧ r.target ≤ 100 ∧ (∀ v ∈ r.next, 5 ≤ v ∧ v ≤ 100)

/-- The backlight level a command carries. -/
def Command.level (c : Command) : Option Nat :=
  match c.kind with
  | .backlight v => some v
  | .panelPower _ => none
  | .raw _ _ _ => none

/-- R144: every backlight level queued to a screen lies within 5 to 100. -/
abbrev Link.levelLaw (l : Link) : Prop := ∀ c ∈ l.queue, ∀ v ∈ c.level, 5 ≤ v ∧ v ≤ 100

/-- R138, R139, R140: a repeat timer runs, and forwarded is yes, only while a key is held; a key is held only while the link
streams. -/
abbrev State.keyLaw (s : State) (i : Seat) : Prop :=
  ((s.seat i).repeatTimer.isSome → (s.seat i).held.isSome)
  ∧ ((s.seat i).forwarded = true → (s.seat i).held.isSome)
  ∧ ((s.seat i).held.isSome → (s.link i).state = .streaming)
  ∧ ((s.seat i).next.isSome → (s.link i).state = .streaming)

/-! ## Chimes -/

def zonesMeet (a b : Option Playing) : Bool :=
  match a, b with
  | some p, some q => p.chime.zones.meets q.chime.zones
  | _, _ => false

/-- R152, R154: no zone is in the zone sets of both voices; at most 8 chimes wait, none of class CLICK. -/
abbrev Chu.voiceLaw (c : Chu) : Prop :=
  zonesMeet c.voice1 c.voice2 = false ∧ c.queue.length ≤ 8 ∧ ∀ ch ∈ c.queue, ch.cls ≠ .click

/-- R154: the queue is ordered by priority, highest first, then by arrival order, oldest first. -/
abbrev Chu.orderLaw (c : Chu) : Prop :=
  c.queue.Pairwise (fun a b => a.ahead b) ∧ (∀ ch ∈ c.records, ch.order < c.nextOrder)
  ∧ (c.records.map (·.order)).Nodup

/-- R151, R158: no two records hold one handle, handles are 1 to 255, and at most one record is the park beep's. -/
abbrev Chu.recordLaw (c : Chu) : Prop :=
  (c.records.map (·.handle)).Nodup ∧ (∀ ch ∈ c.records, 1 ≤ ch.handle ∧ ch.handle ≤ 255)
  ∧ (c.records.filter isPark).length ≤ 1

/-- R158: a park beep record exists only while reverse view is not OFF. -/
abbrev State.parkLaw (s : State) : Prop := s.rvc.state = .off → s.chu.records.filter isPark = []

/-- R160: a zone is ducking exactly while a playing chime's zone set holds it. -/
abbrev State.duckLaw (s : State) (i : Seat) : Prop := (s.chu.duck.get i).ducking = s.chu.ducks i

/-- R160: a gain takes no further step exactly while it stands at its goal: the duck level in a ducking zone, 0 dB in another. -/
abbrev State.restLaw (s : State) (i : Seat) : Prop :=
  let d := s.chu.duck.get i
  d.timer = none ↔ d.gain = if d.ducking then calDuckLevel s.cal.working else 0

/-! ## Calibration -/

/-- R169, R168: a slot reads in programming exactly while it is written, and then the operation is in flight for it. -/
abbrev Cal.slotLaw (c : Cal) (n : SlotNo) : Prop :=
  ((c.slot n).judged = .blank ↔ (c.slot n).cells = .blank)
  ∧ ((c.slot n).judged = .programming ↔ (c.slot n).cells = .writing)
  ∧ ((c.slot n).judged = .programming ↔ ∃ f ∈ c.flight, f.slot = n)

/-- R166: whether a value lies within the range Table 10-1 gives its field and index. Where R55 checks a guide field against
its neighbours, this is the range alone. -/
def fieldFits (no index : Nat) (v : Int) : Bool :=
  match no with
  | 11 => within 0 32767 v
  | 13 => within 1 4 v
  | 14 => within 250 4000 v
  | 16 => within (-2147483648) 2147483647 v
  | _ => (storedValue [] no index v).isSome

/-- Every value of an image lies within the range of its field. -/
abbrev imageLaw (image : List Int) : Prop :=
  ∀ r ∈ fieldTable, ∀ k < r.count, fieldFits r.no (r.first + k) (field image r.no (r.first + k)) = true

/-- The image of a written slot that is not BAD. -/
def Slot.usable (x : Slot) : Option (List Int) :=
  match x.cells with
  | .written image _ => if x.judged = .bad then none else some image
  | .blank => none
  | .writing => none
  | .partly => none

/-- R166, R168: the working copy, the snapshot in flight and every image a load may take hold values within their ranges. -/
abbrev Cal.rangeLaw (c : Cal) : Prop :=
  imageLaw c.working ∧ (∀ f ∈ c.flight, imageLaw f.image) ∧ (∀ n ∈ [SlotNo.g1, .g2, .g3], ∀ im ∈ (c.slot n).usable, imageLaw im)

/-! ## The laws together, one group for each part of the manual -/

/-- The laws of the control link: the board and the queue; four status lines once the map is loaded (R17), and one selection
for each of the thirteen kinds (R15). -/
abbrev State.controlLaw (s : State) : Prop :=
  s.cli.boardLaw ∧ s.cli.queueLaw ∧ (s.phase = .running → s.cli.lineMap.length = 4) ∧ s.cli.selection.length = 13

/-- The laws of both links and of the rows they drive. -/
abbrev State.linkLaw (s : State) : Prop :=
  ∀ i ∈ [Seat.s1, Seat.s2], (s.link i).queueLaw ∧ (s.link i).agreementLaw ∧ (s.link i).claimLaw ∧ s.rowLaw i

/-- The laws of the reverse view, the gear line, the feed ports, the guide line engine and what the rows show. Before the start
mode the controller is OFF and the part mode is STANDBY (log entry 7). -/
abbrev State.reverseLaw (s : State) : Prop :=
  (s.phase ≠ .running → s.cli.mode = .standby ∧ s.rvc.state = .off)
  ∧ s.rvcLaw ∧ s.gearLaw ∧ s.portLaw ∧ (∀ f ∈ [Feed.uif, .ff1, .ff2, .cam], (s.port f).law) ∧ s.guideLaw

/-- R16, R49: in STANDBY both links are DETACHED and the controller is OFF. -/
abbrev State.standbyLaw (s : State) : Prop :=
  s.cli.mode = .standby → (s.link .s1).state = .detached ∧ (s.link .s2).state = .detached ∧ s.rvc.state = .off

/-- The laws of the menus and the keys. -/
abbrev State.seatLaw (s : State) : Prop :=
  s.mnu.storeLaw ∧ ∀ i ∈ [Seat.s1, Seat.s2], s.menuLaw i ∧ s.keyLaw i

/-- The laws of the chime unit. -/
abbrev State.chimeLaw (s : State) : Prop :=
  s.chu.voiceLaw ∧ s.chu.orderLaw ∧ s.chu.recordLaw ∧ s.parkLaw ∧ s.duckLaw .s1 ∧ s.duckLaw .s2 ∧ s.restLaw .s1 ∧ s.restLaw .s2

/-- R144, R160, R161, R166: every level lies within its range, and so does every calibration value. -/
abbrev State.levelsLaw (s : State) : Prop :=
  s.cal.rangeLaw ∧ s.chu.frontLevel ≤ 60
  ∧ ∀ i ∈ [Seat.s1, Seat.s2], (s.seat i).law ∧ (s.link i).levelLaw ∧ -30 ≤ (s.chu.duck.get i).gain ∧ (s.chu.duck.get i).gain ≤ 0

/-- The slots' law. -/
abbrev Cal.slotsLaw (c : Cal) : Prop := ∀ n ∈ [SlotNo.g1, .g2, .g3], c.slotLaw n

/-- What the rows show follows the state. -/
abbrev State.shownLaw (s : State) : Prop := s.viewLaw ∧ s.rearBannerLaw .s1 ∧ s.rearBannerLaw .s2

/-! # Relations of one step -/

/-! ## Notices -/

/-- The control link after notices, each a source and a body, have been posted at `t` in their order
(`Obligations.PostMergesJoinsOrDrops` says what one post does). -/
def Cli.postAll (c : Cli) (t : Stamp) (ns : List (Nat × NoticeBody)) : Cli := ns.foldl (fun c n => c.post t n.1 n.2) c

/-- The notices of one kind among those posted. -/
def ofKind (kind : NoticeKind) (ns : List (Nat × NoticeBody)) : List (Nat × NoticeBody) := ns.filter (fun n => decide (n.2.kind = kind))

/-- The notices of one kind and source among those posted. -/
def ofMatter (kind : NoticeKind) (source : Nat) (ns : List (Nat × NoticeBody)) : List (Nat × NoticeBody) :=
  (ofKind kind ns).filter (fun n => decide (n.1 = source))

/-- R22: the FEED notice of a port whose lock state has changed at `t`, and none where it has not. -/
def State.feedTold (s' s : State) (t : Stamp) (f : Feed) : List (Nat × NoticeBody) :=
  if (s'.port f).lock = (s.port f).lock then [] else [(feedNo f, .feed (s'.port f).lock t)]

/-- R104: the ROUTE notice of a row whose effective source or cause has changed, and none where neither has. -/
def Row.routeTold (r' r : Row) (output : Output) : List (Nat × NoticeBody) :=
  if r'.effective = r.effective ∧ r'.cause = r.cause then [] else [(outputNo output, .route r'.effective r'.cause)]

/-- R75: the LINK notice of a link whose state has changed, and none where it has not. -/
def State.linkTold (s' s : State) (i : Seat) : List (Nat × NoticeBody) :=
  if (s'.link i).state = (s.link i).state then [] else [(seatNo i, .link (s'.link i).state (s'.link i).reason)]

/-- R49: the stamp of the latest edge. -/
def Rvc.latestAt (r : Rvc) (e : Stamp) : Prop :=
  (r.latestEdge = some .reverse ∧ r.reverseStamp = some e) ∨ (r.latestEdge = some .notReverse ∧ r.notReverseStamp = some e)

/-- R36, R49: a change of the controller posts one REVERSE notice, and what the compositor and the chime unit post in answer stands
behind it; without a change there is none. -/
def Rvc.tells (r' r : Rvc) (ns : List (Nat × NoticeBody)) : Prop :=
  (r'.state = r.state → ofKind .reverse ns = [])
  ∧ (r'.state ≠ r.state → ∃ before after edge, ns = before ++ (0, .reverse r'.state r'.reason r'.heldView edge) :: after
      ∧ (∀ e, r'.latestAt e → edge = e)
      ∧ (∀ n ∈ before, n.2.kind ≠ .reverse ∧ n.2.kind ≠ .route ∧ n.2.kind ≠ .chime) ∧ ofKind .reverse after = [])

/-! ## Cold start -/

/-- R18, R163, R165: every block of `s'` holds its cold-start value, for the working copy of `s'`; what is outside the part is
that of `s` (log entry 4). -/
def State.coldFrom (s' s : State) (cause : StartCause) : Prop :=
  s'.cli = coldCli cause ∧ s'.fdp = coldFdp ∧ s'.vin = coldVin s.vin.gearRaw ∧ s'.rvc = coldRvc ∧ s'.gle = coldGle
  ∧ (∀ i, s'.link i = coldLink s'.cal.working i (s.link i).present)
  ∧ s'.cmp = coldCmp s'.cal.working ∧ s'.mnu = coldMnu ∧ s'.sct = coldSct s'.cal.working ∧ s'.chu = coldChu s'.cal.working
  ∧ s'.cal.flight = none ∧ (∀ n, (s.cal.slot n).cells = .writing → (s'.cal.slot n).judged = .bad)
  ∧ s'.pending = s.pending

/-- R164: whether a load finds a slot GOOD with an image. -/
def Cal.loadable (c : Cal) (n : SlotNo) (image : List Int) : Prop :=
  (c.slot n).judged ≠ .bad ∧ (c.slot n).cells = .written image (imageCheck image)

/-- R170: the cold-start sequence of `s'` runs; R165: the working copy is the image of the GOOD slot with the highest number,
or the built-in defaults. -/
def State.loadsFrom (s' s : State) (cause : StartCause) : Prop :=
  s'.phase = .loading ∧ s'.resetN = true ∧ s'.coldFrom s cause
  ∧ (∀ n image, s.cal.loadable n image → (∀ m im, n.number < m.number → ¬ s.cal.loadable m im) →
      s'.cal.working = image ∧ s'.cal.loadedGen = n.number)
  ∧ ((∀ n image, ¬ s.cal.loadable n image) → s'.cal.working = builtinImage ∧ s'.cal.loadedGen = 0)
  ∧ s'.cal.loadedCheck = imageCheck s'.cal.working

/-- R170: the part is held at time 0 of the sequence. -/
def State.heldFrom (s' s : State) (cause : StartCause) : Prop :=
  s'.phase = .held ∧ s'.resetN = false ∧ s'.coldFrom s cause ∧ s'.camPwr = false ∧ s'.linkTxIdle = true

/-! ## Chimes -/

/-- R159: the gap that a beep start at this moment fixes from the distance held; without one it stays (log entry 24). -/
def State.beepGap (s : State) : Nat :=
  match s.vin.obstacle with
  | none => s.chu.parkGap
  | some d => if d ≤ 300 then 0 else 150 + (d - 300) * 650 / 1200 - ((s.chu.pattern 4).stepAt 0).dur

/-- R152, R159: what a voice holds when a chime begins on it at this moment: step 0 of its pattern with its repeat count, or
the first beep of the park beep record. -/
def State.begun (s : State) (ch : Chime) : Playing :=
  let beep := ((s.chu.pattern 4).stepAt 0).dur
  let step := ((s.chu.pattern ch.pattern).stepAt 0).dur
  if ch.origin = .park then ⟨ch, 0, (s.chu.pattern ch.pattern).repeatCount, afterMs s.timebase (beep + s.beepGap), afterMs s.timebase beep⟩
  else ⟨ch, 0, (s.chu.pattern ch.pattern).repeatCount, afterMs s.timebase step, afterMs s.timebase step⟩

/-- R152: the chime unit after a chime has begun on a voice. -/
def State.withVoice (s : State) (v : Voice) (ch : Chime) : Chu :=
  { s.chu.setVoice v (some (s.begun ch)) with parkGap := if ch.origin = .park then s.beepGap else s.chu.parkGap }

/-- R151: the chime unit after it has formed a record: the handle and the arrival order are taken. -/
def Chu.numbered (c : Chu) : Chu := { c with lastHandle := c.nextHandle, nextOrder := c.nextOrder + 1 }

/-- R152: no zone of a set is in the zone set of the chime on a voice. -/
abbrev clear (voice : Option Playing) (z : ZoneSet) : Prop := ∀ p ∈ voice, p.chime.zones.meets z = false

/-- R153: the chime on a voice blocks an arrival: both do when no voice is free, and otherwise the one that shares a zone. -/
abbrev Chu.blocked (c : Chu) (v : Voice) (z : ZoneSet) (p : Playing) : Prop :=
  c.voice v = some p ∧ ((c.voice1.isSome ∧ c.voice2.isSome) ∨ p.chime.zones.meets z = true)

/-- R153, R154: the part after a preempted chime that has left its voice has ended or returned to the queue. -/
def State.yieldsFrom (s' s : State) (voice : Option Playing) : Prop :=
  (voice = none → s' = s)
  ∧ ∀ p, voice = some p →
      (p.chime.cls ≠ .repeat → s' = s.endChime p.chime .preempted)
      ∧ (p.chime.cls = .repeat → (s.joinQueue p.chime).2 = true → s' = (s.joinQueue p.chime).1)
      ∧ (p.chime.cls = .repeat → (s.joinQueue p.chime).2 = false → s' = s.endChime p.chime .dropped)

/-- R151, R153, R154: the part after an arrival, and the handle that its record took: placed on voice 1 or else on voice 2; a CLICK
that is blocked leaves no trace; one that outranks all that block it takes voice 1 once they have yielded (which yields first is
the model's choice, log entry 13), and a free voice is filled; any other joins the queue or leaves no trace. -/
def State.arrivesFrom (s' s : State) (r : ChimeRequest) (handle : Option Nat) : Prop :=
  let ch : Chime := ⟨s.chu.nextHandle, r.pattern, r.zones, r.priority, r.cls, r.origin, s.chu.nextOrder⟩
  let formed : State := { s with chu := s.chu.numbered }
  let freed : State := { s with chu := { s.chu.numbered with voice1 := none, voice2 := none } }
  (s.chu.voice1 = none → clear s.chu.voice2 r.zones → s' = { s with chu := formed.withVoice .v1 ch } ∧ handle = some ch.handle)
  ∧ (s.chu.voice1 ≠ none → clear s.chu.voice1 r.zones → s.chu.voice2 = none →
      s' = { s with chu := formed.withVoice .v2 ch } ∧ handle = some ch.handle)
  ∧ ((∃ v p, s.chu.blocked v r.zones p) → r.cls = .click → s' = s ∧ handle = none)
  ∧ ((∃ v p, s.chu.blocked v r.zones p) → r.cls ≠ .click → (∀ v p, s.chu.blocked v r.zones p → p.chime.priority < r.priority) →
      ∃ s2 s3 : State, s2.yieldsFrom freed s.chu.voice1 ∧ s3.yieldsFrom s2 s.chu.voice2
        ∧ s' = ({ s3 with chu := s3.withVoice .v1 ch } : State).fill ∧ handle = some ch.handle)
  ∧ ((∃ v p, s.chu.blocked v r.zones p ∧ r.priority ≤ p.chime.priority) → r.cls ≠ .click →
      let joined := formed.joinQueue ch
      (joined.2 = true → s' = joined.1 ∧ handle = some ch.handle) ∧ (joined.2 = false → s' = s ∧ handle = none))

/-- R123, R153: the part after a click for a seat. -/
def State.clicksFrom (s' s : State) (i : Seat) (pattern : Nat) : Prop :=
  let z : ZoneSet := match i with
    | .s1 => ⟨false, true, false⟩
    | .s2 => ⟨false, false, true⟩
  (calMenuClick s.cal.working = false → s' = s)
  ∧ (calMenuClick s.cal.working = true → ∃ handle, s'.arrivesFrom s ⟨pattern, z, 1, .click, .menu⟩ handle)

/-- R151, R155: the part after the record of a chime has been removed: a voice it held is filled from the queue. -/
def State.removesFrom (s' s : State) (which : Chime → Bool) : Prop :=
  (∀ v p, s.chu.voice v = some p → which p.chime = true → (∀ w q, s.chu.voice w = some q → which q.chime = true → w = v) →
      s' = ({ s with chu := s.chu.setVoice v none } : State).fill)
  ∧ ((∀ v p, s.chu.voice v = some p → which p.chime = false) →
      s' = { s with chu := { s.chu with queue := s.chu.queue.filter (fun ch => !which ch) } })

/-- R42: the part after the controller has cancelled its fault chime, when it holds one. -/
def State.hushesFrom (s' s : State) : Prop :=
  (s.rvc.faultChime = none → s' = s)
  ∧ ∀ h, s.rvc.faultChime = some h → s'.removesFrom { s with rvc := { s.rvc with faultChime := none } }
      (fun ch => decide (ch.handle = h) && decide (ch.origin = .reverse))

/-- R158: the part after the condition of the park beep has been judged: the record of its chime arrives, or is removed. -/
def State.parksFrom (s' s : State) : Prop :=
  let active := s.rvc.state ≠ .off ∧ s.vin.obstacleWatch ≠ none ∧ ∃ d ∈ s.vin.obstacle, d < calFarLimit s.cal.working
  let present := ∃ ch ∈ s.chu.records, ch.origin = .park
  let judged := fun (b : Bool) => ({ s with chu := { s.chu with parkJudged := b } } : State)
  (active → present → s' = judged true)
  ∧ (active → ¬ present → ∃ handle, s'.arrivesFrom (judged true) ⟨4, ⟨true, false, false⟩, 6, .repeat, .park⟩ handle)
  ∧ (¬ active → ¬ present → s' = judged false)
  ∧ (¬ active → present → s'.removesFrom (judged false) (fun ch => decide (ch.origin = .park)))

/-- What the chime unit reads of the rest of the part is the same in both states. -/
def State.hearsAs (a b : State) : Prop :=
  a.timebase = b.timebase ∧ a.vin = b.vin ∧ a.cal = b.cal ∧ a.rvc.state = b.rvc.state

/-- R158: the chime unit of `s'` is that of `s` after the park beep has been judged with what `s'` holds. -/
def State.parkJudgedFrom (s' s : State) : Prop :=
  ∃ a b : State, a.chu = s.chu ∧ a.hearsAs s' ∧ b.parksFrom a ∧ s'.chu = b.chu

/-- R42, R158: what a change of the controller asks of the chime unit, in this order: on an exit from FAULT the cancel of the fault
chime; between OFF and not OFF the park beep is judged; on an entry to LIVE from OFF or CUEING the engage chime, when the field is ON;
on an entry to FAULT the fault chime, whose handle is kept when it is taken. Without a change it is asked nothing. -/
def State.soundsFrom (s' s : State) : Prop :=
  (s'.rvc.state = s.rvc.state → s'.chu = s.chu ∧ s'.rvc.faultChime = s.rvc.faultChime)
  ∧ (s'.rvc.state ≠ s.rvc.state → ∃ a b c d e : State,
      (a.chu = s.chu ∧ a.rvc.faultChime = s.rvc.faultChime ∧ a.hearsAs s')
      ∧ (s.rvc.state = .fault → b.hushesFrom a) ∧ (s.rvc.state ≠ .fault → b = a)
      ∧ (c.chu = b.chu ∧ c.rvc = b.rvc ∧ c.hearsAs s')
      ∧ ((s.rvc.state = .off ∨ s'.rvc.state = .off) → d.parksFrom c) ∧ (s.rvc.state ≠ .off → s'.rvc.state ≠ .off → d = c)
      ∧ (let engages := s'.rvc.state = .live ∧ (s.rvc.state = .off ∨ s.rvc.state = .cueing)
         (engages → calEngageChime s.cal.working = true → ∃ handle, e.arrivesFrom d ⟨2, ⟨true, false, false⟩, 5, .once, .reverse⟩ handle)
         ∧ (s'.rvc.state = .fault → ∃ (x : State) (handle : Option Nat),
              x.arrivesFrom d ⟨3, ⟨true, false, false⟩, 7, .repeat, .reverse⟩ handle
              ∧ e = { x with rvc := { x.rvc with faultChime := handle } })
         ∧ ((engages → calEngageChime s.cal.working = false) → s'.rvc.state ≠ .fault → e = d))
      ∧ s'.chu = e.chu ∧ s'.rvc.faultChime = e.rvc.faultChime)

/-! ## Reverse view -/

/-- R48: what an entry to OFF leaves: both timers stopped, no held view, camera power as preview has it, the front view none and
the engine IDLE; the REVERSE notice, the ROUTE notice of a front row that changes, the FEED
notice of a CAM port that is disabled, and what the chime unit is asked; the vehicle
values, links, menus, seats and the store are kept. -/
def State.entersOff (s' s : State) (reason : RvcReason) : Prop :=
  (∃ ns, s'.cli = s.cli.postAll s'.timebase ns ∧ s'.rvc.tells s.rvc ns
    ∧ ofMatter .route 1 ns = s'.cmp.front.routeTold s.cmp.front .fro
    ∧ (s.fdp.camPower = true → ofKind .feed ns = s'.feedTold s s'.timebase .cam))
  ∧ s'.soundsFrom s
  ∧ s'.rvc.state = .off ∧ s'.rvc.reason = reason ∧ s'.rvc.heldView = .none ∧ s'.rvc.cueDeadline = none ∧ s'.rvc.holdTimer = none
  ∧ s'.fdp.camPower = s.cmp.preview ∧ s'.cmp.frontView = .none ∧ s'.gle.mode = .idle ∧ s'.gle.followUp = false
  ∧ s'.vin = s.vin ∧ s'.rsl = s.rsl ∧ s'.mnu = s.mnu ∧ s'.sct = s.sct ∧ s'.cal = s.cal ∧ s'.pending = s.pending

/-! ## Guide lines -/

/-- spec/00_scope.md, Rounding: `m` is n / d rounded to the nearest integer, halves away from zero. -/
abbrev isRounded (m n : Int) (d : Nat) : Prop :=
  if 0 ≤ n then 2 * d * m ≤ 2 * n + d ∧ 2 * n + d < 2 * d * m + 2 * d
  else 2 * n - d ≤ 2 * d * m ∧ 2 * d * m - 2 * d < 2 * n - d

/-- R57, R59: the curvature: 0 for the stale marker; otherwise it takes the sign of the angle, and its magnitude is k8 from 4800
on, and below that lies between two entries of a table that does not decrease. -/
def GuideInput.curvedBy (i : GuideInput) (curvature : Int) : Prop :=
  match i.angle with
  | none => curvature = 0
  | some a =>
    let n := a.natAbs / 600
    ∃ mag : Int, (0 < a → curvature = mag) ∧ (a < 0 → curvature = -mag) ∧ (a = 0 → curvature = 0)
      ∧ (4800 ≤ a.natAbs → mag = i.k 8)
      ∧ (a.natAbs < 4800 → 0 ≤ i.k n → i.k n ≤ i.k (n + 1) →
          isRounded (mag - i.k n) ((i.k (n + 1) - i.k n) * ((a.natAbs : Int) - 600 * n)) 600)

/-- R60: the projection of a ground point: invalid when D is 0 or negative; otherwise both quotients rounded and clamped. -/
def GuideInput.projectsTo (i : GuideInput) (x y : Int) (p : Option Pt) : Prop :=
  let nu := i.h 0 * x + i.h 1 * y + i.h 2
  let nv := i.h 3 * x + i.h 4 * y + i.h 5
  let d := i.h 6 * x + i.h 7 * y + i.h 8
  (d ≤ 0 → p = none)
  ∧ (0 < d → ∃ u v, isRounded u nu d.toNat ∧ isRounded v nv d.toNat
      ∧ p = some ⟨max (-32768) (min 32767 u), max (-32768) (min 32767 v),
                  decide (u < -32768 ∨ 32767 < u ∨ v < -32768 ∨ 32767 < v)⟩)

/-- R58: a line of points, one for each 250 mm from 0 to the distance of the last band, `side` from the path. -/
def GuideInput.lineOf (i : GuideInput) (curvature side : Int) (points : List (Option Pt)) : Prop :=
  points.length = i.band i.bandCount / 250 + 1
  ∧ ∀ n < points.length, ∃ y, isRounded y (curvature * (250 * n * (250 * n) : Nat)) 200000000
      ∧ i.projectsTo (250 * n : Nat) (y + side) (points.getD n none)

/-- R56: inside the image. -/
abbrev Pt.isIn (p : Pt) (w h : Nat) : Prop := 0 ≤ p.u ∧ p.u < w ∧ 0 ≤ p.v ∧ p.v < h

/-- R64: `c` is the crossing that replaces the outside end `b` of a segment whose other end `a` is inside: on the border that
`b` violates, on the nearer of two, in the corner when both are equally near; the other coordinate is exact and then rounded. -/
def crossesAt (a b : Pt) (w h : Nat) (c : Int × Int) : Prop :=
  let uOut := b.u < 0 ∨ (w : Int) ≤ b.u
  let vOut := b.v < 0 ∨ (h : Int) ≤ b.v
  let x : Int := if b.u < 0 then 0 else (w : Int) - 1
  let y : Int := if b.v < 0 then 0 else (h : Int) - 1
  let du := (b.u - a.u).natAbs
  let dv := (b.v - a.v).natAbs
  let tu := (x - a.u).natAbs
  let tv := (y - a.v).natAbs
  let onU := c.1 = x ∧ isRounded c.2 (a.v * du + (b.v - a.v) * tu) du
  let onV := c.2 = y ∧ isRounded c.1 (a.u * dv + (b.u - a.u) * tv) dv
  (uOut → ¬ vOut → onU) ∧ (vOut → ¬ uOut → onV)
  ∧ (uOut → vOut → (tu * dv < tv * du → onU) ∧ (tv * du < tu * dv → onV) ∧ (tu * dv = tv * du → c = (x, y)))

/-- R63: what is drawn between two ends. -/
def drawnAs (d : Option Drawn) (p q : Option Pt) (w h : Nat) : Prop :=
  ((p = none ∨ q = none) → d = none)
  ∧ ∀ a b, p = some a → q = some b →
      (a.isIn w h → b.isIn w h → d = some ⟨a.u, a.v, b.u, b.v, .none⟩)
      ∧ (a.isIn w h → ¬ b.isIn w h → ∃ c, crossesAt a b w h c ∧ d = some ⟨a.u, a.v, c.1, c.2, .second⟩)
      ∧ (¬ a.isIn w h → b.isIn w h → ∃ c, crossesAt b a w h c ∧ d = some ⟨c.1, c.2, b.u, b.v, .first⟩)
      ∧ (¬ a.isIn w h → ¬ b.isIn w h → d = none)

/-- R61: the segments of a line, each in the colour of the band that holds its far end. -/
def GuideInput.segmentsOf (i : GuideInput) (points : List (Option Pt)) (segments : List GuideSegment) : Prop :=
  segments.length + 1 = points.length
  ∧ ∀ j < segments.length, ∃ seg n, segments[j]? = some seg ∧ 1 ≤ n ∧ n ≤ i.bandCount
      ∧ i.band (n - 1) < 250 * (j + 1) ∧ 250 * (j + 1) ≤ i.band n ∧ seg.colour = i.colour n
      ∧ drawnAs seg.drawn (points.getD j none) (points.getD (j + 1) none) i.imageWidth i.imageHeight

/-- R56 to R64: a guide set is the result of its latched input set. -/
def GuideSet.resultOf (s : GuideSet) (i : GuideInput) : Prop :=
  s.input = i ∧ i.curvedBy s.curvature
  ∧ i.lineOf s.curvature (i.width / 2 : Nat) s.leftPoints ∧ i.lineOf s.curvature (-(i.width / 2 : Nat)) s.rightPoints
  ∧ i.segmentsOf s.leftPoints s.leftSegments ∧ i.segmentsOf s.rightPoints s.rightSegments
  ∧ s.crossbars.length = i.bandCount
  ∧ ∀ n < i.bandCount, ∃ bar, s.crossbars[n]? = some bar ∧ bar.distance = i.band (n + 1) ∧ bar.colour = i.colour (n + 1)
      ∧ drawnAs bar.drawn (s.leftPoints.getD (i.band (n + 1) / 250) none) (s.rightPoints.getD (i.band (n + 1) / 250) none)
          i.imageWidth i.imageHeight

/-! ## Links -/

/-- R76, R77: the part after a link whose record is `l` has entered HAILING at `t`. -/
def State.hails (s : State) (t : Stamp) (i : Seat) (l : Link) : State :=
  { s with timebase := t,
           rsl := s.rsl.set i { l with state := .hailing, offers := [], descriptor := none, claimed := none, readPos := 0,
                                       hailCount := 1, hailTimer := some (afterMs t 20), holdOffTimer := none,
                                       outbox := l.outbox ++ [message 0x01 []] },
           cli := s.cli.post t (seatNo i) (.link .hailing l.reason) }

/-- R79: whether an offer is a candidate of a selection. -/
def Link.candidate (l : Link) (o : Offer) : Prop := o.rejected = false ∧ l.within o

/-- R79, R82: the link as a selection at `t` that reads `cable` leaves it. -/
def Link.selectedAt (l : Link) (t : Stamp) (cable : Cable) : Prop :=
  l.cable = cable
  ∧ (((∀ o ∈ l.offers, ¬ l.candidate o) ∧ l.state = .noMode ∧ l.claimed = none ∧ l.claimTimer = none)
     ∨ ∃ n o, l.state = .claiming ∧ l.claimed = some n ∧ 1 ≤ n ∧ l.offers[n - 1]? = some o ∧ l.candidate o
        ∧ l.claimTimer = some (afterMs t 100) ∧ l.outbox.getLast? = some (message 0x02 [BitVec.ofNat 8 n])
        ∧ ∀ m o', 1 ≤ m → l.offers[m - 1]? = some o' → l.candidate o' → o'.rate < o.rate ∨ (o'.rate = o.rate ∧ n ≤ m))

/-- Nothing but one link and the notice board has changed. -/
def State.onlyLinkChanged (s' s : State) (i : Seat) : Prop :=
  (∀ j, j ≠ i → s'.link j = s.link j) ∧ s'.cli.queue = s.cli.queue ∧ s'.fdp = s.fdp ∧ s'.vin = s.vin ∧ s'.rvc = s.rvc
  ∧ s'.gle = s.gle ∧ s'.cmp = s.cmp ∧ s'.mnu = s.mnu ∧ s'.sct = s.sct ∧ s'.chu = s.chu ∧ s'.cal = s.cal
  ∧ s'.pending = s.pending

/-- R75: the notices of the neighbours on an exit of a link, behind the LINK notice: after STREAMING the ROUTE notice of a rear row
that changes and the MENU CLOSED notice of an open menu; then the KEY notice of a held key that was forwarded. Their order is the
model's choice (log entry 13). -/
def State.exitTold (s' s : State) (i : Seat) : List (Nat × NoticeBody) :=
  (if (s.link i).state = .streaming then
    (s'.rearRow i).routeTold (s.rearRow i) (.ro i)
    ++ (if (s.ctx i).stack = [] then [] else [(seatNo i, .menuClosed (if s.cli.mode = .run then .screenLost else .standby))])
  else [])
  ++ (match (s.seat i).held with
    | some k => if (s.seat i).forwarded = true then [(seatNo i, .key k .release)] else []
    | none => [])

/-- R75, R89, R92: what every exit from the working states of a link leaves: the LINK notice with those of the neighbours; no agreement
and no claim, no claim or poll timer, an empty queue, both toggles 0, no misses, no ambient level; the held key released and no next
backlight; after STREAMING the rear row stopped and the menu closed. The other seat, and the blocks a link does not reach, are kept. -/
def State.handedBack (s' s : State) (i : Seat) : Prop :=
  let l := s'.link i
  s'.cli = s.cli.postAll s'.timebase ((seatNo i, .link l.state l.reason) :: s'.exitTold s i)
  ∧ l.agreement = none ∧ l.claimed = none ∧ l.claimTimer = none ∧ l.pollTimer = none ∧ l.queue = [] ∧ l.commandToggle = false
  ∧ l.keyAck = false ∧ l.misses = 0 ∧ l.statusSincePoll = false ∧ l.partnerLocked = false ∧ l.ambient = none
  ∧ l.staged = (s.link i).staged ∧ l.inForce = (s.link i).inForce
  ∧ (s'.seat i).held = none ∧ (s'.seat i).next = none ∧ (s'.seat i).volume = (s.seat i).volume
  ∧ (s'.seat i).offset = (s.seat i).offset
  ∧ ((s.link i).state = .streaming → (s'.ctx i).stack = [] ∧ (s'.rearRow i).nextFrame = none ∧ (s'.rearRow i).frame = none)
  ∧ (∀ j, j ≠ i → s'.link j = s.link j ∧ s'.seat j = s.seat j ∧ s'.ctx j = s.ctx j ∧ s'.rearRow j = s.rearRow j)
  ∧ s'.cli.queue = s.cli.queue ∧ s'.cmp.front = s.cmp.front ∧ s'.mnu.store = s.mnu.store ∧ s'.fdp = s.fdp ∧ s'.vin = s.vin
  ∧ s'.rvc = s.rvc ∧ s'.gle = s.gle ∧ s'.chu = s.chu ∧ s'.cal = s.cal ∧ s'.pending = s.pending

/-- R89, R91: an exit that also stops the hail timer. -/
def State.fellBackFrom (s' s : State) (i : Seat) : Prop := (s'.link i).hailTimer = none ∧ s'.handedBack s i

/-- R89: what an entry to RECOVERY leaves; the offers and the descriptor are kept, and one RESET is sent. -/
def State.recovers (s' s : State) (i : Seat) (reason : LinkReason) : Prop :=
  (s'.link i).state = .recovery ∧ (s'.link i).reason = reason
  ∧ (s'.link i).holdOffTimer = some (afterMs s'.timebase 200)
  ∧ (s'.link i).outbox = (s.link i).outbox ++ [message 0x04 []]
  ∧ (s'.link i).offers = (s.link i).offers ∧ (s'.link i).descriptor = (s.link i).descriptor ∧ s'.fellBackFrom s i

/-! ## Menus -/

/-- The blocks that a page request does not reach: all but the menus, the menu planes and the control link. -/
def State.keepsAllButMenus (s' s : State) : Prop :=
  s'.cmp.front = s.cmp.front ∧ s'.cmp.rear = s.cmp.rear ∧ s'.fdp = s.fdp ∧ s'.vin = s.vin ∧ s'.rvc = s.rvc ∧ s'.gle = s.gle
  ∧ s'.rsl = s.rsl ∧ s'.sct = s.sct ∧ s'.chu = s.chu ∧ s'.cal = s.cal ∧ s'.pending = s.pending

/-- R132: the part after a seat's open menu has closed at `t` with a reason. -/
def State.closesMenu (s : State) (t : Stamp) (i : Seat) (reason : CloseReason) : State :=
  { s with timebase := t, mnu := { s.mnu with ctx := s.mnu.ctx.set i ⟨[], none⟩ },
           cmp := { s.cmp with menuPlane := s.cmp.menuPlane.set i false },
           cli := s.cli.post t (seatNo i) (.menuClosed reason) }

/-- R131: the idle timer as a start leaves it. -/
def State.idleAt (s : State) : Option Stamp :=
  if calMenuTimeout s.cal.working = 0 then none else some (afterMs s.timebase (1000 * calMenuTimeout s.cal.working))

/-- R122: whether a page has an enabled item of a number. -/
abbrev Page.enables (p : Page) (n : Nat) : Prop := p.isEnabled n = true

/-- R122: the enabled item nearest below a focus. -/
def Page.nextBelow (p : Page) (f g : Nat) : Prop := g < f ∧ p.enables g ∧ ∀ m, g < m → m < f → ¬ p.enables m

/-- R122: the enabled item nearest above a focus. -/
def Page.nextAbove (p : Page) (f g : Nat) : Prop := f < g ∧ p.enables g ∧ ∀ m, f < m → m < g → ¬ p.enables m

/-- R122, the window rule: where the window stands for a focus `f`, when it stood at `top`. -/
def windowFor (f top : Nat) : Nat := if f < top then f else if top + 6 ≤ f then f - 5 else top

/-- R124: an entry as its adjustment to its page leaves it. -/
def Page.adjustsTo (p : Page) (e e' : Entry) : Prop :=
  e'.page = e.page
  ∧ (∀ f, e.focus = some f →
      let g := min f p.items.length
      (p.enables g → e'.focus = some g)
      ∧ (¬ p.enables g → ∀ a, p.nextAbove g a → e'.focus = some a)
      ∧ (¬ p.enables g → (∀ a, ¬ p.nextAbove g a) → ∀ b, p.nextBelow g b → e'.focus = some b))
  ∧ (e.focus = none → ∀ a, p.nextAbove 0 a → e'.focus = some a)
  ∧ ((∀ n, ¬ p.enables n) → e'.focus = none)
  ∧ (e'.focus = none → e'.top = 1) ∧ (∀ f, e'.focus = some f → e'.top = windowFor f e.top)

/-! ## Keys -/

/-- R145, R147: the part after the backlight target of a seat has been recomputed: it is handed to the link when there is no
reference or it differs from it by 2 or more (`Obligations.BacklightHandingHasFiveOutcomes` says what the handing does). -/
def State.retargetsFrom (s' s : State) (i : Seat) : Prop :=
  let r := s.seat i
  let target := backlightTarget r.policy r.threshold s.sct.dimmer r.ambient r.offset
  let judged := { r with target := target }
  let far := ∀ ref, r.next.or r.lastSent = some ref → 2 ≤ ((target : Int) - (ref : Int)).natAbs
  let answer := (s.link i).takeBacklight target
  (far → s' = (s.setLink i answer.1).setSeat i (judged.handed target answer.2)) ∧ (¬ far → s' = s.setSeat i judged)

/-- R84, R85, R87: the part after a STATUS but for its key events: the poll is answered; a command-ack toggle that fits a head command
already sent removes it, and a next backlight that seat control holds is handed to the link, while any other toggle leaves the queue;
the locked flag is taken; an ambient level that differs from the one held is handed to seat control; the report toggle becomes the
key-ack toggle. -/
def State.statusFrom (s' s : State) (i : Seat) (flags ambient : Byte) : Prop :=
  let l := { s.link i with misses := 0, statusSincePoll := true }
  let level := if ambient.toNat = 255 then none else some (min ambient.toNat 100)
  ∃ a b : State,
    (∀ c rest, l.queue = c :: rest → 0 < c.tries → c.toggle = flags.getLsbD 0 →
      ((s.seat i).next = none → a = s.setLink i { l with queue := rest })
      ∧ (∀ v, (s.seat i).next = some v → a = (s.setLink i { l with queue := rest }).handBacklight i v))
    ∧ ((∀ c ∈ l.queue.head?, c.tries = 0 ∨ c.toggle ≠ flags.getLsbD 0) → a = s.setLink i l)
    ∧ (let k := a.setLink i { a.link i with partnerLocked := flags.getLsbD 1 }
       (l.ambient = level → b = k)
       ∧ (l.ambient ≠ level → b.retargetsFrom
            ((k.setLink i { k.link i with ambient := level }).setSeat i { k.seat i with ambient := level }) i))
    ∧ s' = b.setLink i { b.link i with keyAck := flags.getLsbD 2 }

/-- R142, R143: the part after a volume press or repeat. A step above the cap becomes the cap, and the base step when the base
step is above the cap (log entry 22). -/
def State.volumeFrom (s' s : State) (i : Seat) (dir : Dir) : Prop :=
  let r := s.seat i
  let base := calBaseStep s.cal.working
  let cap := calStepCap s.cal.working
  let goesOn := r.lastDir = some dir ∧ ∃ st ∈ r.lastStamp, (s.timebase - st).toNat ≤ 1000 * calWindow s.cal.working
  ∃ step, (goesOn → step = r.step) ∧ (¬ goesOn → step = base)
    ∧ (let volume := match dir with
         | .up => min 60 (r.volume + step)
         | .down => r.volume - step
       let moved := s.setSeat i { r with volume := volume, step := if cap < base then base else min cap (step + 1),
                                         lastDir := some dir, lastStamp := some s.timebase }
       s' = if volume = r.volume then moved else moved.post (seatNo i) (.level volume r.offset))

/-- R144: the part after a brightness press or repeat. -/
def State.brightFrom (s' s : State) (i : Seat) (dir : Dir) : Prop :=
  let r := s.seat i
  let offset := match dir with
    | .up => min 10 (r.offset + 1)
    | .down => max (-10) (r.offset - 1)
  r.offset ≥ -10 → r.offset ≤ 10 →
    (offset = r.offset → s' = s)
    ∧ (offset ≠ r.offset →
        s'.retargetsFrom ((s.setSeat i { r with offset := offset }).post (seatNo i) (.level r.volume offset)) i)

/-- R141: the part after a press or repeat has been forwarded to the host. -/
def State.forwardsFrom (s' s : State) (i : Seat) (k : Key) (ev : KeyEvent) : Prop :=
  s' = (s.post (seatNo i) (.key k ev)).setSeat i { s.seat i with forwarded := true }

/-- R123: the part after a consumed press that has left `s` with the menu open: the idle timer is restarted and the click asked
for. -/
def State.consumesFrom (s' s : State) (i : Seat) (pattern : Nat) : Prop :=
  s'.clicksFrom (s.setCtx i { s.ctx i with idle := s.idleAt }) i pattern

/-- The part with the history of a seat replaced. -/
def State.withStack (s : State) (i : Seat) (stack : List Entry) : State := s.setCtx i { s.ctx i with stack := stack }

/-- R130: the part after the top entry of a history has been popped. -/
def State.popsFrom (s' s : State) (i : Seat) (rest : List Entry) : Prop :=
  (rest = [] → s'.clicksFrom (s.closesMenu s.timebase i .back) i 0)
  ∧ (∀ below more page, rest = below :: more → findPage s.mnu.store below.page = some page →
      ∃ shown, page.adjustsTo below shown ∧ s'.consumesFrom (s.withStack i (shown :: more)) i 0)

/-- R127: the part after UP or DOWN in an open menu whose top entry is `e`. -/
def State.movesFrom (s' s : State) (i : Seat) (e : Entry) (rest : List Entry) (next : Nat → Nat → Prop) : Prop :=
  (∀ f g, e.focus = some f → next f g → s'.consumesFrom (s.withStack i (⟨e.page, some g, windowFor g e.top⟩ :: rest)) i 0)
  ∧ ((∀ f, e.focus = some f → ∀ g, ¬ next f g) → s' = s)

/-- The part with an item of a page in the store replaced. -/
def State.withItem (s : State) (page n : Nat) (it : Item) : State :=
  { s with mnu := { s.mnu with store := setItem s.mnu.store page n it } }

/-- R128: the part after OK on item `n` of the page of the top entry. -/
def State.okFrom (s' s : State) (i : Seat) (e : Entry) (rest : List Entry) (n : Nat) (it : Item) : Prop :=
  let choice := fun (x : State) action value => x.post (seatNo i) (.menuChoice e.page n action value)
  match it.kind with
  | .openPage target =>
    (∀ page, findPage s.mnu.store target = some page → rest.length + 1 < 6 →
        s'.consumesFrom (s.withStack i (page.newEntry :: e :: rest)) i 0)
    ∧ ((findPage s.mnu.store target = none ∨ 6 ≤ rest.length + 1) → s'.consumesFrom s i 1)
  | .report code => s'.consumesFrom (choice s .report code) i 0
  | .toggle on =>
    s'.consumesFrom (choice (s.withItem e.page n { it with kind := .toggle (!on) }) .toggle (if on then 0 else 1)) i 0
  | .back => s'.popsFrom s i rest
  | .slider _ _ _ => s' = s
  | .volume => s' = s
  | .brightness => s' = s

/-- R129: the part after LEFT (down) or RIGHT (up) on item `n` of the page of the top entry. -/
def State.sideFrom (s' s : State) (i : Seat) (e : Entry) (n : Nat) (it : Item) (dir : Dir) : Prop :=
  match it.kind with
  | .slider value top step =>
    let v := match dir with
      | .up => min top (value + step)
      | .down => value - step
    (v = value → s' = s)
    ∧ (v ≠ value → s'.consumesFrom ((s.withItem e.page n { it with kind := .slider v top step }).post (seatNo i)
        (.menuChoice e.page n .slider v)) i 0)
  | .volume => ∃ moved : State, moved.volumeFrom s i dir ∧ s'.consumesFrom moved i 0
  | .brightness => ∃ moved : State, moved.brightFrom s i dir ∧ s'.consumesFrom moved i 0
  | .openPage _ => s' = s
  | .report _ => s' = s
  | .toggle _ => s' = s
  | .back => s' = s

/-- R123, R127 to R130: the part after a key press in a menu whose history is `e :: rest`. -/
def State.menuFrom (s' s : State) (i : Seat) (e : Entry) (rest : List Entry) (k : Key) : Prop :=
  ∀ page, findPage s.mnu.store e.page = some page →
    let focused := fun (act : Nat → Item → Prop) =>
      (e.focus = none → s' = s) ∧ ∀ n it, e.focus = some n → page.item n = some it → act n it
    match k with
    | .up => s'.movesFrom s i e rest page.nextBelow
    | .down => s'.movesFrom s i e rest page.nextAbove
    | .left => focused (fun n it => s'.sideFrom s i e n it .down)
    | .right => focused (fun n it => s'.sideFrom s i e n it .up)
    | .ok => focused (s'.okFrom s i e rest)
    | .back => s'.popsFrom s i rest
    | .menu => s'.clicksFrom (s.closesMenu s.timebase i .key) i 0
    | _ => True

/-- R126: the part after a MENU press in a closed menu. -/
def State.rootFrom (s' s : State) (i : Seat) (ev : KeyEvent) : Prop :=
  (∀ page, s.rootPage i = some page → s'.clicksFrom { s with
      mnu := { s.mnu with ctx := s.mnu.ctx.set i ⟨[page.newEntry], s.idleAt⟩ }
      cmp := { s.cmp with menuPlane := s.cmp.menuPlane.set i true } } i 0)
  ∧ (s.rootPage i = none → s'.forwardsFrom s i .menu ev)

/-- R141: the part after a press or repeat has been dispatched by its key. -/
def State.dispatchesFrom (s' s : State) (i : Seat) (k : Key) (ev : KeyEvent) : Prop :=
  let navigation := ((s.ctx i).stack = [] → s'.forwardsFrom s i k ev)
    ∧ ∀ e rest, (s.ctx i).stack = e :: rest → s'.menuFrom s i e rest k
  match k with
  | .up => navigation
  | .down => navigation
  | .left => navigation
  | .right => navigation
  | .ok => navigation
  | .back => navigation
  | .menu => ((s.ctx i).stack = [] → s'.rootFrom s i ev) ∧ ∀ e rest, (s.ctx i).stack = e :: rest → s'.menuFrom s i e rest .menu
  | .volUp => s'.volumeFrom s i .up
  | .volDown => s'.volumeFrom s i .down
  | .brightUp => s'.brightFrom s i .up
  | .brightDown => s'.brightFrom s i .down
  | .playPause => s'.forwardsFrom s i k ev
  | .next => s'.forwardsFrom s i k ev
  | .previous => s'.forwardsFrom s i k ev

/-- R140: the part after a release of the key `k` that is held. -/
def State.letsGo (s : State) (i : Seat) (k : Key) : State :=
  let r := s.seat i
  let free := s.setSeat i { r with held := none, repeatTimer := none, forwarded := false }
  if r.forwarded = true then free.post (seatNo i) (.key k .release) else free

/-- R138: the part in which a pressed key has become the held key. -/
def State.takesHold (s : State) (i : Seat) (k : Key) : State :=
  match (s.seat i).held with
  | none => s.setSeat i { s.seat i with held := some k, forwarded := false }
  | some j => if j = k then s else (s.letsGo i j).setSeat i { (s.letsGo i j).seat i with held := some k, forwarded := false }

/-- The part with the repeat timer of a seat set. -/
def State.withRepeat (s : State) (i : Seat) (timer : Option Stamp) : State := s.setSeat i { s.seat i with repeatTimer := timer }

/-- R85, R138: the part after one key event of a report; one that names no key or no event is dropped. -/
def State.keyFrom (s' s : State) (i : Seat) (code event : Byte) : Prop :=
  (keyOf code.toNat = none → s' = s)
  ∧ ∀ k, keyOf code.toNat = some k →
      (event = 1 → ∃ d : State, d.dispatchesFrom (s.takesHold i k) i k .press
        ∧ s' = d.withRepeat i (if k.repeatable then some (afterMs s.timebase (calRepeatDelay s.cal.working)) else none))
      ∧ (event = 2 → (s.seat i).held = some k → s' = s.letsGo i k)
      ∧ (event = 2 → (s.seat i).held ≠ some k → s' = s)
      ∧ (event ≠ 1 → event ≠ 2 → s' = s)

/-- R85: the part after the key events of a report, in the order they stand. -/
def State.keysFrom (s' s : State) (i : Seat) : List (Byte × Byte) → Prop
  | [] => s' = s
  | e :: rest => ∃ m : State, m.keyFrom s i e.1 e.2 ∧ s'.keysFrom m i rest

/-! ## Calibration -/

/-- R170: whether a command is one that can begin a cold start or its load. -/
def isColdStart (c : Instr) : Prop :=
  (∃ t high, c = .powerOn t high) ∨ (∃ t, c = .resetNFall t) ∨ ∃ t, c = .resetNRise t

end Sys2Proof.Machine
end

