-- ==== Sys2Proof/Certificates/Slice0/Obligations.lean ====
section
/-! DEFINITION. The statements for the provers: what each command and the machine do, from the numbered rules of the manual. -/

open Sys2Proof Sys2Proof.Machine

/-! ## The machine, reset and the start mode -/

/-- A step runs the command at the front of the queue with the queue's rest; on an empty queue the timebase counts one
microsecond (DESIGN CHOICE, log entry 1). -/
def Obligations.StepRunsTheFrontCommand : Prop :=
  (∀ c rest s, s.pending = c :: rest → step s = exec c { s with pending := rest })
  ∧ (∀ s : State, s.pending = [] → step s = .next { s with timebase := s.timebase + 1 })

/-- Every command answers a next state from every state, at the stamp it carries, and leaves the commands that wait. That a
command carries its stamp, and that one that does not arise in a state runs there too, is the model's choice (log entries 1
and 2). -/
def Obligations.EveryCommandAnswersNext : Prop :=
  ∀ c s, ∃ s', exec c s = .next s' ∧ s'.timebase = stampOf c ∧ s'.pending = s.pending

/-- The blocks hold their cold-start values at reset (R18, R25, R26, R30, R35, R53, R73, R96, R114, R115, R120, R121, R148,
R163, R165 with the built-in defaults of Table 10-1). That no slot has been programmed and that the part stands at time 0 of a
power-on are the model's choice (log entries 5 and 6). -/
def Obligations.ResetHoldsTheColdStartValues : Prop :=
  let s := State.reset
  s.phase = .loading
  ∧ s.cli.receiver = .hunting ∧ s.cli.queue = [] ∧ s.cli.refusals = [] ∧ s.cli.board = [] ∧ s.cli.overflow = false
  ∧ s.cli.selection = List.replicate 13 true ∧ s.cli.prevSort = .notice ∧ s.cli.startCause = .powerOn ∧ s.cli.tx = none
  ∧ (∀ line, s.statusLine line = false)
  ∧ s.fdp = { uif := ⟨false, .noSignal, some ⟨1920, 720, 60⟩, none, 0, 0, none⟩,
              ff1 := ⟨false, .noSignal, some ⟨1280, 720, 30⟩, none, 0, 0, none⟩,
              ff2 := ⟨false, .noSignal, some ⟨1280, 720, 30⟩, none, 0, 0, none⟩,
              cam := ⟨false, .noSignal, none, none, 0, 0, none⟩, camPower := false }
  ∧ (s.vin.speed = 0 ∧ s.vin.steering = 0 ∧ s.vin.dimmer = 100 ∧ s.vin.obstacle = none)
  ∧ (s.speedFresh = false ∧ s.steeringFresh = false ∧ s.obstacleFresh = false)
  ∧ s.rvc = { state := .off, reason := .none, heldView := .none, reverseStamp := none, notReverseStamp := none,
              latestEdge := none, cueDeadline := none, holdTimer := none, faultChime := none }
  ∧ s.gle = { mode := .idle, camLocked := false, inFlight := none, followUp := false, pending := none, installed := none,
              setNumber := 0 }
  ∧ (∀ i, (s.link i).state = .detached ∧ (s.link i).reason = .none ∧ (s.link i).queue = [] ∧ (s.link i).agreement = none
      ∧ (s.link i).staged = none ∧ (s.link i).inForce = ⟨1920, 1080, 60⟩ ∧ (s.link i).cable = .b)
  ∧ (s.cmp.filmLock = true ∧ s.cmp.preview = false ∧ s.cmp.frontView = .none ∧ s.cmp.guideSet = none)
  ∧ (s.cmp.front.effective = .uif ∧ s.cmp.front.cause = .route ∧ (s.rearRow .s1).effective = .ff1
      ∧ (s.rearRow .s2).effective = .ff2)
  ∧ s.mnu = { store := [], root := ⟨0, 0⟩, ctx := ⟨⟨[], none⟩, ⟨[], none⟩⟩ }
  ∧ (∀ i, (s.seat i).held = none ∧ (s.seat i).volume = 30 ∧ (s.seat i).step = 1 ∧ (s.seat i).offset = 0
      ∧ (s.seat i).policy = .adaptive ∧ (s.seat i).threshold = 30 ∧ (s.seat i).target = 100 ∧ (s.seat i).lastSent = none
      ∧ (s.seat i).next = none)
  ∧ s.sct.dimmer = 100
  ∧ (s.chu.voice1 = none ∧ s.chu.voice2 = none ∧ s.chu.queue = [] ∧ s.chu.frontLevel = 40 ∧ s.chu.lastHandle = 0)
  ∧ (∀ i, (s.chu.duck.get i).gain = 0)
  ∧ s.chu.table.length = 16 ∧ (∀ k, 6 ≤ k → k < 16 → s.chu.pattern k = ⟨[⟨0, 10, 15⟩], 1⟩)
  ∧ s.cal.working = builtinImage ∧ s.cal.loadedGen = 0 ∧ s.cal.flight = none

/-- Before the start mode, and while RESET_N is low, a command that is no power-on, reset-line event or start-mode entry moves
the timebase alone, but that the levels of the GEAR pin and the partners' presence are followed (the model's choice, log
entries 4 and 12). -/
def Obligations.BlocksWaitForTheStartMode : Prop :=
  ∀ (c : Instr) (s : State), s.phase ≠ .running →
    match c with
    | .powerOn _ _ => True
    | .resetNFall _ => True
    | .resetNRise _ => True
    | .startModeEntry t => s.phase = .held → exec c s = .next { s with timebase := t }
    | .gearEdge t high => exec c s = .next { s with timebase := t, vin := { s.vin with gearRaw := high } }
    | .presenceGained t i => exec c s = .next { s with timebase := t, rsl := s.rsl.set i { s.rsl.get i with present := true } }
    | .presenceLost t i => exec c s = .next { s with timebase := t, rsl := s.rsl.set i { s.rsl.get i with present := false } }
    | _ => exec c s = .next { s with timebase := stampOf c }

/-- Power-on with RESET_N high and the return of RESET_N high run the cold-start sequence: the part loads, every block holds
its cold-start value for the working copy that is loaded, and the working copy is the image of the GOOD slot with the highest
number, or the built-in defaults (R18, R165, R170). A fall of RESET_N, and power-on with RESET_N low, hold the part at time 0.
The model's choice are the working copy that is loaded in the very step of the command (log entry 6), the levels of GEAR and
presence that are kept (log entry 4), the working copy while the part is held (log entry 27), and that a rise of RESET_N
while it is high, or a fall while it is low, is no edge and moves the timebase alone (log entry 12). -/
def Obligations.ColdStartEmptiesEveryBlock : Prop :=
  (∀ t (s : State), ∃ s', exec (.powerOn t true) s = .next s' ∧ s'.timebase = t ∧ s'.loadsFrom s .powerOn)
  ∧ (∀ t (s : State), s.resetN = false →
      ∃ s', exec (.resetNRise t) s = .next s' ∧ s'.timebase = t ∧ s'.loadsFrom s s.cli.startCause)
  ∧ (∀ t (s : State), ∃ s', exec (.powerOn t false) s = .next s' ∧ s'.timebase = t ∧ s'.heldFrom s .powerOn)
  ∧ (∀ t (s : State), s.resetN = true → ∃ s', exec (.resetNFall t) s = .next s' ∧ s'.timebase = t ∧ s'.heldFrom s .resetLine)
  ∧ (∀ t (s : State), s.resetN = true → exec (.resetNRise t) s = .next { s with timebase := t })
  ∧ (∀ t (s : State), s.resetN = false → exec (.resetNFall t) s = .next { s with timebase := t })

/-- At the end of the load the part enters its start mode: it runs in the mode of the working calibration, the status-line map
is taken from it, the START notice joins the empty board first, with the LINK notices behind it (of the two links the model takes
the first first, log entry 13), the gear line is watched from NOT_REVERSE with a candidate for
REVERSE when GEAR is high, and in RUN the three feed ports are enabled, a link with a present partner hails, and the front
output's first frame starts one period later; in STANDBY ports, links and rows stay as they are. -/
def Obligations.StartModeBegins : Prop :=
  ∀ t (s : State), s.phase = .loading →
    ∃ s1 : State, exec (.startModeEntry t) s = .next s1.settle
      ∧ s1.timebase = t ∧ s1.phase = .running ∧ s1.cli.mode = calStartMode s.cal.working
      ∧ s1.cli.lineMap = [calLine s.cal.working 0, calLine s.cal.working 1, calLine s.cal.working 2, calLine s.cal.working 3]
      ∧ s1.cli = ({ s.cli with mode := calStartMode s.cal.working, lineMap := s1.cli.lineMap } : Cli).postAll t
          ((0, .start s.cli.startCause.notice) :: (s1.linkTold s .s1 ++ s1.linkTold s .s2))
      ∧ (s.cli.selection.getD 0 false = true → s.cli.board = [] →
          s1.cli.board.head? = some ⟨0, .start s.cli.startCause.notice, t, false⟩)
      ∧ s1.vin = { s.vin with
            gear := .notReverse
            candidate := if s.vin.gearRaw then some ⟨.reverse, t, afterMs t (calDebounce s.cal.working)⟩ else none }
      ∧ (calStartMode s.cal.working = .run →
          (∀ f, f ≠ .cam → s1.port f
              = { s.port f with enabled := true, lock := .noSignal, lastStamp := none, good := 0, bad := 0, watch := none })
          ∧ s1.port .cam = s.port .cam
          ∧ s1.cmp.front.nextFrame = some (afterUs t (1000000 / (calPanelMode s.cal.working).refresh))
          ∧ (∀ i, (s.link i).state = .detached → (s.link i).settleTimer = none →
              (s1.link i).state = if (s.link i).present then .hailing else .detached))
      ∧ (calStartMode s.cal.working = .standby → s1.fdp = s.fdp ∧ s1.rsl = s.rsl ∧ s1.cmp = s.cmp)
      ∧ s1.rvc = s.rvc ∧ s1.gle = s.gle ∧ s1.mnu = s.mnu ∧ s1.sct = s.sct ∧ s1.chu = s.chu ∧ s1.cal = s.cal
      ∧ s1.pending = s.pending ∧ s1.resetN = s.resetN

/-! ## The control link -/

/-- The two states of the receiver, the three exceptions and the completion of a candidate (R1). That a complete candidate joins
a list that waits for the frame check, a command of its own, is the model's choice (log entry 9). -/
def Obligations.ReceiverHuntsAndAssembles : Prop :=
  (∀ t b high (s : State), s.phase = .running → s.cli.receiver = .hunting →
    let receiver := if high = true ∧ b = 0xA5 then .assembling [0xA5] (afterMs t 2) else .hunting
    exec (.receiveByte t b high) s = .next ({ s with timebase := t, cli := { s.cli with receiver := receiver } }).settle)
  ∧ (∀ t b (s : State) candidate watch, s.phase = .running → s.cli.receiver = .assembling candidate watch →
    exec (.receiveByte t b false) s = .next ({ s with timebase := t, cli := { s.cli with receiver := .hunting } }).settle)
  ∧ (∀ t b (s : State) candidate watch, s.phase = .running → s.cli.receiver = .assembling candidate watch →
    let longer := candidate ++ [b]
    let cli := if longer.length = 2 ∧ 240 < byteAt longer 1 then { s.cli with receiver := .hunting }
      else if 2 ≤ longer.length ∧ longer.length = byteAt longer 1 + 7 then
        { s.cli with receiver := .hunting, complete := s.cli.complete ++ [longer] }
      else { s.cli with receiver := .assembling longer (afterMs t 2) }
    exec (.receiveByte t b true) s = .next ({ s with timebase := t, cli := cli }).settle)
  ∧ (∀ t (s : State) candidate watch, s.phase = .running → s.cli.receiver = .assembling candidate watch →
    reached t watch = true →
    exec (.interByteWatchExpiry t) s = .next ({ s with timebase := t, cli := { s.cli with receiver := .hunting } }).settle)

/-- The frame check: a frame that passes it with kind REQUEST joins the tail of the queue WAITING while the queue holds fewer
than 4 entries, and otherwise the tail of the refusal list with QUEUE_FULL; any other candidate is discarded. -/
def Obligations.CheckedRequestJoinsTheQueue : Prop :=
  ∀ t f rest (s : State), s.phase = .running → s.cli.complete = f :: rest →
    let c := { s.cli with complete := rest }
    let cli := if framePasses f = true ∧ byteAt f 2 = 1 then
        if s.cli.queue.length < 4 then
          { c with queue := s.cli.queue ++ [⟨f.getD 3 0, f.getD 4 0, (f.drop 5).take (byteAt f 1), none⟩] }
        else { c with refusals := s.cli.refusals ++ [⟨f.getD 3 0, .queueFull⟩] }
      else c
    exec (.candidateFrameComplete t) s = .next ({ s with timebase := t, cli := cli }).settle

/-- A frame laid out as Table 11-1 says is a complete candidate, passes the frame check and carries the request it was made of;
a control channel message opens to its kind and body. -/
def Obligations.FramesAndMessagesReadBack : Prop :=
  (∀ tag code payload, payload.length ≤ 240 →
    let f := frame 0x01 tag code payload
    f.length = payload.length + 7 ∧ candidateComplete f = true ∧ framePasses f = true ∧ isRequest f = true
      ∧ requestOf f = ⟨tag, code, payload, none⟩)
  ∧ (∀ kind body, body.length ≤ 255 → openMessage (message kind body) = some (kind, body))

/-- A request whose code stands in no row of Table 1-3 is answered UNKNOWN_REQUEST; the codes of the table are known, and no other is.
Every request of Table 1-3 meets two checks before its owner: its payload length, then the part mode; the first that fails gives the
reply, and nothing else changes. -/
def Obligations.UnknownCodeLengthAndModeAreChecked : Prop :=
  (∀ t (s : State) code p, s.asks code p → knownCode code = false →
    exec (.unknownRequest t) s = .next (s.onlyReplies t ⟨.unknownRequest, []⟩))
  ∧ (∀ c row, requestRow c = some row → knownCode row.code = true)
  ∧ (∀ code, (∀ c row, requestRow c = some row → row.code ≠ code) → knownCode code = false)
  ∧ (∀ code, knownCode code = true ↔ code ∈ ([0x01, 0x02, 0x03, 0x04, 0x05, 0x10, 0x11, 0x12, 0x20, 0x21, 0x28, 0x30, 0x31, 0x32, 0x33,
      0x34, 0x35, 0x36, 0x40, 0x41, 0x50, 0x51, 0x52, 0x53, 0x54, 0x55, 0x56, 0x57, 0x60, 0x61, 0x70, 0x71, 0x72, 0x73, 0x74, 0x80,
      0x81, 0x82, 0x83] : List Byte))
  ∧ (∀ c row (s : State) p, requestRow c = some row → s.asks row.code p →
      (row.lengthOk p = false → exec c s = .next (s.onlyReplies (stampOf c) ⟨.badLength, []⟩))
      ∧ (row.lengthOk p = true → s.cli.mode = .standby → row.inStandby = false →
          exec c s = .next (s.onlyReplies (stampOf c) ⟨.notNow, []⟩)))

/-- R5, whole: a request answered with a code other than OK or STARTED gets an empty payload and changes nothing; a reply is a
frame of kind REPLY with the request's tag and the result's code of Table 1-2, one from the refusal list without payload. -/
def Obligations.RefusedRequestChangesNothing : Prop :=
  (∀ c row (s : State) p, requestRow c = some row → s.asks row.code p →
    ∃ (s1 : State) (r : Reply), exec c s = .next (s1.replied r) ∧ s1.cli.queue = s.cli.queue
      ∧ (r.result ≠ .ok → r.result ≠ .started → r.payload = [] ∧ s1 = { s with timebase := stampOf c }))
  ∧ (∀ (s : State) r before q after, s.cli.queue = before ++ q :: after → (∀ x ∈ before, x.reply ≠ none) → q.reply = none →
      (s.answer r).cli.queue = before ++ { q with reply := some r } :: after)
  ∧ (∀ (c : Cli) now tag r, (c.beginReply now tag r).tx
      = some ⟨.reply, frame 0x02 tag r.result.code r.payload, frameEnds now (frame 0x02 tag r.result.code r.payload)⟩)
  ∧ (∀ t (s : State) code p, s.asks code p → knownCode code = false →
      exec (.unknownRequest t) s = .next (s.onlyReplies t ⟨.unknownRequest, []⟩))
  ∧ (∀ (c : Cli) now r rest, (c.beginRefusal now r rest).tx
      = some ⟨.refusal, frame 0x02 r.tag r.result.code [], frameEnds now (frame 0x02 r.tag r.result.code [])⟩)
  ∧ [Result.ok, .started, .unknownRequest, .badLength, .badValue, .notNow, .busy, .noSpace, .notFound, .queueFull,
      .refusedReverse, .exhausted].map Result.code
    = [0x00, 0x01, 0x10, 0x11, 0x12, 0x13, 0x14, 0x15, 0x16, 0x17, 0x18, 0x19]

/-- What ends every event of a running part: a transmitter that sends goes on; a free one sends the oldest refusal; without
refusals the oldest reply or the oldest notice, and of both the one of the other sort than the last; with nothing to send the
line stays idle. The notice carries the overflow flag, which is cleared. Beside it the end of an event changes only whether a
zone is ducking, with the stamp of its first step. That the transmitter is judged at the end of each event, and that a frame
takes 5 microseconds a byte, is the model's choice (log entry 10). -/
def Obligations.TransmitterTakesRefusalsThenAlternates : Prop :=
  ∀ s : State,
    (∃ duck, s.settle = { s with cli := s.settle.cli, chu := { s.chu with duck := duck } }
      ∧ ∀ i, (duck.get i).ducking = s.chu.ducks i ∧ (duck.get i).gain = (s.chu.duck.get i).gain
          ∧ ((s.chu.duck.get i).ducking = s.chu.ducks i → duck.get i = s.chu.duck.get i))
    ∧ (s.cli.tx ≠ none → s.settle.cli = s.cli)
    ∧ (∀ r rest, s.cli.tx = none → s.cli.refusals = r :: rest →
        let tx : TxFrame := ⟨.refusal, frame 0x02 r.tag r.result.code [], afterUs s.timebase (5 * 7)⟩
        s.settle.cli = { s.cli with refusals := rest, tx := some tx })
    ∧ (s.cli.tx = none → s.cli.refusals = [] →
        (∀ q rest r, s.cli.queue = q :: rest → q.reply = some r → (s.cli.board = [] ∨ s.cli.prevSort = .notice) →
          s.settle.cli = s.cli.beginReply s.timebase q.tag r)
        ∧ (∀ e rest, s.cli.board = e :: rest → (s.cli.readyReply = none ∨ s.cli.prevSort = .reply) →
          let sent := frame 0x03 0 e.body.kind.code (noticePayload e s.cli.overflow)
          let tx : TxFrame := ⟨.notice, sent, frameEnds s.timebase sent⟩
          s.settle.cli = { s.cli with board := rest, overflow := false, prevSort := .notice, tx := some tx })
        ∧ (s.cli.readyReply = none → s.cli.board = [] → s.settle.cli = s.cli))

/-- The last byte of a frame frees the transmitter; a queue entry leaves the queue when its reply has been sent. While a warm restart
is pending, the end of an older reply, which is not that of the RESTART, does the same and leaves it pending. -/
def Obligations.SentFrameFreesTheTransmitter : Prop :=
  ∀ t f (s : State), s.phase = .running → s.cli.tx = some f → reached t f.ends = true →
    (f.what ≠ .reply → exec (.transmitFrameEnd t) s = .next ({ s with timebase := t, cli := { s.cli with tx := none } }).settle)
    ∧ (∀ q rest, f.what = .reply → s.cli.queue = q :: rest → s.cli.warmPending = false →
        exec (.transmitFrameEnd t) s
          = .next ({ s with timebase := t, cli := { s.cli with tx := none, queue := rest } }).settle)
    ∧ (∀ q rest, f.what = .reply → s.cli.queue = q :: rest → s.cli.warmPending = true →
        (q.code ≠ 0x03 ∨ q.reply ≠ some ⟨.ok, []⟩) →
        exec (.transmitFrameEnd t) s
          = .next ({ s with timebase := t, cli := { s.cli with tx := none, queue := rest } }).settle)
    ∧ (f.what = .reply → s.cli.queue = [] →
        exec (.transmitFrameEnd t) s = .next ({ s with timebase := t, cli := { s.cli with tx := none } }).settle)

/-- RESTART: the reply is OK, a warm restart becomes pending and nothing is dispatched meanwhile; once the reply has been sent the warm
restart takes place: the requests that wait are refused BUSY, the board is emptied and its overflow indicator cleared; then the notices
of the blocks join it (LINK, FEED and ROUTE, each for a change) and START with cause WARM is posted last. The page store and the roots
are emptied, the menus closed, the keys released, both links DETACHED, a link that was not with reason HOST_REQUEST, with a RESET to a
present partner, source CALIBRATION and 200 ms to settle, the routes those of the calibration; the modes, the map, the selection, the
vehicle values, the controller, the CAM port, the volumes and the calibration store are kept. -/
def Obligations.RestartLeadsToAWarmRestart : Prop :=
  (∀ t (s : State), s.asks 0x03 [] →
    exec (.restart t) s = .next ({ s with timebase := t, cli := { s.cli with warmPending := true } }.replied ⟨.ok, []⟩))
  ∧ (∀ s : State, s.cli.warmPending = true → s.cli.nextRequest = none)
  ∧ (∀ t f q rest (s : State), s.phase = .running → s.cli.tx = some f → reached t f.ends = true → f.what = .reply →
      s.cli.queue = q :: rest → s.cli.warmPending = true → q.code = 0x03 → q.reply = some ⟨.ok, []⟩ →
      ∃ s1 : State, exec (.transmitFrameEnd t) s = .next s1.settle ∧ s1.timebase = t
        ∧ s1.cli.queue = [] ∧ s1.cli.refusals = s.cli.refusals ++ rest.map (fun x => ⟨x.tag, .busy⟩)
        ∧ s1.cli.warmPending = false ∧ s1.cli.tx = none
        ∧ (s1.cli.mode = s.cli.mode ∧ s1.cli.selection = s.cli.selection ∧ s1.cli.lineMap = s.cli.lineMap
            ∧ s1.cli.prevSort = s.cli.prevSort ∧ s1.cli.receiver = s.cli.receiver ∧ s1.cli.complete = s.cli.complete)
        ∧ (∃ before, s1.cli = ({ s.cli with
              tx := none, queue := [], refusals := s.cli.refusals ++ rest.map (fun x => ⟨x.tag, .busy⟩)
              warmPending := false, board := [], overflow := false } : Cli).postAll t (before ++ [(0, .start .warm)])
            ∧ (∀ n ∈ before, n.2.kind = .link ∨ n.2.kind = .feed ∨ n.2.kind = .route)
            ∧ (∀ f, ofMatter .feed (feedNo f) before = s1.feedTold s t f)
            ∧ ofMatter .route 1 before = s1.cmp.front.routeTold s.cmp.front .fro
            ∧ (∀ i, ofMatter .link (seatNo i) before = s1.linkTold s i
                ∧ ofMatter .route (outputNo (.ro i)) before = (s1.rearRow i).routeTold (s.rearRow i) (.ro i)))
        ∧ (∀ i, ((s.link i).state ≠ .detached → (s1.link i).reason = .hostRequest)
            ∧ ((s.link i).state = .detached → (s1.link i).reason = (s.link i).reason)
            ∧ (s1.link i).outbox = (s.link i).outbox ++ (if (s.link i).present = true then [message 0x04 []] else []))
        ∧ s1.mnu.store = [] ∧ s1.mnu.root = ⟨0, 0⟩
        ∧ (∀ i, (s1.ctx i).stack = [] ∧ (s1.seat i).held = none ∧ (s1.seat i).next = none
            ∧ (s1.seat i).volume = (s.seat i).volume ∧ (s1.seat i).offset = (s.seat i).offset
            ∧ (s1.seat i).step = calBaseStep s.cal.working ∧ (s1.seat i).lastDir = none
            ∧ (s1.link i).state = .detached ∧ (s1.link i).staged = none ∧ (s1.link i).settleTimer = some (afterMs t 200)
            ∧ (s1.link i).present = (s.link i).present)
        ∧ s1.cmp.front.routed = calRoute s.cal.working 1 ∧ (s1.rearRow .s1).routed = calRoute s.cal.working 2
        ∧ (s1.rearRow .s2).routed = calRoute s.cal.working 3 ∧ s1.cmp.preview = s.cmp.preview
        ∧ (∀ f, f ≠ .cam → (s1.port f).lock = .noSignal ∧ (s1.port f).enabled = (s.port f).enabled
            ∧ (s1.port f).format = (s.port f).format)
        ∧ (∀ ch ∈ s1.chu.records, ch.origin = .reverse ∨ ch.origin = .park)
        ∧ s1.port .cam = s.port .cam ∧ s1.fdp.camPower = s.fdp.camPower ∧ s1.vin = s.vin ∧ s1.rvc = s.rvc ∧ s1.gle = s.gle
        ∧ s1.cal = s.cal ∧ s1.pending = s.pending)

/-- R13, whole: a disabled kind leaves no trace; an entry of the same kind and source is overwritten in its place with its
merged flag set; else a board of fewer than 24 entries takes the notice at its tail; else the overflow indicator is set. -/
def Obligations.PostMergesJoinsOrDrops : Prop :=
  ∀ (s : State) source body,
    (s.cli.selection.getD body.kind.index false = false → s.post source body = s)
    ∧ (s.cli.selection.getD body.kind.index false = true →
        (∀ before e after, s.cli.board = before ++ e :: after → e.body.kind = body.kind → e.source = source →
          (∀ x ∈ before ++ after, ¬ (x.body.kind = body.kind ∧ x.source = source)) →
          s.post source body
            = { s with cli := { s.cli with board := before ++ ⟨source, body, s.timebase, true⟩ :: after } })
        ∧ ((∀ e ∈ s.cli.board, ¬ (e.body.kind = body.kind ∧ e.source = source)) → s.cli.board.length < 24 →
          s.post source body
            = { s with cli := { s.cli with board := s.cli.board ++ [⟨source, body, s.timebase, false⟩] } })
        ∧ ((∀ e ∈ s.cli.board, ¬ (e.body.kind = body.kind ∧ e.source = source)) → 24 ≤ s.cli.board.length →
          s.post source body = { s with cli := { s.cli with overflow := true } }))
    ∧ ((s.cli.board.map (fun e => (e.body.kind, e.source))).Nodup →
        ((s.post source body).cli.board.map (fun e => (e.body.kind, e.source))).Nodup)

/-- R15, whole: NOTICE SELECT replaces the selection as a whole when every byte is 0 or 1 and leaves it otherwise; entries on
the board stay; a cold start enables every kind, and a warm restart keeps the selection. -/
def Obligations.NoticeSelectReplacesTheSelection : Prop :=
  (∀ t (s : State) p, s.asks 0x04 p → p.length ≠ 13 → exec (.noticeSelect t) s = .next (s.onlyReplies t ⟨.badLength, []⟩))
  ∧ (∀ t (s : State) p, s.asks 0x04 p → p.length = 13 → (∃ b ∈ p, 1 < b.toNat) →
      exec (.noticeSelect t) s = .next (s.onlyReplies t ⟨.badValue, []⟩))
  ∧ (∀ t (s : State) p, s.asks 0x04 p → p.length = 13 → (∀ b ∈ p, b.toNat ≤ 1) →
      exec (.noticeSelect t) s = .next
        ({ s with timebase := t, cli := { s.cli with selection := p.map (fun b => decide (b = 1)) } }.replied ⟨.ok, []⟩))
  ∧ (∀ (s : State) source body, s.cli.selection.getD body.kind.index false = false → s.post source body = s)
  ∧ (∀ t high (s : State), ∃ s', exec (.powerOn t high) s = .next s' ∧ s'.cli.selection = List.replicate 13 true)
  ∧ (∀ t (s : State), s.resetN = true → ∃ s', exec (.resetNFall t) s = .next s' ∧ s'.cli.selection = List.replicate 13 true)
  ∧ (∀ s : State, s.warmRestart.cli.selection = s.cli.selection)

/-- R17, whole. -/
def Obligations.StatusLineMapSetsOneLine : Prop :=
  (∀ t (s : State) p, s.asks 0x05 p → p.length ≠ 3 → exec (.statusLineMap t) s = .next (s.onlyReplies t ⟨.badLength, []⟩))
  ∧ (∀ t (s : State) line condition polarity, s.asks 0x05 [line, condition, polarity] →
      (3 < line.toNat ∨ 7 < condition.toNat ∨ 1 < polarity.toNat) →
      exec (.statusLineMap t) s = .next (s.onlyReplies t ⟨.badValue, []⟩))
  ∧ (∀ t (s : State) line condition polarity, s.asks 0x05 [line, condition, polarity] →
      line.toNat ≤ 3 → condition.toNat ≤ 7 → polarity.toNat ≤ 1 → s.cli.lineMap.length = 4 →
      let setting : LineSetting := ⟨condition.toNat, decide (polarity.toNat = 1)⟩
      exec (.statusLineMap t) s = .next
        ({ s with timebase := t, cli := { s.cli with lineMap := s.cli.lineMap.set line.toNat setting } }.replied ⟨.ok, []⟩)
      ∧ ∀ s', exec (.statusLineMap t) s = .next s' →
          s'.statusLine line.toNat = (if polarity.toNat = 1 then !s'.condition condition.toNat else s'.condition condition.toNat))
  ∧ (∀ t (s : State), s.phase = .loading → ∃ s', exec (.startModeEntry t) s = .next s'
      ∧ s'.cli.lineMap = [calLine s.cal.working 0, calLine s.cal.working 1, calLine s.cal.working 2, calLine s.cal.working 3])
  ∧ (∀ s : State, s.warmRestart.cli.lineMap = s.cli.lineMap)
  ∧ (∀ t (s s' : State), exec (.calibrationWrite t) s = .next s' → s'.cli.lineMap = s.cli.lineMap)

/-- R16, whole: the level of a status line follows its condition of Table 1-6 under its polarity, in every state; every line is low
while no map is loaded, which is so from the start of a cold start. A merge changes no line. In STANDBY both links are DETACHED and the
controller is OFF, after every step, so that the conditions of those lines are false; the premise there, that a part that does not
run stands in STANDBY, is itself kept by every step (`Obligations.ReverseViewLawsAreKept`). -/
def Obligations.StatusLinesFollowTheirConditions : Prop :=
  ∀ (s : State) line,
    (s.cli.lineMap = [] → s.statusLine line = false)
    ∧ (∀ m, s.cli.lineMap[line]? = some m →
        s.statusLine line = xor m.activeLow (match m.condition with
          | 1 => decide (s.cli.board ≠ [])
          | 2 => decide (s.rvc.state ≠ .off)
          | 3 => decide (s.rvc.state = .fault)
          | 4 => s.chu.voice1.any (·.chime.zones.front) || s.chu.voice2.any (·.chime.zones.front)
          | 5 => decide ((s.link .s1).state = .streaming)
          | 6 => decide ((s.link .s2).state = .streaming)
          | 7 => s.cmp.filmLock
          | _ => false))
    ∧ (∀ t high, ∃ s', exec (.powerOn t high) s = .next s' ∧ s'.statusLine line = false)
    ∧ (∀ t, s.resetN = true → ∃ s', exec (.resetNFall t) s = .next s' ∧ s'.statusLine line = false)
    ∧ (∀ source body, (∃ e ∈ s.cli.board, e.body.kind = body.kind ∧ e.source = source) →
        (s.post source body).statusLine line = s.statusLine line)
    ∧ (s.standbyLaw → s.cli.mode = .standby → s.condition 2 = false ∧ s.condition 5 = false ∧ s.condition 6 = false)
    ∧ (∀ s', s.standbyLaw → (s.phase ≠ .running → s.cli.mode = .standby) → step s = .next s' → s'.standbyLaw)

/-- The requests that report and change nothing: IDENTIFY with the bytes of Table 1-5, REVERSE STATUS, LINK STATUS, MENU STATE,
CHIME STATUS, CALIBRATION READ, CALIBRATION CHECK and GUIDE QUERY with its compute flag clear. -/
def Obligations.StatusRequestsOnlyReply : Prop :=
  (∀ t (s : State), s.asks 0x01 [] → exec (.identify t) s = .next (s.onlyReplies t
      ⟨.ok, [0x4C, 0x46, 3, BitVec.ofNat 8 s.cal.used, BitVec.ofNat 8 s.cal.loadedGen,
             (match s.cli.startCause with | .powerOn => 0 | .resetLine => 1),
             (match s.cli.mode with | .run => 0 | .standby => 1)]⟩))
  ∧ (∀ t (s : State), s.asks 0x20 [] →
      exec (.reverseStatus t) s = .next (s.onlyReplies t ⟨.ok, (s.atTime t).reverseStatusBytes⟩))
  ∧ (∀ s : State, s.reverseStatusBytes.length = 20)
  ∧ (∀ t (s : State) n i, s.asks 0x34 [n] → s.cli.mode = .run → n.toNat = seatNo i →
      exec (.linkStatus t) s = .next (s.onlyReplies t ⟨.ok, s.linkStatusBytes i⟩))
  ∧ (∀ t (s : State) n i, s.asks 0x57 [n] → s.cli.mode = .run → n.toNat = seatNo i →
      exec (.menuState t) s = .next (s.onlyReplies t ⟨.ok, (s.atTime t).menuStateBytes i⟩))
  ∧ (∀ t (s : State), s.asks 0x73 [] → s.cli.mode = .run →
      exec (.chimeStatus t) s = .next (s.onlyReplies t ⟨.ok, s.chu.statusBytes⟩))
  ∧ (∀ t (s : State) no index k, s.asks 0x80 [no, index] → fieldOffset no.toNat index.toNat = some k →
      exec (.calibrationRead t) s = .next (s.onlyReplies t ⟨.ok, i32 (s.cal.working.getD k 0)⟩))
  ∧ (∀ t (s : State) no index, s.asks 0x80 [no, index] → fieldOffset no.toNat index.toNat = none →
      exec (.calibrationRead t) s = .next (s.onlyReplies t ⟨.badValue, []⟩))
  ∧ (∀ t (s : State), s.asks 0x82 [] →
      exec (.calibrationCheck t) s = .next (s.onlyReplies t ⟨.ok, u32 s.cal.loadedCheck.toNat
        ++ u32 (imageCheck s.cal.working).toNat ++ u8 s.cal.slot1.judged.code ++ u8 s.cal.slot2.judged.code
        ++ u8 s.cal.slot3.judged.code ++ u8 s.cal.loadedGen⟩))
  ∧ (∀ t (s : State) n flags, s.asks 0x28 [n, flags] → n.toNat ≤ 5 → flags.getLsbD 0 = false →
      exec (.guideQuery t) s = .next (s.onlyReplies t ⟨.ok, s.gle.sectionBytes n.toNat 0⟩))

/-! ## Part mode -/

/-- MODE SET: a value above 1 is BAD_VALUE; the mode in force is answered OK and nothing changes; STANDBY is refused while the
controller is not OFF. A return to RUN enables the three feed ports, begins the front output and hails each present partner
whose link may leave DETACHED. An entry to STANDBY detaches both links, closes both menus, releases both keys, removes every
chime, turns preview and camera power off, disables the three feed ports and stops the front output; the store, the roots,
the levels, the vehicle values and the calibration are kept. Each change of mode posts a MODE notice with the new mode and cause
REQUEST, behind the notices of the blocks (the blocks' order is the model's choice, log entry 13). That the front output's first
period is read from the working calibration at the return to RUN is the model's reading (log entry 34), and that a
pending route to UIF over a film that the film lock hides posts ROUTE is its choice (log entry 41). -/
def Obligations.ModeSetChangesThePartMode : Prop :=
  (∀ t (s : State) v, s.asks 0x02 [v] → 1 < v.toNat → exec (.modeSet t) s = .next (s.onlyReplies t ⟨.badValue, []⟩))
  ∧ (∀ t (s : State) v, s.asks 0x02 [v] → v.toNat = s.cli.mode.code → exec (.modeSet t) s = .next (s.onlyReplies t ⟨.ok, []⟩))
  ∧ (∀ t (s : State), s.asks 0x02 [1] → s.cli.mode = .run → s.rvc.state ≠ .off →
      exec (.modeSet t) s = .next (s.onlyReplies t ⟨.refusedReverse, []⟩))
  ∧ (∀ t (s : State), s.asks 0x02 [0] → s.cli.mode = .standby →
      ∃ s1 : State, exec (.modeSet t) s = .next (s1.replied ⟨.ok, []⟩) ∧ s1.timebase = t ∧ s1.cli.mode = .run
        ∧ s1.cli.queue = s.cli.queue
        ∧ s1.cli = ({ s.cli with mode := .run } : Cli).postAll t
            (s1.linkTold s .s1 ++ s1.linkTold s .s2 ++ [(0, .mode .run .request)])
        ∧ (∀ f, f ≠ .cam → s1.port f
            = { s.port f with enabled := true, lock := .noSignal, lastStamp := none, good := 0, bad := 0, watch := none })
        ∧ s1.port .cam = s.port .cam ∧ s1.fdp.camPower = s.fdp.camPower
        ∧ (let next := some (afterUs t (1000000 / (calPanelMode s.cal.working).refresh))
           s1.cmp = { s.cmp with front := { s.cmp.front with nextFrame := next } })
        ∧ (∀ i, (s1.link i).state = if (s.link i).state = .detached ∧ (s.link i).present = true ∧ (s.link i).settleTimer = none
                                    then .hailing else (s.link i).state)
        ∧ s1.vin = s.vin ∧ s1.rvc = s.rvc ∧ s1.gle = s.gle ∧ s1.mnu = s.mnu ∧ s1.sct = s.sct ∧ s1.chu = s.chu
        ∧ s1.cal = s.cal ∧ s1.pending = s.pending)
  ∧ (∀ t (s : State), s.asks 0x02 [1] → s.cli.mode = .run → s.rvc.state = .off →
      ∃ s1 : State, exec (.modeSet t) s = .next (s1.replied ⟨.ok, []⟩) ∧ s1.timebase = t ∧ s1.cli.mode = .standby
        ∧ s1.cli.queue = s.cli.queue
        ∧ (∃ before, s1.cli = ({ s.cli with mode := .standby } : Cli).postAll t (before ++ [(0, .mode .standby .request)])
            ∧ ofKind .mode before = [] ∧ (∀ f, ofMatter .feed (feedNo f) before = s1.feedTold s t f)
            ∧ ofMatter .route 1 before = s1.cmp.front.routeTold s.cmp.front .fro
            ∧ (∀ i, ofMatter .link (seatNo i) before = s1.linkTold s i
                ∧ ofMatter .route (outputNo (.ro i)) before = (s1.rearRow i).routeTold (s.rearRow i) (.ro i)))
        ∧ (∀ f, f ≠ .cam → (s1.port f).enabled = false ∧ (s1.port f).lock = .noSignal ∧ (s1.port f).format = (s.port f).format)
        ∧ s1.fdp.camPower = false ∧ s1.cmp.preview = false ∧ s1.cmp.front.nextFrame = none ∧ s1.cmp.front.frame = none
        ∧ s1.cmp.front.pending = none
        ∧ (∀ i, (s1.link i).state = .detached ∧ (s1.link i).staged = (s.link i).staged ∧ (s1.ctx i).stack = []
            ∧ (s1.seat i).held = none ∧ (s1.seat i).volume = (s.seat i).volume ∧ (s1.seat i).offset = (s.seat i).offset)
        ∧ s1.chu.voice1 = none ∧ s1.chu.voice2 = none ∧ s1.chu.queue = [] ∧ s1.chu.table = s.chu.table
        ∧ s1.mnu.store = s.mnu.store ∧ s1.mnu.root = s.mnu.root
        ∧ s1.rvc.state = .off ∧ s1.vin = s.vin ∧ s1.cal = s.cal ∧ s1.pending = s.pending)

/-! ## Feed ports -/

/-- The lock machine. A frame start at an enabled port becomes its last stamp and starts its watch for three nominal periods; the port
leaves NO_SIGNAL and LOST for ACQUIRING with its counts at 0, reaches LOCKED at the fourth good period in ACQUIRING, and falls back to
ACQUIRING at the third bad one in LOCKED; a period is good when ten times its difference from the nominal period is no greater than
that. The expiry of the watch takes LOCKED to LOST and ACQUIRING to NO_SIGNAL. A disabled port takes no frame start. A change of the
lock state posts a FEED notice with the port, the new state and the stamp, ahead of any notice in answer, and a frame start that
changes none posts none. At another port than CAM the other ports and the blocks that do not read its lock keep their state. -/
def Obligations.FrameStartsDriveTheLock : Prop :=
  (∀ t f (s : State), s.phase = .running → (s.port f).enabled = false →
    exec (.frameStart t f) s = .next { s with timebase := t }.settle)
  ∧ (∀ t f (s : State), s.phase = .running → (s.port f).enabled = true → (f = .cam → s.fdp.camPower = true) →
      ∃ s1 : State, exec (.frameStart t f) s = .next s1.settle ∧ s1.timebase = t
        ∧ (let p := s.port f
           let q := s1.port f
           q.enabled = true ∧ q.format = p.format ∧ q.lastStamp = some t
           ∧ q.watch = some (afterUs t (3 * nominalPeriod p.format))
           ∧ (p.lock = .noSignal ∨ p.lock = .lost → q.lock = .acquiring ∧ q.good = 0 ∧ q.bad = 0)
           ∧ (∀ st, p.lastStamp = some st →
               let isGood := 10 * (((t - st).toNat : Int) - (nominalPeriod p.format : Int)).natAbs ≤ nominalPeriod p.format
               (p.lock = .acquiring → isGood →
                 q.good = p.good + 1 ∧ (p.good < 3 → q.lock = .acquiring ∧ q.bad = p.bad) ∧ (3 ≤ p.good → q.lock = .locked ∧ q.bad = 0))
               ∧ (p.lock = .acquiring → ¬ isGood → q.lock = .acquiring ∧ q.good = 0 ∧ q.bad = p.bad)
               ∧ (p.lock = .locked → isGood → q.lock = .locked ∧ q.bad = 0 ∧ q.good = p.good)
               ∧ (p.lock = .locked → ¬ isGood →
                   q.bad = p.bad + 1 ∧ (p.bad < 2 → q.lock = .locked ∧ q.good = p.good)
                   ∧ (2 ≤ p.bad → q.lock = .acquiring ∧ q.good = 0))))
        ∧ (∃ rest, s1.cli = s.cli.postAll t (s1.feedTold s t f ++ rest) ∧ ofKind .feed rest = [] ∧ (f ≠ .cam → rest = []))
        ∧ (f ≠ .cam → (∀ g, g ≠ f → s1.port g = s.port g) ∧ s1.fdp.camPower = s.fdp.camPower ∧ s1.rvc = s.rvc
            ∧ s1.gle = s.gle ∧ s1.chu = s.chu)
        ∧ s1.cli.queue = s.cli.queue ∧ s1.vin = s.vin ∧ s1.rsl = s.rsl ∧ s1.mnu = s.mnu ∧ s1.sct = s.sct ∧ s1.cal = s.cal
        ∧ s1.pending = s.pending)
  ∧ (∀ t f (s : State) e, s.phase = .running → (s.port f).watch = some e → reached t e = true →
      (f = .cam → s.fdp.camPower = true) →
      ∃ s1 : State, exec (.frameWatchExpiry t f) s = .next s1.settle ∧ s1.timebase = t
        ∧ ((s.port f).lock = .locked → (s1.port f).lock = .lost) ∧ ((s.port f).lock = .acquiring → (s1.port f).lock = .noSignal)
        ∧ (s1.port f).lastStamp = none ∧ (s1.port f).good = 0 ∧ (s1.port f).bad = 0 ∧ (s1.port f).watch = none
        ∧ (s1.port f).enabled = (s.port f).enabled ∧ (s1.port f).format = (s.port f).format
        ∧ (∃ rest, s1.cli = s.cli.postAll t (s1.feedTold s t f ++ rest) ∧ ofKind .feed rest = [] ∧ (f ≠ .cam → rest = []))
        ∧ (f ≠ .cam → (∀ g, g ≠ f → s1.port g = s.port g) ∧ s1.fdp.camPower = s.fdp.camPower ∧ s1.rvc = s.rvc
            ∧ s1.gle = s.gle ∧ s1.chu = s.chu)
        ∧ s1.cli.queue = s.cli.queue ∧ s1.vin = s.vin ∧ s1.rsl = s.rsl ∧ s1.mnu = s.mnu ∧ s1.sct = s.sct ∧ s1.cal = s.cal
        ∧ s1.pending = s.pending)

/-- FEED FORMAT: a feed, width, height or rate outside its range is BAD_VALUE and changes nothing; otherwise the port takes the
format, a LOCKED port falls to ACQUIRING, an ACQUIRING one begins its count anew, both restart their watch for the new nominal
period and keep the last stamp. The fall to ACQUIRING posts a FEED notice with the port, the state and the stamp; elsewhere none is
posted. -/
def Obligations.FeedFormatSetsThePort : Prop :=
  ∀ t (s : State) p, s.asks 0x11 p → p.length = 6 → s.cli.mode = .run →
    let w := u16At p 1
    let h := u16At p 3
    let r := byteAt p 5
    ((byteAt p 0 = 0 ∨ 3 < byteAt p 0 ∨ w < 320 ∨ 1920 < w ∨ h < 240 ∨ 1080 < h ∨ r < 24 ∨ 60 < r) →
      exec (.feedFormat t) s = .next (s.onlyReplies t ⟨.badValue, []⟩))
    ∧ (∀ f, byteAt p 0 = feedNo f → f ≠ .cam → 320 ≤ w → w ≤ 1920 → 240 ≤ h → h ≤ 1080 → 24 ≤ r → r ≤ 60 →
      ∃ s1 : State, exec (.feedFormat t) s = .next (s1.replied ⟨.ok, []⟩) ∧ s1.timebase = t
        ∧ s1.port f = (let q := { s.port f with format := some ⟨w, h, r⟩ }
            let watch := some (afterUs t (3 * (1000000 / r)))
            match q.lock with
            | .locked => { q with lock := .acquiring, good := 0, bad := 0, watch := watch }
            | .acquiring => { q with good := 0, watch := watch }
            | .noSignal => q
            | .lost => q)
        ∧ s1.cli = (if (s.port f).lock = .locked then s.cli.post t (feedNo f) (.feed .acquiring t) else s.cli)
        ∧ (∀ g, g ≠ f → s1.port g = s.port g) ∧ s1.fdp.camPower = s.fdp.camPower
        ∧ s1.cli.queue = s.cli.queue ∧ s1.vin = s.vin ∧ s1.rvc = s.rvc ∧ s1.gle = s.gle ∧ s1.rsl = s.rsl ∧ s1.mnu = s.mnu
        ∧ s1.sct = s.sct ∧ s1.chu = s.chu ∧ s1.cal = s.cal ∧ s1.pending = s.pending)

/-! ## The gear line and the reverse view -/

/-- A raw edge of GEAR without a candidate begins one for the new level with the debounce time of the working calibration; with
a candidate it cancels it; a level that does not change is no edge. At the expiry of its debounce timer a candidate's level is
confirmed, with its edge stamp recorded. REVERSE wakes the part from STANDBY, and takes the controller from OFF or HELD to LIVE
when CAM is LOCKED and else to CUEING with the cue deadline; NOT_REVERSE takes it from CUEING to OFF, and from LIVE or FAULT to OFF
when the hold time is 0 or a fresh speed is at the exit speed, and else to HELD with the hold timer. Elsewhere the controller's
state stays. Whenever the controller leaves OFF, camera power goes on and the front output shows CAM with cause REVERSE; whenever
it enters OFF, camera power follows preview. Each change of the controller posts one REVERSE notice with its state, reason, held view
and latest edge stamp, ahead of the neighbours' notices; the wake posts MODE with cause REVERSE_WAKE; a front row that changes posts
ROUTE; and the chime unit is asked for what R42 and R158 name (`State.soundsFrom`). -/
def Obligations.GearEdgesAndConfirmedGear : Prop :=
  (∀ t high (s : State), s.phase = .running →
      (s.vin.gearRaw = high → exec (.gearEdge t high) s = .next { s with timebase := t }.settle)
      ∧ (s.vin.gearRaw ≠ high → s.vin.candidate ≠ none →
          exec (.gearEdge t high) s = .next { s with timebase := t, vin := { s.vin with gearRaw := high, candidate := none } }.settle)
      ∧ (s.vin.gearRaw ≠ high → s.vin.candidate = none → s.vin.gear = levelOf (!high) →
          let c : GearCandidate := ⟨levelOf high, t, afterMs t (calDebounce s.cal.working)⟩
          exec (.gearEdge t high) s
            = .next { s with timebase := t, vin := { s.vin with gearRaw := high, candidate := some c } }.settle))
  ∧ (∀ t (s : State) level edge expiry, s.phase = .running → s.vin.candidate = some ⟨level, edge, expiry⟩ → reached t expiry = true →
      ∃ s1 : State, exec (.gearDebounceExpiry t) s = .next s1.settle ∧ s1.timebase = t
        ∧ s1.vin = { s.vin with gear := level, candidate := none }
        ∧ s1.rvc.latestEdge = some level
        ∧ (∃ ns, s1.cli = ({ s.cli with mode := s1.cli.mode } : Cli).postAll t ns ∧ s1.rvc.tells s.rvc ns
            ∧ ofKind .mode ns = (if level = .reverse ∧ s.cli.mode = .standby then [(0, .mode .run .reverseWake)] else [])
            ∧ ofMatter .route 1 ns = s1.cmp.front.routeTold s.cmp.front .fro)
        ∧ s1.soundsFrom s
        ∧ (level = .reverse → s1.rvc.reverseStamp = some edge ∧ s1.rvc.notReverseStamp = s.rvc.notReverseStamp
            ∧ s1.cli.mode = .run
            ∧ (s.rvc.state = .off ∨ s.rvc.state = .held →
                s1.rvc.reason = .gearReverse ∧ s1.rvc.heldView = .none ∧ s1.rvc.holdTimer = none
                ∧ ((s.port .cam).lock = .locked → s1.rvc.state = .live ∧ s1.rvc.cueDeadline = none)
                ∧ ((s.port .cam).lock ≠ .locked → s1.rvc.state = .cueing
                    ∧ s1.rvc.cueDeadline = some (afterMs t (calCueDeadline s.cal.working))))
            ∧ (s.rvc.state = .cueing ∨ s.rvc.state = .live ∨ s.rvc.state = .fault →
                s1.rvc.state = s.rvc.state ∧ s1.rvc.reason = s.rvc.reason)
            ∧ (s.rvc.state = .off → s1.fdp.camPower = true ∧ s1.cmp.front.effective = .cam ∧ s1.cmp.front.cause = .reverse
                ∧ s1.cmp.preview = false))
        ∧ (level = .notReverse → s1.rvc.notReverseStamp = some edge ∧ s1.rvc.reverseStamp = s.rvc.reverseStamp
            ∧ s1.cli.mode = s.cli.mode
            ∧ (s.rvc.state = .cueing → s1.rvc.state = .off ∧ s1.rvc.reason = .gearReleased ∧ s1.rvc.cueDeadline = none)
            ∧ (s.rvc.state = .live ∨ s.rvc.state = .fault →
                (calHoldTime s.cal.working = 0 → s1.rvc.state = .off ∧ s1.rvc.reason = .gearReleased)
                ∧ (calHoldTime s.cal.working ≠ 0 → s.speedFresh = true → calExitSpeed s.cal.working ≤ s.vin.speed →
                    s1.rvc.state = .off ∧ s1.rvc.reason = .speedExit)
                ∧ (calHoldTime s.cal.working ≠ 0 → (s.speedFresh = false ∨ s.vin.speed < calExitSpeed s.cal.working) →
                    s1.rvc.state = .held ∧ s1.rvc.reason = .gearReleased
                    ∧ s1.rvc.heldView = (if s.rvc.state = .live then .camera else .fault)
                    ∧ s1.rvc.holdTimer = some (afterMs t (calHoldTime s.cal.working))))
            ∧ (s.rvc.state = .off ∨ s.rvc.state = .held → s1.rvc.state = s.rvc.state ∧ s1.rvc.reason = s.rvc.reason
                ∧ s1.rvc.holdTimer = s.rvc.holdTimer)
            ∧ (s.rvc.state ≠ .off → s1.rvc.state = .off → s1.fdp.camPower = s.cmp.preview))
        ∧ s1.cli.queue = s.cli.queue ∧ s1.mnu = s.mnu ∧ s1.sct = s.sct ∧ s1.cal = s.cal ∧ s1.pending = s.pending)

/-- The controller follows CAM's lock: in CUEING and FAULT the frame start that completes the lock enters LIVE with reason
PICTURE_UP; in LIVE the watch's expiry and the third bad period enter FAULT with reason PICTURE_LOST; in OFF and HELD its state
stays. The cue deadline takes CUEING to FAULT with reason NO_PICTURE; the hold timer takes HELD to OFF with reason HOLD_EXPIRED;
REVERSE DISMISS takes HELD to OFF with reason DISMISSED, and is answered NOT_NOW in every other state. Each change posts one REVERSE
notice with the body of R49, and asks the chime unit for what R42 and R158 name (`State.soundsFrom`: the engage chime on the entry to
LIVE, the fault chime on each entry to FAULT with its handle kept, its cancel on the exit); no change posts none and asks for none. -/
def Obligations.CameraLockTimersAndDismissDriveTheController : Prop :=
  (∀ t (s : State) st, s.phase = .running → (s.port .cam).enabled = true → s.fdp.camPower = true → (s.port .cam).lock = .acquiring →
      (s.port .cam).good = 3 → (s.port .cam).lastStamp = some st →
      10 * (((t - st).toNat : Int) - (nominalPeriod (s.port .cam).format : Int)).natAbs ≤ nominalPeriod (s.port .cam).format →
      ∃ s1 : State, exec (.frameStart t .cam) s = .next s1.settle
        ∧ s1.timebase = t ∧ (∃ ns, s1.cli = s.cli.postAll t ns ∧ s1.rvc.tells s.rvc ns) ∧ s1.soundsFrom s
        ∧ (s.rvc.state = .cueing ∨ s.rvc.state = .fault → s1.rvc.state = .live ∧ s1.rvc.reason = .pictureUp
            ∧ s1.rvc.cueDeadline = none ∧ s1.cmp.frontView = .picture)
        ∧ (s.rvc.state = .fault → s1.rvc.faultChime = none)
        ∧ (s.rvc.state = .off ∨ s.rvc.state = .held → s1.rvc = s.rvc))
  ∧ (∀ t (s : State) e, s.phase = .running → s.fdp.camPower = true → (s.port .cam).lock = .locked →
      (s.port .cam).watch = some e → reached t e = true →
      ∃ s1 : State, exec (.frameWatchExpiry t .cam) s = .next s1.settle
        ∧ s1.timebase = t ∧ (∃ ns, s1.cli = s.cli.postAll t ns ∧ s1.rvc.tells s.rvc ns) ∧ s1.soundsFrom s
        ∧ (s.rvc.state = .live → s1.rvc.state = .fault ∧ s1.rvc.reason = .pictureLost ∧ s1.cmp.frontView = .fault)
        ∧ (s.rvc.state = .off ∨ s.rvc.state = .held ∨ s.rvc.state = .fault → s1.rvc = s.rvc))
  ∧ (∀ t (s : State) st, s.phase = .running → (s.port .cam).enabled = true → s.fdp.camPower = true → (s.port .cam).lock = .locked →
      (s.port .cam).bad = 2 → (s.port .cam).lastStamp = some st →
      ¬ 10 * (((t - st).toNat : Int) - (nominalPeriod (s.port .cam).format : Int)).natAbs ≤ nominalPeriod (s.port .cam).format →
      ∃ s1 : State, exec (.frameStart t .cam) s = .next s1.settle
        ∧ s1.timebase = t ∧ (∃ ns, s1.cli = s.cli.postAll t ns ∧ s1.rvc.tells s.rvc ns) ∧ s1.soundsFrom s
        ∧ (s.rvc.state = .live → s1.rvc.state = .fault ∧ s1.rvc.reason = .pictureLost ∧ s1.cmp.frontView = .fault)
        ∧ (s.rvc.state = .off ∨ s.rvc.state = .held ∨ s.rvc.state = .fault → s1.rvc = s.rvc))
  ∧ (∀ t (s : State) e, s.phase = .running → s.rvc.state = .cueing → s.rvc.cueDeadline = some e → reached t e = true →
      ∃ s1 : State, exec (.cueDeadlineExpiry t) s = .next s1.settle ∧ s1.timebase = t ∧ s1.rvc.state = .fault
        ∧ (∃ ns, s1.cli = s.cli.postAll t ns ∧ s1.rvc.tells s.rvc ns) ∧ s1.soundsFrom s
        ∧ s1.rvc.reason = .noPicture ∧ s1.rvc.cueDeadline = none ∧ s1.rvc.heldView = .none ∧ s1.cmp.frontView = .fault
        ∧ s1.cmp.front.shown = 2 ∧ s1.rvc.reverseStamp = s.rvc.reverseStamp ∧ s1.cli.queue = s.cli.queue ∧ s1.vin = s.vin
        ∧ s1.rsl = s.rsl ∧ s1.mnu = s.mnu ∧ s1.sct = s.sct ∧ s1.cal = s.cal ∧ s1.pending = s.pending)
  ∧ (∀ t (s : State) e, s.phase = .running → s.rvc.state = .held → s.rvc.holdTimer = some e → reached t e = true →
      ∃ s1 : State, exec (.holdTimerExpiry t) s = .next s1.settle ∧ s1.timebase = t ∧ s1.entersOff s .holdExpired
        ∧ s1.cli.queue = s.cli.queue)
  ∧ (∀ t (s : State), s.asks 0x21 [] → s.cli.mode = .run → s.rvc.state = .held →
      ∃ s1 : State, exec (.reverseDismiss t) s = .next (s1.replied ⟨.ok, []⟩) ∧ s1.timebase = t ∧ s1.entersOff s .dismissed
        ∧ s1.cli.queue = s.cli.queue)
  ∧ (∀ t (s : State), s.asks 0x21 [] → s.cli.mode = .run → s.rvc.state ≠ .held →
      exec (.reverseDismiss t) s = .next (s.onlyReplies t ⟨.notNow, []⟩))

/-! ## Vehicle values -/

/-- VEHICLE REPORT: each present field is clamped and replaces the value held, with its watch started (500 ms speed, 300 ms
steering, 400 ms obstacle); the reply names the clamped fields. A fresh speed judges the film lock and may end HELD. A present
steering angle is a trigger in TRACKING: a computation begins from the values held now, or a follow-up is marked while one is in
flight; a report that has just ended HELD finds the engine IDLE (the order of the blocks is the model's choice, log entry 13). A
present dimmer recomputes the backlight target of both seats, and a target without a reference, or 2 or more away from it, is
handed to the seat's link. The end of HELD posts its REVERSE notice, a front row that changes its ROUTE notice; a present obstacle
distance, and the end of HELD, judge the park beep. -/
def Obligations.VehicleReportTakesThePresentFields : Prop :=
  ∀ t (s : State) p, s.asks 0x10 p → p.length = 8 →
    ∃ s1 : State, exec (.vehicleReport t) s = .next (s1.replied ⟨.ok, [BitVec.ofNat 8
        ((if bitAt p 0 0 ∧ 3000 < u16At p 1 then 1 else 0)
          + (if bitAt p 0 1 ∧ (i16At p 3 < -7800 ∨ 7800 < i16At p 3) then 2 else 0)
          + (if bitAt p 0 2 ∧ 100 < byteAt p 5 then 4 else 0)
          + (if bitAt p 0 3 ∧ 5000 < u16At p 6 ∧ u16At p 6 ≠ 65535 then 8 else 0))]⟩)
      ∧ s1.timebase = t ∧ s1.cli.queue = s.cli.queue
      ∧ s1.vin = { s.vin with
          speed := if bitAt p 0 0 then min (u16At p 1) 3000 else s.vin.speed
          speedWatch := if bitAt p 0 0 then some (afterMs t 500) else s.vin.speedWatch
          steering := if bitAt p 0 1 then (if i16At p 3 < -7800 then -7800 else if 7800 < i16At p 3 then 7800 else i16At p 3)
                      else s.vin.steering
          steeringWatch := if bitAt p 0 1 then some (afterMs t 300) else s.vin.steeringWatch
          dimmer := if bitAt p 0 2 then min (byteAt p 5) 100 else s.vin.dimmer
          obstacle := if bitAt p 0 3 then (if u16At p 6 = 65535 then none else some (min (u16At p 6) 5000)) else s.vin.obstacle
          obstacleWatch := if bitAt p 0 3 then some (afterMs t 400) else s.vin.obstacleWatch }
      ∧ s1.cmp.filmLock = (if bitAt p 0 0 then decide (calLockSpeed s.cal.working ≤ min (u16At p 1) 3000) else s.cmp.filmLock)
      ∧ (s.rvc.state = .held → bitAt p 0 0 = true → calExitSpeed s.cal.working ≤ min (u16At p 1) 3000 →
          s1.rvc.state = .off ∧ s1.rvc.reason = .speedExit)
      ∧ (s.rvc.state ≠ .held → s1.rvc.state = s.rvc.state ∧ s1.rvc.reason = s.rvc.reason)
      ∧ (let exits := s.rvc.state = .held ∧ bitAt p 0 0 = true ∧ calExitSpeed s.cal.working ≤ min (u16At p 1) 3000
         (exits → s1.gle.mode = .idle ∧ s1.gle.followUp = false)
         ∧ (¬ exits → s1.gle =
              if bitAt p 0 1 = true ∧ s.gle.mode = .tracking then
                (match s.gle.inFlight with
                  | none => { s.gle with inFlight := some ({ s with vin := s1.vin } : State).guideInput }
                  | some _ => { s.gle with followUp := true })
              else s.gle))
      ∧ (bitAt p 0 2 = true → s1.sct.dimmer = min (byteAt p 5) 100 ∧ ∀ i,
          let r := s.seat i
          let target := backlightTarget r.policy r.threshold (min (byteAt p 5) 100) r.ambient r.offset
          let far := ∀ ref, r.next.or r.lastSent = some ref → 2 ≤ ((target : Int) - (ref : Int)).natAbs
          let answer := (s.link i).takeBacklight target
          (far → s1.link i = answer.1 ∧ s1.seat i = ({ r with target := target } : SeatRec).handed target answer.2)
          ∧ (¬ far → s1.link i = s.link i ∧ s1.seat i = { r with target := target }))
      ∧ (bitAt p 0 2 = false → s1.sct = s.sct ∧ s1.rsl = s.rsl)
      ∧ (s.sourceLaw → ∃ ns, s1.cli = s.cli.postAll t ns ∧ s1.rvc.tells s.rvc ns
          ∧ ofMatter .route 1 ns = s1.cmp.front.routeTold s.cmp.front .fro)
      ∧ (∃ m : State, m.hearsAs s1 ∧ m.soundsFrom s ∧ (bitAt p 0 3 = true → s1.parkJudgedFrom m)
          ∧ (bitAt p 0 3 = false → s1.chu = m.chu))
      ∧ s1.mnu = s.mnu ∧ s1.cal = s.cal ∧ s1.pending = s.pending

/-- A watch that expires makes its value stale and keeps it; the loss of a speed engages the film lock, that of the angle is a
trigger in TRACKING, and neither changes the controller. A front row that changes posts its ROUTE notice, and the loss of the distance
judges the park beep. -/
def Obligations.VehicleWatchMakesAValueStale : Prop :=
  ∀ t (s : State) e, s.phase = .running → reached t e = true →
    (s.vin.speedWatch = some e →
      ∃ s1 : State, exec (.vehicleWatchExpiry t .speed) s = .next s1.settle ∧ s1.timebase = t
        ∧ s1.vin = { s.vin with speedWatch := none } ∧ s1.cmp.filmLock = true ∧ s1.fdp = s.fdp ∧ s1.rvc = s.rvc ∧ s1.gle = s.gle
        ∧ s1.cli = s.cli.postAll t (s1.cmp.front.routeTold s.cmp.front .fro)
        ∧ s1.rsl = s.rsl ∧ s1.mnu = s.mnu ∧ s1.sct = s.sct ∧ s1.chu = s.chu ∧ s1.cal = s.cal ∧ s1.pending = s.pending)
    ∧ (s.vin.steeringWatch = some e →
      let vin := { s.vin with steeringWatch := none }
      let input := ({ s with vin := vin } : State).guideInput
      let gle := if s.gle.mode = .tracking then
          (match s.gle.inFlight with
            | none => { s.gle with inFlight := some input }
            | some _ => { s.gle with followUp := true })
        else s.gle
      exec (.vehicleWatchExpiry t .steering) s = .next ({ s with timebase := t, vin := vin, gle := gle } : State).settle)
    ∧ (s.vin.obstacleWatch = some e →
      ∃ s1 : State, exec (.vehicleWatchExpiry t .obstacle) s = .next s1.settle ∧ s1.timebase = t
        ∧ s1.vin = { s.vin with obstacleWatch := none } ∧ s1.chu.parkJudged = false ∧ s1.parkJudgedFrom s
        ∧ s1.cli = s.cli ∧ s1.fdp = s.fdp ∧ s1.gle = s.gle
        ∧ s1.rvc = s.rvc ∧ s1.rsl = s.rsl ∧ s1.cmp = s.cmp ∧ s1.mnu = s.mnu ∧ s1.sct = s.sct ∧ s1.cal = s.cal
        ∧ s1.pending = s.pending)

/-! ## Guide line engine -/

/-- The set a computation makes is the result of its input set: curvature, edge lines, projected points, coloured segments, crossbars
and their clipping, with the stated rounding (R56 to R64, in `GuideSet.resultOf`), and everything it draws lies in the image. A
computation that completes makes its set pending and begins the marked follow-up from the inputs held now; while CAM is not LOCKED the
set is installed at once, the set number counts modulo 65536 and the compositor is handed the set; while CAM is LOCKED a camera frame
start that keeps the lock installs it. An installation that changes the type posts a GUIDE notice. A GUIDE QUERY with the compute flag
begins a computation, or marks a follow-up while one is in flight; that its reply shows the engine after that trigger is the model's
reading (log entry 20). -/
def Obligations.ComputationsBecomePendingThenInstalled : Prop :=
  (∀ inp : GuideInput, inp.compute.resultOf inp)
  ∧ (∀ inp : GuideInput, ∀ x ∈ inp.compute.strokes,
      0 ≤ x.2.u1 ∧ x.2.u1 < inp.imageWidth ∧ 0 ≤ x.2.v1 ∧ x.2.v1 < inp.imageHeight
      ∧ 0 ≤ x.2.u2 ∧ x.2.u2 < inp.imageWidth ∧ 0 ≤ x.2.v2 ∧ x.2.v2 < inp.imageHeight)
  ∧ (∀ t (s : State) inp, s.phase = .running → s.gle.inFlight = some inp → s.gle.camLocked = true →
      let next := if s.gle.followUp then some s.guideInput else none
      let gle := { s.gle with pending := some inp.compute, inFlight := next, followUp := false }
      exec (.computationComplete t) s = .next ({ s with timebase := t, gle := gle }).settle)
  ∧ (∀ t (s : State) inp, s.phase = .running → s.gle.inFlight = some inp → s.gle.camLocked = false →
      ∃ s1 : State, exec (.computationComplete t) s = .next s1.settle ∧ s1.timebase = t
        ∧ s1.gle = { s.gle with pending := none, installed := some inp.compute, setNumber := (s.gle.setNumber + 1) % 65536,
                                inFlight := if s.gle.followUp then some s.guideInput else none, followUp := false }
        ∧ s1.cmp.guideSet = some inp.compute
        ∧ s1.cli = (if s.gle.installed.map (fun g => g.input.type) = some inp.compute.input.type then s.cli
                    else s.cli.post t 0 (.guide ((s.gle.setNumber + 1) % 65536) inp.compute.input.type))
        ∧ s1.fdp = s.fdp ∧ s1.vin = s.vin ∧ s1.rvc = s.rvc ∧ s1.rsl = s.rsl ∧ s1.mnu = s.mnu ∧ s1.sct = s.sct
        ∧ s1.chu = s.chu ∧ s1.cal = s.cal ∧ s1.pending = s.pending)
  ∧ (∀ t (s : State) g, s.phase = .running → (s.port .cam).enabled = true → (s.port .cam).lock = .locked →
      (s.port .cam).bad ≤ 1 → s.gle.pending = some g →
      ∃ s1 : State, exec (.frameStart t .cam) s = .next s1.settle ∧ s1.gle.installed = some g ∧ s1.gle.pending = none
        ∧ s1.gle.setNumber = (s.gle.setNumber + 1) % 65536 ∧ s1.cmp.guideSet = some g
        ∧ s1.cli = (if s.gle.installed.map (fun g => g.input.type) = some g.input.type then s.cli
                    else s.cli.post t 0 (.guide ((s.gle.setNumber + 1) % 65536) g.input.type)))
  ∧ (∀ t (s : State) n flags, s.asks 0x28 [n, flags] → n.toNat ≤ 5 → flags.getLsbD 0 = true → s.gle.inFlight = none →
      let gle := { s.gle with inFlight := some s.guideInput }
      exec (.guideQuery t) s = .next ({ s with timebase := t, gle := gle }.replied ⟨.ok, gle.sectionBytes n.toNat 1⟩))
  ∧ (∀ t (s : State) n flags inp, s.asks 0x28 [n, flags] → n.toNat ≤ 5 → flags.getLsbD 0 = true → s.gle.inFlight = some inp →
      let gle := { s.gle with followUp := true }
      exec (.guideQuery t) s = .next ({ s with timebase := t, gle := gle }.replied ⟨.ok, gle.sectionBytes n.toNat 2⟩))
  ∧ (∀ t (s : State) n flags, s.asks 0x28 [n, flags] → 5 < n.toNat →
      exec (.guideQuery t) s = .next (s.onlyReplies t ⟨.badValue, []⟩))

/-! ## Rear screen links -/

/-- The three events that take a link to HAILING: presence gained in DETACHED in RUN with the settle timer stopped, the end of
the settle timer with a present partner, and the end of the hold-off in RECOVERY. Offers, descriptor and claim are cleared, one
HAIL is sent, the hail timer runs for 20 ms, and a LINK notice is posted. Before the fifth HAIL the hail timer sends another.
Where the conditions of HAILING do not hold, presence and the settle timer change alone. -/
def Obligations.LinkHailsAPresentPartner : Prop :=
  (∀ t i (s : State), s.phase = .running → s.cli.mode = .run → (s.link i).state = .detached → (s.link i).settleTimer = none →
      exec (.presenceGained t i) s = .next ((s.hails t i { s.link i with present := true })).settle)
  ∧ (∀ t i (s : State), s.phase = .running →
      (s.cli.mode = .standby ∨ (s.link i).state ≠ .detached ∨ (s.link i).settleTimer ≠ none) →
      exec (.presenceGained t i) s
        = .next ({ s with timebase := t, rsl := s.rsl.set i { s.link i with present := true } }).settle)
  ∧ (∀ t i (s : State) e, s.phase = .running → s.cli.mode = .run → (s.link i).state = .detached → (s.link i).present = true →
      (s.link i).settleTimer = some e → reached t e = true →
      exec (.settleTimerExpiry t i) s = .next ((s.hails t i { s.link i with settleTimer := none })).settle)
  ∧ (∀ t i (s : State) e, s.phase = .running → (s.link i).settleTimer = some e → reached t e = true →
      (s.cli.mode = .standby ∨ (s.link i).state ≠ .detached ∨ (s.link i).present = false) →
      exec (.settleTimerExpiry t i) s
        = .next ({ s with timebase := t, rsl := s.rsl.set i { s.link i with settleTimer := none } }).settle)
  ∧ (∀ t i (s : State) e, s.phase = .running → (s.link i).state = .recovery → (s.link i).holdOffTimer = some e →
      reached t e = true → exec (.holdOffTimerExpiry t i) s = .next ((s.hails t i (s.link i))).settle)
  ∧ (∀ t i (s : State) e, s.phase = .running → (s.link i).state = .hailing → (s.link i).hailTimer = some e →
      reached t e = true → (s.link i).hailCount < 5 →
      let outbox := (s.link i).outbox ++ [message 0x01 []]
      let l := { s.link i with outbox := outbox, hailCount := (s.link i).hailCount + 1, hailTimer := some (afterMs t 20) }
      exec (.hailTimerExpiry t i) s = .next ({ s with timebase := t, rsl := s.rsl.set i l }).settle)

/-- Selection: OFFERS in HAILING whose fields all pass are stored, numbered from 1, with the descriptor, and the in-force policy is
set from the staged one; a REJECT in CLAIMING marks the claimed offer. Either way the class is read, and of the offers that are
not rejected and lie within budget and policy the one with the largest pixel rate, the lowest index among equals, is claimed
with a CLAIM and 100 ms to answer; without one the link is in NO_MODE. -/
def Obligations.SelectionClaimsTheLargestRate : Prop :=
  (∀ t i (s : State) body os d, s.phase = .running → (s.link i).state = .hailing → offersSuits body = true →
      parseOffers body = some (os, d) →
      ∃ s1 : State, exec (.offers t i body) s = .next s1.settle ∧ s1.timebase = t
        ∧ (s1.link i).offers = os ∧ (s1.link i).descriptor = some d ∧ (s1.link i).readPos = 0 ∧ (s1.link i).hailTimer = none
        ∧ (s1.link i).inForce = (s.link i).staged.getD (calSeatPolicy s.cal.working)
        ∧ (s1.link i).selectedAt t (calCable s.cal.working i) ∧ s1.onlyLinkChanged s i
        ∧ s1.cli = s.cli.postAll t ((seatNo i, .link .claiming (s.link i).reason) ::
            (if (s1.link i).state = .noMode then [(seatNo i, .link .noMode (s.link i).reason)] else [])))
  ∧ (∀ t i (s : State) n, s.phase = .running → (s.link i).state = .claiming → (s.link i).claimed = some n → 1 ≤ n →
      ∃ s1 : State, exec (.reject t i) s = .next s1.settle ∧ s1.timebase = t
        ∧ (s1.link i).offers = (s.link i).offers.modify (n - 1) (fun o => { o with rejected := true })
        ∧ (s1.link i).descriptor = (s.link i).descriptor ∧ (s1.link i).inForce = (s.link i).inForce
        ∧ (s1.link i).selectedAt t (calCable s.cal.working i) ∧ s1.onlyLinkChanged s i
        ∧ s1.cli = s.cli.postAll t (if (s1.link i).state = .noMode then [(seatNo i, .link .noMode (s.link i).reason)] else []))
  ∧ (∀ os d, 1 ≤ os.length → os.length ≤ 6 → d.length ≤ 128 →
      (∀ o ∈ os, 160 ≤ o.width ∧ o.width ≤ 3840 ∧ 120 ≤ o.height ∧ o.height ≤ 2160 ∧ 24 ≤ o.refresh ∧ o.refresh ≤ 60
        ∧ o.rejected = false) →
      parseOffers (u8 os.length ++ os.flatMap (fun o => u16 o.width ++ u16 o.height ++ u8 o.refresh ++ flag o.audio)
        ++ u8 d.length ++ d) = some (os, d))

/-- An ACCEPT in CLAIMING forms the agreement from the claimed offer and starts STREAMING: PANEL_POWER ON and the present
backlight target are queued, the first POLL has carried the first of them, the poll timer runs for 10 ms, and the rear row has
its first frame. The LINK notice carries STREAMING with the reason that stands, and the ROUTE notice of a row that changes follows. -/
def Obligations.AcceptStartsStreaming : Prop :=
  ∀ t i (s : State) n o, s.phase = .running → (s.link i).state = .claiming → (s.link i).claimed = some n →
    (s.link i).offers[n - 1]? = some o → (s.link i).queue = [] → (s.link i).commandToggle = false →
    ∃ s1 : State, exec (.accept t i) s = .next s1.settle ∧ s1.timebase = t
      ∧ (s1.link i).state = .streaming ∧ (s1.link i).reason = (s.link i).reason
      ∧ s1.cli = s.cli.postAll t ((seatNo i, .link .streaming (s.link i).reason) :: (s1.rearRow i).routeTold (s.rearRow i) (.ro i))
      ∧ (s1.link i).agreement = some ⟨n, o.width, o.height, o.refresh, o.audio, partnerId (s.link i).descriptor⟩
      ∧ (s1.link i).claimTimer = none ∧ (s1.link i).misses = 0 ∧ (s1.link i).statusSincePoll = false
      ∧ (s1.link i).partnerLocked = false ∧ (s1.link i).pollTimer = some (afterMs t 10)
      ∧ (s1.link i).queue = [⟨.panelPower true, true, 1⟩, ⟨.backlight (s.seat i).target, false, 0⟩]
      ∧ (s1.link i).commandToggle = false
      ∧ (s1.seat i).lastSent = some (s.seat i).target ∧ (s1.seat i).next = none ∧ (s1.seat i).target = (s.seat i).target
      ∧ (s1.rearRow i).nextFrame = some (afterUs t (1000000 / o.refresh)) ∧ (s1.rearRow i).size = ⟨o.width, o.height, o.refresh⟩
      ∧ (s1.rearRow i).pending = none
      ∧ (∀ j, j ≠ i → s1.link j = s.link j ∧ s1.seat j = s.seat j ∧ s1.rearRow j = s.rearRow j)
      ∧ s1.cli.queue = s.cli.queue ∧ s1.fdp = s.fdp ∧ s1.vin = s.vin ∧ s1.rvc = s.rvc ∧ s1.gle = s.gle ∧ s1.mnu = s.mnu
      ∧ s1.chu = s.chu ∧ s1.cal = s.cal ∧ s1.pending = s.pending

/-- The events that take a link to RECOVERY, each with its reason: bad OFFERS, the claim timer, the fifth hail without answer, the
third missed poll, the try limit, a partner RESET and LINK RESTART; and the loss of presence, which takes it to DETACHED. What
R89 and R91 clear is cleared, and an exit from STREAMING stops the rear row and closes the menu. Each posts its LINK notice with the new
state and reason, ahead of the neighbours' (`State.handedBack`; their order among themselves is the model's choice, log entry 13). -/
def Obligations.LinkFallsBackWithItsReason : Prop :=
  (∀ t i (s : State) body, s.phase = .running → (s.link i).state = .hailing → offersSuits body = true →
      parseOffers body = none →
      ∃ s1 : State, exec (.offers t i body) s = .next s1.settle ∧ s1.timebase = t ∧ s1.recovers s i .badOffers)
  ∧ (∀ t i (s : State) e, s.phase = .running → (s.link i).state = .claiming → (s.link i).claimTimer = some e →
      reached t e = true → ∃ s1 : State, exec (.claimTimerExpiry t i) s = .next s1.settle ∧ s1.timebase = t ∧ s1.recovers s i .noAnswer)
  ∧ (∀ t i (s : State) e, s.phase = .running → (s.link i).state = .hailing → (s.link i).hailTimer = some e →
      reached t e = true → 5 ≤ (s.link i).hailCount →
      ∃ s1 : State, exec (.hailTimerExpiry t i) s = .next s1.settle ∧ s1.timebase = t ∧ s1.recovers s i .noAnswer)
  ∧ (∀ t i (s : State) e, s.phase = .running → (s.link i).state = .streaming → (s.link i).pollTimer = some e →
      reached t e = true → (s.link i).statusSincePoll = false → (s.link i).misses = 2 →
      ∃ s1 : State, exec (.pollTimerExpiry t i) s = .next s1.settle ∧ s1.timebase = t ∧ s1.recovers s i .keepaliveLost)
  ∧ (∀ t i (s : State) e c rest, s.phase = .running → (s.link i).state = .streaming → (s.link i).pollTimer = some e →
      reached t e = true → (s.link i).misses ≤ 1 → (s.link i).queue = c :: rest → calTryLimit s.cal.working ≤ c.tries →
      ∃ s1 : State, exec (.pollTimerExpiry t i) s = .next s1.settle ∧ s1.timebase = t ∧ s1.recovers s i .commandRetries)
  ∧ (∀ t i (s : State), s.phase = .running → (s.link i).state ≠ .detached → (s.link i).state ≠ .recovery →
      ∃ s1 : State, exec (.partnerReset t i) s = .next s1.settle ∧ s1.timebase = t ∧ s1.recovers s i .partnerRequest)
  ∧ (∀ t i (s : State) n, s.asks 0x32 [n] → s.cli.mode = .run → n.toNat = seatNo i → (s.link i).state ≠ .detached →
      (s.link i).state ≠ .recovery →
      ∃ s1 : State, exec (.linkRestart t) s = .next (s1.replied ⟨.ok, []⟩) ∧ s1.timebase = t ∧ s1.recovers s i .hostRequest)
  ∧ (∀ t i (s : State) n, s.asks 0x32 [n] → s.cli.mode = .run → n.toNat = seatNo i →
      ((s.link i).state = .detached ∨ (s.link i).state = .recovery) →
      exec (.linkRestart t) s = .next (s.onlyReplies t ⟨.notNow, []⟩))
  ∧ (∀ t i (s : State), s.phase = .running → (s.link i).state ≠ .detached →
      ∃ s1 : State, exec (.presenceLost t i) s = .next s1.settle ∧ s1.timebase = t
        ∧ (s1.link i).state = .detached ∧ (s1.link i).reason = .detached ∧ (s1.link i).present = false
        ∧ (s1.link i).offers = [] ∧ (s1.link i).descriptor = none ∧ (s1.link i).readPos = 0
        ∧ (s1.link i).holdOffTimer = none ∧ (s1.link i).outbox = (s.link i).outbox ∧ s1.fellBackFrom s i)
  ∧ (∀ t i (s : State), s.phase = .running → (s.link i).state = .detached →
      exec (.presenceLost t i) s
        = .next ({ s with timebase := t, rsl := s.rsl.set i { s.link i with present := false } }).settle)

/-- A poll that brought an answer, or leaves fewer than 3 misses, and whose head command is below the try limit, is followed by
the next POLL: the head's try is counted and 10 ms run. A STATUS in STREAMING counts as the poll's answer, gives the partner's
locked flag and the ambient level (0 to 100, or NONE for 0xFF), and its report toggle becomes the key-ack toggle. A command-ack toggle
that fits a head command already sent removes it, and a next backlight is handed anew; one that does not fit leaves the queue
(`State.statusFrom`, for every body; the order acknowledgement, locked flag, ambient level, key events is the model's choice, log entry
13). -/
def Obligations.PollsAndStatusKeepALinkAlive : Prop :=
  (∀ t i (s : State) e, s.phase = .running → (s.link i).state = .streaming → (s.link i).pollTimer = some e → reached t e = true →
      ((s.link i).statusSincePoll = true ∧ (s.link i).misses ≤ 2 ∨ (s.link i).misses ≤ 1) →
      (∀ c ∈ (s.link i).queue.head?, c.tries < calTryLimit s.cal.working) →
      let l := s.link i
      let misses := if l.statusSincePoll then l.misses else l.misses + 1
      let queue := match l.queue with
        | [] => []
        | c :: rest => { c with tries := c.tries + 1 } :: rest
      let sent := message 0x03 (pollBody l (s.videoPresent i))
      let polled := { l with misses := misses, statusSincePoll := false, pollTimer := some (afterMs t 10) }
      let polled := { polled with outbox := l.outbox ++ [sent], queue := queue }
      exec (.pollTimerExpiry t i) s = .next ({ s with timebase := t, rsl := s.rsl.set i polled }).settle)
  ∧ (∀ t i (s : State) body, s.phase = .running → (s.link i).state = .streaming → statusSuits body = true →
      ∃ s1 : State, exec (.status t i body) s = .next s1.settle ∧ s1.timebase = t ∧ (s1.link i).state = .streaming
        ∧ (s1.link i).misses = 0 ∧ (s1.link i).statusSincePoll = true ∧ (s1.link i).partnerLocked = bitAt body 0 1
        ∧ (s1.link i).keyAck = bitAt body 0 2
        ∧ (s1.link i).ambient = (if byteAt body 1 = 255 then none else some (min (byteAt body 1) 100))
        ∧ (s1.link i).agreement = (s.link i).agreement ∧ (s1.link i).pollTimer = (s.link i).pollTimer
        ∧ (∀ j, j ≠ i → s1.link j = s.link j ∧ s1.seat j = s.seat j ∧ s1.ctx j = s.ctx j)
        ∧ s1.cli.queue = s.cli.queue ∧ s1.fdp = s.fdp ∧ s1.vin = s.vin ∧ s1.gle = s.gle ∧ s1.rvc = s.rvc ∧ s1.cal = s.cal
        ∧ s1.pending = s.pending)
  ∧ (∀ t i (s : State) flags ambient (events : List (Byte × Byte)), s.phase = .running → (s.link i).state = .streaming →
      events.length ≤ 4 →
      let body := [flags, ambient, BitVec.ofNat 8 events.length] ++ events.flatMap (fun x => [x.1, x.2])
      ∃ s0 : State, s0.statusFrom { s with timebase := t } i flags ambient
        ∧ (flags.getLsbD 2 ≠ (s.link i).keyAck → ∃ s1 : State, exec (.status t i body) s = .next s1.settle ∧ s1.keysFrom s0 i events)
        ∧ (flags.getLsbD 2 = (s.link i).keyAck → exec (.status t i body) s = .next s0.settle))
  ∧ (∀ t i (s : State) c rest, s.phase = .running → (s.link i).state = .streaming → (s.link i).queue = c :: rest →
      0 < c.tries → (s.seat i).next = none → (s.link i).keyAck = false → (s.link i).ambient = none →
      let l := { s.link i with queue := rest, misses := 0, statusSincePoll := true, partnerLocked := false }
      exec (.status t i [if c.toggle then 1 else 0, 255, 0]) s
        = .next ({ s with timebase := t, rsl := s.rsl.set i l }).settle)

/-- A message whose check fails, whose kind is unknown or whose length does not suit its kind is discarded, and so is a message
in a link state that does not take it: nothing changes. -/
def Obligations.OtherMessagesAreDiscarded : Prop :=
  (∀ t i m (s : State), s.phase = .running → messagePasses m = false →
      exec (.badLinkMessage t i m) s = .next { s with timebase := t }.settle)
  ∧ (∀ m, openMessage m = none → messagePasses m = false)
  ∧ (∀ kind body, body.length ≤ 255 → (messagePasses (message kind body) = true ↔
      (kind = 0x81 ∧ 2 ≤ body.length ∧ body.length ≤ 166) ∨ ((kind = 0x82 ∨ kind = 0x83 ∨ kind = 0x85) ∧ body = [])
      ∨ (kind = 0x84 ∧ 3 ≤ body.length ∧ byteAt body 2 ≤ 4 ∧ body.length = 3 + 2 * byteAt body 2)))
  ∧ (∀ t i body (s : State), s.phase = .running → (s.link i).state ≠ .hailing →
      exec (.offers t i body) s = .next { s with timebase := t }.settle)
  ∧ (∀ t i (s : State), s.phase = .running → (s.link i).state ≠ .claiming →
      exec (.accept t i) s = .next { s with timebase := t }.settle ∧ exec (.reject t i) s = .next { s with timebase := t }.settle)
  ∧ (∀ t i body (s : State), s.phase = .running → (s.link i).state ≠ .streaming →
      exec (.status t i body) s = .next { s with timebase := t }.settle)
  ∧ (∀ t i (s : State), s.phase = .running → ((s.link i).state = .detached ∨ (s.link i).state = .recovery) →
      exec (.partnerReset t i) s = .next { s with timebase := t }.settle)

/-- LINK POLICY SET stages a policy within its ranges in every link state; LINK COMMAND appends to a queue of a streaming link with
room, with the opposite of the command toggle, and answers the depth; LINK REOFFER takes CLAIMING, STREAMING and NO_MODE to HAILING
with the reason kept and no RESET, and posts the LINK notice ahead of the neighbours' (`State.handedBack`; their order among themselves
is the model's choice, log entry 13). DESCRIPTOR READ START returns the descriptor's bytes from 0 and CONTINUE those from the read
position, at most 32, with the count and a final flag that is set when nothing is left; the read position moves behind them. Without a
descriptor both are NOT_NOW. -/
def Obligations.LinkRequestsActOnTheLink : Prop :=
  (∀ t i (s : State) p, s.asks 0x30 p → p.length = 6 → s.cli.mode = .run → byteAt p 0 = seatNo i →
      let w := u16At p 1
      let h := u16At p 3
      let r := byteAt p 5
      (160 ≤ w → w ≤ 3840 → 120 ≤ h → h ≤ 2160 → 24 ≤ r → r ≤ 60 →
        exec (.linkPolicySet t) s = .next
          ({ s with timebase := t, rsl := s.rsl.set i { s.link i with staged := some ⟨w, h, r⟩ } }.replied ⟨.ok, []⟩))
      ∧ ((w < 160 ∨ 3840 < w ∨ h < 120 ∨ 2160 < h ∨ r < 24 ∨ 60 < r) →
        exec (.linkPolicySet t) s = .next (s.onlyReplies t ⟨.badValue, []⟩)))
  ∧ (∀ t i (s : State) p (kind : CommandKind), s.asks 0x33 p → p.length = 5 → s.cli.mode = .run → byteAt p 0 = seatNo i →
      (byteAt p 1 = 2 ∧ byteAt p 2 ≤ 1 ∧ kind = .panelPower (decide (byteAt p 2 = 1))
        ∨ byteAt p 1 = 3 ∧ 0x80 ≤ byteAt p 2 ∧ byteAt p 2 ≤ 0xFE ∧ kind = .raw (p.getD 2 0) (p.getD 3 0) (p.getD 4 0)) →
      ((s.link i).state = .streaming → (s.link i).queue.length < 4 →
        let toggle := !(s.link i).commandToggle
        let l := { s.link i with queue := (s.link i).queue ++ [⟨kind, toggle, 0⟩], commandToggle := toggle }
        exec (.linkCommand t) s = .next
          ({ s with timebase := t, rsl := s.rsl.set i l }.replied ⟨.ok, [BitVec.ofNat 8 ((s.link i).queue.length + 1)]⟩))
      ∧ ((s.link i).state = .streaming → 4 ≤ (s.link i).queue.length →
        exec (.linkCommand t) s = .next (s.onlyReplies t ⟨.queueFull, []⟩))
      ∧ ((s.link i).state ≠ .streaming → exec (.linkCommand t) s = .next (s.onlyReplies t ⟨.notNow, []⟩)))
  ∧ (∀ t i (s : State) n, s.asks 0x31 [n] → s.cli.mode = .run → n.toNat = seatNo i →
      ((s.link i).state = .claiming ∨ (s.link i).state = .streaming ∨ (s.link i).state = .noMode →
        ∃ s1 : State, exec (.linkReoffer t) s = .next (s1.replied ⟨.ok, []⟩) ∧ s1.timebase = t
          ∧ (s1.link i).state = .hailing ∧ (s1.link i).reason = (s.link i).reason ∧ (s1.link i).offers = []
          ∧ (s1.link i).descriptor = none ∧ (s1.link i).readPos = 0 ∧ (s1.link i).hailCount = 1
          ∧ (s1.link i).hailTimer = some (afterMs t 20) ∧ (s1.link i).outbox = (s.link i).outbox ++ [message 0x01 []]
          ∧ s1.handedBack s i)
      ∧ ((s.link i).state = .detached ∨ (s.link i).state = .hailing ∨ (s.link i).state = .recovery →
        exec (.linkReoffer t) s = .next (s.onlyReplies t ⟨.notNow, []⟩)))
  ∧ (∀ t i (s : State) n, s.cli.mode = .run → n.toNat = seatNo i →
      (∀ d start, (s.link i).descriptor = some d →
        let piece := (d.drop start).take 32
        let answer := ({ s with timebase := t, rsl := s.rsl.set i { s.link i with readPos := start + piece.length } }).replied
          ⟨.ok, [if d.length ≤ start + piece.length then 1 else 0, BitVec.ofNat 8 piece.length] ++ piece⟩
        (s.asks 0x35 [n] → start = 0 → exec (.descriptorReadStart t) s = .next answer)
        ∧ (s.asks 0x36 [n] → start = (s.link i).readPos → exec (.descriptorReadContinue t) s = .next answer))
      ∧ ((s.link i).descriptor = none →
        (s.asks 0x35 [n] → exec (.descriptorReadStart t) s = .next (s.onlyReplies t ⟨.notNow, []⟩))
        ∧ (s.asks 0x36 [n] → exec (.descriptorReadContinue t) s = .next (s.onlyReplies t ⟨.notNow, []⟩))))

/-! ## Compositor -/

/-- At the start of an output frame a pending route comes into effect, the front row reads the front panel mode and a rear row its
agreement, the geometry is that of R109, the next frame start is one period away, and the frame holds the picture of a LOCKED
effective source or black (on the front output black in the FAULT view also while CAM is LOCKED, which is the model's reading, log
entry 42), with the text of the shown banner; the guide plane's set stands on the front output alone, the picture
of the seat's open menu on its rear output (`menuPicture`; where R136 leaves a cell or a colour open it is the model's choice, log
entry 19). A rear row whose source changes judges its banner again. A change of effective source or cause posts one ROUTE notice with
the output, the source and the cause, and no change posts none; that a route to UIF over a film that the film lock hides
changes the cause and posts is the model's choice (log entry 41). -/
def Obligations.OutputFrameTakesItsRoute : Prop :=
  (∀ t (s : State) e, s.phase = .running → s.cmp.front.nextFrame = some e → reached t e = true →
      let mode := calPanelMode s.cal.working
      let routed := s.cmp.front.pending.getD s.cmp.front.routed
      let d := frontSource s.rvcOff s.cmp.preview s.cmp.filmLock routed
      let place := geometryOf (s.sourceSize d.1) mode.width mode.height
      ∃ s1 : State, exec (.outputFrameStart t .fro) s = .next s1.settle ∧ s1.timebase = t
        ∧ s1.cmp.front = { s.cmp.front with
            routed := routed
            pending := none
            effective := d.1
            cause := d.2
            size := mode
            geometry := place
            nextFrame := some (afterUs t (1000000 / mode.refresh))
            frame := some ⟨mode, place, if s.cmp.frontView = .fault then none else if s.sourceLocked d.1 then d.1.feed else none,
              if s1.cmp.guidePlane then s.cmp.guideSet else none, none,
              if s.cmp.front.shown = 0 then none else some (calBanner s.cal.working s.cmp.front.shown)⟩ }
        ∧ s1.cli = s.cli.postAll t (s1.cmp.front.routeTold s.cmp.front .fro)
        ∧ s1.cmp.rear = s.cmp.rear ∧ s1.cmp.preview = s.cmp.preview ∧ s1.cmp.filmLock = s.cmp.filmLock
        ∧ s1.cli.queue = s.cli.queue ∧ s1.fdp = s.fdp ∧ s1.vin = s.vin ∧ s1.rvc = s.rvc ∧ s1.gle = s.gle ∧ s1.rsl = s.rsl
        ∧ s1.mnu = s.mnu ∧ s1.sct = s.sct ∧ s1.chu = s.chu ∧ s1.cal = s.cal ∧ s1.pending = s.pending)
  ∧ (∀ t i (s : State) e a, s.phase = .running → (s.rearRow i).nextFrame = some e → reached t e = true →
      (s.link i).agreement = some a →
      let routed := (s.rearRow i).pending.getD (s.rearRow i).routed
      let place := geometryOf (s.sourceSize routed) a.width a.height
      ∃ s1 : State, exec (.outputFrameStart t (.ro i)) s = .next s1.settle ∧ s1.timebase = t
        ∧ (s1.rearRow i).routed = routed ∧ (s1.rearRow i).pending = none ∧ (s1.rearRow i).effective = routed
        ∧ (s1.rearRow i).cause = .route ∧ (s1.rearRow i).size = ⟨a.width, a.height, a.refresh⟩
        ∧ (s1.rearRow i).geometry = place ∧ (s1.rearRow i).nextFrame = some (afterUs t (1000000 / a.refresh))
        ∧ (s1.rearRow i).shown = (if (s.rearRow i).effective = routed ∧ (s.rearRow i).cause = .route then (s.rearRow i).shown
            else if (s.link i).state = .streaming ∧ s.sourceUnlocked routed = true then 3
            else if (s.rearRow i).hostBanner then 4 else 0)
        ∧ (let menu := match (s.ctx i).stack with
             | [] => none
             | en :: _ => if s.cmp.menuPlane.get i then (findPage s.mnu.store en.page).map (fun page =>
                 menuPicture page en (s.seat i).volume (s.seat i).offset a.width a.height) else none
           let banner := if (s1.rearRow i).shown = 0 then none else some (calBanner s.cal.working (s1.rearRow i).shown)
           (s1.rearRow i).frame = some ⟨⟨a.width, a.height, a.refresh⟩, place,
             if s.sourceLocked routed then routed.feed else none, none, menu, banner⟩)
        ∧ s1.cli = s.cli.postAll t ((s1.rearRow i).routeTold (s.rearRow i) (.ro i))
        ∧ (∀ j, j ≠ i → s1.rearRow j = s.rearRow j) ∧ s1.cmp.front = s.cmp.front
        ∧ s1.cli.queue = s.cli.queue ∧ s1.fdp = s.fdp ∧ s1.vin = s.vin ∧ s1.rvc = s.rvc ∧ s1.gle = s.gle ∧ s1.rsl = s.rsl
        ∧ s1.mnu = s.mnu ∧ s1.sct = s.sct ∧ s1.chu = s.chu ∧ s1.cal = s.cal ∧ s1.pending = s.pending)

/-- The display geometry, with exact products: BLACK fills the output; a source as wide as the output or wider fills its width, a
taller one its height; the computed side is rounded down to an even number and centred on an even offset, and the geometry lies within
the output. A pixel shows the banner plane, else the menu plane, else the guide plane, else the picture inside the geometry (a place of
the feed's picture, log entry 17) and black outside it. The banner is a black strip of a tenth of the height at the foot, its glyphs
white, 8 by 16 scaled, centred, their first f rows below its top (which pixels of a glyph are lit is free, log entry 17). The drawn
ends of a guide are mapped into the geometry, joined by a line that steps along the coordinate that changes the more, and drawn 4
pixels thick inside the geometry, a STATIC set 16 steps of each 28; left line, right line, then crossbars, each over the earlier. -/
def Obligations.GeometryFillsOneSideAndFits : Prop :=
  (∀ wo ho, geometryOf none wo ho = ⟨0, 0, wo, ho⟩)
  ∧ (∀ ws hs wo ho, wo * hs ≤ ws * ho →
      let h := hs * wo / ws
      let height := h - h % 2
      let top := (ho - height) / 2
      geometryOf (some (ws, hs)) wo ho = ⟨0, top - top % 2, wo, height⟩)
  ∧ (∀ ws hs wo ho, ws * ho < wo * hs →
      let w := ws * ho / hs
      let width := w - w % 2
      let left := (wo - width) / 2
      geometryOf (some (ws, hs)) wo ho = ⟨left - left % 2, 0, width, ho⟩)
  ∧ (∀ ws hs wo ho, 0 < ws → 0 < hs →
      let g := geometryOf (some (ws, hs)) wo ho
      g.left + g.width ≤ wo ∧ g.top + g.height ≤ ho)
  ∧ (geometryOf (some (1280, 720)) 1920 720 = ⟨320, 0, 1280, 720⟩ ∧ geometryOf (some (1920, 1080)) 1920 720 = ⟨320, 0, 1280, 720⟩
      ∧ geometryOf (some (1920, 1080)) 1280 720 = ⟨0, 0, 1280, 720⟩ ∧ geometryOf (some (1920, 800)) 1280 720 = ⟨0, 94, 1280, 532⟩
      ∧ geometryOf (some (1280, 720)) 1024 768 = ⟨0, 96, 1024, 576⟩)
  ∧ (∀ (c : FrameContent) (x y : Nat),
      let menu := c.menu.bind (fun m => m.pixel x y)
      let inside := c.geometry.left ≤ x ∧ x < c.geometry.left + c.geometry.width ∧ c.geometry.top ≤ y
        ∧ y < c.geometry.top + c.geometry.height
      (∀ colour, c.bannerPixel x y = some colour → c.pixel x y = .rgb colour)
      ∧ (∀ colour, c.bannerPixel x y = none → menu = some colour → c.pixel x y = .rgb colour)
      ∧ (∀ colour, c.bannerPixel x y = none → menu = none → c.guidePixel x y = some colour → c.pixel x y = .rgb colour)
      ∧ (c.bannerPixel x y = none → menu = none → c.guidePixel x y = none →
          (∀ f, c.picture = some f → inside → c.pixel x y = .picture f (x - c.geometry.left) (y - c.geometry.top))
          ∧ (c.picture = none ∨ ¬ inside → c.pixel x y = .rgb ⟨0, 0, 0⟩)))
  ∧ (∀ (c : FrameContent) (x y : Nat),
      let h := c.size.height / 10
      let top := c.size.height - h
      let f := max 1 (h / 16)
      (c.banner = none → c.bannerPixel x y = none)
      ∧ ∀ text, c.banner = some text →
          (y < top → c.bannerPixel x y = none)
          ∧ (top ≤ y → ∀ left : Int,
              2 * left ≤ (c.size.width : Int) - 8 * f * text.length → (c.size.width : Int) - 8 * f * text.length < 2 * left + 2 →
              let lit := ∃ k code row col, text[k]? = some code ∧ row < 16 ∧ col < 8 ∧ Config.glyphPixel code row col = true
                ∧ left + ((8 * f * k + f * col : Nat) : Int) ≤ x ∧ (x : Int) < left + ((8 * f * k + f * col + f : Nat) : Int)
                ∧ top + f + f * row ≤ y ∧ y < top + f + f * row + f
              (lit → c.bannerPixel x y = some ⟨255, 255, 255⟩) ∧ (¬ lit → c.bannerPixel x y = some ⟨0, 0, 0⟩)))
  ∧ (∀ (g : Geometry) (cw ch u v : Nat),
      let m := mapPoint g cw ch u v
      m = (((g.left + u * g.width / cw : Nat) : Int), ((g.top + v * g.height / ch : Nat) : Int))
      ∧ (u < cw → v < ch → 0 < g.width → 0 < g.height →
          (g.left : Int) ≤ m.1 ∧ m.1 < g.left + g.width ∧ (g.top : Int) ≤ m.2 ∧ m.2 < g.top + g.height))
  ∧ (∀ (p q : Int × Int) (k : Nat),
      let dx := q.1 - p.1
      let dy := q.2 - p.2
      let n := max dx.natAbs dy.natAbs
      let m := linePoint p q k
      (p = q → m = p) ∧ linePoint p q 0 = p ∧ linePoint p q n = q
      ∧ (p ≠ q → dy.natAbs ≤ dx.natAbs → m.1 = p.1 + (if dx < 0 then -(k : Int) else k) ∧ isRounded m.2 (p.2 * n + dy * k) n)
      ∧ (dx.natAbs < dy.natAbs → m.2 = p.2 + (if dy < 0 then -(k : Int) else k) ∧ isRounded m.1 (p.1 * n + dx * k) n))
  ∧ (∀ (d : Drawn) type (g : Geometry) (cw ch x y : Nat),
      let p := mapPoint g cw ch d.u1 d.v1
      let q := mapPoint g cw ch d.u2 d.v2
      d.covers type g cw ch x y = true
        ↔ (g.left ≤ x ∧ x < g.left + g.width ∧ g.top ≤ y ∧ y < g.top + g.height)
          ∧ ∃ k ≤ max (q.1 - p.1).natAbs (q.2 - p.2).natAbs, (type = .static → k % 28 < 16)
            ∧ (linePoint p q k).1 - 2 ≤ x ∧ (x : Int) < (linePoint p q k).1 + 2
            ∧ (linePoint p q k).2 - 2 ≤ y ∧ (y : Int) < (linePoint p q k).2 + 2)
  ∧ (∀ (c : FrameContent) (x y : Nat),
      (c.guides = none → c.guidePixel x y = none)
      ∧ ∀ set, c.guides = some set →
          let drawing := (set.leftSegments ++ set.rightSegments).map (fun l => (l.colour, l.drawn))
            ++ set.crossbars.map (fun b => (b.colour, b.drawn))
          let covered := fun (e : Colour × Option Drawn) => ∃ d, e.2 = some d
            ∧ d.covers (if set.input.angle.isSome then .dynamic else .static) c.geometry set.input.imageWidth set.input.imageHeight x y = true
          let shade : Colour → Rgb := fun k => match k with
            | .red => ⟨255, 0, 0⟩
            | .amber => ⟨255, 176, 0⟩
            | .green => ⟨0, 200, 0⟩
            | .white => ⟨255, 255, 255⟩
          ((∀ e ∈ drawing, ¬ covered e) → c.guidePixel x y = none)
          ∧ ∀ before e after, drawing = before ++ e :: after → covered e → (∀ l ∈ after, ¬ covered l) →
              c.guidePixel x y = some (shade e.1))

/-- ROUTE SET makes a route pending (on a rear row that is not driven it comes into effect at once), CAMERA PREVIEW sets preview with
the camera power it asks for, BANNER SET sets the host banner; a value outside its range is BAD_VALUE, and preview and the front
banner are REFUSED_REVERSE while the controller is not OFF. A change of effective source or cause posts one ROUTE notice, and no
change posts none. That CAMERA PREVIEW judges its value first is the model's reading (log
entry 40). -/
def Obligations.CompositorRequestsSetTheRows : Prop :=
  (∀ t (s : State) src, s.asks 0x40 [1, src] → s.cli.mode = .run → 1 ≤ src.toNat → src.toNat ≤ 3 →
      let row := { s.cmp.front with pending := some (sourceOf src.toNat) }
      exec (.routeSet t) s = .next ({ s with timebase := t, cmp := { s.cmp with front := row } }.replied ⟨.ok, []⟩))
  ∧ (∀ t i (s : State) out src, s.asks 0x40 [out, src] → s.cli.mode = .run → out.toNat = outputNo (.ro i) → src.toNat ≤ 3 →
      (s.link i).state = .streaming →
      let row := { s.rearRow i with pending := some (sourceOf src.toNat) }
      exec (.routeSet t) s
        = .next ({ s with timebase := t, cmp := { s.cmp with rear := s.cmp.rear.set i row } }.replied ⟨.ok, []⟩))
  ∧ (∀ t i (s : State) out src, s.asks 0x40 [out, src] → s.cli.mode = .run → out.toNat = outputNo (.ro i) → src.toNat ≤ 3 →
      (s.link i).state ≠ .streaming →
      ∃ s1 : State, exec (.routeSet t) s = .next (s1.replied ⟨.ok, []⟩) ∧ s1.timebase = t
        ∧ (s1.rearRow i).routed = sourceOf src.toNat ∧ (s1.rearRow i).pending = none
        ∧ (s1.rearRow i).effective = sourceOf src.toNat ∧ (s1.rearRow i).cause = .route
        ∧ s1.cli = s.cli.postAll t ((s1.rearRow i).routeTold (s.rearRow i) (.ro i))
        ∧ (∀ j, j ≠ i → s1.rearRow j = s.rearRow j) ∧ s1.cmp.front = s.cmp.front ∧ s1.cli.queue = s.cli.queue
        ∧ s1.fdp = s.fdp ∧ s1.vin = s.vin ∧ s1.rvc = s.rvc ∧ s1.gle = s.gle ∧ s1.rsl = s.rsl ∧ s1.mnu = s.mnu
        ∧ s1.sct = s.sct ∧ s1.chu = s.chu ∧ s1.cal = s.cal ∧ s1.pending = s.pending)
  ∧ (∀ t (s : State) out src, s.asks 0x40 [out, src] → s.cli.mode = .run →
      (out.toNat = 0 ∨ 3 < out.toNat ∨ 3 < src.toNat ∨ out.toNat = 1 ∧ src.toNat = 0) →
      exec (.routeSet t) s = .next (s.onlyReplies t ⟨.badValue, []⟩))
  ∧ (∀ t (s : State) v, s.asks 0x12 [v] → s.cli.mode = .run → 1 < v.toNat →
      exec (.cameraPreview t) s = .next (s.onlyReplies t ⟨.badValue, []⟩))
  ∧ (∀ t (s : State) v, s.asks 0x12 [v] → s.cli.mode = .run → v.toNat ≤ 1 → s.rvc.state ≠ .off →
      exec (.cameraPreview t) s = .next (s.onlyReplies t ⟨.refusedReverse, []⟩))
  ∧ (∀ t (s : State) v, s.asks 0x12 [v] → s.cli.mode = .run → v.toNat ≤ 1 → s.rvc.state = .off →
      ∃ s1 : State, exec (.cameraPreview t) s = .next (s1.replied ⟨.ok, []⟩) ∧ s1.timebase = t
        ∧ s1.cmp.preview = decide (v.toNat = 1) ∧ s1.fdp.camPower = decide (v.toNat = 1)
        ∧ (s1.cmp.front.effective, s1.cmp.front.cause)
            = frontSource true (decide (v.toNat = 1)) s.cmp.filmLock s.cmp.front.routed
        ∧ (∃ rest, s1.cli = s.cli.postAll t (s1.cmp.front.routeTold s.cmp.front .fro ++ rest) ∧ ofKind .route rest = []
            ∧ (v.toNat = 0 → s.fdp.camPower = true → ofKind .feed rest = s1.feedTold s t .cam))
        ∧ (v.toNat = 1 → s.fdp.camPower = false → (s1.port .cam).enabled = true ∧ (s1.port .cam).lock = .noSignal
            ∧ (s1.port .cam).format = some (calCamFormat s.cal.working))
        ∧ (v.toNat = 0 → s.fdp.camPower = true → (s1.port .cam).enabled = false ∧ (s1.port .cam).lock = .noSignal)
        ∧ s1.cli.queue = s.cli.queue ∧ s1.vin = s.vin ∧ s1.rvc = s.rvc ∧ s1.rsl = s.rsl ∧ s1.mnu = s.mnu ∧ s1.sct = s.sct
        ∧ s1.chu = s.chu ∧ s1.cal = s.cal ∧ s1.pending = s.pending)
  ∧ (∀ t (s : State) out b, s.asks 0x41 [out, b] → s.cli.mode = .run →
      (out.toNat = 0 ∨ 3 < out.toNat ∨ (b.toNat ≠ 0 ∧ b.toNat ≠ 4)) →
      exec (.bannerSet t) s = .next (s.onlyReplies t ⟨.badValue, []⟩))
  ∧ (∀ t (s : State) b, s.asks 0x41 [1, b] → s.cli.mode = .run → (b.toNat = 0 ∨ b.toNat = 4) → s.rvc.state ≠ .off →
      exec (.bannerSet t) s = .next (s.onlyReplies t ⟨.refusedReverse, []⟩))
  ∧ (∀ t (s : State) b, s.asks 0x41 [1, b] → s.cli.mode = .run → (b.toNat = 0 ∨ b.toNat = 4) → s.rvc.state = .off →
      s.cmp.frontView = .none →
      let row := { s.cmp.front with hostBanner := decide (b.toNat = 4), shown := b.toNat }
      exec (.bannerSet t) s = .next ({ s with timebase := t, cmp := { s.cmp with front := row } }.replied ⟨.ok, []⟩))
  ∧ (∀ t i (s : State) out b, s.asks 0x41 [out, b] → s.cli.mode = .run → out.toNat = outputNo (.ro i) →
      (b.toNat = 0 ∨ b.toNat = 4) →
      let shown := if (s.link i).state = .streaming ∧ s.sourceUnlocked (s.rearRow i).effective = true then 3 else b.toNat
      let row := { s.rearRow i with hostBanner := decide (b.toNat = 4), shown := shown }
      exec (.bannerSet t) s
        = .next ({ s with timebase := t, cmp := { s.cmp with rear := s.cmp.rear.set i row } }.replied ⟨.ok, []⟩))

/-! ## Menus -/

/-- PAGE LOAD puts a page whose record passes into the store, in the place of the page with its id if there is one, and answers the
counts; a record whose fields fail is BAD_VALUE, one without space NO_SPACE. PAGE REMOVE takes a page out, and every menu that holds
it closes; an id out of range is BAD_VALUE, an absent one NOT_FOUND. PAGE CLEAR empties the store and closes both menus. Neither
changes the roots. Each menu that closes posts MENU CLOSED with reason PAGE_REMOVED, seat 1 before seat 2 (the model's choice, log entry
13). (The item count of a full store is a free byte, log entry 37.) -/
def Obligations.PagesEnterAndLeaveTheStore : Prop :=
  (∀ t (s : State) p raw page, s.asks 0x50 p → s.cli.mode = .run → walkPage p = some raw → raw.check = some page →
      hasSpace s.mnu.store page = true →
      ∃ s1 : State, exec (.pageLoad t) s = .next (s1.replied ⟨.ok, storeCounts s1.mnu.store⟩) ∧ s1.timebase = t
        ∧ s1.mnu.store = putPage s.mnu.store page ∧ s1.mnu.root = s.mnu.root
        ∧ (∀ i e rest, (s.ctx i).stack = e :: rest → e.page = page.id → findPage s.mnu.store page.id ≠ none →
            (s1.ctx i).stack = page.adjust e :: rest ∧ (s1.ctx i).idle = (s.ctx i).idle)
        ∧ (∀ i, (∀ e ∈ (s.ctx i).stack.head?, e.page ≠ page.id) → s1.ctx i = s.ctx i)
        ∧ s1.cli = s.cli ∧ s1.keepsAllButMenus s)
  ∧ (∀ t (s : State) p raw, s.asks 0x50 p → s.cli.mode = .run → walkPage p = some raw → raw.check = none →
      exec (.pageLoad t) s = .next (s.onlyReplies t ⟨.badValue, []⟩))
  ∧ (∀ t (s : State) p raw page, s.asks 0x50 p → s.cli.mode = .run → walkPage p = some raw → raw.check = some page →
      hasSpace s.mnu.store page = false → exec (.pageLoad t) s = .next (s.onlyReplies t ⟨.noSpace, []⟩))
  ∧ (∀ t (s : State) id page, s.asks 0x51 [id] → s.cli.mode = .run → 1 ≤ id.toNat → id.toNat ≤ 63 →
      findPage s.mnu.store id.toNat = some page →
      ∃ s1 : State, exec (.pageRemove t) s = .next (s1.replied ⟨.ok, storeCounts s1.mnu.store⟩) ∧ s1.timebase = t
        ∧ s1.mnu.store = s.mnu.store.filter (fun q => !decide (q.id = id.toNat)) ∧ s1.mnu.root = s.mnu.root
        ∧ (∀ i, (∃ e ∈ (s.ctx i).stack, e.page = id.toNat) → (s1.ctx i).stack = [] ∧ (s1.ctx i).idle = none)
        ∧ (∀ i, (∀ e ∈ (s.ctx i).stack, e.page ≠ id.toNat) → s1.ctx i = s.ctx i)
        ∧ s1.cli = s.cli.postAll t (
            [Seat.s1, .s2].flatMap (fun i => if ∃ e ∈ (s.ctx i).stack, e.page = id.toNat then [(seatNo i, .menuClosed .pageRemoved)] else []))
        ∧ s1.cli.queue = s.cli.queue ∧ s1.keepsAllButMenus s)
  ∧ (∀ t (s : State) id, s.asks 0x51 [id] → s.cli.mode = .run → (id.toNat = 0 ∨ 63 < id.toNat) →
      exec (.pageRemove t) s = .next (s.onlyReplies t ⟨.badValue, []⟩))
  ∧ (∀ t (s : State) id, s.asks 0x51 [id] → s.cli.mode = .run → 1 ≤ id.toNat → id.toNat ≤ 63 →
      findPage s.mnu.store id.toNat = none → exec (.pageRemove t) s = .next (s.onlyReplies t ⟨.notFound, []⟩))
  ∧ (∀ t (s : State), s.asks 0x52 [] → s.cli.mode = .run →
      ∃ s1 : State, exec (.pageClear t) s = .next (s1.replied ⟨.ok, []⟩) ∧ s1.timebase = t ∧ s1.mnu.store = []
        ∧ s1.mnu.root = s.mnu.root ∧ (∀ i, (s1.ctx i).stack = [])
        ∧ s1.cli = s.cli.postAll t ([Seat.s1, .s2].flatMap (fun i => if (s.ctx i).stack ≠ [] then [(seatNo i, .menuClosed .pageRemoved)] else []))
        ∧ s1.cli.queue = s.cli.queue ∧ s1.keepsAllButMenus s)

/-- ITEM SET gives an item its enabled flag, a TOGGLE its state and a SLIDER its value clamped to its max, and answers the value
held; its four checks stand in the manual's order. A changed enabled flag adjusts the top entry of each seat that shows the page
(R124), and its idle timer and the other seats' menus are kept. -/
def Obligations.ItemSetChangesOneItem : Prop :=
  ∀ t (s : State) pg n flag value, s.asks 0x53 [pg, n, flag, value] → s.cli.mode = .run →
    (1 < flag.toNat → exec (.itemSet t) s = .next (s.onlyReplies t ⟨.badValue, []⟩))
    ∧ (flag.toNat ≤ 1 → findPage s.mnu.store pg.toNat = none →
        exec (.itemSet t) s = .next (s.onlyReplies t ⟨.notFound, []⟩))
    ∧ (∀ page, flag.toNat ≤ 1 → findPage s.mnu.store pg.toNat = some page →
        (page.item n.toNat = none → exec (.itemSet t) s = .next (s.onlyReplies t ⟨.notFound, []⟩))
        ∧ (∀ it on, page.item n.toNat = some it → it.kind = .toggle on → 1 < value.toNat →
            exec (.itemSet t) s = .next (s.onlyReplies t ⟨.badValue, []⟩))
        ∧ (∀ it kind, page.item n.toNat = some it →
            (match it.kind with
              | .toggle _ => value.toNat ≤ 1 ∧ kind = .toggle (decide (value.toNat = 1))
              | .slider _ top step => kind = .slider (min value.toNat top) top step
              | k => kind = k) →
            ∃ s1 : State, exec (.itemSet t) s = .next (s1.replied ⟨.ok, [match kind with
                | .toggle on => if on then 1 else 0
                | .slider v _ _ => BitVec.ofNat 8 v
                | _ => 0]⟩)
              ∧ s1.timebase = t
              ∧ s1.mnu.store = setItem s.mnu.store page.id n.toNat { it with kind := kind, enabled := decide (flag.toNat = 1) }
              ∧ s1.mnu.root = s.mnu.root
              ∧ (it.enabled = decide (flag.toNat = 1) → s1.mnu.ctx = s.mnu.ctx)
              ∧ (it.enabled ≠ decide (flag.toNat = 1) → ∃ q, findPage s1.mnu.store pg.toNat = some q ∧ ∀ i,
                  (∀ e rest, (s.ctx i).stack = e :: rest → e.page = pg.toNat →
                    ∃ shown, q.adjustsTo e shown ∧ s1.ctx i = { s.ctx i with stack := shown :: rest })
                  ∧ ((∀ e ∈ (s.ctx i).stack.head?, e.page ≠ pg.toNat) → s1.ctx i = s.ctx i))
              ∧ s1.cli = s.cli ∧ s1.keepsAllButMenus s))

/-- R120, whole: SEAT ROOT SET. -/
def Obligations.SeatRootTakesTheId : Prop :=
  (∀ t (s : State) p, s.asks 0x54 p → p.length ≠ 2 → exec (.seatRootSet t) s = .next (s.onlyReplies t ⟨.badLength, []⟩))
  ∧ (∀ t (s : State) p, s.asks 0x54 p → p.length = 2 → s.cli.mode = .standby →
      exec (.seatRootSet t) s = .next (s.onlyReplies t ⟨.notNow, []⟩))
  ∧ (∀ t (s : State) n id, s.asks 0x54 [n, id] → s.cli.mode = .run → (n.toNat = 0 ∨ 2 < n.toNat ∨ 63 < id.toNat) →
      exec (.seatRootSet t) s = .next (s.onlyReplies t ⟨.badValue, []⟩))
  ∧ (∀ t i (s : State) n id, s.asks 0x54 [n, id] → s.cli.mode = .run → n.toNat = seatNo i → id.toNat ≤ 63 →
      exec (.seatRootSet t) s = .next
        ({ s with timebase := t, mnu := { s.mnu with root := s.mnu.root.set i id.toNat } }.replied ⟨.ok, []⟩))
  ∧ (∀ t (s s' : State), exec (.pageRemove t) s = .next s' → s'.mnu.root = s.mnu.root)
  ∧ (∀ i (s : State), (s.rootPage i) = (if s.mnu.root.get i = 0 then none else findPage s.mnu.store (s.mnu.root.get i)))
  ∧ (∀ t high (s : State), ∃ s', exec (.powerOn t high) s = .next s' ∧ s'.mnu.root = ⟨0, 0⟩)
  ∧ (∀ t (s : State), s.resetN = true → ∃ s', exec (.resetNFall t) s = .next s' ∧ s'.mnu.root = ⟨0, 0⟩)
  ∧ (∀ s : State, s.warmRestart.mnu.root = ⟨0, 0⟩)

/-- MENU OPEN sets a streaming seat's history to one new entry on the named page, or on the root's, starts the idle timer with the
menu timeout and turns the menu plane on; MENU CLOSE and the idle timer close an open menu, with the reasons REQUEST and TIMEOUT. -/
def Obligations.MenusOpenAndClose : Prop :=
  (∀ t i (s : State) n id page, s.asks 0x55 [n, id] → s.cli.mode = .run → n.toNat = seatNo i → id.toNat ≤ 63 →
      (s.link i).state = .streaming →
      (if id.toNat = 0 then s.mnu.root.get i ≠ 0 ∧ findPage s.mnu.store (s.mnu.root.get i) = some page
        else findPage s.mnu.store id.toNat = some page) →
      let idle := if calMenuTimeout s.cal.working = 0 then none else some (afterMs t (1000 * calMenuTimeout s.cal.working))
      let mnu := { s.mnu with ctx := s.mnu.ctx.set i ⟨[page.newEntry], idle⟩ }
      let cmp := { s.cmp with menuPlane := s.cmp.menuPlane.set i true }
      exec (.menuOpen t) s = .next ({ s with timebase := t, mnu := mnu, cmp := cmp }.replied ⟨.ok, []⟩))
  ∧ (∀ t i (s : State) n id, s.asks 0x55 [n, id] → s.cli.mode = .run → n.toNat = seatNo i → id.toNat ≤ 63 →
      (s.link i).state ≠ .streaming → exec (.menuOpen t) s = .next (s.onlyReplies t ⟨.notNow, []⟩))
  ∧ (∀ t i (s : State) n id, s.asks 0x55 [n, id] → s.cli.mode = .run → n.toNat = seatNo i → id.toNat ≤ 63 →
      (s.link i).state = .streaming → s.namedPage i id.toNat = none →
      exec (.menuOpen t) s = .next (s.onlyReplies t ⟨.notFound, []⟩))
  ∧ (∀ t i (s : State) n, s.asks 0x56 [n] → s.cli.mode = .run → n.toNat = seatNo i → (s.ctx i).stack ≠ [] →
      exec (.menuClose t) s = .next ((s.closesMenu t i .request).replied ⟨.ok, []⟩))
  ∧ (∀ t i (s : State) n, s.asks 0x56 [n] → s.cli.mode = .run → n.toNat = seatNo i → (s.ctx i).stack = [] →
      exec (.menuClose t) s = .next (s.onlyReplies t ⟨.notNow, []⟩))
  ∧ (∀ t i (s : State) e, s.phase = .running → (s.ctx i).stack ≠ [] → (s.ctx i).idle = some e → reached t e = true →
      exec (.idleTimerExpiry t i) s = .next (s.closesMenu t i .timeout).settle)

/-! ## Seats -/

/-- A STATUS with a new report toggle hands its key events on in their order, after what the same STATUS without events does (that the
events come last is the model's choice, log entry 13); one with the toggle held hands none. A PRESS releases another held key, becomes
the held key, is dispatched by its key (`dispatchesFrom` says each: forwarded, opening or worked in the menu, volume, brightness) and
starts or stops the repeat timer; a RELEASE of the held key releases it, with a KEY notice when it was forwarded; an unknown key or
event is dropped. A step above the cap becomes the cap, or the base step when that is above the cap: the model's reading (log entry
22). At the expiry of the repeat timer the held key is dispatched once more and the timer starts again with the repeat period: a volume
key moves the volume by the step within 0 to 60, a brightness key the offset within -10 to 10, and a navigation key in a closed menu is
forwarded with event REPEAT; in an open menu UP and DOWN move the focus to the nearest enabled item, the window follows and the idle
timer restarts. -/
def Obligations.HeldKeyRepeats : Prop :=
  (∀ t i (s : State) flags amb (events : List (Byte × Byte)), s.phase = .running → (s.link i).state = .streaming →
      events.length ≤ 4 →
      let body := [flags, amb, BitVec.ofNat 8 events.length] ++ events.flatMap (fun x => [x.1, x.2])
      ∃ s0 : State, exec (.status t i [flags, amb, 0]) s = .next s0.settle ∧ s0.timebase = t ∧ s0.cli = s.cli ∧ s0.chu = s.chu
        ∧ s0.mnu = s.mnu ∧ s0.cal = s.cal ∧ (s0.seat i).held = (s.seat i).held
        ∧ (flags.getLsbD 2 ≠ (s.link i).keyAck →
            ∃ s1 : State, exec (.status t i body) s = .next s1.settle ∧ s1.keysFrom s0 i events)
        ∧ (flags.getLsbD 2 = (s.link i).keyAck → exec (.status t i body) s = .next s0.settle))
  ∧ [1, 2, 3, 4, 5, 6, 7, 8, 9, 10, 11, 12, 13, 14].map keyOf = [some .up, some .down, some .left, some .right, some .ok,
      some .back, some .menu, some .volUp, some .volDown, some .brightUp, some .brightDown, some .playPause, some .next,
      some .previous]
  ∧ (∀ code, (code = 0 ∨ 14 < code) → keyOf code = none)
  ∧ (∀ k : Key, k.repeatable = true ↔ k ∈ [.up, .down, .left, .right, .volUp, .volDown, .brightUp, .brightDown])
  ∧ (∀ t i (s : State) e k, s.phase = .running → (s.seat i).repeatTimer = some e → reached t e = true →
      (s.seat i).held = some k →
      ∃ d : State, exec (.repeatTimerExpiry t i) s
          = .next (d.withRepeat i (some (afterMs t (calRepeatPeriod s.cal.working)))).settle
        ∧ d.dispatchesFrom { s with timebase := t } i k .repeat)
  ∧ (∀ t i (s : State) e k, s.phase = .running → (s.seat i).repeatTimer = some e → reached t e = true → (s.seat i).held = some k →
      ∃ s1 : State, exec (.repeatTimerExpiry t i) s = .next s1.settle ∧ s1.timebase = t
        ∧ (s1.seat i).held = some k ∧ (s1.seat i).repeatTimer = some (afterMs t (calRepeatPeriod s.cal.working))
        ∧ (∀ dir, k = (match dir with | .up => .volUp | .down => .volDown) →
            let r := s.seat i
            let goesOn := r.lastDir = some dir
              ∧ ∃ st ∈ r.lastStamp, (t - st).toNat ≤ 1000 * calWindow s.cal.working
            let base := calBaseStep s.cal.working
            let cap := calStepCap s.cal.working
            ∀ step, (goesOn → step = r.step) → (¬ goesOn → step = base) →
              (s1.seat i).volume = (match dir with | .up => min 60 (r.volume + step) | .down => r.volume - step)
              ∧ (base ≤ cap → step < cap → (s1.seat i).step = step + 1)
              ∧ (base ≤ cap → cap ≤ step → (s1.seat i).step = cap) ∧ (cap < base → (s1.seat i).step = base)
              ∧ (s1.seat i).lastDir = some dir ∧ (s1.seat i).lastStamp = some t ∧ (s1.seat i).offset = r.offset
              ∧ s1.rsl = s.rsl ∧ s1.chu = s.chu ∧ s1.mnu = s.mnu)
        ∧ (k = .brightUp → -10 ≤ (s.seat i).offset → (s.seat i).offset ≤ 10 →
            (s1.seat i).offset = min 10 ((s.seat i).offset + 1) ∧ (s1.seat i).volume = (s.seat i).volume)
        ∧ (k = .brightDown → -10 ≤ (s.seat i).offset → (s.seat i).offset ≤ 10 →
            (s1.seat i).offset = max (-10) ((s.seat i).offset - 1) ∧ (s1.seat i).volume = (s.seat i).volume)
        ∧ ((k = .up ∨ k = .down ∨ k = .left ∨ k = .right) → (s.ctx i).stack = [] →
            s1.cli = s.cli.post t (seatNo i) (.key k .repeat) ∧ (s1.seat i).forwarded = true
            ∧ s1.mnu = s.mnu ∧ s1.rsl = s.rsl ∧ s1.chu = s.chu)
        ∧ (∀ en rest page f g, (s.ctx i).stack = en :: rest → findPage s.mnu.store en.page = some page → en.focus = some f →
            (k = .up ∧ page.enabledBelow f = some g ∨ k = .down ∧ page.enabledAbove f = some g) →
            (s1.ctx i).stack = ⟨en.page, some g, if g < en.top then g else if en.top + 6 ≤ g then g - 5 else en.top⟩ :: rest
            ∧ (s1.ctx i).idle = (if calMenuTimeout s.cal.working = 0 then none
                                 else some (afterMs t (1000 * calMenuTimeout s.cal.working)))
            ∧ s1.mnu.store = s.mnu.store ∧ s1.cli = s.cli ∧ s1.rsl = s.rsl)
        ∧ (∀ j, j ≠ i → s1.seat j = s.seat j) ∧ s1.cli.queue = s.cli.queue ∧ s1.fdp = s.fdp ∧ s1.vin = s.vin ∧ s1.gle = s.gle
        ∧ s1.rvc = s.rvc ∧ s1.cal = s.cal ∧ s1.pending = s.pending)

/-- ZONE LEVEL SET clamps the byte to 0 to 60, answers the volume and the offset, and posts a LEVEL notice when the volume changes;
BACKLIGHT POLICY SET stores policy and threshold and answers the recomputed target. -/
def Obligations.SeatRequestsSetLevelAndPolicy : Prop :=
  (∀ t i (s : State) n v, s.asks 0x60 [n, v] → s.cli.mode = .run → n.toNat = seatNo i →
      let volume := min v.toNat 60
      let r := s.seat i
      (volume = r.volume → exec (.zoneLevelSet t) s = .next (s.onlyReplies t ⟨.ok, u8 volume ++ i8 r.offset⟩))
      ∧ (volume ≠ r.volume → exec (.zoneLevelSet t) s = .next
          ({ s with timebase := t, sct := { s.sct with seat := s.sct.seat.set i { r with volume := volume } },
                    cli := s.cli.post t (seatNo i) (.level volume r.offset) }.replied ⟨.ok, u8 volume ++ i8 r.offset⟩)))
  ∧ (∀ t (s : State) n v, s.asks 0x60 [n, v] → s.cli.mode = .run → (n.toNat = 0 ∨ 2 < n.toNat) →
      exec (.zoneLevelSet t) s = .next (s.onlyReplies t ⟨.badValue, []⟩))
  ∧ (∀ t i (s : State) n p T, s.asks 0x61 [n, p, T] → s.cli.mode = .run → n.toNat = seatNo i → p.toNat ≤ 2 → T.toNat ≤ 100 →
      let target := backlightTarget (policyOf p.toNat) T.toNat s.sct.dimmer (s.seat i).ambient (s.seat i).offset
      ∃ s1 : State, exec (.backlightPolicySet t) s = .next (s1.replied ⟨.ok, [BitVec.ofNat 8 target]⟩) ∧ s1.timebase = t
        ∧ (s1.seat i).policy = policyOf p.toNat ∧ (s1.seat i).threshold = T.toNat ∧ (s1.seat i).target = target
        ∧ (s1.seat i).volume = (s.seat i).volume ∧ (s1.seat i).offset = (s.seat i).offset
        ∧ (∀ j, j ≠ i → s1.seat j = s.seat j ∧ s1.link j = s.link j) ∧ (s1.link i).state = (s.link i).state
        ∧ s1.cli = s.cli ∧ s1.fdp = s.fdp ∧ s1.vin = s.vin ∧ s1.rvc = s.rvc ∧ s1.gle = s.gle ∧ s1.cmp = s.cmp
        ∧ s1.mnu = s.mnu ∧ s1.chu = s.chu ∧ s1.cal = s.cal ∧ s1.pending = s.pending)
  ∧ (∀ t (s : State) n p T, s.asks 0x61 [n, p, T] → s.cli.mode = .run →
      (n.toNat = 0 ∨ 2 < n.toNat ∨ 2 < p.toNat ∨ 100 < T.toNat) →
      exec (.backlightPolicySet t) s = .next (s.onlyReplies t ⟨.badValue, []⟩))
  ∧ (∀ policy T dimmer ambient (offset : Int),
      let base : Int := match policy, ambient with
        | _, none => dimmer
        | .vehicle, some _ => dimmer
        | .screen, some a => (a : Nat)
        | .adaptive, some a => max (a : Int) (dimmer - T)
      (backlightTarget policy T dimmer ambient offset : Int) = max 5 (min 100 (base + 5 * offset)))

/-- A backlight value handed to a link: not taken outside STREAMING; it replaces the value of a BACKLIGHT command not yet sent, waits
in seat control while one is in flight or the queue is full, and is appended otherwise; and what seat control holds after each
outcome. -/
def Obligations.BacklightHandingHasFiveOutcomes : Prop :=
  ∀ i (s : State) v, ∃ outcome, s.handBacklight i v = (s.setLink i ((s.link i).takeBacklight v).1).setSeat i
      ((s.seat i).handed v outcome) ∧ ((s.link i).takeBacklight v).2 = outcome
    ∧ ((s.link i).state ≠ .streaming → outcome = .notStreaming ∧ ((s.link i).takeBacklight v).1 = s.link i)
    ∧ (∀ before c after, (s.link i).state = .streaming → (s.link i).queue = before ++ c :: after → c.isBacklight = true →
        (∀ x ∈ before ++ after, x.isBacklight = false) →
        (c.tries = 0 → outcome = .taken ∧ ((s.link i).takeBacklight v).1
            = { s.link i with queue := before ++ { c with kind := .backlight v } :: after })
        ∧ (c.tries ≠ 0 → outcome = .inFlight ∧ ((s.link i).takeBacklight v).1 = s.link i))
    ∧ ((s.link i).state = .streaming → (∀ x ∈ (s.link i).queue, x.isBacklight = false) →
        ((s.link i).queue.length < 4 → outcome = .taken ∧ ((s.link i).takeBacklight v).1
            = { s.link i with queue := (s.link i).queue ++ [⟨.backlight v, !(s.link i).commandToggle, 0⟩],
                              commandToggle := !(s.link i).commandToggle })
        ∧ (4 ≤ (s.link i).queue.length → outcome = .full ∧ ((s.link i).takeBacklight v).1 = s.link i))
    ∧ (s.seat i).handed v .taken = { s.seat i with lastSent := some v, next := none }
    ∧ (s.seat i).handed v .inFlight = { s.seat i with next := some v }
    ∧ (s.seat i).handed v .full = { s.seat i with next := some v }
    ∧ (s.seat i).handed v .notStreaming = { s.seat i with next := none }

/-! ## Chimes -/

/-- CHIME PATTERN LOAD stores a pattern whose fields are in range in a slot no chime names; FRONT LEVEL SET stores a level of 0 to 60;
a value out of range is BAD_VALUE and a slot in use BUSY. A rear zone mixes the film of its row's effective source, at v - 60 dB plus
the duck gain, and the tone that sounds there, at max(v, chime floor) - 60 dB less 2 dB a level; v = 0, BLACK or a port that is not
LOCKED silences the film; the link carries the audio only in STREAMING with the audio flag; the sum of the terms is saturated to 16
bits. A gain keeps a sample's sign, leaves it as it is at 0 dB, and scales it by 10^(dB/20) (PRESUMED, log entry 43); a product that is
no whole number becomes one of its two neighbours, which is free, as the samples are (log entry 18). CHIME_OUT has the tone of the
FRONT zone at the front level less 60 dB less 2 dB a level, and 0 silences it. -/
def Obligations.PatternAndFrontLevelAreStored : Prop :=
  (∀ t (s : State) p, s.asks 0x70 p → p.length = 3 + 5 * byteAt p 1 → s.cli.mode = .run →
      let fits := byteAt p 0 ≤ 15 ∧ 1 ≤ byteAt p 1 ∧ byteAt p 1 ≤ 8 ∧ byteAt p 2 ≤ 15 ∧ ∀ k < byteAt p 1,
        (u16At p (3 + 5 * k) = 0 ∨ 200 ≤ u16At p (3 + 5 * k) ∧ u16At p (3 + 5 * k) ≤ 4000)
        ∧ 10 ≤ u16At p (5 + 5 * k) ∧ u16At p (5 + 5 * k) ≤ 2000 ∧ byteAt p (7 + 5 * k) ≤ 15
      (¬ fits → exec (.chimePatternLoad t) s = .next (s.onlyReplies t ⟨.badValue, []⟩))
      ∧ (fits → (∃ ch ∈ s.chu.records, ch.pattern = byteAt p 0) →
          exec (.chimePatternLoad t) s = .next (s.onlyReplies t ⟨.busy, []⟩))
      ∧ (fits → (∀ ch ∈ s.chu.records, ch.pattern ≠ byteAt p 0) →
          exec (.chimePatternLoad t) s = .next ({ s with timebase := t, chu := { s.chu with
            table := s.chu.table.set (byteAt p 0) ⟨(List.range (byteAt p 1)).map (fun k =>
              ⟨u16At p (3 + 5 * k), u16At p (5 + 5 * k), byteAt p (7 + 5 * k)⟩), byteAt p 2⟩ } }.replied ⟨.ok, []⟩)))
  ∧ (∀ t (s : State) v, s.asks 0x74 [v] → s.cli.mode = .run → v.toNat ≤ 60 →
      exec (.frontLevelSet t) s = .next
        ({ s with timebase := t, chu := { s.chu with frontLevel := v.toNat } }.replied ⟨.ok, []⟩))
  ∧ (∀ t (s : State) v, s.asks 0x74 [v] → s.cli.mode = .run → 60 < v.toNat →
      exec (.frontLevelSet t) s = .next (s.onlyReplies t ⟨.badValue, []⟩))
  ∧ (∀ (s : State), zonesMeet s.chu.voice1 s.chu.voice2 = false →
      let sounds := fun (hears : ZoneSet → Bool) (st : Machine.Step) => ∃ voice p, s.chu.voice voice = some p
        ∧ hears p.chime.zones = true ∧ st = (s.chu.pattern p.chime.pattern).stepAt p.stepIndex ∧ st.freq ≠ 0
        ∧ (p.chime.origin = .park → reached s.timebase p.toneEnds = false)
      (s.chu.frontLevel = 0 → s.chimeOut = none)
      ∧ (s.chu.frontLevel ≠ 0 → ∀ tone, s.chimeOut = some tone
          ↔ ∃ st, sounds (·.front) st ∧ tone = ⟨st.freq, (s.chu.frontLevel : Int) - 60 - 2 * st.level⟩)
      ∧ ∀ i, let mix := s.zoneMix i
          let v := (s.seat i).volume
          (∀ film, mix.film = some film ↔ v ≠ 0 ∧ (s.rearRow i).effective.feed = some film.feed ∧ (s.port film.feed).lock = .locked
            ∧ film.gain = (v : Int) - 60 + (s.chu.duck.get i).gain)
          ∧ (∀ tone, mix.chime = some tone
            ↔ ∃ st, sounds (·.hasRear i) st ∧ tone = ⟨st.freq, (max v (calChimeFloor s.cal.working) : Nat) - 60 - 2 * st.level⟩)
          ∧ (mix.carried = true ↔ (s.link i).state = .streaming ∧ ∃ a, (s.link i).agreement = some a ∧ a.audio = true))
  ∧ (∀ (g x : Int) (away : Bool),
      let y := atGain g x away
      let product := x.natAbs ^ 20 * 10 ^ g.toNat
      let at20 := fun (k : Nat) => k ^ 20 * 10 ^ (-g).toNat
      (g = 0 → y = x) ∧ (0 ≤ x → 0 ≤ y) ∧ (x ≤ 0 → y ≤ 0)
      ∧ (∀ k, at20 k = product → y.natAbs = k)
      ∧ ((∀ k, at20 k ≠ product) → ∃ k, at20 k < product ∧ product < at20 (k + 1) ∧ y.natAbs = if away then k + 1 else k))
  ∧ (∀ (m : ZoneMix) n,
      let film := m.film.map (fun f => (f.gain, (Config.filmSample f.feed n).toInt))
      let chime := m.chime.map (fun t => (t.gain, (Config.sineSample t.freq n).toInt))
      let term := fun (isFilm : Bool) (x : Option (Int × Int)) =>
        match x with
        | none => 0
        | some (gain, sample) => atGain gain sample (Config.roundsAway isFilm film chime n)
      m.sample n = max (-32768) (min 32767 (term true film + term false chime)))

/-- CHIME PLAY: a chime that can be placed plays at once from step 0 on voice 1 if it is free and else on voice 2, with the next
handle and arrival order. One that outranks every chime that blocks it takes voice 1: those leave their voices, end PREEMPTED or, of
class REPEAT, return to the queue under the full-queue test, and a free voice is filled; that of two the chime of voice 1 yields
first is the model's choice (log entry 13), as is that the new handle is taken before any is given up (log entry 23). Any other waits
in its place of the queue; in a full one it displaces a last entry of lower priority, and is refused otherwise. CHIME CANCEL removes
a HOST chime, playing (its voice is filled) or waiting, with outcome CANCELLED; no other origin is found. A HOST chime that ends
posts a CHIME notice, and the end of the fault chime clears the controller's handle. A handle is the first after the last one, counting
1 to 255 and then 1 again, that no record holds. -/
def Obligations.ChimesArePlayedAndCancelled : Prop :=
  (∀ t (s : State) pat mask prio cls z c, s.asks 0x71 [pat, mask, prio, cls] → s.cli.mode = .run → pat.toNat ≤ 15 →
      zonesOf mask = some z → 2 ≤ prio.toNat → prio.toNat ≤ 7 →
      (cls.toNat = 1 ∧ c = .once ∨ cls.toNat = 2 ∧ c = .repeat) →
      let ch : Chime := ⟨s.chu.nextHandle, pat.toNat, z, prio.toNat, c, .host, s.chu.nextOrder⟩
      let began : Playing := ⟨ch, 0, (s.chu.pattern pat.toNat).repeatCount,
        afterMs t ((s.chu.pattern pat.toNat).stepAt 0).dur, afterMs t ((s.chu.pattern pat.toNat).stepAt 0).dur⟩
      let formed := { s.chu with lastHandle := s.chu.nextHandle, nextOrder := s.chu.nextOrder + 1 }
      let answers := fun (x : State) (state : Byte) =>
        exec (.chimePlay t) s = .next (x.replied ⟨.ok, [BitVec.ofNat 8 s.chu.nextHandle, state]⟩)
      (s.chu.voice1 = none → clear s.chu.voice2 z →
        answers { s with timebase := t, chu := { formed with voice1 := some began } } 1)
      ∧ (s.chu.voice1 ≠ none → clear s.chu.voice1 z → s.chu.voice2 = none →
        answers { s with timebase := t, chu := { formed with voice2 := some began } } 1)
      ∧ ((∃ v p, s.chu.blocked v z p) → (∀ v p, s.chu.blocked v z p → p.chime.priority < prio.toNat) →
        let freed : State := { s with timebase := t, chu := { formed with voice1 := none, voice2 := none } }
        ∃ s2 s3 : State, s2.yieldsFrom freed s.chu.voice1 ∧ s3.yieldsFrom s2 s.chu.voice2
          ∧ answers ({ s3 with chu := { s3.chu with voice1 := some began } } : State).fill 1)
      ∧ ((∃ v p, s.chu.blocked v z p ∧ prio.toNat ≤ p.chime.priority) →
        (s.chu.queue.length < 8 → answers { s with timebase := t, chu := { formed with queue := insertChime ch s.chu.queue } } 2)
        ∧ (∀ last, 8 ≤ s.chu.queue.length → s.chu.queue.getLast? = some last →
            (last.priority < prio.toNat →
              let chu := { formed with queue := insertChime ch s.chu.queue.dropLast }
              answers (({ s with timebase := t, chu := chu } : State).endChime last .dropped) 2)
            ∧ (prio.toNat ≤ last.priority → exec (.chimePlay t) s = .next (s.onlyReplies t ⟨.queueFull, []⟩)))))
  ∧ (∀ t (s : State) pat mask prio cls, s.asks 0x71 [pat, mask, prio, cls] → s.cli.mode = .run →
      (15 < pat.toNat ∨ mask.toNat = 0 ∨ 7 < mask.toNat ∨ prio.toNat < 2 ∨ 7 < prio.toNat ∨ (cls.toNat ≠ 1 ∧ cls.toNat ≠ 2)) →
      exec (.chimePlay t) s = .next (s.onlyReplies t ⟨.badValue, []⟩))
  ∧ (∀ (s : State) ch,
      (s.chu.queue.length < 8 →
        s.joinQueue ch = ({ s with chu := { s.chu with queue := insertChime ch s.chu.queue } }, true))
      ∧ (∀ last, 8 ≤ s.chu.queue.length → s.chu.queue.getLast? = some last →
          (last.priority < ch.priority →
            let chu := { s.chu with queue := insertChime ch s.chu.queue.dropLast }
            s.joinQueue ch = (({ s with chu := chu } : State).endChime last .dropped, true))
          ∧ (ch.priority ≤ last.priority → s.joinQueue ch = (s, false))))
  ∧ (∀ c : Chu, (∃ h, 1 ≤ h ∧ h ≤ 255 ∧ ∀ ch ∈ c.records, ch.handle ≠ h) →
      ∃ k, c.nextHandle = (c.lastHandle + k) % 255 + 1 ∧ (∀ ch ∈ c.records, ch.handle ≠ c.nextHandle)
        ∧ ∀ j < k, ∃ ch ∈ c.records, ch.handle = (c.lastHandle + j) % 255 + 1)
  ∧ (∀ ch queue, ∃ before after, queue = before ++ after ∧ insertChime ch queue = before ++ ch :: after
      ∧ (∀ x ∈ before, ch.priority < x.priority ∨ (x.priority = ch.priority ∧ x.order ≤ ch.order))
      ∧ (∀ x ∈ after.head?, x.priority < ch.priority ∨ (x.priority = ch.priority ∧ ch.order < x.order)))
  ∧ (∀ (s : State) ch outcome,
      (ch.origin = .host → s.endChime ch outcome = s.post ch.handle (.chime outcome))
      ∧ (ch.origin = .reverse → s.endChime ch outcome
          = { s with rvc := if s.rvc.faultChime = some ch.handle then { s.rvc with faultChime := none } else s.rvc })
      ∧ (ch.origin = .park ∨ ch.origin = .menu → s.endChime ch outcome = s))
  ∧ (∀ t (s : State) h, s.asks 0x72 [h] → s.cli.mode = .run → h.toNat = 0 →
      exec (.chimeCancel t) s = .next (s.onlyReplies t ⟨.badValue, []⟩))
  ∧ (∀ t (s : State) h, s.asks 0x72 [h] → s.cli.mode = .run → h.toNat ≠ 0 →
      (∀ ch ∈ s.chu.records, ¬ (ch.handle = h.toNat ∧ ch.origin = .host)) →
      exec (.chimeCancel t) s = .next (s.onlyReplies t ⟨.notFound, []⟩))
  ∧ (∀ t (s : State) h v p, s.asks 0x72 [h] → s.cli.mode = .run → h.toNat ≠ 0 → s.chu.voice v = some p →
      p.chime.handle = h.toNat → p.chime.origin = .host → (s.chu.records.map (·.handle)).Nodup →
      exec (.chimeCancel t) s = .next ((({ s with timebase := t, chu := s.chu.setVoice v none } : State).fill.endChime p.chime
        .cancelled).replied ⟨.ok, []⟩))
  ∧ (∀ t (s : State) h ch, s.asks 0x72 [h] → s.cli.mode = .run → h.toNat ≠ 0 → ch ∈ s.chu.queue → ch.handle = h.toNat →
      ch.origin = .host → (s.chu.records.map (·.handle)).Nodup →
      let chu := { s.chu with queue := s.chu.queue.filter (fun x => !decide (x = ch)) }
      let cli := s.cli.post t h.toNat (.chime .cancelled)
      exec (.chimeCancel t) s = .next ({ s with timebase := t, chu := chu, cli := cli }.replied ⟨.ok, []⟩))

/-- The end of a step: the next step of the pattern begins, or the pattern begins anew with one repeat less (without end for a repeat
count of 0), or the chime ends with outcome ENDED and its voice is filled from the queue: of a free voice's queue the first entry
whose zones the other voice does not play begins on it, and with both voices free the head begins on voice 1 first. On either voice a
park beep starts when the gap of the last has run out. A duck step moves a ducking zone 3 dB toward the duck level, 10 ms from the
next, and any other zone 1 dB up to 0, 20 ms from the next; a gain at its goal takes no further step. -/
def Obligations.StepsBeepsAndDucksGoOn : Prop :=
  (∀ t v (s : State) p, s.phase = .running → s.chu.voice v = some p → p.chime.origin ≠ .park → reached t p.ends = true →
      let pat := s.chu.pattern p.chime.pattern
      let step := fun index left => exec (.stepEnd t v) s = .next ({ s with timebase := t, chu := s.chu.setVoice v (some
        { p with stepIndex := index, repeatsLeft := left, ends := afterMs t (pat.stepAt index).dur,
                 toneEnds := afterMs t (pat.stepAt index).dur }) }).settle
      (p.stepIndex + 1 < pat.steps.length → step (p.stepIndex + 1) p.repeatsLeft)
      ∧ (pat.steps.length ≤ p.stepIndex + 1 → pat.repeatCount = 0 → step 0 p.repeatsLeft)
      ∧ (pat.steps.length ≤ p.stepIndex + 1 → pat.repeatCount ≠ 0 → 2 ≤ p.repeatsLeft → step 0 (p.repeatsLeft - 1))
      ∧ (pat.steps.length ≤ p.stepIndex + 1 → pat.repeatCount ≠ 0 → p.repeatsLeft ≤ 1 → s.chu.queue = [] →
          p.chime.origin = .host →
          let cli := s.cli.post t p.chime.handle (.chime .ended)
          exec (.stepEnd t v) s = .next ({ s with timebase := t, chu := s.chu.setVoice v none, cli := cli }).settle)
      ∧ (pat.steps.length ≤ p.stepIndex + 1 → pat.repeatCount ≠ 0 → p.repeatsLeft ≤ 1 →
          exec (.stepEnd t v) s = .next ((({ s with timebase := t, chu := s.chu.setVoice v none } : State).endChime p.chime
            .ended).fill).settle))
  ∧ (∀ s : State,
      (s.chu.voice1 ≠ none → s.chu.voice2 ≠ none → s.fill = s)
      ∧ (∀ v w p, v ≠ w → s.chu.voice v = none → s.chu.voice w = some p →
          ((∀ x ∈ s.chu.queue, p.chime.zones.meets x.zones = true) → s.fill = s)
          ∧ (∀ before x after, s.chu.queue = before ++ x :: after → (∀ y ∈ before, p.chime.zones.meets y.zones = true) →
              p.chime.zones.meets x.zones = false →
              s.fill = { s with chu := { s.withVoice v x with queue := before ++ after } }))
      ∧ (s.chu.voice1 = none → s.chu.voice2 = none →
          (s.chu.queue = [] → s.fill = s)
          ∧ (∀ x rest, s.chu.queue = x :: rest →
              s.fill = ({ s with chu := { s.withVoice .v1 x with queue := rest } } : State).fill)))
  ∧ (∀ t v (s : State) p d, s.phase = .running → s.chu.voice v = some p → p.chime.origin = .park → reached t p.ends = true →
      (∀ w q, s.chu.voice w = some q → q.chime.origin = .park → w = v) → s.vin.obstacle = some d →
      let on := ((s.chu.pattern 4).stepAt 0).dur
      let gap := if d ≤ 300 then 0 else 150 + (d - 300) * 650 / 1200 - on
      let next := { p with toneEnds := afterMs t on, ends := afterMs t (on + gap) }
      let chu := { s.chu.setVoice v (some next) with parkGap := gap }
      exec (.beepStart t) s = .next ({ s with timebase := t, chu := chu }).settle)
  ∧ (∀ t i (s : State) e, s.phase = .running → (s.chu.duck.get i).timer = some e → reached t e = true →
      let d := s.chu.duck.get i
      let level := calDuckLevel s.cal.working
      let g := if d.ducking then (if level < d.gain then max level (d.gain - 3) else min level (d.gain + 3))
               else min 0 (d.gain + 1)
      let timer := if d.ducking then (if g = level then none else some (afterMs t 10))
                   else if g = 0 then none else some (afterMs t 20)
      exec (.duckStep t i) s = .next ({ s with timebase := t, chu := { s.chu with
        duck := s.chu.duck.set i ⟨d.ducking, g, timer⟩ } }).settle)

/-! ## Calibration -/

/-- CALIBRATION WRITE: BUSY while a programming is in flight; BAD_VALUE for a field and index outside Table 10-1 or a value outside
its range; otherwise the value enters the working copy, rounded as R55 says, and the reply carries it. A guide field is a trigger
in TRACKING: a computation begins from the values held now, or a follow-up is marked while one is in flight. A new duck level is the
goal of the ducking zones: a gain that it meets takes no further step, one that rested at the old level steps 10 ms after the write,
any other goes on. No other block is changed. -/
def Obligations.CalibrationWriteStoresAnAdmittedValue : Prop :=
  ∀ t (s : State) p, s.asks 0x81 p → p.length = 6 →
    let no := byteAt p 0
    let index := byteAt p 1
    (s.cal.flight ≠ none → exec (.calibrationWrite t) s = .next (s.onlyReplies t ⟨.busy, []⟩))
    ∧ (s.cal.flight = none → (fieldOffset no index = none ∨ storedValue s.cal.working no index (i32At p 2) = none) →
        exec (.calibrationWrite t) s = .next (s.onlyReplies t ⟨.badValue, []⟩))
    ∧ (∀ k v, s.cal.flight = none → fieldOffset no index = some k → storedValue s.cal.working no index (i32At p 2) = some v →
        ∃ s1 : State, exec (.calibrationWrite t) s = .next (s1.replied ⟨.ok, i32 v⟩) ∧ s1.timebase = t
          ∧ s1.cal = { s.cal with working := s.cal.working.set k v }
          ∧ (¬ (11 ≤ no ∧ no ≤ 16) → s1.gle = s.gle)
          ∧ (11 ≤ no → no ≤ 16 → s.gle.mode = .tracking → s.gle.inFlight ≠ none → s1.gle = { s.gle with followUp := true })
          ∧ (11 ≤ no → no ≤ 16 → s.gle.mode = .tracking → s.gle.inFlight = none →
              s1.gle = { s.gle with inFlight := some ({ s with cal := s1.cal } : State).guideInput })
          ∧ (s.gle.mode ≠ .tracking → s1.gle = s.gle)
          ∧ (no ≠ 37 → s1.chu = s.chu)
          ∧ (let old := calDuckLevel s.cal.working
             let level := calDuckLevel s1.cal.working
             s1.chu = { s.chu with duck := s1.chu.duck } ∧ (no = 37 → k < s.cal.working.length → level = v)
             ∧ ∀ i, let d := s.chu.duck.get i
               s1.chu.duck.get i = if d.ducking = false ∨ level = old then d else if d.gain = level then { d with timer := none }
                 else if d.gain = old then { d with timer := some (afterMs t 10) } else d)
          ∧ s1.cli = s.cli ∧ s1.fdp = s.fdp ∧ s1.vin = s.vin ∧ s1.rvc = s.rvc ∧ s1.rsl = s.rsl ∧ s1.cmp = s.cmp
          ∧ s1.mnu = s.mnu ∧ s1.sct = s.sct ∧ s1.pending = s.pending)

/-- CALIBRATION PROGRAM takes the lowest BLANK slot with a snapshot of the working copy and its CRC-32, and answers STARTED with its
number; it is REFUSED_REVERSE while the controller is not OFF, BUSY in flight, EXHAUSTED without a BLANK slot. The completion, 60 ms
later, leaves the slot GOOD, or BAD when a write fault left other contents, and posts a CALIBRATION notice. -/
def Obligations.ProgrammingFillsTheLowestBlankSlot : Prop :=
  (∀ t (s : State), s.asks 0x83 [] → s.rvc.state ≠ .off →
      exec (.calibrationProgram t) s = .next (s.onlyReplies t ⟨.refusedReverse, []⟩))
  ∧ (∀ t (s : State), s.asks 0x83 [] → s.rvc.state = .off → s.cal.flight ≠ none →
      exec (.calibrationProgram t) s = .next (s.onlyReplies t ⟨.busy, []⟩))
  ∧ (∀ t (s : State), s.asks 0x83 [] → s.rvc.state = .off → s.cal.flight = none → (∀ n, (s.cal.slot n).judged ≠ .blank) →
      exec (.calibrationProgram t) s = .next (s.onlyReplies t ⟨.exhausted, []⟩))
  ∧ (∀ t (s : State) n, s.asks 0x83 [] → s.rvc.state = .off → s.cal.flight = none → (s.cal.slot n).judged = .blank →
      (∀ m, m.number < n.number → (s.cal.slot m).judged ≠ .blank) →
      let flight : Programming := ⟨n, s.cal.working, imageCheck s.cal.working, afterMs t 60⟩
      let cal := { s.cal.setSlot n ⟨.writing, .programming⟩ with flight := some flight }
      exec (.calibrationProgram t) s
        = .next ({ s with timebase := t, cal := cal }.replied ⟨.started, [BitVec.ofNat 8 n.number]⟩))
  ∧ (∀ t (s : State) f fault, s.phase = .running → s.cal.flight = some f → reached t f.ends = true →
      let whole := fault = none ∨ fault = some ⟨f.image, f.check⟩
      let leaves := fun cells judged good =>
        let cal := { s.cal.setSlot f.slot ⟨cells, judged⟩ with flight := none }
        let cli := s.cli.post t 0 (.calibration good f.slot.number)
        exec (.programmingComplete t fault) s = .next ({ s with timebase := t, cal := cal, cli := cli }).settle
      (whole → leaves (.written f.image f.check) .good true)
      ∧ (∀ c, fault = some c → ¬ whole → leaves (.written c.image c.check) .bad false))

/-! ## Laws that every step keeps -/

/-- R3, R13, R15, R17: the board holds at most 24 entries, no two of one kind and source; the queue at most 4 requests, the answered
ones first; a running part has four mapped lines; the selection has one entry for each kind. -/
def Obligations.ControlLinkLawsAreKept : Prop := ∀ s s', s.controlLaw → step s = .next s' → s'.controlLaw

/-- R79, R80, R86, R97, R113: a link holds an agreement exactly in STREAMING, for a stored offer within budget and policy; its
queue holds at most 4 commands, at most one BACKLIGHT, and none outside STREAMING; its row has frame starts exactly in STREAMING. -/
def Obligations.LinkLawsAreKept : Prop := ∀ s s', s.linkLaw → step s = .next s' → s'.linkLaw

/-- R102, whole: the effective sources and causes are those the rule decides, after every step; while the film lock is engaged the
front output's effective source is neither film feed, and the lock is released only while the speed is fresh (R100). The frame drawn on
the front output changes only at an output frame start, which takes the picture of the effective source when its feed is LOCKED (but in
the FAULT view, of which `Obligations.OutputFrameTakesItsRoute` speaks) and none when it is not, and where the output stops. -/
def Obligations.EffectiveSourceFollowsItsRule : Prop :=
  (∀ s s', s.sourceLaw → step s = .next s' → s'.sourceLaw)
  ∧ (∀ s : State, s.sourceLaw →
      (s.rvc.state ≠ .off → s.cmp.front.effective = .cam ∧ s.cmp.front.cause = .reverse)
      ∧ (s.rvc.state = .off → s.cmp.preview = true → s.cmp.front.effective = .cam ∧ s.cmp.front.cause = .preview)
      ∧ (s.rvc.state = .off → s.cmp.preview = false → (s.cmp.front.routed = .ff1 ∨ s.cmp.front.routed = .ff2) →
          s.cmp.filmLock = true → s.cmp.front.effective = .uif ∧ s.cmp.front.cause = .filmLock)
      ∧ (s.rvc.state = .off → s.cmp.preview = false →
          (¬ (s.cmp.front.routed = .ff1 ∨ s.cmp.front.routed = .ff2) ∨ s.cmp.filmLock = false) →
          s.cmp.front.effective = s.cmp.front.routed ∧ s.cmp.front.cause = .route)
      ∧ (s.cmp.filmLock = true → s.cmp.front.effective ≠ .ff1 ∧ s.cmp.front.effective ≠ .ff2)
      ∧ (∀ i, (s.rearRow i).effective = (s.rearRow i).routed ∧ (s.rearRow i).cause = .route))
  ∧ (∀ s s', s.filmLaw → step s = .next s' → s'.filmLaw)
  ∧ (∀ c s s', exec c s = .next s' → s'.cmp.front.frame ≠ s.cmp.front.frame →
      s'.cmp.front.frame = none ∨ ∃ t, c = .outputFrameStart t .fro)
  ∧ (∀ t (s : State) e, s.phase = .running → s.cmp.front.nextFrame = some e → reached t e = true →
      ∃ (s1 : State) (frame : FrameContent), exec (.outputFrameStart t .fro) s = .next s1.settle
        ∧ s1.cmp.front.frame = some frame
        ∧ (s1.sourceLocked s1.cmp.front.effective = false → frame.picture = none)
        ∧ (s1.cmp.frontView ≠ .fault → s1.sourceLocked s1.cmp.front.effective = true → frame.picture = s1.cmp.front.effective.feed))

/-- The controller, the gear line, the feed ports, camera power and the guide line engine agree (R23, R26, R40, R41, R43, R52, R54,
R68, R69), after every step; with them what the rows show agrees with them (R105, R106, R110). Before the start mode the controller
is OFF (log entry 7). -/
def Obligations.ReverseViewLawsAreKept : Prop :=
  (∀ s s', s.reverseLaw → step s = .next s' → s'.reverseLaw)
  ∧ (∀ s s', s.reverseLaw → s.shownLaw → step s = .next s' → s'.shownLaw)

/-- R68: while the camera feed is LOCKED before and after, the installed guide set changes only at a camera frame start. -/
def Obligations.LockedGuideSetChangesOnlyAtACameraFrame : Prop :=
  ∀ c s s', s.reverseLaw → exec c s = .next s' → (s.port .cam).lock = .locked → (s'.port .cam).lock = .locked →
    s'.gle.installed ≠ s.gle.installed → ∃ t, c = .frameStart t .cam

/-- R115, R121, R123, R132, R138, R139, R140: the page store stays within 32 pages and 256 items without two pages of one id; an open
menu holds 1 to 6 entries on present pages, on a streaming link, with its plane on; a repeat timer runs only for a held key, on
a streaming link. -/
def Obligations.MenuAndKeyLawsAreKept : Prop := ∀ s s', s.seatLaw → step s = .next s' → s'.seatLaw

/-- R151, R152, R154, R158, R160: no zone is played by both voices; at most 8 chimes wait, in order, none a click; handles are 1 to 255
and held once; at most one park beep, and none while the controller is OFF; a zone ducks exactly while a voice plays in it, and takes
no further duck step exactly while its gain stands at its goal. -/
def Obligations.ChimeLawsAreKept : Prop := ∀ s s', s.chimeLaw → step s = .next s' → s'.chimeLaw

/-- R144, R160, R161, R166: every volume, offset, backlight level, duck gain and front level stays within its range, and so does every
value of the working copy, of a snapshot in flight and of a slot that may be loaded. -/
def Obligations.LevelsStayWithinTheirRanges : Prop := ∀ s s', s.levelsLaw → step s = .next s' → s'.levelsLaw

/-- R164, R168, R169: a slot reads in programming exactly while it is the one in flight, and a consumed slot never becomes BLANK. -/
def Obligations.ConsumedSlotsStayConsumed : Prop :=
  ∀ s s', s.cal.slotsLaw → step s = .next s' →
    s'.cal.slotsLaw ∧ ∀ n, (s.cal.slot n).judged ≠ .blank → (s'.cal.slot n).judged ≠ .blank

/-- R165, R166: the working copy changes only by CALIBRATION WRITE and at a cold start; the generation loaded and the loaded-check
value only at a cold start. -/
def Obligations.WorkingCopyChangesOnlyByWriteAndColdStart : Prop :=
  ∀ c s s', exec c s = .next s' →
    (s'.cal.working ≠ s.cal.working → (∃ t, c = .calibrationWrite t) ∨ isColdStart c)
    ∧ (s'.cal.loadedGen ≠ s.cal.loadedGen ∨ s'.cal.loadedCheck ≠ s.cal.loadedCheck → isColdStart c)

/-- Every law holds at reset. -/
def Obligations.LawsHoldAtReset : Prop :=
  let s := State.reset
  s.controlLaw ∧ s.standbyLaw ∧ s.linkLaw ∧ s.sourceLaw ∧ s.filmLaw ∧ s.reverseLaw ∧ s.shownLaw ∧ s.seatLaw ∧ s.chimeLaw ∧ s.levelsLaw
  ∧ s.cal.slotsLaw
end

