-- ==== Sys2Proof/Laws/Audio.lean ====
section
/-! SUPPORT. What a gain does to a sample (R161), said once. -/

namespace Sys2Proof.Machine

/-- A search up to a bound finds the greatest number that satisfies its test, or 0. -/
theorem greatestUpTo_spec (fits : Nat → Bool) (h0 : fits 0 = true) (n : Nat) :
    fits (greatestUpTo fits n) = true ∧ greatestUpTo fits n ≤ n ∧ ∀ k ≤ n, fits k = true → k ≤ greatestUpTo fits n := by
  induction n with
  | zero => exact ⟨h0, le_refl _, fun k hk _ => hk⟩
  | succ n ih =>
    unfold greatestUpTo
    split
    · exact ⟨by assumption, le_refl _, fun k hk _ => hk⟩
    · rename_i h
      refine ⟨ih.1, ih.2.1.trans (Nat.le_succ n), fun k hk hf => ih.2.2 k ?_ hf⟩
      rcases Nat.lt_or_ge n k with hlt | hle
      · exact absurd (by rwa [show n + 1 = k by omega]) h
      · exact hle

/-- What fits at a gain lies within the bound of the search. -/
theorem withinGain_le {decibels : Int} {m k : Nat} (h : withinGain decibels m k = true) : k ≤ m * 10 ^ decibels.toNat := by
  unfold withinGain at h
  simp only [decide_eq_true_eq] at h
  have h1 : k ^ 20 ≤ (m * 10 ^ decibels.toNat) ^ 20 := by
    calc k ^ 20 ≤ k ^ 20 * 10 ^ (-decibels).toNat := Nat.le_mul_of_pos_right _ (by positivity)
      _ ≤ m ^ 20 * 10 ^ decibels.toNat := h
      _ ≤ m ^ 20 * (10 ^ decibels.toNat) ^ 20 := Nat.mul_le_mul_left _ (Nat.le_self_pow (by decide) _)
      _ = (m * 10 ^ decibels.toNat) ^ 20 := (Nat.mul_pow ..).symm
  exact (Nat.pow_le_pow_iff_left (by decide)).1 h1

/-- The magnitude a gain rounds from: no greater than the product, while the next is greater. -/
theorem floorGain_spec (decibels : Int) (m : Nat) :
    let k := greatestUpTo (withinGain decibels m) (m * 10 ^ decibels.toNat)
    k ^ 20 * 10 ^ (-decibels).toNat ≤ m ^ 20 * 10 ^ decibels.toNat
      ∧ m ^ 20 * 10 ^ decibels.toNat < (k + 1) ^ 20 * 10 ^ (-decibels).toNat := by
  have h := greatestUpTo_spec (withinGain decibels m) (by simp [withinGain]) (m * 10 ^ decibels.toNat)
  refine ⟨by simpa [withinGain] using h.1, Nat.lt_of_not_le fun hc => ?_⟩
  have hw : withinGain decibels m (greatestUpTo (withinGain decibels m) (m * 10 ^ decibels.toNat) + 1) = true := by
    simpa [withinGain] using hc
  exact absurd (h.2.2 _ (withinGain_le hw) hw) (by omega)

/-- Of two magnitudes the greater has the greater product. -/
theorem scaled_lt_iff (decibels : Int) {a b : Nat} :
    a ^ 20 * 10 ^ (-decibels).toNat < b ^ 20 * 10 ^ (-decibels).toNat ↔ a < b := by
  rw [Nat.mul_lt_mul_right (by positivity), Nat.pow_lt_pow_iff_left (by decide)]

/-- R161: a whole product is the sample's magnitude at the gain. -/
theorem floorGain_exact (decibels : Int) (m k : Nat) (h : k ^ 20 * 10 ^ (-decibels).toNat = m ^ 20 * 10 ^ decibels.toNat) :
    greatestUpTo (withinGain decibels m) (m * 10 ^ decibels.toNat) = k := by
  obtain ⟨h1, h2⟩ := floorGain_spec decibels m
  rw [← h] at h1 h2
  rw [scaled_lt_iff] at h2
  have := mt (scaled_lt_iff decibels).2 (Nat.not_lt.2 h1)
  omega

/-- R143, R161: 0 dB is full scale: the sample is left as it is. -/
@[simp] theorem atGain_zero (sample : Int) (away : Bool) : atGain 0 sample away = sample := by
  have e : ∀ m : Nat, m ^ 20 * 10 ^ (-(0 : Int)).toNat = m ^ 20 * 10 ^ (0 : Int).toNat := fun m => by rw [Int.neg_zero]
  unfold atGain
  simp only [floorGain_exact 0 sample.natAbs sample.natAbs (e _), e, decide_true, Bool.not_true, Bool.false_and, Bool.false_eq_true,
    if_false]
  split <;> omega

end Sys2Proof.Machine
end

