-- ==== Sys2Proof/Laws/State.lean ====
section
/-! SUPPORT. What an update of one record leaves: one lemma for each field of the state and each update, true by `rfl`, and the
reading of a record after it has been set. -/
namespace Sys2Proof.Machine
/-! ## Pairs -/

@[simp] theorem Two.get_set_same {α : Type} (p : Two α) (i : Seat) (a : α) : (p.set i a).get i = a := by cases i <;> rfl

@[simp] theorem Two.get_set_other {α : Type} (p : Two α) {i j : Seat} (h : j ≠ i) (a : α) : (p.set i a).get j = p.get j := by
  cases i <;> cases j <;> first | rfl | exact absurd rfl h

theorem Two.get_set {α : Type} (p : Two α) (i j : Seat) (a : α) : (p.set i a).get j = if j = i then a else p.get j := by
  cases i <;> cases j <;> rfl

@[simp] theorem Two.set_set {α : Type} (p : Two α) (i : Seat) (a b : α) : (p.set i a).set i b = p.set i b := by cases i <;> rfl

@[simp] theorem Two.get_map {α β : Type} (f : α → β) (p : Two α) (i : Seat) : (p.map f).get i = f (p.get i) := by cases i <;> rfl

@[simp] theorem Fdp.port_setPort_same (d : Fdp) (f : Feed) (p : Port) : (d.setPort f p).port f = p := by cases f <;> rfl

@[simp] theorem Fdp.port_setPort_other (d : Fdp) {f g : Feed} (h : g ≠ f) (p : Port) : (d.setPort f p).port g = d.port g := by
  cases f <;> cases g <;> first | rfl | exact absurd rfl h

@[simp] theorem Fdp.camPower_setPort (d : Fdp) (f : Feed) (p : Port) : (d.setPort f p).camPower = d.camPower := by cases f <;> rfl

/-! ## Reading a record that has been set -/

@[simp] theorem State.link_setLink_same (s : State) (i : Seat) (l : Link) : (s.setLink i l).link i = l := by
  cases i <;> rfl

@[simp] theorem State.link_setLink_other (s : State) {i j : Seat} (h : j ≠ i) (l : Link) : (s.setLink i l).link j = s.link j := by
  cases i <;> cases j <;> first | rfl | exact absurd rfl h

@[simp] theorem State.seat_setSeat_same (s : State) (i : Seat) (r : SeatRec) : (s.setSeat i r).seat i = r := by
  cases i <;> rfl

@[simp] theorem State.seat_setSeat_other (s : State) {i j : Seat} (h : j ≠ i) (r : SeatRec) :
    (s.setSeat i r).seat j = s.seat j := by
  cases i <;> cases j <;> first | rfl | exact absurd rfl h

@[simp] theorem State.port_setPort_same (s : State) (f : Feed) (p : Port) : (s.setPort f p).port f = p := by
  cases f <;> rfl

@[simp] theorem State.port_setPort_other (s : State) {f g : Feed} (h : g ≠ f) (p : Port) :
    (s.setPort f p).port g = s.port g := by
  cases f <;> cases g <;> first | rfl | exact absurd rfl h

@[simp] theorem State.rearRow_setRearRow_same (s : State) (i : Seat) (r : Row) : (s.setRearRow i r).rearRow i = r := by
  cases i <;> rfl

@[simp] theorem State.rearRow_setRearRow_other (s : State) {i j : Seat} (h : j ≠ i) (r : Row) :
    (s.setRearRow i r).rearRow j = s.rearRow j := by
  cases i <;> cases j <;> first | rfl | exact absurd rfl h

@[simp] theorem State.ctx_setCtx_same (s : State) (i : Seat) (c : MenuContext) : (s.setCtx i c).ctx i = c := by
  cases i <;> rfl

@[simp] theorem State.ctx_setCtx_other (s : State) {i j : Seat} (h : j ≠ i) (c : MenuContext) :
    (s.setCtx i c).ctx j = s.ctx j := by
  cases i <;> cases j <;> first | rfl | exact absurd rfl h

@[simp] theorem State.front_setFront (s : State) (r : Row) : (s.setFront r).cmp.front = r := rfl

@[simp] theorem State.timebase_atTime (s : State) (t : Stamp) : (s.atTime t).timebase = t := rfl

/-! ## What an update leaves -/
@[simp] theorem State.atTime_phase (s : State) (t : Stamp) : (s.atTime t).phase = s.phase := rfl
@[simp] theorem State.atTime_resetN (s : State) (t : Stamp) : (s.atTime t).resetN = s.resetN := rfl
@[simp] theorem State.atTime_cli (s : State) (t : Stamp) : (s.atTime t).cli = s.cli := rfl
@[simp] theorem State.atTime_fdp (s : State) (t : Stamp) : (s.atTime t).fdp = s.fdp := rfl
@[simp] theorem State.atTime_vin (s : State) (t : Stamp) : (s.atTime t).vin = s.vin := rfl
@[simp] theorem State.atTime_rvc (s : State) (t : Stamp) : (s.atTime t).rvc = s.rvc := rfl
@[simp] theorem State.atTime_gle (s : State) (t : Stamp) : (s.atTime t).gle = s.gle := rfl
@[simp] theorem State.atTime_rsl (s : State) (t : Stamp) : (s.atTime t).rsl = s.rsl := rfl
@[simp] theorem State.atTime_cmp (s : State) (t : Stamp) : (s.atTime t).cmp = s.cmp := rfl
@[simp] theorem State.atTime_mnu (s : State) (t : Stamp) : (s.atTime t).mnu = s.mnu := rfl
@[simp] theorem State.atTime_sct (s : State) (t : Stamp) : (s.atTime t).sct = s.sct := rfl
@[simp] theorem State.atTime_chu (s : State) (t : Stamp) : (s.atTime t).chu = s.chu := rfl
@[simp] theorem State.atTime_cal (s : State) (t : Stamp) : (s.atTime t).cal = s.cal := rfl
@[simp] theorem State.atTime_pending (s : State) (t : Stamp) : (s.atTime t).pending = s.pending := rfl

@[simp] theorem State.setLink_timebase (s : State) (i : Seat) (l : Link) : (s.setLink i l).timebase = s.timebase := rfl
@[simp] theorem State.setLink_phase (s : State) (i : Seat) (l : Link) : (s.setLink i l).phase = s.phase := rfl
@[simp] theorem State.setLink_resetN (s : State) (i : Seat) (l : Link) : (s.setLink i l).resetN = s.resetN := rfl
@[simp] theorem State.setLink_cli (s : State) (i : Seat) (l : Link) : (s.setLink i l).cli = s.cli := rfl
@[simp] theorem State.setLink_fdp (s : State) (i : Seat) (l : Link) : (s.setLink i l).fdp = s.fdp := rfl
@[simp] theorem State.setLink_vin (s : State) (i : Seat) (l : Link) : (s.setLink i l).vin = s.vin := rfl
@[simp] theorem State.setLink_rvc (s : State) (i : Seat) (l : Link) : (s.setLink i l).rvc = s.rvc := rfl
@[simp] theorem State.setLink_gle (s : State) (i : Seat) (l : Link) : (s.setLink i l).gle = s.gle := rfl
@[simp] theorem State.setLink_cmp (s : State) (i : Seat) (l : Link) : (s.setLink i l).cmp = s.cmp := rfl
@[simp] theorem State.setLink_mnu (s : State) (i : Seat) (l : Link) : (s.setLink i l).mnu = s.mnu := rfl
@[simp] theorem State.setLink_sct (s : State) (i : Seat) (l : Link) : (s.setLink i l).sct = s.sct := rfl
@[simp] theorem State.setLink_chu (s : State) (i : Seat) (l : Link) : (s.setLink i l).chu = s.chu := rfl
@[simp] theorem State.setLink_cal (s : State) (i : Seat) (l : Link) : (s.setLink i l).cal = s.cal := rfl
@[simp] theorem State.setLink_pending (s : State) (i : Seat) (l : Link) : (s.setLink i l).pending = s.pending := rfl

@[simp] theorem State.setSeat_timebase (s : State) (i : Seat) (r : SeatRec) : (s.setSeat i r).timebase = s.timebase := rfl
@[simp] theorem State.setSeat_phase (s : State) (i : Seat) (r : SeatRec) : (s.setSeat i r).phase = s.phase := rfl
@[simp] theorem State.setSeat_resetN (s : State) (i : Seat) (r : SeatRec) : (s.setSeat i r).resetN = s.resetN := rfl
@[simp] theorem State.setSeat_cli (s : State) (i : Seat) (r : SeatRec) : (s.setSeat i r).cli = s.cli := rfl
@[simp] theorem State.setSeat_fdp (s : State) (i : Seat) (r : SeatRec) : (s.setSeat i r).fdp = s.fdp := rfl
@[simp] theorem State.setSeat_vin (s : State) (i : Seat) (r : SeatRec) : (s.setSeat i r).vin = s.vin := rfl
@[simp] theorem State.setSeat_rvc (s : State) (i : Seat) (r : SeatRec) : (s.setSeat i r).rvc = s.rvc := rfl
@[simp] theorem State.setSeat_gle (s : State) (i : Seat) (r : SeatRec) : (s.setSeat i r).gle = s.gle := rfl
@[simp] theorem State.setSeat_rsl (s : State) (i : Seat) (r : SeatRec) : (s.setSeat i r).rsl = s.rsl := rfl
@[simp] theorem State.setSeat_cmp (s : State) (i : Seat) (r : SeatRec) : (s.setSeat i r).cmp = s.cmp := rfl
@[simp] theorem State.setSeat_mnu (s : State) (i : Seat) (r : SeatRec) : (s.setSeat i r).mnu = s.mnu := rfl
@[simp] theorem State.setSeat_chu (s : State) (i : Seat) (r : SeatRec) : (s.setSeat i r).chu = s.chu := rfl
@[simp] theorem State.setSeat_cal (s : State) (i : Seat) (r : SeatRec) : (s.setSeat i r).cal = s.cal := rfl
@[simp] theorem State.setSeat_pending (s : State) (i : Seat) (r : SeatRec) : (s.setSeat i r).pending = s.pending := rfl

@[simp] theorem State.setPort_timebase (s : State) (i : Feed) (p : Port) : (s.setPort i p).timebase = s.timebase := rfl
@[simp] theorem State.setPort_phase (s : State) (i : Feed) (p : Port) : (s.setPort i p).phase = s.phase := rfl
@[simp] theorem State.setPort_resetN (s : State) (i : Feed) (p : Port) : (s.setPort i p).resetN = s.resetN := rfl
@[simp] theorem State.setPort_cli (s : State) (i : Feed) (p : Port) : (s.setPort i p).cli = s.cli := rfl
@[simp] theorem State.setPort_vin (s : State) (i : Feed) (p : Port) : (s.setPort i p).vin = s.vin := rfl
@[simp] theorem State.setPort_rvc (s : State) (i : Feed) (p : Port) : (s.setPort i p).rvc = s.rvc := rfl
@[simp] theorem State.setPort_gle (s : State) (i : Feed) (p : Port) : (s.setPort i p).gle = s.gle := rfl
@[simp] theorem State.setPort_rsl (s : State) (i : Feed) (p : Port) : (s.setPort i p).rsl = s.rsl := rfl
@[simp] theorem State.setPort_cmp (s : State) (i : Feed) (p : Port) : (s.setPort i p).cmp = s.cmp := rfl
@[simp] theorem State.setPort_mnu (s : State) (i : Feed) (p : Port) : (s.setPort i p).mnu = s.mnu := rfl
@[simp] theorem State.setPort_sct (s : State) (i : Feed) (p : Port) : (s.setPort i p).sct = s.sct := rfl
@[simp] theorem State.setPort_chu (s : State) (i : Feed) (p : Port) : (s.setPort i p).chu = s.chu := rfl
@[simp] theorem State.setPort_cal (s : State) (i : Feed) (p : Port) : (s.setPort i p).cal = s.cal := rfl
@[simp] theorem State.setPort_pending (s : State) (i : Feed) (p : Port) : (s.setPort i p).pending = s.pending := rfl

@[simp] theorem State.setRearRow_timebase (s : State) (i : Seat) (r : Row) : (s.setRearRow i r).timebase = s.timebase := rfl
@[simp] theorem State.setRearRow_phase (s : State) (i : Seat) (r : Row) : (s.setRearRow i r).phase = s.phase := rfl
@[simp] theorem State.setRearRow_resetN (s : State) (i : Seat) (r : Row) : (s.setRearRow i r).resetN = s.resetN := rfl
@[simp] theorem State.setRearRow_cli (s : State) (i : Seat) (r : Row) : (s.setRearRow i r).cli = s.cli := rfl
@[simp] theorem State.setRearRow_fdp (s : State) (i : Seat) (r : Row) : (s.setRearRow i r).fdp = s.fdp := rfl
@[simp] theorem State.setRearRow_vin (s : State) (i : Seat) (r : Row) : (s.setRearRow i r).vin = s.vin := rfl
@[simp] theorem State.setRearRow_rvc (s : State) (i : Seat) (r : Row) : (s.setRearRow i r).rvc = s.rvc := rfl
@[simp] theorem State.setRearRow_gle (s : State) (i : Seat) (r : Row) : (s.setRearRow i r).gle = s.gle := rfl
@[simp] theorem State.setRearRow_rsl (s : State) (i : Seat) (r : Row) : (s.setRearRow i r).rsl = s.rsl := rfl
@[simp] theorem State.setRearRow_mnu (s : State) (i : Seat) (r : Row) : (s.setRearRow i r).mnu = s.mnu := rfl
@[simp] theorem State.setRearRow_sct (s : State) (i : Seat) (r : Row) : (s.setRearRow i r).sct = s.sct := rfl
@[simp] theorem State.setRearRow_chu (s : State) (i : Seat) (r : Row) : (s.setRearRow i r).chu = s.chu := rfl
@[simp] theorem State.setRearRow_cal (s : State) (i : Seat) (r : Row) : (s.setRearRow i r).cal = s.cal := rfl
@[simp] theorem State.setRearRow_pending (s : State) (i : Seat) (r : Row) : (s.setRearRow i r).pending = s.pending := rfl

@[simp] theorem State.setFront_timebase (s : State) (r : Row) : (s.setFront r).timebase = s.timebase := rfl
@[simp] theorem State.setFront_phase (s : State) (r : Row) : (s.setFront r).phase = s.phase := rfl
@[simp] theorem State.setFront_resetN (s : State) (r : Row) : (s.setFront r).resetN = s.resetN := rfl
@[simp] theorem State.setFront_cli (s : State) (r : Row) : (s.setFront r).cli = s.cli := rfl
@[simp] theorem State.setFront_fdp (s : State) (r : Row) : (s.setFront r).fdp = s.fdp := rfl
@[simp] theorem State.setFront_vin (s : State) (r : Row) : (s.setFront r).vin = s.vin := rfl
@[simp] theorem State.setFront_rvc (s : State) (r : Row) : (s.setFront r).rvc = s.rvc := rfl
@[simp] theorem State.setFront_gle (s : State) (r : Row) : (s.setFront r).gle = s.gle := rfl
@[simp] theorem State.setFront_rsl (s : State) (r : Row) : (s.setFront r).rsl = s.rsl := rfl
@[simp] theorem State.setFront_mnu (s : State) (r : Row) : (s.setFront r).mnu = s.mnu := rfl
@[simp] theorem State.setFront_sct (s : State) (r : Row) : (s.setFront r).sct = s.sct := rfl
@[simp] theorem State.setFront_chu (s : State) (r : Row) : (s.setFront r).chu = s.chu := rfl
@[simp] theorem State.setFront_cal (s : State) (r : Row) : (s.setFront r).cal = s.cal := rfl
@[simp] theorem State.setFront_pending (s : State) (r : Row) : (s.setFront r).pending = s.pending := rfl

@[simp] theorem State.setCtx_timebase (s : State) (i : Seat) (c : MenuContext) : (s.setCtx i c).timebase = s.timebase := rfl
@[simp] theorem State.setCtx_phase (s : State) (i : Seat) (c : MenuContext) : (s.setCtx i c).phase = s.phase := rfl
@[simp] theorem State.setCtx_resetN (s : State) (i : Seat) (c : MenuContext) : (s.setCtx i c).resetN = s.resetN := rfl
@[simp] theorem State.setCtx_cli (s : State) (i : Seat) (c : MenuContext) : (s.setCtx i c).cli = s.cli := rfl
@[simp] theorem State.setCtx_fdp (s : State) (i : Seat) (c : MenuContext) : (s.setCtx i c).fdp = s.fdp := rfl
@[simp] theorem State.setCtx_vin (s : State) (i : Seat) (c : MenuContext) : (s.setCtx i c).vin = s.vin := rfl
@[simp] theorem State.setCtx_rvc (s : State) (i : Seat) (c : MenuContext) : (s.setCtx i c).rvc = s.rvc := rfl
@[simp] theorem State.setCtx_gle (s : State) (i : Seat) (c : MenuContext) : (s.setCtx i c).gle = s.gle := rfl
@[simp] theorem State.setCtx_rsl (s : State) (i : Seat) (c : MenuContext) : (s.setCtx i c).rsl = s.rsl := rfl
@[simp] theorem State.setCtx_cmp (s : State) (i : Seat) (c : MenuContext) : (s.setCtx i c).cmp = s.cmp := rfl
@[simp] theorem State.setCtx_sct (s : State) (i : Seat) (c : MenuContext) : (s.setCtx i c).sct = s.sct := rfl
@[simp] theorem State.setCtx_chu (s : State) (i : Seat) (c : MenuContext) : (s.setCtx i c).chu = s.chu := rfl
@[simp] theorem State.setCtx_cal (s : State) (i : Seat) (c : MenuContext) : (s.setCtx i c).cal = s.cal := rfl
@[simp] theorem State.setCtx_pending (s : State) (i : Seat) (c : MenuContext) : (s.setCtx i c).pending = s.pending := rfl

@[simp] theorem State.setStore_timebase (s : State) (l : List Page) : (s.setStore l).timebase = s.timebase := rfl
@[simp] theorem State.setStore_phase (s : State) (l : List Page) : (s.setStore l).phase = s.phase := rfl
@[simp] theorem State.setStore_resetN (s : State) (l : List Page) : (s.setStore l).resetN = s.resetN := rfl
@[simp] theorem State.setStore_cli (s : State) (l : List Page) : (s.setStore l).cli = s.cli := rfl
@[simp] theorem State.setStore_fdp (s : State) (l : List Page) : (s.setStore l).fdp = s.fdp := rfl
@[simp] theorem State.setStore_vin (s : State) (l : List Page) : (s.setStore l).vin = s.vin := rfl
@[simp] theorem State.setStore_rvc (s : State) (l : List Page) : (s.setStore l).rvc = s.rvc := rfl
@[simp] theorem State.setStore_gle (s : State) (l : List Page) : (s.setStore l).gle = s.gle := rfl
@[simp] theorem State.setStore_rsl (s : State) (l : List Page) : (s.setStore l).rsl = s.rsl := rfl
@[simp] theorem State.setStore_cmp (s : State) (l : List Page) : (s.setStore l).cmp = s.cmp := rfl
@[simp] theorem State.setStore_sct (s : State) (l : List Page) : (s.setStore l).sct = s.sct := rfl
@[simp] theorem State.setStore_chu (s : State) (l : List Page) : (s.setStore l).chu = s.chu := rfl
@[simp] theorem State.setStore_cal (s : State) (l : List Page) : (s.setStore l).cal = s.cal := rfl
@[simp] theorem State.setStore_pending (s : State) (l : List Page) : (s.setStore l).pending = s.pending := rfl

@[simp] theorem State.setMenuPlane_timebase (s : State) (i : Seat) (b : Bool) : (s.setMenuPlane i b).timebase = s.timebase := rfl
@[simp] theorem State.setMenuPlane_phase (s : State) (i : Seat) (b : Bool) : (s.setMenuPlane i b).phase = s.phase := rfl
@[simp] theorem State.setMenuPlane_resetN (s : State) (i : Seat) (b : Bool) : (s.setMenuPlane i b).resetN = s.resetN := rfl
@[simp] theorem State.setMenuPlane_cli (s : State) (i : Seat) (b : Bool) : (s.setMenuPlane i b).cli = s.cli := rfl
@[simp] theorem State.setMenuPlane_fdp (s : State) (i : Seat) (b : Bool) : (s.setMenuPlane i b).fdp = s.fdp := rfl
@[simp] theorem State.setMenuPlane_vin (s : State) (i : Seat) (b : Bool) : (s.setMenuPlane i b).vin = s.vin := rfl
@[simp] theorem State.setMenuPlane_rvc (s : State) (i : Seat) (b : Bool) : (s.setMenuPlane i b).rvc = s.rvc := rfl
@[simp] theorem State.setMenuPlane_gle (s : State) (i : Seat) (b : Bool) : (s.setMenuPlane i b).gle = s.gle := rfl
@[simp] theorem State.setMenuPlane_rsl (s : State) (i : Seat) (b : Bool) : (s.setMenuPlane i b).rsl = s.rsl := rfl
@[simp] theorem State.setMenuPlane_mnu (s : State) (i : Seat) (b : Bool) : (s.setMenuPlane i b).mnu = s.mnu := rfl
@[simp] theorem State.setMenuPlane_sct (s : State) (i : Seat) (b : Bool) : (s.setMenuPlane i b).sct = s.sct := rfl
@[simp] theorem State.setMenuPlane_chu (s : State) (i : Seat) (b : Bool) : (s.setMenuPlane i b).chu = s.chu := rfl
@[simp] theorem State.setMenuPlane_cal (s : State) (i : Seat) (b : Bool) : (s.setMenuPlane i b).cal = s.cal := rfl
@[simp] theorem State.setMenuPlane_pending (s : State) (i : Seat) (b : Bool) : (s.setMenuPlane i b).pending = s.pending := rfl

@[simp] theorem State.setTop_timebase (s : State) (i : Seat) (e : Entry) : (s.setTop i e).timebase = s.timebase := rfl
@[simp] theorem State.setTop_phase (s : State) (i : Seat) (e : Entry) : (s.setTop i e).phase = s.phase := rfl
@[simp] theorem State.setTop_resetN (s : State) (i : Seat) (e : Entry) : (s.setTop i e).resetN = s.resetN := rfl
@[simp] theorem State.setTop_cli (s : State) (i : Seat) (e : Entry) : (s.setTop i e).cli = s.cli := rfl
@[simp] theorem State.setTop_fdp (s : State) (i : Seat) (e : Entry) : (s.setTop i e).fdp = s.fdp := rfl
@[simp] theorem State.setTop_vin (s : State) (i : Seat) (e : Entry) : (s.setTop i e).vin = s.vin := rfl
@[simp] theorem State.setTop_rvc (s : State) (i : Seat) (e : Entry) : (s.setTop i e).rvc = s.rvc := rfl
@[simp] theorem State.setTop_gle (s : State) (i : Seat) (e : Entry) : (s.setTop i e).gle = s.gle := rfl
@[simp] theorem State.setTop_rsl (s : State) (i : Seat) (e : Entry) : (s.setTop i e).rsl = s.rsl := rfl
@[simp] theorem State.setTop_cmp (s : State) (i : Seat) (e : Entry) : (s.setTop i e).cmp = s.cmp := rfl
@[simp] theorem State.setTop_sct (s : State) (i : Seat) (e : Entry) : (s.setTop i e).sct = s.sct := rfl
@[simp] theorem State.setTop_chu (s : State) (i : Seat) (e : Entry) : (s.setTop i e).chu = s.chu := rfl
@[simp] theorem State.setTop_cal (s : State) (i : Seat) (e : Entry) : (s.setTop i e).cal = s.cal := rfl
@[simp] theorem State.setTop_pending (s : State) (i : Seat) (e : Entry) : (s.setTop i e).pending = s.pending := rfl

@[simp] theorem State.post_timebase (s : State) (n : Nat) (b : NoticeBody) : (s.post n b).timebase = s.timebase := rfl
@[simp] theorem State.post_phase (s : State) (n : Nat) (b : NoticeBody) : (s.post n b).phase = s.phase := rfl
@[simp] theorem State.post_resetN (s : State) (n : Nat) (b : NoticeBody) : (s.post n b).resetN = s.resetN := rfl
@[simp] theorem State.post_fdp (s : State) (n : Nat) (b : NoticeBody) : (s.post n b).fdp = s.fdp := rfl
@[simp] theorem State.post_vin (s : State) (n : Nat) (b : NoticeBody) : (s.post n b).vin = s.vin := rfl
@[simp] theorem State.post_rvc (s : State) (n : Nat) (b : NoticeBody) : (s.post n b).rvc = s.rvc := rfl
@[simp] theorem State.post_gle (s : State) (n : Nat) (b : NoticeBody) : (s.post n b).gle = s.gle := rfl
@[simp] theorem State.post_rsl (s : State) (n : Nat) (b : NoticeBody) : (s.post n b).rsl = s.rsl := rfl
@[simp] theorem State.post_cmp (s : State) (n : Nat) (b : NoticeBody) : (s.post n b).cmp = s.cmp := rfl
@[simp] theorem State.post_mnu (s : State) (n : Nat) (b : NoticeBody) : (s.post n b).mnu = s.mnu := rfl
@[simp] theorem State.post_sct (s : State) (n : Nat) (b : NoticeBody) : (s.post n b).sct = s.sct := rfl
@[simp] theorem State.post_chu (s : State) (n : Nat) (b : NoticeBody) : (s.post n b).chu = s.chu := rfl
@[simp] theorem State.post_cal (s : State) (n : Nat) (b : NoticeBody) : (s.post n b).cal = s.cal := rfl
@[simp] theorem State.post_pending (s : State) (n : Nat) (b : NoticeBody) : (s.post n b).pending = s.pending := rfl

@[simp] theorem State.answer_timebase (s : State) (r : Reply) : (s.answer r).timebase = s.timebase := rfl
@[simp] theorem State.answer_phase (s : State) (r : Reply) : (s.answer r).phase = s.phase := rfl
@[simp] theorem State.answer_resetN (s : State) (r : Reply) : (s.answer r).resetN = s.resetN := rfl
@[simp] theorem State.answer_fdp (s : State) (r : Reply) : (s.answer r).fdp = s.fdp := rfl
@[simp] theorem State.answer_vin (s : State) (r : Reply) : (s.answer r).vin = s.vin := rfl
@[simp] theorem State.answer_rvc (s : State) (r : Reply) : (s.answer r).rvc = s.rvc := rfl
@[simp] theorem State.answer_gle (s : State) (r : Reply) : (s.answer r).gle = s.gle := rfl
@[simp] theorem State.answer_rsl (s : State) (r : Reply) : (s.answer r).rsl = s.rsl := rfl
@[simp] theorem State.answer_cmp (s : State) (r : Reply) : (s.answer r).cmp = s.cmp := rfl
@[simp] theorem State.answer_mnu (s : State) (r : Reply) : (s.answer r).mnu = s.mnu := rfl
@[simp] theorem State.answer_sct (s : State) (r : Reply) : (s.answer r).sct = s.sct := rfl
@[simp] theorem State.answer_chu (s : State) (r : Reply) : (s.answer r).chu = s.chu := rfl
@[simp] theorem State.answer_cal (s : State) (r : Reply) : (s.answer r).cal = s.cal := rfl
@[simp] theorem State.answer_pending (s : State) (r : Reply) : (s.answer r).pending = s.pending := rfl

@[simp] theorem State.setMode_timebase (s : State) (m : PartMode) : (s.setMode m).timebase = s.timebase := rfl
@[simp] theorem State.setMode_phase (s : State) (m : PartMode) : (s.setMode m).phase = s.phase := rfl
@[simp] theorem State.setMode_resetN (s : State) (m : PartMode) : (s.setMode m).resetN = s.resetN := rfl
@[simp] theorem State.setMode_fdp (s : State) (m : PartMode) : (s.setMode m).fdp = s.fdp := rfl
@[simp] theorem State.setMode_vin (s : State) (m : PartMode) : (s.setMode m).vin = s.vin := rfl
@[simp] theorem State.setMode_rvc (s : State) (m : PartMode) : (s.setMode m).rvc = s.rvc := rfl
@[simp] theorem State.setMode_gle (s : State) (m : PartMode) : (s.setMode m).gle = s.gle := rfl
@[simp] theorem State.setMode_rsl (s : State) (m : PartMode) : (s.setMode m).rsl = s.rsl := rfl
@[simp] theorem State.setMode_cmp (s : State) (m : PartMode) : (s.setMode m).cmp = s.cmp := rfl
@[simp] theorem State.setMode_mnu (s : State) (m : PartMode) : (s.setMode m).mnu = s.mnu := rfl
@[simp] theorem State.setMode_sct (s : State) (m : PartMode) : (s.setMode m).sct = s.sct := rfl
@[simp] theorem State.setMode_chu (s : State) (m : PartMode) : (s.setMode m).chu = s.chu := rfl
@[simp] theorem State.setMode_cal (s : State) (m : PartMode) : (s.setMode m).cal = s.cal := rfl
@[simp] theorem State.setMode_pending (s : State) (m : PartMode) : (s.setMode m).pending = s.pending := rfl

@[simp] theorem State.setGear_timebase (s : State) (raw : Bool) (g : Gear) (c : Option GearCandidate) : (s.setGear raw g c).timebase = s.timebase := rfl
@[simp] theorem State.setGear_phase (s : State) (raw : Bool) (g : Gear) (c : Option GearCandidate) : (s.setGear raw g c).phase = s.phase := rfl
@[simp] theorem State.setGear_resetN (s : State) (raw : Bool) (g : Gear) (c : Option GearCandidate) : (s.setGear raw g c).resetN = s.resetN := rfl
@[simp] theorem State.setGear_cli (s : State) (raw : Bool) (g : Gear) (c : Option GearCandidate) : (s.setGear raw g c).cli = s.cli := rfl
@[simp] theorem State.setGear_fdp (s : State) (raw : Bool) (g : Gear) (c : Option GearCandidate) : (s.setGear raw g c).fdp = s.fdp := rfl
@[simp] theorem State.setGear_rvc (s : State) (raw : Bool) (g : Gear) (c : Option GearCandidate) : (s.setGear raw g c).rvc = s.rvc := rfl
@[simp] theorem State.setGear_gle (s : State) (raw : Bool) (g : Gear) (c : Option GearCandidate) : (s.setGear raw g c).gle = s.gle := rfl
@[simp] theorem State.setGear_rsl (s : State) (raw : Bool) (g : Gear) (c : Option GearCandidate) : (s.setGear raw g c).rsl = s.rsl := rfl
@[simp] theorem State.setGear_cmp (s : State) (raw : Bool) (g : Gear) (c : Option GearCandidate) : (s.setGear raw g c).cmp = s.cmp := rfl
@[simp] theorem State.setGear_mnu (s : State) (raw : Bool) (g : Gear) (c : Option GearCandidate) : (s.setGear raw g c).mnu = s.mnu := rfl
@[simp] theorem State.setGear_sct (s : State) (raw : Bool) (g : Gear) (c : Option GearCandidate) : (s.setGear raw g c).sct = s.sct := rfl
@[simp] theorem State.setGear_chu (s : State) (raw : Bool) (g : Gear) (c : Option GearCandidate) : (s.setGear raw g c).chu = s.chu := rfl
@[simp] theorem State.setGear_cal (s : State) (raw : Bool) (g : Gear) (c : Option GearCandidate) : (s.setGear raw g c).cal = s.cal := rfl
@[simp] theorem State.setGear_pending (s : State) (raw : Bool) (g : Gear) (c : Option GearCandidate) : (s.setGear raw g c).pending = s.pending := rfl

@[simp] theorem State.setVoice_timebase (s : State) (v : Voice) (p : Option Playing) : (s.setVoice v p).timebase = s.timebase := rfl
@[simp] theorem State.setVoice_phase (s : State) (v : Voice) (p : Option Playing) : (s.setVoice v p).phase = s.phase := rfl
@[simp] theorem State.setVoice_resetN (s : State) (v : Voice) (p : Option Playing) : (s.setVoice v p).resetN = s.resetN := rfl
@[simp] theorem State.setVoice_cli (s : State) (v : Voice) (p : Option Playing) : (s.setVoice v p).cli = s.cli := rfl
@[simp] theorem State.setVoice_fdp (s : State) (v : Voice) (p : Option Playing) : (s.setVoice v p).fdp = s.fdp := rfl
@[simp] theorem State.setVoice_vin (s : State) (v : Voice) (p : Option Playing) : (s.setVoice v p).vin = s.vin := rfl
@[simp] theorem State.setVoice_rvc (s : State) (v : Voice) (p : Option Playing) : (s.setVoice v p).rvc = s.rvc := rfl
@[simp] theorem State.setVoice_gle (s : State) (v : Voice) (p : Option Playing) : (s.setVoice v p).gle = s.gle := rfl
@[simp] theorem State.setVoice_rsl (s : State) (v : Voice) (p : Option Playing) : (s.setVoice v p).rsl = s.rsl := rfl
@[simp] theorem State.setVoice_cmp (s : State) (v : Voice) (p : Option Playing) : (s.setVoice v p).cmp = s.cmp := rfl
@[simp] theorem State.setVoice_mnu (s : State) (v : Voice) (p : Option Playing) : (s.setVoice v p).mnu = s.mnu := rfl
@[simp] theorem State.setVoice_sct (s : State) (v : Voice) (p : Option Playing) : (s.setVoice v p).sct = s.sct := rfl
@[simp] theorem State.setVoice_cal (s : State) (v : Voice) (p : Option Playing) : (s.setVoice v p).cal = s.cal := rfl
@[simp] theorem State.setVoice_pending (s : State) (v : Voice) (p : Option Playing) : (s.setVoice v p).pending = s.pending := rfl

@[simp] theorem State.setDuck_timebase (s : State) (i : Seat) (d : Duck) : (s.setDuck i d).timebase = s.timebase := rfl
@[simp] theorem State.setDuck_phase (s : State) (i : Seat) (d : Duck) : (s.setDuck i d).phase = s.phase := rfl
@[simp] theorem State.setDuck_resetN (s : State) (i : Seat) (d : Duck) : (s.setDuck i d).resetN = s.resetN := rfl
@[simp] theorem State.setDuck_cli (s : State) (i : Seat) (d : Duck) : (s.setDuck i d).cli = s.cli := rfl
@[simp] theorem State.setDuck_fdp (s : State) (i : Seat) (d : Duck) : (s.setDuck i d).fdp = s.fdp := rfl
@[simp] theorem State.setDuck_vin (s : State) (i : Seat) (d : Duck) : (s.setDuck i d).vin = s.vin := rfl
@[simp] theorem State.setDuck_rvc (s : State) (i : Seat) (d : Duck) : (s.setDuck i d).rvc = s.rvc := rfl
@[simp] theorem State.setDuck_gle (s : State) (i : Seat) (d : Duck) : (s.setDuck i d).gle = s.gle := rfl
@[simp] theorem State.setDuck_rsl (s : State) (i : Seat) (d : Duck) : (s.setDuck i d).rsl = s.rsl := rfl
@[simp] theorem State.setDuck_cmp (s : State) (i : Seat) (d : Duck) : (s.setDuck i d).cmp = s.cmp := rfl
@[simp] theorem State.setDuck_mnu (s : State) (i : Seat) (d : Duck) : (s.setDuck i d).mnu = s.mnu := rfl
@[simp] theorem State.setDuck_sct (s : State) (i : Seat) (d : Duck) : (s.setDuck i d).sct = s.sct := rfl
@[simp] theorem State.setDuck_cal (s : State) (i : Seat) (d : Duck) : (s.setDuck i d).cal = s.cal := rfl
@[simp] theorem State.setDuck_pending (s : State) (i : Seat) (d : Duck) : (s.setDuck i d).pending = s.pending := rfl

@[simp] theorem State.setPresent_timebase (s : State) (i : Seat) (b : Bool) : (s.setPresent i b).timebase = s.timebase := rfl
@[simp] theorem State.setPresent_phase (s : State) (i : Seat) (b : Bool) : (s.setPresent i b).phase = s.phase := rfl
@[simp] theorem State.setPresent_resetN (s : State) (i : Seat) (b : Bool) : (s.setPresent i b).resetN = s.resetN := rfl
@[simp] theorem State.setPresent_cli (s : State) (i : Seat) (b : Bool) : (s.setPresent i b).cli = s.cli := rfl
@[simp] theorem State.setPresent_fdp (s : State) (i : Seat) (b : Bool) : (s.setPresent i b).fdp = s.fdp := rfl
@[simp] theorem State.setPresent_vin (s : State) (i : Seat) (b : Bool) : (s.setPresent i b).vin = s.vin := rfl
@[simp] theorem State.setPresent_rvc (s : State) (i : Seat) (b : Bool) : (s.setPresent i b).rvc = s.rvc := rfl
@[simp] theorem State.setPresent_gle (s : State) (i : Seat) (b : Bool) : (s.setPresent i b).gle = s.gle := rfl
@[simp] theorem State.setPresent_cmp (s : State) (i : Seat) (b : Bool) : (s.setPresent i b).cmp = s.cmp := rfl
@[simp] theorem State.setPresent_mnu (s : State) (i : Seat) (b : Bool) : (s.setPresent i b).mnu = s.mnu := rfl
@[simp] theorem State.setPresent_sct (s : State) (i : Seat) (b : Bool) : (s.setPresent i b).sct = s.sct := rfl
@[simp] theorem State.setPresent_chu (s : State) (i : Seat) (b : Bool) : (s.setPresent i b).chu = s.chu := rfl
@[simp] theorem State.setPresent_cal (s : State) (i : Seat) (b : Bool) : (s.setPresent i b).cal = s.cal := rfl
@[simp] theorem State.setPresent_pending (s : State) (i : Seat) (b : Bool) : (s.setPresent i b).pending = s.pending := rfl

@[simp] theorem State.postLink_timebase (s : State) (i : Seat) : (s.postLink i).timebase = s.timebase := rfl
@[simp] theorem State.postLink_phase (s : State) (i : Seat) : (s.postLink i).phase = s.phase := rfl
@[simp] theorem State.postLink_resetN (s : State) (i : Seat) : (s.postLink i).resetN = s.resetN := rfl
@[simp] theorem State.postLink_fdp (s : State) (i : Seat) : (s.postLink i).fdp = s.fdp := rfl
@[simp] theorem State.postLink_vin (s : State) (i : Seat) : (s.postLink i).vin = s.vin := rfl
@[simp] theorem State.postLink_rvc (s : State) (i : Seat) : (s.postLink i).rvc = s.rvc := rfl
@[simp] theorem State.postLink_gle (s : State) (i : Seat) : (s.postLink i).gle = s.gle := rfl
@[simp] theorem State.postLink_rsl (s : State) (i : Seat) : (s.postLink i).rsl = s.rsl := rfl
@[simp] theorem State.postLink_cmp (s : State) (i : Seat) : (s.postLink i).cmp = s.cmp := rfl
@[simp] theorem State.postLink_mnu (s : State) (i : Seat) : (s.postLink i).mnu = s.mnu := rfl
@[simp] theorem State.postLink_sct (s : State) (i : Seat) : (s.postLink i).sct = s.sct := rfl
@[simp] theorem State.postLink_chu (s : State) (i : Seat) : (s.postLink i).chu = s.chu := rfl
@[simp] theorem State.postLink_cal (s : State) (i : Seat) : (s.postLink i).cal = s.cal := rfl
@[simp] theorem State.postLink_pending (s : State) (i : Seat) : (s.postLink i).pending = s.pending := rfl

@[simp] theorem State.postLevel_timebase (s : State) (i : Seat) : (s.postLevel i).timebase = s.timebase := rfl
@[simp] theorem State.postLevel_phase (s : State) (i : Seat) : (s.postLevel i).phase = s.phase := rfl
@[simp] theorem State.postLevel_resetN (s : State) (i : Seat) : (s.postLevel i).resetN = s.resetN := rfl
@[simp] theorem State.postLevel_fdp (s : State) (i : Seat) : (s.postLevel i).fdp = s.fdp := rfl
@[simp] theorem State.postLevel_vin (s : State) (i : Seat) : (s.postLevel i).vin = s.vin := rfl
@[simp] theorem State.postLevel_rvc (s : State) (i : Seat) : (s.postLevel i).rvc = s.rvc := rfl
@[simp] theorem State.postLevel_gle (s : State) (i : Seat) : (s.postLevel i).gle = s.gle := rfl
@[simp] theorem State.postLevel_rsl (s : State) (i : Seat) : (s.postLevel i).rsl = s.rsl := rfl
@[simp] theorem State.postLevel_cmp (s : State) (i : Seat) : (s.postLevel i).cmp = s.cmp := rfl
@[simp] theorem State.postLevel_mnu (s : State) (i : Seat) : (s.postLevel i).mnu = s.mnu := rfl
@[simp] theorem State.postLevel_sct (s : State) (i : Seat) : (s.postLevel i).sct = s.sct := rfl
@[simp] theorem State.postLevel_chu (s : State) (i : Seat) : (s.postLevel i).chu = s.chu := rfl
@[simp] theorem State.postLevel_cal (s : State) (i : Seat) : (s.postLevel i).cal = s.cal := rfl
@[simp] theorem State.postLevel_pending (s : State) (i : Seat) : (s.postLevel i).pending = s.pending := rfl

@[simp] theorem State.postMode_timebase (s : State) (c : ModeCause) : (s.postMode c).timebase = s.timebase := rfl
@[simp] theorem State.postMode_phase (s : State) (c : ModeCause) : (s.postMode c).phase = s.phase := rfl
@[simp] theorem State.postMode_resetN (s : State) (c : ModeCause) : (s.postMode c).resetN = s.resetN := rfl
@[simp] theorem State.postMode_fdp (s : State) (c : ModeCause) : (s.postMode c).fdp = s.fdp := rfl
@[simp] theorem State.postMode_vin (s : State) (c : ModeCause) : (s.postMode c).vin = s.vin := rfl
@[simp] theorem State.postMode_rvc (s : State) (c : ModeCause) : (s.postMode c).rvc = s.rvc := rfl
@[simp] theorem State.postMode_gle (s : State) (c : ModeCause) : (s.postMode c).gle = s.gle := rfl
@[simp] theorem State.postMode_rsl (s : State) (c : ModeCause) : (s.postMode c).rsl = s.rsl := rfl
@[simp] theorem State.postMode_cmp (s : State) (c : ModeCause) : (s.postMode c).cmp = s.cmp := rfl
@[simp] theorem State.postMode_mnu (s : State) (c : ModeCause) : (s.postMode c).mnu = s.mnu := rfl
@[simp] theorem State.postMode_sct (s : State) (c : ModeCause) : (s.postMode c).sct = s.sct := rfl
@[simp] theorem State.postMode_chu (s : State) (c : ModeCause) : (s.postMode c).chu = s.chu := rfl
@[simp] theorem State.postMode_cal (s : State) (c : ModeCause) : (s.postMode c).cal = s.cal := rfl
@[simp] theorem State.postMode_pending (s : State) (c : ModeCause) : (s.postMode c).pending = s.pending := rfl

@[simp] theorem State.postChoice_timebase (s : State) (i : Seat) (p n : Nat) (a : MenuAction) (v : Nat) : (s.postChoice i p n a v).timebase = s.timebase := rfl
@[simp] theorem State.postChoice_phase (s : State) (i : Seat) (p n : Nat) (a : MenuAction) (v : Nat) : (s.postChoice i p n a v).phase = s.phase := rfl
@[simp] theorem State.postChoice_resetN (s : State) (i : Seat) (p n : Nat) (a : MenuAction) (v : Nat) : (s.postChoice i p n a v).resetN = s.resetN := rfl
@[simp] theorem State.postChoice_fdp (s : State) (i : Seat) (p n : Nat) (a : MenuAction) (v : Nat) : (s.postChoice i p n a v).fdp = s.fdp := rfl
@[simp] theorem State.postChoice_vin (s : State) (i : Seat) (p n : Nat) (a : MenuAction) (v : Nat) : (s.postChoice i p n a v).vin = s.vin := rfl
@[simp] theorem State.postChoice_rvc (s : State) (i : Seat) (p n : Nat) (a : MenuAction) (v : Nat) : (s.postChoice i p n a v).rvc = s.rvc := rfl
@[simp] theorem State.postChoice_gle (s : State) (i : Seat) (p n : Nat) (a : MenuAction) (v : Nat) : (s.postChoice i p n a v).gle = s.gle := rfl
@[simp] theorem State.postChoice_rsl (s : State) (i : Seat) (p n : Nat) (a : MenuAction) (v : Nat) : (s.postChoice i p n a v).rsl = s.rsl := rfl
@[simp] theorem State.postChoice_cmp (s : State) (i : Seat) (p n : Nat) (a : MenuAction) (v : Nat) : (s.postChoice i p n a v).cmp = s.cmp := rfl
@[simp] theorem State.postChoice_mnu (s : State) (i : Seat) (p n : Nat) (a : MenuAction) (v : Nat) : (s.postChoice i p n a v).mnu = s.mnu := rfl
@[simp] theorem State.postChoice_sct (s : State) (i : Seat) (p n : Nat) (a : MenuAction) (v : Nat) : (s.postChoice i p n a v).sct = s.sct := rfl
@[simp] theorem State.postChoice_chu (s : State) (i : Seat) (p n : Nat) (a : MenuAction) (v : Nat) : (s.postChoice i p n a v).chu = s.chu := rfl
@[simp] theorem State.postChoice_cal (s : State) (i : Seat) (p n : Nat) (a : MenuAction) (v : Nat) : (s.postChoice i p n a v).cal = s.cal := rfl
@[simp] theorem State.postChoice_pending (s : State) (i : Seat) (p n : Nat) (a : MenuAction) (v : Nat) : (s.postChoice i p n a v).pending = s.pending := rfl

@[simp] theorem State.restartIdle_timebase (s : State) (i : Seat) : (s.restartIdle i).timebase = s.timebase := rfl
@[simp] theorem State.restartIdle_phase (s : State) (i : Seat) : (s.restartIdle i).phase = s.phase := rfl
@[simp] theorem State.restartIdle_resetN (s : State) (i : Seat) : (s.restartIdle i).resetN = s.resetN := rfl
@[simp] theorem State.restartIdle_cli (s : State) (i : Seat) : (s.restartIdle i).cli = s.cli := rfl
@[simp] theorem State.restartIdle_fdp (s : State) (i : Seat) : (s.restartIdle i).fdp = s.fdp := rfl
@[simp] theorem State.restartIdle_vin (s : State) (i : Seat) : (s.restartIdle i).vin = s.vin := rfl
@[simp] theorem State.restartIdle_rvc (s : State) (i : Seat) : (s.restartIdle i).rvc = s.rvc := rfl
@[simp] theorem State.restartIdle_gle (s : State) (i : Seat) : (s.restartIdle i).gle = s.gle := rfl
@[simp] theorem State.restartIdle_rsl (s : State) (i : Seat) : (s.restartIdle i).rsl = s.rsl := rfl
@[simp] theorem State.restartIdle_cmp (s : State) (i : Seat) : (s.restartIdle i).cmp = s.cmp := rfl
@[simp] theorem State.restartIdle_sct (s : State) (i : Seat) : (s.restartIdle i).sct = s.sct := rfl
@[simp] theorem State.restartIdle_chu (s : State) (i : Seat) : (s.restartIdle i).chu = s.chu := rfl
@[simp] theorem State.restartIdle_cal (s : State) (i : Seat) : (s.restartIdle i).cal = s.cal := rfl
@[simp] theorem State.restartIdle_pending (s : State) (i : Seat) : (s.restartIdle i).pending = s.pending := rfl

@[simp] theorem State.openMenu_timebase (s : State) (i : Seat) (p : Page) : (s.openMenu i p).timebase = s.timebase := rfl
@[simp] theorem State.openMenu_phase (s : State) (i : Seat) (p : Page) : (s.openMenu i p).phase = s.phase := rfl
@[simp] theorem State.openMenu_resetN (s : State) (i : Seat) (p : Page) : (s.openMenu i p).resetN = s.resetN := rfl
@[simp] theorem State.openMenu_cli (s : State) (i : Seat) (p : Page) : (s.openMenu i p).cli = s.cli := rfl
@[simp] theorem State.openMenu_fdp (s : State) (i : Seat) (p : Page) : (s.openMenu i p).fdp = s.fdp := rfl
@[simp] theorem State.openMenu_vin (s : State) (i : Seat) (p : Page) : (s.openMenu i p).vin = s.vin := rfl
@[simp] theorem State.openMenu_rvc (s : State) (i : Seat) (p : Page) : (s.openMenu i p).rvc = s.rvc := rfl
@[simp] theorem State.openMenu_gle (s : State) (i : Seat) (p : Page) : (s.openMenu i p).gle = s.gle := rfl
@[simp] theorem State.openMenu_rsl (s : State) (i : Seat) (p : Page) : (s.openMenu i p).rsl = s.rsl := rfl
@[simp] theorem State.openMenu_sct (s : State) (i : Seat) (p : Page) : (s.openMenu i p).sct = s.sct := rfl
@[simp] theorem State.openMenu_chu (s : State) (i : Seat) (p : Page) : (s.openMenu i p).chu = s.chu := rfl
@[simp] theorem State.openMenu_cal (s : State) (i : Seat) (p : Page) : (s.openMenu i p).cal = s.cal := rfl
@[simp] theorem State.openMenu_pending (s : State) (i : Seat) (p : Page) : (s.openMenu i p).pending = s.pending := rfl

@[simp] theorem State.emptyMenu_timebase (s : State) (i : Seat) : (s.emptyMenu i).timebase = s.timebase := rfl
@[simp] theorem State.emptyMenu_phase (s : State) (i : Seat) : (s.emptyMenu i).phase = s.phase := rfl
@[simp] theorem State.emptyMenu_resetN (s : State) (i : Seat) : (s.emptyMenu i).resetN = s.resetN := rfl
@[simp] theorem State.emptyMenu_cli (s : State) (i : Seat) : (s.emptyMenu i).cli = s.cli := rfl
@[simp] theorem State.emptyMenu_fdp (s : State) (i : Seat) : (s.emptyMenu i).fdp = s.fdp := rfl
@[simp] theorem State.emptyMenu_vin (s : State) (i : Seat) : (s.emptyMenu i).vin = s.vin := rfl
@[simp] theorem State.emptyMenu_rvc (s : State) (i : Seat) : (s.emptyMenu i).rvc = s.rvc := rfl
@[simp] theorem State.emptyMenu_gle (s : State) (i : Seat) : (s.emptyMenu i).gle = s.gle := rfl
@[simp] theorem State.emptyMenu_rsl (s : State) (i : Seat) : (s.emptyMenu i).rsl = s.rsl := rfl
@[simp] theorem State.emptyMenu_sct (s : State) (i : Seat) : (s.emptyMenu i).sct = s.sct := rfl
@[simp] theorem State.emptyMenu_chu (s : State) (i : Seat) : (s.emptyMenu i).chu = s.chu := rfl
@[simp] theorem State.emptyMenu_cal (s : State) (i : Seat) : (s.emptyMenu i).cal = s.cal := rfl
@[simp] theorem State.emptyMenu_pending (s : State) (i : Seat) : (s.emptyMenu i).pending = s.pending := rfl

@[simp] theorem State.judgeGuidePlane_timebase (s : State) : (s.judgeGuidePlane).timebase = s.timebase := rfl
@[simp] theorem State.judgeGuidePlane_phase (s : State) : (s.judgeGuidePlane).phase = s.phase := rfl
@[simp] theorem State.judgeGuidePlane_resetN (s : State) : (s.judgeGuidePlane).resetN = s.resetN := rfl
@[simp] theorem State.judgeGuidePlane_cli (s : State) : (s.judgeGuidePlane).cli = s.cli := rfl
@[simp] theorem State.judgeGuidePlane_fdp (s : State) : (s.judgeGuidePlane).fdp = s.fdp := rfl
@[simp] theorem State.judgeGuidePlane_vin (s : State) : (s.judgeGuidePlane).vin = s.vin := rfl
@[simp] theorem State.judgeGuidePlane_rvc (s : State) : (s.judgeGuidePlane).rvc = s.rvc := rfl
@[simp] theorem State.judgeGuidePlane_gle (s : State) : (s.judgeGuidePlane).gle = s.gle := rfl
@[simp] theorem State.judgeGuidePlane_rsl (s : State) : (s.judgeGuidePlane).rsl = s.rsl := rfl
@[simp] theorem State.judgeGuidePlane_mnu (s : State) : (s.judgeGuidePlane).mnu = s.mnu := rfl
@[simp] theorem State.judgeGuidePlane_sct (s : State) : (s.judgeGuidePlane).sct = s.sct := rfl
@[simp] theorem State.judgeGuidePlane_chu (s : State) : (s.judgeGuidePlane).chu = s.chu := rfl
@[simp] theorem State.judgeGuidePlane_cal (s : State) : (s.judgeGuidePlane).cal = s.cal := rfl
@[simp] theorem State.judgeGuidePlane_pending (s : State) : (s.judgeGuidePlane).pending = s.pending := rfl

@[simp] theorem State.judgeFrontBanner_timebase (s : State) : (s.judgeFrontBanner).timebase = s.timebase := rfl
@[simp] theorem State.judgeFrontBanner_phase (s : State) : (s.judgeFrontBanner).phase = s.phase := rfl
@[simp] theorem State.judgeFrontBanner_resetN (s : State) : (s.judgeFrontBanner).resetN = s.resetN := rfl
@[simp] theorem State.judgeFrontBanner_cli (s : State) : (s.judgeFrontBanner).cli = s.cli := rfl
@[simp] theorem State.judgeFrontBanner_fdp (s : State) : (s.judgeFrontBanner).fdp = s.fdp := rfl
@[simp] theorem State.judgeFrontBanner_vin (s : State) : (s.judgeFrontBanner).vin = s.vin := rfl
@[simp] theorem State.judgeFrontBanner_rvc (s : State) : (s.judgeFrontBanner).rvc = s.rvc := rfl
@[simp] theorem State.judgeFrontBanner_gle (s : State) : (s.judgeFrontBanner).gle = s.gle := rfl
@[simp] theorem State.judgeFrontBanner_rsl (s : State) : (s.judgeFrontBanner).rsl = s.rsl := rfl
@[simp] theorem State.judgeFrontBanner_mnu (s : State) : (s.judgeFrontBanner).mnu = s.mnu := rfl
@[simp] theorem State.judgeFrontBanner_sct (s : State) : (s.judgeFrontBanner).sct = s.sct := rfl
@[simp] theorem State.judgeFrontBanner_chu (s : State) : (s.judgeFrontBanner).chu = s.chu := rfl
@[simp] theorem State.judgeFrontBanner_cal (s : State) : (s.judgeFrontBanner).cal = s.cal := rfl
@[simp] theorem State.judgeFrontBanner_pending (s : State) : (s.judgeFrontBanner).pending = s.pending := rfl

@[simp] theorem State.judgeRearBanner_timebase (s : State) (i : Seat) : (s.judgeRearBanner i).timebase = s.timebase := rfl
@[simp] theorem State.judgeRearBanner_phase (s : State) (i : Seat) : (s.judgeRearBanner i).phase = s.phase := rfl
@[simp] theorem State.judgeRearBanner_resetN (s : State) (i : Seat) : (s.judgeRearBanner i).resetN = s.resetN := rfl
@[simp] theorem State.judgeRearBanner_cli (s : State) (i : Seat) : (s.judgeRearBanner i).cli = s.cli := rfl
@[simp] theorem State.judgeRearBanner_fdp (s : State) (i : Seat) : (s.judgeRearBanner i).fdp = s.fdp := rfl
@[simp] theorem State.judgeRearBanner_vin (s : State) (i : Seat) : (s.judgeRearBanner i).vin = s.vin := rfl
@[simp] theorem State.judgeRearBanner_rvc (s : State) (i : Seat) : (s.judgeRearBanner i).rvc = s.rvc := rfl
@[simp] theorem State.judgeRearBanner_gle (s : State) (i : Seat) : (s.judgeRearBanner i).gle = s.gle := rfl
@[simp] theorem State.judgeRearBanner_rsl (s : State) (i : Seat) : (s.judgeRearBanner i).rsl = s.rsl := rfl
@[simp] theorem State.judgeRearBanner_mnu (s : State) (i : Seat) : (s.judgeRearBanner i).mnu = s.mnu := rfl
@[simp] theorem State.judgeRearBanner_sct (s : State) (i : Seat) : (s.judgeRearBanner i).sct = s.sct := rfl
@[simp] theorem State.judgeRearBanner_chu (s : State) (i : Seat) : (s.judgeRearBanner i).chu = s.chu := rfl
@[simp] theorem State.judgeRearBanner_cal (s : State) (i : Seat) : (s.judgeRearBanner i).cal = s.cal := rfl
@[simp] theorem State.judgeRearBanner_pending (s : State) (i : Seat) : (s.judgeRearBanner i).pending = s.pending := rfl

@[simp] theorem State.receiveByte_timebase (s : State) (b : Byte) (h : Bool) : (s.receiveByte b h).timebase = s.timebase := rfl
@[simp] theorem State.receiveByte_phase (s : State) (b : Byte) (h : Bool) : (s.receiveByte b h).phase = s.phase := rfl
@[simp] theorem State.receiveByte_resetN (s : State) (b : Byte) (h : Bool) : (s.receiveByte b h).resetN = s.resetN := rfl
@[simp] theorem State.receiveByte_fdp (s : State) (b : Byte) (h : Bool) : (s.receiveByte b h).fdp = s.fdp := rfl
@[simp] theorem State.receiveByte_vin (s : State) (b : Byte) (h : Bool) : (s.receiveByte b h).vin = s.vin := rfl
@[simp] theorem State.receiveByte_rvc (s : State) (b : Byte) (h : Bool) : (s.receiveByte b h).rvc = s.rvc := rfl
@[simp] theorem State.receiveByte_gle (s : State) (b : Byte) (h : Bool) : (s.receiveByte b h).gle = s.gle := rfl
@[simp] theorem State.receiveByte_rsl (s : State) (b : Byte) (h : Bool) : (s.receiveByte b h).rsl = s.rsl := rfl
@[simp] theorem State.receiveByte_cmp (s : State) (b : Byte) (h : Bool) : (s.receiveByte b h).cmp = s.cmp := rfl
@[simp] theorem State.receiveByte_mnu (s : State) (b : Byte) (h : Bool) : (s.receiveByte b h).mnu = s.mnu := rfl
@[simp] theorem State.receiveByte_sct (s : State) (b : Byte) (h : Bool) : (s.receiveByte b h).sct = s.sct := rfl
@[simp] theorem State.receiveByte_chu (s : State) (b : Byte) (h : Bool) : (s.receiveByte b h).chu = s.chu := rfl
@[simp] theorem State.receiveByte_cal (s : State) (b : Byte) (h : Bool) : (s.receiveByte b h).cal = s.cal := rfl
@[simp] theorem State.receiveByte_pending (s : State) (b : Byte) (h : Bool) : (s.receiveByte b h).pending = s.pending := rfl

@[simp] theorem State.releaseDucks_timebase (s : State) (old : Int) : (s.releaseDucks old).timebase = s.timebase := rfl
@[simp] theorem State.releaseDucks_phase (s : State) (old : Int) : (s.releaseDucks old).phase = s.phase := rfl
@[simp] theorem State.releaseDucks_resetN (s : State) (old : Int) : (s.releaseDucks old).resetN = s.resetN := rfl
@[simp] theorem State.releaseDucks_cli (s : State) (old : Int) : (s.releaseDucks old).cli = s.cli := rfl
@[simp] theorem State.releaseDucks_fdp (s : State) (old : Int) : (s.releaseDucks old).fdp = s.fdp := rfl
@[simp] theorem State.releaseDucks_vin (s : State) (old : Int) : (s.releaseDucks old).vin = s.vin := rfl
@[simp] theorem State.releaseDucks_rvc (s : State) (old : Int) : (s.releaseDucks old).rvc = s.rvc := rfl
@[simp] theorem State.releaseDucks_gle (s : State) (old : Int) : (s.releaseDucks old).gle = s.gle := rfl
@[simp] theorem State.releaseDucks_rsl (s : State) (old : Int) : (s.releaseDucks old).rsl = s.rsl := rfl
@[simp] theorem State.releaseDucks_cmp (s : State) (old : Int) : (s.releaseDucks old).cmp = s.cmp := rfl
@[simp] theorem State.releaseDucks_mnu (s : State) (old : Int) : (s.releaseDucks old).mnu = s.mnu := rfl
@[simp] theorem State.releaseDucks_sct (s : State) (old : Int) : (s.releaseDucks old).sct = s.sct := rfl
@[simp] theorem State.releaseDucks_cal (s : State) (old : Int) : (s.releaseDucks old).cal = s.cal := rfl
@[simp] theorem State.releaseDucks_pending (s : State) (old : Int) : (s.releaseDucks old).pending = s.pending := rfl

@[simp] theorem State.followDucks_timebase (s : State) : (s.followDucks).timebase = s.timebase := rfl
@[simp] theorem State.followDucks_phase (s : State) : (s.followDucks).phase = s.phase := rfl
@[simp] theorem State.followDucks_resetN (s : State) : (s.followDucks).resetN = s.resetN := rfl
@[simp] theorem State.followDucks_cli (s : State) : (s.followDucks).cli = s.cli := rfl
@[simp] theorem State.followDucks_fdp (s : State) : (s.followDucks).fdp = s.fdp := rfl
@[simp] theorem State.followDucks_vin (s : State) : (s.followDucks).vin = s.vin := rfl
@[simp] theorem State.followDucks_rvc (s : State) : (s.followDucks).rvc = s.rvc := rfl
@[simp] theorem State.followDucks_gle (s : State) : (s.followDucks).gle = s.gle := rfl
@[simp] theorem State.followDucks_rsl (s : State) : (s.followDucks).rsl = s.rsl := rfl
@[simp] theorem State.followDucks_cmp (s : State) : (s.followDucks).cmp = s.cmp := rfl
@[simp] theorem State.followDucks_mnu (s : State) : (s.followDucks).mnu = s.mnu := rfl
@[simp] theorem State.followDucks_sct (s : State) : (s.followDucks).sct = s.sct := rfl
@[simp] theorem State.followDucks_cal (s : State) : (s.followDucks).cal = s.cal := rfl
@[simp] theorem State.followDucks_pending (s : State) : (s.followDucks).pending = s.pending := rfl

@[simp] theorem State.settle_timebase (s : State) : (s.settle).timebase = s.timebase := rfl
@[simp] theorem State.settle_phase (s : State) : (s.settle).phase = s.phase := rfl
@[simp] theorem State.settle_resetN (s : State) : (s.settle).resetN = s.resetN := rfl
@[simp] theorem State.settle_fdp (s : State) : (s.settle).fdp = s.fdp := rfl
@[simp] theorem State.settle_vin (s : State) : (s.settle).vin = s.vin := rfl
@[simp] theorem State.settle_rvc (s : State) : (s.settle).rvc = s.rvc := rfl
@[simp] theorem State.settle_gle (s : State) : (s.settle).gle = s.gle := rfl
@[simp] theorem State.settle_rsl (s : State) : (s.settle).rsl = s.rsl := rfl
@[simp] theorem State.settle_cmp (s : State) : (s.settle).cmp = s.cmp := rfl
@[simp] theorem State.settle_mnu (s : State) : (s.settle).mnu = s.mnu := rfl
@[simp] theorem State.settle_sct (s : State) : (s.settle).sct = s.sct := rfl
@[simp] theorem State.settle_cal (s : State) : (s.settle).cal = s.cal := rfl
@[simp] theorem State.settle_pending (s : State) : (s.settle).pending = s.pending := rfl

@[simp] theorem State.startFrontFrames_timebase (s : State) : (s.startFrontFrames).timebase = s.timebase := rfl
@[simp] theorem State.startFrontFrames_phase (s : State) : (s.startFrontFrames).phase = s.phase := rfl
@[simp] theorem State.startFrontFrames_resetN (s : State) : (s.startFrontFrames).resetN = s.resetN := rfl
@[simp] theorem State.startFrontFrames_cli (s : State) : (s.startFrontFrames).cli = s.cli := rfl
@[simp] theorem State.startFrontFrames_fdp (s : State) : (s.startFrontFrames).fdp = s.fdp := rfl
@[simp] theorem State.startFrontFrames_vin (s : State) : (s.startFrontFrames).vin = s.vin := rfl
@[simp] theorem State.startFrontFrames_rvc (s : State) : (s.startFrontFrames).rvc = s.rvc := rfl
@[simp] theorem State.startFrontFrames_gle (s : State) : (s.startFrontFrames).gle = s.gle := rfl
@[simp] theorem State.startFrontFrames_rsl (s : State) : (s.startFrontFrames).rsl = s.rsl := rfl
@[simp] theorem State.startFrontFrames_mnu (s : State) : (s.startFrontFrames).mnu = s.mnu := rfl
@[simp] theorem State.startFrontFrames_sct (s : State) : (s.startFrontFrames).sct = s.sct := rfl
@[simp] theorem State.startFrontFrames_chu (s : State) : (s.startFrontFrames).chu = s.chu := rfl
@[simp] theorem State.startFrontFrames_cal (s : State) : (s.startFrontFrames).cal = s.cal := rfl
@[simp] theorem State.startFrontFrames_pending (s : State) : (s.startFrontFrames).pending = s.pending := rfl

@[simp] theorem State.enablePort_timebase (s : State) (f : Feed) : (s.enablePort f).timebase = s.timebase := rfl
@[simp] theorem State.enablePort_phase (s : State) (f : Feed) : (s.enablePort f).phase = s.phase := rfl
@[simp] theorem State.enablePort_resetN (s : State) (f : Feed) : (s.enablePort f).resetN = s.resetN := rfl
@[simp] theorem State.enablePort_cli (s : State) (f : Feed) : (s.enablePort f).cli = s.cli := rfl
@[simp] theorem State.enablePort_vin (s : State) (f : Feed) : (s.enablePort f).vin = s.vin := rfl
@[simp] theorem State.enablePort_rvc (s : State) (f : Feed) : (s.enablePort f).rvc = s.rvc := rfl
@[simp] theorem State.enablePort_gle (s : State) (f : Feed) : (s.enablePort f).gle = s.gle := rfl
@[simp] theorem State.enablePort_rsl (s : State) (f : Feed) : (s.enablePort f).rsl = s.rsl := rfl
@[simp] theorem State.enablePort_cmp (s : State) (f : Feed) : (s.enablePort f).cmp = s.cmp := rfl
@[simp] theorem State.enablePort_mnu (s : State) (f : Feed) : (s.enablePort f).mnu = s.mnu := rfl
@[simp] theorem State.enablePort_sct (s : State) (f : Feed) : (s.enablePort f).sct = s.sct := rfl
@[simp] theorem State.enablePort_chu (s : State) (f : Feed) : (s.enablePort f).chu = s.chu := rfl
@[simp] theorem State.enablePort_cal (s : State) (f : Feed) : (s.enablePort f).cal = s.cal := rfl
@[simp] theorem State.enablePort_pending (s : State) (f : Feed) : (s.enablePort f).pending = s.pending := rfl

@[simp] theorem State.enableFeeds_timebase (s : State) : (s.enableFeeds).timebase = s.timebase := rfl
@[simp] theorem State.enableFeeds_phase (s : State) : (s.enableFeeds).phase = s.phase := rfl
@[simp] theorem State.enableFeeds_resetN (s : State) : (s.enableFeeds).resetN = s.resetN := rfl
@[simp] theorem State.enableFeeds_cli (s : State) : (s.enableFeeds).cli = s.cli := rfl
@[simp] theorem State.enableFeeds_vin (s : State) : (s.enableFeeds).vin = s.vin := rfl
@[simp] theorem State.enableFeeds_rvc (s : State) : (s.enableFeeds).rvc = s.rvc := rfl
@[simp] theorem State.enableFeeds_gle (s : State) : (s.enableFeeds).gle = s.gle := rfl
@[simp] theorem State.enableFeeds_rsl (s : State) : (s.enableFeeds).rsl = s.rsl := rfl
@[simp] theorem State.enableFeeds_cmp (s : State) : (s.enableFeeds).cmp = s.cmp := rfl
@[simp] theorem State.enableFeeds_mnu (s : State) : (s.enableFeeds).mnu = s.mnu := rfl
@[simp] theorem State.enableFeeds_sct (s : State) : (s.enableFeeds).sct = s.sct := rfl
@[simp] theorem State.enableFeeds_chu (s : State) : (s.enableFeeds).chu = s.chu := rfl
@[simp] theorem State.enableFeeds_cal (s : State) : (s.enableFeeds).cal = s.cal := rfl
@[simp] theorem State.enableFeeds_pending (s : State) : (s.enableFeeds).pending = s.pending := rfl

@[simp] theorem State.guideIdle_timebase (s : State) : (s.guideIdle).timebase = s.timebase := rfl
@[simp] theorem State.guideIdle_phase (s : State) : (s.guideIdle).phase = s.phase := rfl
@[simp] theorem State.guideIdle_resetN (s : State) : (s.guideIdle).resetN = s.resetN := rfl
@[simp] theorem State.guideIdle_cli (s : State) : (s.guideIdle).cli = s.cli := rfl
@[simp] theorem State.guideIdle_fdp (s : State) : (s.guideIdle).fdp = s.fdp := rfl
@[simp] theorem State.guideIdle_vin (s : State) : (s.guideIdle).vin = s.vin := rfl
@[simp] theorem State.guideIdle_rvc (s : State) : (s.guideIdle).rvc = s.rvc := rfl
@[simp] theorem State.guideIdle_rsl (s : State) : (s.guideIdle).rsl = s.rsl := rfl
@[simp] theorem State.guideIdle_cmp (s : State) : (s.guideIdle).cmp = s.cmp := rfl
@[simp] theorem State.guideIdle_mnu (s : State) : (s.guideIdle).mnu = s.mnu := rfl
@[simp] theorem State.guideIdle_sct (s : State) : (s.guideIdle).sct = s.sct := rfl
@[simp] theorem State.guideIdle_chu (s : State) : (s.guideIdle).chu = s.chu := rfl
@[simp] theorem State.guideIdle_cal (s : State) : (s.guideIdle).cal = s.cal := rfl
@[simp] theorem State.guideIdle_pending (s : State) : (s.guideIdle).pending = s.pending := rfl

@[simp] theorem State.forwardKey_timebase (s : State) (i : Seat) (k : Key) (e : KeyEvent) : (s.forwardKey i k e).timebase = s.timebase := rfl
@[simp] theorem State.forwardKey_phase (s : State) (i : Seat) (k : Key) (e : KeyEvent) : (s.forwardKey i k e).phase = s.phase := rfl
@[simp] theorem State.forwardKey_resetN (s : State) (i : Seat) (k : Key) (e : KeyEvent) : (s.forwardKey i k e).resetN = s.resetN := rfl
@[simp] theorem State.forwardKey_fdp (s : State) (i : Seat) (k : Key) (e : KeyEvent) : (s.forwardKey i k e).fdp = s.fdp := rfl
@[simp] theorem State.forwardKey_vin (s : State) (i : Seat) (k : Key) (e : KeyEvent) : (s.forwardKey i k e).vin = s.vin := rfl
@[simp] theorem State.forwardKey_rvc (s : State) (i : Seat) (k : Key) (e : KeyEvent) : (s.forwardKey i k e).rvc = s.rvc := rfl
@[simp] theorem State.forwardKey_gle (s : State) (i : Seat) (k : Key) (e : KeyEvent) : (s.forwardKey i k e).gle = s.gle := rfl
@[simp] theorem State.forwardKey_rsl (s : State) (i : Seat) (k : Key) (e : KeyEvent) : (s.forwardKey i k e).rsl = s.rsl := rfl
@[simp] theorem State.forwardKey_cmp (s : State) (i : Seat) (k : Key) (e : KeyEvent) : (s.forwardKey i k e).cmp = s.cmp := rfl
@[simp] theorem State.forwardKey_mnu (s : State) (i : Seat) (k : Key) (e : KeyEvent) : (s.forwardKey i k e).mnu = s.mnu := rfl
@[simp] theorem State.forwardKey_chu (s : State) (i : Seat) (k : Key) (e : KeyEvent) : (s.forwardKey i k e).chu = s.chu := rfl
@[simp] theorem State.forwardKey_cal (s : State) (i : Seat) (k : Key) (e : KeyEvent) : (s.forwardKey i k e).cal = s.cal := rfl
@[simp] theorem State.forwardKey_pending (s : State) (i : Seat) (k : Key) (e : KeyEvent) : (s.forwardKey i k e).pending = s.pending := rfl

@[simp] theorem State.sendTarget_timebase (s : State) (i : Seat) : (s.sendTarget i).timebase = s.timebase := rfl
@[simp] theorem State.sendTarget_phase (s : State) (i : Seat) : (s.sendTarget i).phase = s.phase := rfl
@[simp] theorem State.sendTarget_resetN (s : State) (i : Seat) : (s.sendTarget i).resetN = s.resetN := rfl
@[simp] theorem State.sendTarget_cli (s : State) (i : Seat) : (s.sendTarget i).cli = s.cli := rfl
@[simp] theorem State.sendTarget_fdp (s : State) (i : Seat) : (s.sendTarget i).fdp = s.fdp := rfl
@[simp] theorem State.sendTarget_vin (s : State) (i : Seat) : (s.sendTarget i).vin = s.vin := rfl
@[simp] theorem State.sendTarget_rvc (s : State) (i : Seat) : (s.sendTarget i).rvc = s.rvc := rfl
@[simp] theorem State.sendTarget_gle (s : State) (i : Seat) : (s.sendTarget i).gle = s.gle := rfl
@[simp] theorem State.sendTarget_cmp (s : State) (i : Seat) : (s.sendTarget i).cmp = s.cmp := rfl
@[simp] theorem State.sendTarget_mnu (s : State) (i : Seat) : (s.sendTarget i).mnu = s.mnu := rfl
@[simp] theorem State.sendTarget_chu (s : State) (i : Seat) : (s.sendTarget i).chu = s.chu := rfl
@[simp] theorem State.sendTarget_cal (s : State) (i : Seat) : (s.sendTarget i).cal = s.cal := rfl
@[simp] theorem State.sendTarget_pending (s : State) (i : Seat) : (s.sendTarget i).pending = s.pending := rfl

@[simp] theorem State.handBacklight_timebase (s : State) (i : Seat) (v : Nat) : (s.handBacklight i v).timebase = s.timebase := rfl
@[simp] theorem State.handBacklight_phase (s : State) (i : Seat) (v : Nat) : (s.handBacklight i v).phase = s.phase := rfl
@[simp] theorem State.handBacklight_resetN (s : State) (i : Seat) (v : Nat) : (s.handBacklight i v).resetN = s.resetN := rfl
@[simp] theorem State.handBacklight_cli (s : State) (i : Seat) (v : Nat) : (s.handBacklight i v).cli = s.cli := rfl
@[simp] theorem State.handBacklight_fdp (s : State) (i : Seat) (v : Nat) : (s.handBacklight i v).fdp = s.fdp := rfl
@[simp] theorem State.handBacklight_vin (s : State) (i : Seat) (v : Nat) : (s.handBacklight i v).vin = s.vin := rfl
@[simp] theorem State.handBacklight_rvc (s : State) (i : Seat) (v : Nat) : (s.handBacklight i v).rvc = s.rvc := rfl
@[simp] theorem State.handBacklight_gle (s : State) (i : Seat) (v : Nat) : (s.handBacklight i v).gle = s.gle := rfl
@[simp] theorem State.handBacklight_cmp (s : State) (i : Seat) (v : Nat) : (s.handBacklight i v).cmp = s.cmp := rfl
@[simp] theorem State.handBacklight_mnu (s : State) (i : Seat) (v : Nat) : (s.handBacklight i v).mnu = s.mnu := rfl
@[simp] theorem State.handBacklight_chu (s : State) (i : Seat) (v : Nat) : (s.handBacklight i v).chu = s.chu := rfl
@[simp] theorem State.handBacklight_cal (s : State) (i : Seat) (v : Nat) : (s.handBacklight i v).cal = s.cal := rfl
@[simp] theorem State.handBacklight_pending (s : State) (i : Seat) (v : Nat) : (s.handBacklight i v).pending = s.pending := rfl

@[simp] theorem State.startBeep_timebase (s : State) (p : Playing) (v : Voice) : (s.startBeep p v).timebase = s.timebase := rfl
@[simp] theorem State.startBeep_phase (s : State) (p : Playing) (v : Voice) : (s.startBeep p v).phase = s.phase := rfl
@[simp] theorem State.startBeep_resetN (s : State) (p : Playing) (v : Voice) : (s.startBeep p v).resetN = s.resetN := rfl
@[simp] theorem State.startBeep_cli (s : State) (p : Playing) (v : Voice) : (s.startBeep p v).cli = s.cli := rfl
@[simp] theorem State.startBeep_fdp (s : State) (p : Playing) (v : Voice) : (s.startBeep p v).fdp = s.fdp := rfl
@[simp] theorem State.startBeep_vin (s : State) (p : Playing) (v : Voice) : (s.startBeep p v).vin = s.vin := rfl
@[simp] theorem State.startBeep_rvc (s : State) (p : Playing) (v : Voice) : (s.startBeep p v).rvc = s.rvc := rfl
@[simp] theorem State.startBeep_gle (s : State) (p : Playing) (v : Voice) : (s.startBeep p v).gle = s.gle := rfl
@[simp] theorem State.startBeep_rsl (s : State) (p : Playing) (v : Voice) : (s.startBeep p v).rsl = s.rsl := rfl
@[simp] theorem State.startBeep_cmp (s : State) (p : Playing) (v : Voice) : (s.startBeep p v).cmp = s.cmp := rfl
@[simp] theorem State.startBeep_mnu (s : State) (p : Playing) (v : Voice) : (s.startBeep p v).mnu = s.mnu := rfl
@[simp] theorem State.startBeep_sct (s : State) (p : Playing) (v : Voice) : (s.startBeep p v).sct = s.sct := rfl
@[simp] theorem State.startBeep_cal (s : State) (p : Playing) (v : Voice) : (s.startBeep p v).cal = s.cal := rfl
@[simp] theorem State.startBeep_pending (s : State) (p : Playing) (v : Voice) : (s.startBeep p v).pending = s.pending := rfl

end Sys2Proof.Machine
end

