-- ==== Sys2Proof/Laws/Chimes.lean ====
section
/-! SUPPORT. What the operations of the chime unit leave unchanged: one lemma for each operation and field. -/

namespace Sys2Proof.Machine

@[simp] theorem State.startOn_timebase (s : State) (ch : Chime) (v : Voice) : (s.startOn ch v).timebase = s.timebase := by
  unfold State.startOn; (repeat' split) <;> simp
@[simp] theorem State.startOn_phase (s : State) (ch : Chime) (v : Voice) : (s.startOn ch v).phase = s.phase := by
  unfold State.startOn; (repeat' split) <;> simp
@[simp] theorem State.startOn_resetN (s : State) (ch : Chime) (v : Voice) : (s.startOn ch v).resetN = s.resetN := by
  unfold State.startOn; (repeat' split) <;> simp
@[simp] theorem State.startOn_cli (s : State) (ch : Chime) (v : Voice) : (s.startOn ch v).cli = s.cli := by
  unfold State.startOn; (repeat' split) <;> simp
@[simp] theorem State.startOn_fdp (s : State) (ch : Chime) (v : Voice) : (s.startOn ch v).fdp = s.fdp := by
  unfold State.startOn; (repeat' split) <;> simp
@[simp] theorem State.startOn_vin (s : State) (ch : Chime) (v : Voice) : (s.startOn ch v).vin = s.vin := by
  unfold State.startOn; (repeat' split) <;> simp
@[simp] theorem State.startOn_rvc (s : State) (ch : Chime) (v : Voice) : (s.startOn ch v).rvc = s.rvc := by
  unfold State.startOn; (repeat' split) <;> simp
@[simp] theorem State.startOn_gle (s : State) (ch : Chime) (v : Voice) : (s.startOn ch v).gle = s.gle := by
  unfold State.startOn; (repeat' split) <;> simp
@[simp] theorem State.startOn_rsl (s : State) (ch : Chime) (v : Voice) : (s.startOn ch v).rsl = s.rsl := by
  unfold State.startOn; (repeat' split) <;> simp
@[simp] theorem State.startOn_cmp (s : State) (ch : Chime) (v : Voice) : (s.startOn ch v).cmp = s.cmp := by
  unfold State.startOn; (repeat' split) <;> simp
@[simp] theorem State.startOn_mnu (s : State) (ch : Chime) (v : Voice) : (s.startOn ch v).mnu = s.mnu := by
  unfold State.startOn; (repeat' split) <;> simp
@[simp] theorem State.startOn_sct (s : State) (ch : Chime) (v : Voice) : (s.startOn ch v).sct = s.sct := by
  unfold State.startOn; (repeat' split) <;> simp
@[simp] theorem State.startOn_cal (s : State) (ch : Chime) (v : Voice) : (s.startOn ch v).cal = s.cal := by
  unfold State.startOn; (repeat' split) <;> simp
@[simp] theorem State.startOn_pending (s : State) (ch : Chime) (v : Voice) : (s.startOn ch v).pending = s.pending := by
  unfold State.startOn; (repeat' split) <;> simp

@[simp] theorem State.place_timebase (s : State) (ch : Chime) : (s.place ch).timebase = s.timebase := by
  unfold State.place; (repeat' split) <;> simp
@[simp] theorem State.place_phase (s : State) (ch : Chime) : (s.place ch).phase = s.phase := by
  unfold State.place; (repeat' split) <;> simp
@[simp] theorem State.place_resetN (s : State) (ch : Chime) : (s.place ch).resetN = s.resetN := by
  unfold State.place; (repeat' split) <;> simp
@[simp] theorem State.place_cli (s : State) (ch : Chime) : (s.place ch).cli = s.cli := by
  unfold State.place; (repeat' split) <;> simp
@[simp] theorem State.place_fdp (s : State) (ch : Chime) : (s.place ch).fdp = s.fdp := by
  unfold State.place; (repeat' split) <;> simp
@[simp] theorem State.place_vin (s : State) (ch : Chime) : (s.place ch).vin = s.vin := by
  unfold State.place; (repeat' split) <;> simp
@[simp] theorem State.place_rvc (s : State) (ch : Chime) : (s.place ch).rvc = s.rvc := by
  unfold State.place; (repeat' split) <;> simp
@[simp] theorem State.place_gle (s : State) (ch : Chime) : (s.place ch).gle = s.gle := by
  unfold State.place; (repeat' split) <;> simp
@[simp] theorem State.place_rsl (s : State) (ch : Chime) : (s.place ch).rsl = s.rsl := by
  unfold State.place; (repeat' split) <;> simp
@[simp] theorem State.place_cmp (s : State) (ch : Chime) : (s.place ch).cmp = s.cmp := by
  unfold State.place; (repeat' split) <;> simp
@[simp] theorem State.place_mnu (s : State) (ch : Chime) : (s.place ch).mnu = s.mnu := by
  unfold State.place; (repeat' split) <;> simp
@[simp] theorem State.place_sct (s : State) (ch : Chime) : (s.place ch).sct = s.sct := by
  unfold State.place; (repeat' split) <;> simp
@[simp] theorem State.place_cal (s : State) (ch : Chime) : (s.place ch).cal = s.cal := by
  unfold State.place; (repeat' split) <;> simp
@[simp] theorem State.place_pending (s : State) (ch : Chime) : (s.place ch).pending = s.pending := by
  unfold State.place; (repeat' split) <;> simp

@[simp] theorem State.endChime_timebase (s : State) (ch : Chime) (o : ChimeOutcome) : (s.endChime ch o).timebase = s.timebase := by
  unfold State.endChime; (repeat' split) <;> simp
@[simp] theorem State.endChime_phase (s : State) (ch : Chime) (o : ChimeOutcome) : (s.endChime ch o).phase = s.phase := by
  unfold State.endChime; (repeat' split) <;> simp
@[simp] theorem State.endChime_resetN (s : State) (ch : Chime) (o : ChimeOutcome) : (s.endChime ch o).resetN = s.resetN := by
  unfold State.endChime; (repeat' split) <;> simp
@[simp] theorem State.endChime_fdp (s : State) (ch : Chime) (o : ChimeOutcome) : (s.endChime ch o).fdp = s.fdp := by
  unfold State.endChime; (repeat' split) <;> simp
@[simp] theorem State.endChime_vin (s : State) (ch : Chime) (o : ChimeOutcome) : (s.endChime ch o).vin = s.vin := by
  unfold State.endChime; (repeat' split) <;> simp
@[simp] theorem State.endChime_gle (s : State) (ch : Chime) (o : ChimeOutcome) : (s.endChime ch o).gle = s.gle := by
  unfold State.endChime; (repeat' split) <;> simp
@[simp] theorem State.endChime_rsl (s : State) (ch : Chime) (o : ChimeOutcome) : (s.endChime ch o).rsl = s.rsl := by
  unfold State.endChime; (repeat' split) <;> simp
@[simp] theorem State.endChime_cmp (s : State) (ch : Chime) (o : ChimeOutcome) : (s.endChime ch o).cmp = s.cmp := by
  unfold State.endChime; (repeat' split) <;> simp
@[simp] theorem State.endChime_mnu (s : State) (ch : Chime) (o : ChimeOutcome) : (s.endChime ch o).mnu = s.mnu := by
  unfold State.endChime; (repeat' split) <;> simp
@[simp] theorem State.endChime_sct (s : State) (ch : Chime) (o : ChimeOutcome) : (s.endChime ch o).sct = s.sct := by
  unfold State.endChime; (repeat' split) <;> simp
@[simp] theorem State.endChime_chu (s : State) (ch : Chime) (o : ChimeOutcome) : (s.endChime ch o).chu = s.chu := by
  unfold State.endChime; (repeat' split) <;> simp
@[simp] theorem State.endChime_cal (s : State) (ch : Chime) (o : ChimeOutcome) : (s.endChime ch o).cal = s.cal := by
  unfold State.endChime; (repeat' split) <;> simp
@[simp] theorem State.endChime_pending (s : State) (ch : Chime) (o : ChimeOutcome) : (s.endChime ch o).pending = s.pending := by
  unfold State.endChime; (repeat' split) <;> simp

@[simp] theorem State.joinQueue_timebase (s : State) (ch : Chime) : ((s.joinQueue ch).1).timebase = s.timebase := by
  unfold State.joinQueue; (repeat' split) <;> simp
@[simp] theorem State.joinQueue_phase (s : State) (ch : Chime) : ((s.joinQueue ch).1).phase = s.phase := by
  unfold State.joinQueue; (repeat' split) <;> simp
@[simp] theorem State.joinQueue_resetN (s : State) (ch : Chime) : ((s.joinQueue ch).1).resetN = s.resetN := by
  unfold State.joinQueue; (repeat' split) <;> simp
@[simp] theorem State.joinQueue_fdp (s : State) (ch : Chime) : ((s.joinQueue ch).1).fdp = s.fdp := by
  unfold State.joinQueue; (repeat' split) <;> simp
@[simp] theorem State.joinQueue_vin (s : State) (ch : Chime) : ((s.joinQueue ch).1).vin = s.vin := by
  unfold State.joinQueue; (repeat' split) <;> simp
@[simp] theorem State.joinQueue_gle (s : State) (ch : Chime) : ((s.joinQueue ch).1).gle = s.gle := by
  unfold State.joinQueue; (repeat' split) <;> simp
@[simp] theorem State.joinQueue_rsl (s : State) (ch : Chime) : ((s.joinQueue ch).1).rsl = s.rsl := by
  unfold State.joinQueue; (repeat' split) <;> simp
@[simp] theorem State.joinQueue_cmp (s : State) (ch : Chime) : ((s.joinQueue ch).1).cmp = s.cmp := by
  unfold State.joinQueue; (repeat' split) <;> simp
@[simp] theorem State.joinQueue_mnu (s : State) (ch : Chime) : ((s.joinQueue ch).1).mnu = s.mnu := by
  unfold State.joinQueue; (repeat' split) <;> simp
@[simp] theorem State.joinQueue_sct (s : State) (ch : Chime) : ((s.joinQueue ch).1).sct = s.sct := by
  unfold State.joinQueue; (repeat' split) <;> simp
@[simp] theorem State.joinQueue_cal (s : State) (ch : Chime) : ((s.joinQueue ch).1).cal = s.cal := by
  unfold State.joinQueue; (repeat' split) <;> simp
@[simp] theorem State.joinQueue_pending (s : State) (ch : Chime) : ((s.joinQueue ch).1).pending = s.pending := by
  unfold State.joinQueue; (repeat' split) <;> simp

@[simp] theorem State.fillOnce_timebase (s : State) : (s.fillOnce).timebase = s.timebase := by
  unfold State.fillOnce; (repeat' split) <;> simp
@[simp] theorem State.fillOnce_phase (s : State) : (s.fillOnce).phase = s.phase := by
  unfold State.fillOnce; (repeat' split) <;> simp
@[simp] theorem State.fillOnce_resetN (s : State) : (s.fillOnce).resetN = s.resetN := by
  unfold State.fillOnce; (repeat' split) <;> simp
@[simp] theorem State.fillOnce_cli (s : State) : (s.fillOnce).cli = s.cli := by
  unfold State.fillOnce; (repeat' split) <;> simp
@[simp] theorem State.fillOnce_fdp (s : State) : (s.fillOnce).fdp = s.fdp := by
  unfold State.fillOnce; (repeat' split) <;> simp
@[simp] theorem State.fillOnce_vin (s : State) : (s.fillOnce).vin = s.vin := by
  unfold State.fillOnce; (repeat' split) <;> simp
@[simp] theorem State.fillOnce_rvc (s : State) : (s.fillOnce).rvc = s.rvc := by
  unfold State.fillOnce; (repeat' split) <;> simp
@[simp] theorem State.fillOnce_gle (s : State) : (s.fillOnce).gle = s.gle := by
  unfold State.fillOnce; (repeat' split) <;> simp
@[simp] theorem State.fillOnce_rsl (s : State) : (s.fillOnce).rsl = s.rsl := by
  unfold State.fillOnce; (repeat' split) <;> simp
@[simp] theorem State.fillOnce_cmp (s : State) : (s.fillOnce).cmp = s.cmp := by
  unfold State.fillOnce; (repeat' split) <;> simp
@[simp] theorem State.fillOnce_mnu (s : State) : (s.fillOnce).mnu = s.mnu := by
  unfold State.fillOnce; (repeat' split) <;> simp
@[simp] theorem State.fillOnce_sct (s : State) : (s.fillOnce).sct = s.sct := by
  unfold State.fillOnce; (repeat' split) <;> simp
@[simp] theorem State.fillOnce_cal (s : State) : (s.fillOnce).cal = s.cal := by
  unfold State.fillOnce; (repeat' split) <;> simp
@[simp] theorem State.fillOnce_pending (s : State) : (s.fillOnce).pending = s.pending := by
  unfold State.fillOnce; (repeat' split) <;> simp

@[simp] theorem State.fill_timebase (s : State) : (s.fill).timebase = s.timebase := by
  unfold State.fill; (repeat' split) <;> simp
@[simp] theorem State.fill_phase (s : State) : (s.fill).phase = s.phase := by
  unfold State.fill; (repeat' split) <;> simp
@[simp] theorem State.fill_resetN (s : State) : (s.fill).resetN = s.resetN := by
  unfold State.fill; (repeat' split) <;> simp
@[simp] theorem State.fill_cli (s : State) : (s.fill).cli = s.cli := by
  unfold State.fill; (repeat' split) <;> simp
@[simp] theorem State.fill_fdp (s : State) : (s.fill).fdp = s.fdp := by
  unfold State.fill; (repeat' split) <;> simp
@[simp] theorem State.fill_vin (s : State) : (s.fill).vin = s.vin := by
  unfold State.fill; (repeat' split) <;> simp
@[simp] theorem State.fill_rvc (s : State) : (s.fill).rvc = s.rvc := by
  unfold State.fill; (repeat' split) <;> simp
@[simp] theorem State.fill_gle (s : State) : (s.fill).gle = s.gle := by
  unfold State.fill; (repeat' split) <;> simp
@[simp] theorem State.fill_rsl (s : State) : (s.fill).rsl = s.rsl := by
  unfold State.fill; (repeat' split) <;> simp
@[simp] theorem State.fill_cmp (s : State) : (s.fill).cmp = s.cmp := by
  unfold State.fill; (repeat' split) <;> simp
@[simp] theorem State.fill_mnu (s : State) : (s.fill).mnu = s.mnu := by
  unfold State.fill; (repeat' split) <;> simp
@[simp] theorem State.fill_sct (s : State) : (s.fill).sct = s.sct := by
  unfold State.fill; (repeat' split) <;> simp
@[simp] theorem State.fill_cal (s : State) : (s.fill).cal = s.cal := by
  unfold State.fill; (repeat' split) <;> simp
@[simp] theorem State.fill_pending (s : State) : (s.fill).pending = s.pending := by
  unfold State.fill; (repeat' split) <;> simp

@[simp] theorem State.preempted_timebase (s : State) (v : Option Playing) : (s.preempted v).timebase = s.timebase := by
  unfold State.preempted; (repeat' split) <;> simp <;> (repeat' split) <;> simp
@[simp] theorem State.preempted_phase (s : State) (v : Option Playing) : (s.preempted v).phase = s.phase := by
  unfold State.preempted; (repeat' split) <;> simp <;> (repeat' split) <;> simp
@[simp] theorem State.preempted_resetN (s : State) (v : Option Playing) : (s.preempted v).resetN = s.resetN := by
  unfold State.preempted; (repeat' split) <;> simp <;> (repeat' split) <;> simp
@[simp] theorem State.preempted_fdp (s : State) (v : Option Playing) : (s.preempted v).fdp = s.fdp := by
  unfold State.preempted; (repeat' split) <;> simp <;> (repeat' split) <;> simp
@[simp] theorem State.preempted_vin (s : State) (v : Option Playing) : (s.preempted v).vin = s.vin := by
  unfold State.preempted; (repeat' split) <;> simp <;> (repeat' split) <;> simp
@[simp] theorem State.preempted_gle (s : State) (v : Option Playing) : (s.preempted v).gle = s.gle := by
  unfold State.preempted; (repeat' split) <;> simp <;> (repeat' split) <;> simp
@[simp] theorem State.preempted_rsl (s : State) (v : Option Playing) : (s.preempted v).rsl = s.rsl := by
  unfold State.preempted; (repeat' split) <;> simp <;> (repeat' split) <;> simp
@[simp] theorem State.preempted_cmp (s : State) (v : Option Playing) : (s.preempted v).cmp = s.cmp := by
  unfold State.preempted; (repeat' split) <;> simp <;> (repeat' split) <;> simp
@[simp] theorem State.preempted_mnu (s : State) (v : Option Playing) : (s.preempted v).mnu = s.mnu := by
  unfold State.preempted; (repeat' split) <;> simp <;> (repeat' split) <;> simp
@[simp] theorem State.preempted_sct (s : State) (v : Option Playing) : (s.preempted v).sct = s.sct := by
  unfold State.preempted; (repeat' split) <;> simp <;> (repeat' split) <;> simp
@[simp] theorem State.preempted_cal (s : State) (v : Option Playing) : (s.preempted v).cal = s.cal := by
  unfold State.preempted; (repeat' split) <;> simp <;> (repeat' split) <;> simp
@[simp] theorem State.preempted_pending (s : State) (v : Option Playing) : (s.preempted v).pending = s.pending := by
  unfold State.preempted; (repeat' split) <;> simp <;> (repeat' split) <;> simp

@[simp] theorem State.preempt_timebase (s : State) (ch : Chime) : (s.preempt ch).timebase = s.timebase := by
  unfold State.preempt; (repeat' split) <;> simp
@[simp] theorem State.preempt_phase (s : State) (ch : Chime) : (s.preempt ch).phase = s.phase := by
  unfold State.preempt; (repeat' split) <;> simp
@[simp] theorem State.preempt_resetN (s : State) (ch : Chime) : (s.preempt ch).resetN = s.resetN := by
  unfold State.preempt; (repeat' split) <;> simp
@[simp] theorem State.preempt_fdp (s : State) (ch : Chime) : (s.preempt ch).fdp = s.fdp := by
  unfold State.preempt; (repeat' split) <;> simp
@[simp] theorem State.preempt_vin (s : State) (ch : Chime) : (s.preempt ch).vin = s.vin := by
  unfold State.preempt; (repeat' split) <;> simp
@[simp] theorem State.preempt_gle (s : State) (ch : Chime) : (s.preempt ch).gle = s.gle := by
  unfold State.preempt; (repeat' split) <;> simp
@[simp] theorem State.preempt_rsl (s : State) (ch : Chime) : (s.preempt ch).rsl = s.rsl := by
  unfold State.preempt; (repeat' split) <;> simp
@[simp] theorem State.preempt_cmp (s : State) (ch : Chime) : (s.preempt ch).cmp = s.cmp := by
  unfold State.preempt; (repeat' split) <;> simp
@[simp] theorem State.preempt_mnu (s : State) (ch : Chime) : (s.preempt ch).mnu = s.mnu := by
  unfold State.preempt; (repeat' split) <;> simp
@[simp] theorem State.preempt_sct (s : State) (ch : Chime) : (s.preempt ch).sct = s.sct := by
  unfold State.preempt; (repeat' split) <;> simp
@[simp] theorem State.preempt_cal (s : State) (ch : Chime) : (s.preempt ch).cal = s.cal := by
  unfold State.preempt; (repeat' split) <;> simp
@[simp] theorem State.preempt_pending (s : State) (ch : Chime) : (s.preempt ch).pending = s.pending := by
  unfold State.preempt; (repeat' split) <;> simp

@[simp] theorem State.arrive_timebase (s : State) (r : ChimeRequest) : ((s.arrive r).1).timebase = s.timebase := by
  unfold State.arrive; (repeat' split) <;> simp <;> (repeat' split) <;> simp
@[simp] theorem State.arrive_phase (s : State) (r : ChimeRequest) : ((s.arrive r).1).phase = s.phase := by
  unfold State.arrive; (repeat' split) <;> simp <;> (repeat' split) <;> simp
@[simp] theorem State.arrive_resetN (s : State) (r : ChimeRequest) : ((s.arrive r).1).resetN = s.resetN := by
  unfold State.arrive; (repeat' split) <;> simp <;> (repeat' split) <;> simp
@[simp] theorem State.arrive_fdp (s : State) (r : ChimeRequest) : ((s.arrive r).1).fdp = s.fdp := by
  unfold State.arrive; (repeat' split) <;> simp <;> (repeat' split) <;> simp
@[simp] theorem State.arrive_vin (s : State) (r : ChimeRequest) : ((s.arrive r).1).vin = s.vin := by
  unfold State.arrive; (repeat' split) <;> simp <;> (repeat' split) <;> simp
@[simp] theorem State.arrive_gle (s : State) (r : ChimeRequest) : ((s.arrive r).1).gle = s.gle := by
  unfold State.arrive; (repeat' split) <;> simp <;> (repeat' split) <;> simp
@[simp] theorem State.arrive_rsl (s : State) (r : ChimeRequest) : ((s.arrive r).1).rsl = s.rsl := by
  unfold State.arrive; (repeat' split) <;> simp <;> (repeat' split) <;> simp
@[simp] theorem State.arrive_cmp (s : State) (r : ChimeRequest) : ((s.arrive r).1).cmp = s.cmp := by
  unfold State.arrive; (repeat' split) <;> simp <;> (repeat' split) <;> simp
@[simp] theorem State.arrive_mnu (s : State) (r : ChimeRequest) : ((s.arrive r).1).mnu = s.mnu := by
  unfold State.arrive; (repeat' split) <;> simp <;> (repeat' split) <;> simp
@[simp] theorem State.arrive_sct (s : State) (r : ChimeRequest) : ((s.arrive r).1).sct = s.sct := by
  unfold State.arrive; (repeat' split) <;> simp <;> (repeat' split) <;> simp
@[simp] theorem State.arrive_cal (s : State) (r : ChimeRequest) : ((s.arrive r).1).cal = s.cal := by
  unfold State.arrive; (repeat' split) <;> simp <;> (repeat' split) <;> simp
@[simp] theorem State.arrive_pending (s : State) (r : ChimeRequest) : ((s.arrive r).1).pending = s.pending := by
  unfold State.arrive; (repeat' split) <;> simp <;> (repeat' split) <;> simp

@[simp] theorem State.click_timebase (s : State) (i : Seat) (p : Nat) : (s.click i p).timebase = s.timebase := by
  unfold State.click; (repeat' split) <;> simp
@[simp] theorem State.click_phase (s : State) (i : Seat) (p : Nat) : (s.click i p).phase = s.phase := by
  unfold State.click; (repeat' split) <;> simp
@[simp] theorem State.click_resetN (s : State) (i : Seat) (p : Nat) : (s.click i p).resetN = s.resetN := by
  unfold State.click; (repeat' split) <;> simp
@[simp] theorem State.click_fdp (s : State) (i : Seat) (p : Nat) : (s.click i p).fdp = s.fdp := by
  unfold State.click; (repeat' split) <;> simp
@[simp] theorem State.click_vin (s : State) (i : Seat) (p : Nat) : (s.click i p).vin = s.vin := by
  unfold State.click; (repeat' split) <;> simp
@[simp] theorem State.click_gle (s : State) (i : Seat) (p : Nat) : (s.click i p).gle = s.gle := by
  unfold State.click; (repeat' split) <;> simp
@[simp] theorem State.click_rsl (s : State) (i : Seat) (p : Nat) : (s.click i p).rsl = s.rsl := by
  unfold State.click; (repeat' split) <;> simp
@[simp] theorem State.click_cmp (s : State) (i : Seat) (p : Nat) : (s.click i p).cmp = s.cmp := by
  unfold State.click; (repeat' split) <;> simp
@[simp] theorem State.click_mnu (s : State) (i : Seat) (p : Nat) : (s.click i p).mnu = s.mnu := by
  unfold State.click; (repeat' split) <;> simp
@[simp] theorem State.click_sct (s : State) (i : Seat) (p : Nat) : (s.click i p).sct = s.sct := by
  unfold State.click; (repeat' split) <;> simp
@[simp] theorem State.click_cal (s : State) (i : Seat) (p : Nat) : (s.click i p).cal = s.cal := by
  unfold State.click; (repeat' split) <;> simp
@[simp] theorem State.click_pending (s : State) (i : Seat) (p : Nat) : (s.click i p).pending = s.pending := by
  unfold State.click; (repeat' split) <;> simp

@[simp] theorem State.engageChime_timebase (s : State) : (s.engageChime).timebase = s.timebase := by
  unfold State.engageChime; (repeat' split) <;> simp
@[simp] theorem State.engageChime_phase (s : State) : (s.engageChime).phase = s.phase := by
  unfold State.engageChime; (repeat' split) <;> simp
@[simp] theorem State.engageChime_resetN (s : State) : (s.engageChime).resetN = s.resetN := by
  unfold State.engageChime; (repeat' split) <;> simp
@[simp] theorem State.engageChime_fdp (s : State) : (s.engageChime).fdp = s.fdp := by
  unfold State.engageChime; (repeat' split) <;> simp
@[simp] theorem State.engageChime_vin (s : State) : (s.engageChime).vin = s.vin := by
  unfold State.engageChime; (repeat' split) <;> simp
@[simp] theorem State.engageChime_gle (s : State) : (s.engageChime).gle = s.gle := by
  unfold State.engageChime; (repeat' split) <;> simp
@[simp] theorem State.engageChime_rsl (s : State) : (s.engageChime).rsl = s.rsl := by
  unfold State.engageChime; (repeat' split) <;> simp
@[simp] theorem State.engageChime_cmp (s : State) : (s.engageChime).cmp = s.cmp := by
  unfold State.engageChime; (repeat' split) <;> simp
@[simp] theorem State.engageChime_mnu (s : State) : (s.engageChime).mnu = s.mnu := by
  unfold State.engageChime; (repeat' split) <;> simp
@[simp] theorem State.engageChime_sct (s : State) : (s.engageChime).sct = s.sct := by
  unfold State.engageChime; (repeat' split) <;> simp
@[simp] theorem State.engageChime_cal (s : State) : (s.engageChime).cal = s.cal := by
  unfold State.engageChime; (repeat' split) <;> simp
@[simp] theorem State.engageChime_pending (s : State) : (s.engageChime).pending = s.pending := by
  unfold State.engageChime; (repeat' split) <;> simp

@[simp] theorem State.faultChime_timebase (s : State) : (s.faultChime).timebase = s.timebase := by
  unfold State.faultChime; (repeat' split) <;> simp
@[simp] theorem State.faultChime_phase (s : State) : (s.faultChime).phase = s.phase := by
  unfold State.faultChime; (repeat' split) <;> simp
@[simp] theorem State.faultChime_resetN (s : State) : (s.faultChime).resetN = s.resetN := by
  unfold State.faultChime; (repeat' split) <;> simp
@[simp] theorem State.faultChime_fdp (s : State) : (s.faultChime).fdp = s.fdp := by
  unfold State.faultChime; (repeat' split) <;> simp
@[simp] theorem State.faultChime_vin (s : State) : (s.faultChime).vin = s.vin := by
  unfold State.faultChime; (repeat' split) <;> simp
@[simp] theorem State.faultChime_gle (s : State) : (s.faultChime).gle = s.gle := by
  unfold State.faultChime; (repeat' split) <;> simp
@[simp] theorem State.faultChime_rsl (s : State) : (s.faultChime).rsl = s.rsl := by
  unfold State.faultChime; (repeat' split) <;> simp
@[simp] theorem State.faultChime_cmp (s : State) : (s.faultChime).cmp = s.cmp := by
  unfold State.faultChime; (repeat' split) <;> simp
@[simp] theorem State.faultChime_mnu (s : State) : (s.faultChime).mnu = s.mnu := by
  unfold State.faultChime; (repeat' split) <;> simp
@[simp] theorem State.faultChime_sct (s : State) : (s.faultChime).sct = s.sct := by
  unfold State.faultChime; (repeat' split) <;> simp
@[simp] theorem State.faultChime_cal (s : State) : (s.faultChime).cal = s.cal := by
  unfold State.faultChime; (repeat' split) <;> simp
@[simp] theorem State.faultChime_pending (s : State) : (s.faultChime).pending = s.pending := by
  unfold State.faultChime; (repeat' split) <;> simp

@[simp] theorem State.removeChime_timebase (s : State) (p : Chime → Bool) : (s.removeChime p).timebase = s.timebase := by
  unfold State.removeChime; (repeat' split) <;> simp
@[simp] theorem State.removeChime_phase (s : State) (p : Chime → Bool) : (s.removeChime p).phase = s.phase := by
  unfold State.removeChime; (repeat' split) <;> simp
@[simp] theorem State.removeChime_resetN (s : State) (p : Chime → Bool) : (s.removeChime p).resetN = s.resetN := by
  unfold State.removeChime; (repeat' split) <;> simp
@[simp] theorem State.removeChime_cli (s : State) (p : Chime → Bool) : (s.removeChime p).cli = s.cli := by
  unfold State.removeChime; (repeat' split) <;> simp
@[simp] theorem State.removeChime_fdp (s : State) (p : Chime → Bool) : (s.removeChime p).fdp = s.fdp := by
  unfold State.removeChime; (repeat' split) <;> simp
@[simp] theorem State.removeChime_vin (s : State) (p : Chime → Bool) : (s.removeChime p).vin = s.vin := by
  unfold State.removeChime; (repeat' split) <;> simp
@[simp] theorem State.removeChime_rvc (s : State) (p : Chime → Bool) : (s.removeChime p).rvc = s.rvc := by
  unfold State.removeChime; (repeat' split) <;> simp
@[simp] theorem State.removeChime_gle (s : State) (p : Chime → Bool) : (s.removeChime p).gle = s.gle := by
  unfold State.removeChime; (repeat' split) <;> simp
@[simp] theorem State.removeChime_rsl (s : State) (p : Chime → Bool) : (s.removeChime p).rsl = s.rsl := by
  unfold State.removeChime; (repeat' split) <;> simp
@[simp] theorem State.removeChime_cmp (s : State) (p : Chime → Bool) : (s.removeChime p).cmp = s.cmp := by
  unfold State.removeChime; (repeat' split) <;> simp
@[simp] theorem State.removeChime_mnu (s : State) (p : Chime → Bool) : (s.removeChime p).mnu = s.mnu := by
  unfold State.removeChime; (repeat' split) <;> simp
@[simp] theorem State.removeChime_sct (s : State) (p : Chime → Bool) : (s.removeChime p).sct = s.sct := by
  unfold State.removeChime; (repeat' split) <;> simp
@[simp] theorem State.removeChime_cal (s : State) (p : Chime → Bool) : (s.removeChime p).cal = s.cal := by
  unfold State.removeChime; (repeat' split) <;> simp
@[simp] theorem State.removeChime_pending (s : State) (p : Chime → Bool) : (s.removeChime p).pending = s.pending := by
  unfold State.removeChime; (repeat' split) <;> simp

@[simp] theorem State.cancelFaultChime_timebase (s : State) : (s.cancelFaultChime).timebase = s.timebase := by
  unfold State.cancelFaultChime; (repeat' split) <;> simp
@[simp] theorem State.cancelFaultChime_phase (s : State) : (s.cancelFaultChime).phase = s.phase := by
  unfold State.cancelFaultChime; (repeat' split) <;> simp
@[simp] theorem State.cancelFaultChime_resetN (s : State) : (s.cancelFaultChime).resetN = s.resetN := by
  unfold State.cancelFaultChime; (repeat' split) <;> simp
@[simp] theorem State.cancelFaultChime_cli (s : State) : (s.cancelFaultChime).cli = s.cli := by
  unfold State.cancelFaultChime; (repeat' split) <;> simp
@[simp] theorem State.cancelFaultChime_fdp (s : State) : (s.cancelFaultChime).fdp = s.fdp := by
  unfold State.cancelFaultChime; (repeat' split) <;> simp
@[simp] theorem State.cancelFaultChime_vin (s : State) : (s.cancelFaultChime).vin = s.vin := by
  unfold State.cancelFaultChime; (repeat' split) <;> simp
@[simp] theorem State.cancelFaultChime_gle (s : State) : (s.cancelFaultChime).gle = s.gle := by
  unfold State.cancelFaultChime; (repeat' split) <;> simp
@[simp] theorem State.cancelFaultChime_rsl (s : State) : (s.cancelFaultChime).rsl = s.rsl := by
  unfold State.cancelFaultChime; (repeat' split) <;> simp
@[simp] theorem State.cancelFaultChime_cmp (s : State) : (s.cancelFaultChime).cmp = s.cmp := by
  unfold State.cancelFaultChime; (repeat' split) <;> simp
@[simp] theorem State.cancelFaultChime_mnu (s : State) : (s.cancelFaultChime).mnu = s.mnu := by
  unfold State.cancelFaultChime; (repeat' split) <;> simp
@[simp] theorem State.cancelFaultChime_sct (s : State) : (s.cancelFaultChime).sct = s.sct := by
  unfold State.cancelFaultChime; (repeat' split) <;> simp
@[simp] theorem State.cancelFaultChime_cal (s : State) : (s.cancelFaultChime).cal = s.cal := by
  unfold State.cancelFaultChime; (repeat' split) <;> simp
@[simp] theorem State.cancelFaultChime_pending (s : State) : (s.cancelFaultChime).pending = s.pending := by
  unfold State.cancelFaultChime; (repeat' split) <;> simp

@[simp] theorem State.judgePark_timebase (s : State) : (s.judgePark).timebase = s.timebase := by
  unfold State.judgePark; (repeat' split) <;> simp <;> (repeat' split) <;> simp
@[simp] theorem State.judgePark_phase (s : State) : (s.judgePark).phase = s.phase := by
  unfold State.judgePark; (repeat' split) <;> simp <;> (repeat' split) <;> simp
@[simp] theorem State.judgePark_resetN (s : State) : (s.judgePark).resetN = s.resetN := by
  unfold State.judgePark; (repeat' split) <;> simp <;> (repeat' split) <;> simp
@[simp] theorem State.judgePark_fdp (s : State) : (s.judgePark).fdp = s.fdp := by
  unfold State.judgePark; (repeat' split) <;> simp <;> (repeat' split) <;> simp
@[simp] theorem State.judgePark_vin (s : State) : (s.judgePark).vin = s.vin := by
  unfold State.judgePark; (repeat' split) <;> simp <;> (repeat' split) <;> simp
@[simp] theorem State.judgePark_gle (s : State) : (s.judgePark).gle = s.gle := by
  unfold State.judgePark; (repeat' split) <;> simp <;> (repeat' split) <;> simp
@[simp] theorem State.judgePark_rsl (s : State) : (s.judgePark).rsl = s.rsl := by
  unfold State.judgePark; (repeat' split) <;> simp <;> (repeat' split) <;> simp
@[simp] theorem State.judgePark_cmp (s : State) : (s.judgePark).cmp = s.cmp := by
  unfold State.judgePark; (repeat' split) <;> simp <;> (repeat' split) <;> simp
@[simp] theorem State.judgePark_mnu (s : State) : (s.judgePark).mnu = s.mnu := by
  unfold State.judgePark; (repeat' split) <;> simp <;> (repeat' split) <;> simp
@[simp] theorem State.judgePark_sct (s : State) : (s.judgePark).sct = s.sct := by
  unfold State.judgePark; (repeat' split) <;> simp <;> (repeat' split) <;> simp
@[simp] theorem State.judgePark_cal (s : State) : (s.judgePark).cal = s.cal := by
  unfold State.judgePark; (repeat' split) <;> simp <;> (repeat' split) <;> simp
@[simp] theorem State.judgePark_pending (s : State) : (s.judgePark).pending = s.pending := by
  unfold State.judgePark; (repeat' split) <;> simp <;> (repeat' split) <;> simp

@[simp] theorem State.endAll_timebase (s : State) (l : List Chime) : (s.endAll l).timebase = s.timebase := by
  induction l generalizing s with
  | nil => rfl
  | cons ch rest ih => rw [State.endAll, ih]; simp
@[simp] theorem State.endAll_phase (s : State) (l : List Chime) : (s.endAll l).phase = s.phase := by
  induction l generalizing s with
  | nil => rfl
  | cons ch rest ih => rw [State.endAll, ih]; simp
@[simp] theorem State.endAll_resetN (s : State) (l : List Chime) : (s.endAll l).resetN = s.resetN := by
  induction l generalizing s with
  | nil => rfl
  | cons ch rest ih => rw [State.endAll, ih]; simp
@[simp] theorem State.endAll_fdp (s : State) (l : List Chime) : (s.endAll l).fdp = s.fdp := by
  induction l generalizing s with
  | nil => rfl
  | cons ch rest ih => rw [State.endAll, ih]; simp
@[simp] theorem State.endAll_vin (s : State) (l : List Chime) : (s.endAll l).vin = s.vin := by
  induction l generalizing s with
  | nil => rfl
  | cons ch rest ih => rw [State.endAll, ih]; simp
@[simp] theorem State.endAll_gle (s : State) (l : List Chime) : (s.endAll l).gle = s.gle := by
  induction l generalizing s with
  | nil => rfl
  | cons ch rest ih => rw [State.endAll, ih]; simp
@[simp] theorem State.endAll_rsl (s : State) (l : List Chime) : (s.endAll l).rsl = s.rsl := by
  induction l generalizing s with
  | nil => rfl
  | cons ch rest ih => rw [State.endAll, ih]; simp
@[simp] theorem State.endAll_cmp (s : State) (l : List Chime) : (s.endAll l).cmp = s.cmp := by
  induction l generalizing s with
  | nil => rfl
  | cons ch rest ih => rw [State.endAll, ih]; simp
@[simp] theorem State.endAll_mnu (s : State) (l : List Chime) : (s.endAll l).mnu = s.mnu := by
  induction l generalizing s with
  | nil => rfl
  | cons ch rest ih => rw [State.endAll, ih]; simp
@[simp] theorem State.endAll_sct (s : State) (l : List Chime) : (s.endAll l).sct = s.sct := by
  induction l generalizing s with
  | nil => rfl
  | cons ch rest ih => rw [State.endAll, ih]; simp
@[simp] theorem State.endAll_chu (s : State) (l : List Chime) : (s.endAll l).chu = s.chu := by
  induction l generalizing s with
  | nil => rfl
  | cons ch rest ih => rw [State.endAll, ih]; simp
@[simp] theorem State.endAll_cal (s : State) (l : List Chime) : (s.endAll l).cal = s.cal := by
  induction l generalizing s with
  | nil => rfl
  | cons ch rest ih => rw [State.endAll, ih]; simp
@[simp] theorem State.endAll_pending (s : State) (l : List Chime) : (s.endAll l).pending = s.pending := by
  induction l generalizing s with
  | nil => rfl
  | cons ch rest ih => rw [State.endAll, ih]; simp

@[simp] theorem State.chimesStandby_timebase (s : State) : (s.chimesStandby).timebase = s.timebase := by
  unfold State.chimesStandby; (repeat' split) <;> simp
@[simp] theorem State.chimesStandby_phase (s : State) : (s.chimesStandby).phase = s.phase := by
  unfold State.chimesStandby; (repeat' split) <;> simp
@[simp] theorem State.chimesStandby_resetN (s : State) : (s.chimesStandby).resetN = s.resetN := by
  unfold State.chimesStandby; (repeat' split) <;> simp
@[simp] theorem State.chimesStandby_fdp (s : State) : (s.chimesStandby).fdp = s.fdp := by
  unfold State.chimesStandby; (repeat' split) <;> simp
@[simp] theorem State.chimesStandby_vin (s : State) : (s.chimesStandby).vin = s.vin := by
  unfold State.chimesStandby; (repeat' split) <;> simp
@[simp] theorem State.chimesStandby_gle (s : State) : (s.chimesStandby).gle = s.gle := by
  unfold State.chimesStandby; (repeat' split) <;> simp
@[simp] theorem State.chimesStandby_rsl (s : State) : (s.chimesStandby).rsl = s.rsl := by
  unfold State.chimesStandby; (repeat' split) <;> simp
@[simp] theorem State.chimesStandby_cmp (s : State) : (s.chimesStandby).cmp = s.cmp := by
  unfold State.chimesStandby; (repeat' split) <;> simp
@[simp] theorem State.chimesStandby_mnu (s : State) : (s.chimesStandby).mnu = s.mnu := by
  unfold State.chimesStandby; (repeat' split) <;> simp
@[simp] theorem State.chimesStandby_sct (s : State) : (s.chimesStandby).sct = s.sct := by
  unfold State.chimesStandby; (repeat' split) <;> simp
@[simp] theorem State.chimesStandby_cal (s : State) : (s.chimesStandby).cal = s.cal := by
  unfold State.chimesStandby; (repeat' split) <;> simp
@[simp] theorem State.chimesStandby_pending (s : State) : (s.chimesStandby).pending = s.pending := by
  unfold State.chimesStandby; (repeat' split) <;> simp

@[simp] theorem State.chimesWarm_timebase (s : State) : (s.chimesWarm).timebase = s.timebase := by
  unfold State.chimesWarm; (repeat' split) <;> simp
@[simp] theorem State.chimesWarm_phase (s : State) : (s.chimesWarm).phase = s.phase := by
  unfold State.chimesWarm; (repeat' split) <;> simp
@[simp] theorem State.chimesWarm_resetN (s : State) : (s.chimesWarm).resetN = s.resetN := by
  unfold State.chimesWarm; (repeat' split) <;> simp
@[simp] theorem State.chimesWarm_cli (s : State) : (s.chimesWarm).cli = s.cli := by
  unfold State.chimesWarm; (repeat' split) <;> simp
@[simp] theorem State.chimesWarm_fdp (s : State) : (s.chimesWarm).fdp = s.fdp := by
  unfold State.chimesWarm; (repeat' split) <;> simp
@[simp] theorem State.chimesWarm_vin (s : State) : (s.chimesWarm).vin = s.vin := by
  unfold State.chimesWarm; (repeat' split) <;> simp
@[simp] theorem State.chimesWarm_rvc (s : State) : (s.chimesWarm).rvc = s.rvc := by
  unfold State.chimesWarm; (repeat' split) <;> simp
@[simp] theorem State.chimesWarm_gle (s : State) : (s.chimesWarm).gle = s.gle := by
  unfold State.chimesWarm; (repeat' split) <;> simp
@[simp] theorem State.chimesWarm_rsl (s : State) : (s.chimesWarm).rsl = s.rsl := by
  unfold State.chimesWarm; (repeat' split) <;> simp
@[simp] theorem State.chimesWarm_cmp (s : State) : (s.chimesWarm).cmp = s.cmp := by
  unfold State.chimesWarm; (repeat' split) <;> simp
@[simp] theorem State.chimesWarm_mnu (s : State) : (s.chimesWarm).mnu = s.mnu := by
  unfold State.chimesWarm; (repeat' split) <;> simp
@[simp] theorem State.chimesWarm_sct (s : State) : (s.chimesWarm).sct = s.sct := by
  unfold State.chimesWarm; (repeat' split) <;> simp
@[simp] theorem State.chimesWarm_cal (s : State) : (s.chimesWarm).cal = s.cal := by
  unfold State.chimesWarm; (repeat' split) <;> simp
@[simp] theorem State.chimesWarm_pending (s : State) : (s.chimesWarm).pending = s.pending := by
  unfold State.chimesWarm; (repeat' split) <;> simp

@[simp] theorem State.finish_timebase (s : State) (v : Voice) (ch : Chime) : (s.finish v ch).timebase = s.timebase := by
  unfold State.finish; (repeat' split) <;> simp
@[simp] theorem State.finish_phase (s : State) (v : Voice) (ch : Chime) : (s.finish v ch).phase = s.phase := by
  unfold State.finish; (repeat' split) <;> simp
@[simp] theorem State.finish_resetN (s : State) (v : Voice) (ch : Chime) : (s.finish v ch).resetN = s.resetN := by
  unfold State.finish; (repeat' split) <;> simp
@[simp] theorem State.finish_fdp (s : State) (v : Voice) (ch : Chime) : (s.finish v ch).fdp = s.fdp := by
  unfold State.finish; (repeat' split) <;> simp
@[simp] theorem State.finish_vin (s : State) (v : Voice) (ch : Chime) : (s.finish v ch).vin = s.vin := by
  unfold State.finish; (repeat' split) <;> simp
@[simp] theorem State.finish_gle (s : State) (v : Voice) (ch : Chime) : (s.finish v ch).gle = s.gle := by
  unfold State.finish; (repeat' split) <;> simp
@[simp] theorem State.finish_rsl (s : State) (v : Voice) (ch : Chime) : (s.finish v ch).rsl = s.rsl := by
  unfold State.finish; (repeat' split) <;> simp
@[simp] theorem State.finish_cmp (s : State) (v : Voice) (ch : Chime) : (s.finish v ch).cmp = s.cmp := by
  unfold State.finish; (repeat' split) <;> simp
@[simp] theorem State.finish_mnu (s : State) (v : Voice) (ch : Chime) : (s.finish v ch).mnu = s.mnu := by
  unfold State.finish; (repeat' split) <;> simp
@[simp] theorem State.finish_sct (s : State) (v : Voice) (ch : Chime) : (s.finish v ch).sct = s.sct := by
  unfold State.finish; (repeat' split) <;> simp
@[simp] theorem State.finish_cal (s : State) (v : Voice) (ch : Chime) : (s.finish v ch).cal = s.cal := by
  unfold State.finish; (repeat' split) <;> simp
@[simp] theorem State.finish_pending (s : State) (v : Voice) (ch : Chime) : (s.finish v ch).pending = s.pending := by
  unfold State.finish; (repeat' split) <;> simp

@[simp] theorem State.stepEnded_timebase (s : State) (v : Voice) : (s.stepEnded v).timebase = s.timebase := by
  unfold State.stepEnded; (repeat' split) <;> simp
@[simp] theorem State.stepEnded_phase (s : State) (v : Voice) : (s.stepEnded v).phase = s.phase := by
  unfold State.stepEnded; (repeat' split) <;> simp
@[simp] theorem State.stepEnded_resetN (s : State) (v : Voice) : (s.stepEnded v).resetN = s.resetN := by
  unfold State.stepEnded; (repeat' split) <;> simp
@[simp] theorem State.stepEnded_fdp (s : State) (v : Voice) : (s.stepEnded v).fdp = s.fdp := by
  unfold State.stepEnded; (repeat' split) <;> simp
@[simp] theorem State.stepEnded_vin (s : State) (v : Voice) : (s.stepEnded v).vin = s.vin := by
  unfold State.stepEnded; (repeat' split) <;> simp
@[simp] theorem State.stepEnded_gle (s : State) (v : Voice) : (s.stepEnded v).gle = s.gle := by
  unfold State.stepEnded; (repeat' split) <;> simp
@[simp] theorem State.stepEnded_rsl (s : State) (v : Voice) : (s.stepEnded v).rsl = s.rsl := by
  unfold State.stepEnded; (repeat' split) <;> simp
@[simp] theorem State.stepEnded_cmp (s : State) (v : Voice) : (s.stepEnded v).cmp = s.cmp := by
  unfold State.stepEnded; (repeat' split) <;> simp
@[simp] theorem State.stepEnded_mnu (s : State) (v : Voice) : (s.stepEnded v).mnu = s.mnu := by
  unfold State.stepEnded; (repeat' split) <;> simp
@[simp] theorem State.stepEnded_sct (s : State) (v : Voice) : (s.stepEnded v).sct = s.sct := by
  unfold State.stepEnded; (repeat' split) <;> simp
@[simp] theorem State.stepEnded_cal (s : State) (v : Voice) : (s.stepEnded v).cal = s.cal := by
  unfold State.stepEnded; (repeat' split) <;> simp
@[simp] theorem State.stepEnded_pending (s : State) (v : Voice) : (s.stepEnded v).pending = s.pending := by
  unfold State.stepEnded; (repeat' split) <;> simp

@[simp] theorem State.beepOn_timebase (s : State) (v : Voice) : (s.beepOn v).timebase = s.timebase := by
  unfold State.beepOn; (repeat' split) <;> simp
@[simp] theorem State.beepOn_phase (s : State) (v : Voice) : (s.beepOn v).phase = s.phase := by
  unfold State.beepOn; (repeat' split) <;> simp
@[simp] theorem State.beepOn_resetN (s : State) (v : Voice) : (s.beepOn v).resetN = s.resetN := by
  unfold State.beepOn; (repeat' split) <;> simp
@[simp] theorem State.beepOn_cli (s : State) (v : Voice) : (s.beepOn v).cli = s.cli := by
  unfold State.beepOn; (repeat' split) <;> simp
@[simp] theorem State.beepOn_fdp (s : State) (v : Voice) : (s.beepOn v).fdp = s.fdp := by
  unfold State.beepOn; (repeat' split) <;> simp
@[simp] theorem State.beepOn_vin (s : State) (v : Voice) : (s.beepOn v).vin = s.vin := by
  unfold State.beepOn; (repeat' split) <;> simp
@[simp] theorem State.beepOn_rvc (s : State) (v : Voice) : (s.beepOn v).rvc = s.rvc := by
  unfold State.beepOn; (repeat' split) <;> simp
@[simp] theorem State.beepOn_gle (s : State) (v : Voice) : (s.beepOn v).gle = s.gle := by
  unfold State.beepOn; (repeat' split) <;> simp
@[simp] theorem State.beepOn_rsl (s : State) (v : Voice) : (s.beepOn v).rsl = s.rsl := by
  unfold State.beepOn; (repeat' split) <;> simp
@[simp] theorem State.beepOn_cmp (s : State) (v : Voice) : (s.beepOn v).cmp = s.cmp := by
  unfold State.beepOn; (repeat' split) <;> simp
@[simp] theorem State.beepOn_mnu (s : State) (v : Voice) : (s.beepOn v).mnu = s.mnu := by
  unfold State.beepOn; (repeat' split) <;> simp
@[simp] theorem State.beepOn_sct (s : State) (v : Voice) : (s.beepOn v).sct = s.sct := by
  unfold State.beepOn; (repeat' split) <;> simp
@[simp] theorem State.beepOn_cal (s : State) (v : Voice) : (s.beepOn v).cal = s.cal := by
  unfold State.beepOn; (repeat' split) <;> simp
@[simp] theorem State.beepOn_pending (s : State) (v : Voice) : (s.beepOn v).pending = s.pending := by
  unfold State.beepOn; (repeat' split) <;> simp

@[simp] theorem State.beepStarts_timebase (s : State) : (s.beepStarts).timebase = s.timebase := by
  unfold State.beepStarts; (repeat' split) <;> simp
@[simp] theorem State.beepStarts_phase (s : State) : (s.beepStarts).phase = s.phase := by
  unfold State.beepStarts; (repeat' split) <;> simp
@[simp] theorem State.beepStarts_resetN (s : State) : (s.beepStarts).resetN = s.resetN := by
  unfold State.beepStarts; (repeat' split) <;> simp
@[simp] theorem State.beepStarts_cli (s : State) : (s.beepStarts).cli = s.cli := by
  unfold State.beepStarts; (repeat' split) <;> simp
@[simp] theorem State.beepStarts_fdp (s : State) : (s.beepStarts).fdp = s.fdp := by
  unfold State.beepStarts; (repeat' split) <;> simp
@[simp] theorem State.beepStarts_vin (s : State) : (s.beepStarts).vin = s.vin := by
  unfold State.beepStarts; (repeat' split) <;> simp
@[simp] theorem State.beepStarts_rvc (s : State) : (s.beepStarts).rvc = s.rvc := by
  unfold State.beepStarts; (repeat' split) <;> simp
@[simp] theorem State.beepStarts_gle (s : State) : (s.beepStarts).gle = s.gle := by
  unfold State.beepStarts; (repeat' split) <;> simp
@[simp] theorem State.beepStarts_rsl (s : State) : (s.beepStarts).rsl = s.rsl := by
  unfold State.beepStarts; (repeat' split) <;> simp
@[simp] theorem State.beepStarts_cmp (s : State) : (s.beepStarts).cmp = s.cmp := by
  unfold State.beepStarts; (repeat' split) <;> simp
@[simp] theorem State.beepStarts_mnu (s : State) : (s.beepStarts).mnu = s.mnu := by
  unfold State.beepStarts; (repeat' split) <;> simp
@[simp] theorem State.beepStarts_sct (s : State) : (s.beepStarts).sct = s.sct := by
  unfold State.beepStarts; (repeat' split) <;> simp
@[simp] theorem State.beepStarts_cal (s : State) : (s.beepStarts).cal = s.cal := by
  unfold State.beepStarts; (repeat' split) <;> simp
@[simp] theorem State.beepStarts_pending (s : State) : (s.beepStarts).pending = s.pending := by
  unfold State.beepStarts; (repeat' split) <;> simp

@[simp] theorem State.duckStep_timebase (s : State) (i : Seat) : (s.duckStep i).timebase = s.timebase := by
  unfold State.duckStep; (repeat' split) <;> simp <;> (repeat' split) <;> simp
@[simp] theorem State.duckStep_phase (s : State) (i : Seat) : (s.duckStep i).phase = s.phase := by
  unfold State.duckStep; (repeat' split) <;> simp <;> (repeat' split) <;> simp
@[simp] theorem State.duckStep_resetN (s : State) (i : Seat) : (s.duckStep i).resetN = s.resetN := by
  unfold State.duckStep; (repeat' split) <;> simp <;> (repeat' split) <;> simp
@[simp] theorem State.duckStep_cli (s : State) (i : Seat) : (s.duckStep i).cli = s.cli := by
  unfold State.duckStep; (repeat' split) <;> simp <;> (repeat' split) <;> simp
@[simp] theorem State.duckStep_fdp (s : State) (i : Seat) : (s.duckStep i).fdp = s.fdp := by
  unfold State.duckStep; (repeat' split) <;> simp <;> (repeat' split) <;> simp
@[simp] theorem State.duckStep_vin (s : State) (i : Seat) : (s.duckStep i).vin = s.vin := by
  unfold State.duckStep; (repeat' split) <;> simp <;> (repeat' split) <;> simp
@[simp] theorem State.duckStep_rvc (s : State) (i : Seat) : (s.duckStep i).rvc = s.rvc := by
  unfold State.duckStep; (repeat' split) <;> simp <;> (repeat' split) <;> simp
@[simp] theorem State.duckStep_gle (s : State) (i : Seat) : (s.duckStep i).gle = s.gle := by
  unfold State.duckStep; (repeat' split) <;> simp <;> (repeat' split) <;> simp
@[simp] theorem State.duckStep_rsl (s : State) (i : Seat) : (s.duckStep i).rsl = s.rsl := by
  unfold State.duckStep; (repeat' split) <;> simp <;> (repeat' split) <;> simp
@[simp] theorem State.duckStep_cmp (s : State) (i : Seat) : (s.duckStep i).cmp = s.cmp := by
  unfold State.duckStep; (repeat' split) <;> simp <;> (repeat' split) <;> simp
@[simp] theorem State.duckStep_mnu (s : State) (i : Seat) : (s.duckStep i).mnu = s.mnu := by
  unfold State.duckStep; (repeat' split) <;> simp <;> (repeat' split) <;> simp
@[simp] theorem State.duckStep_sct (s : State) (i : Seat) : (s.duckStep i).sct = s.sct := by
  unfold State.duckStep; (repeat' split) <;> simp <;> (repeat' split) <;> simp
@[simp] theorem State.duckStep_cal (s : State) (i : Seat) : (s.duckStep i).cal = s.cal := by
  unfold State.duckStep; (repeat' split) <;> simp <;> (repeat' split) <;> simp
@[simp] theorem State.duckStep_pending (s : State) (i : Seat) : (s.duckStep i).pending = s.pending := by
  unfold State.duckStep; (repeat' split) <;> simp <;> (repeat' split) <;> simp

end Sys2Proof.Machine
end

