-- ==== Sys2Proof/Laws/Video.lean ====
section
/-! SUPPORT. What the operations of the compositor, the guide line engine and the feed ports leave unchanged: one lemma for each operation and field. -/

namespace Sys2Proof.Machine

@[simp] theorem State.judgeFront_timebase (s : State) : (s.judgeFront).timebase = s.timebase := by
  unfold State.judgeFront; (repeat' split) <;> simp <;> (repeat' split) <;> simp
@[simp] theorem State.judgeFront_phase (s : State) : (s.judgeFront).phase = s.phase := by
  unfold State.judgeFront; (repeat' split) <;> simp <;> (repeat' split) <;> simp
@[simp] theorem State.judgeFront_resetN (s : State) : (s.judgeFront).resetN = s.resetN := by
  unfold State.judgeFront; (repeat' split) <;> simp <;> (repeat' split) <;> simp
@[simp] theorem State.judgeFront_fdp (s : State) : (s.judgeFront).fdp = s.fdp := by
  unfold State.judgeFront; (repeat' split) <;> simp <;> (repeat' split) <;> simp
@[simp] theorem State.judgeFront_vin (s : State) : (s.judgeFront).vin = s.vin := by
  unfold State.judgeFront; (repeat' split) <;> simp <;> (repeat' split) <;> simp
@[simp] theorem State.judgeFront_rvc (s : State) : (s.judgeFront).rvc = s.rvc := by
  unfold State.judgeFront; (repeat' split) <;> simp <;> (repeat' split) <;> simp
@[simp] theorem State.judgeFront_gle (s : State) : (s.judgeFront).gle = s.gle := by
  unfold State.judgeFront; (repeat' split) <;> simp <;> (repeat' split) <;> simp
@[simp] theorem State.judgeFront_rsl (s : State) : (s.judgeFront).rsl = s.rsl := by
  unfold State.judgeFront; (repeat' split) <;> simp <;> (repeat' split) <;> simp
@[simp] theorem State.judgeFront_mnu (s : State) : (s.judgeFront).mnu = s.mnu := by
  unfold State.judgeFront; (repeat' split) <;> simp <;> (repeat' split) <;> simp
@[simp] theorem State.judgeFront_sct (s : State) : (s.judgeFront).sct = s.sct := by
  unfold State.judgeFront; (repeat' split) <;> simp <;> (repeat' split) <;> simp
@[simp] theorem State.judgeFront_chu (s : State) : (s.judgeFront).chu = s.chu := by
  unfold State.judgeFront; (repeat' split) <;> simp <;> (repeat' split) <;> simp
@[simp] theorem State.judgeFront_cal (s : State) : (s.judgeFront).cal = s.cal := by
  unfold State.judgeFront; (repeat' split) <;> simp <;> (repeat' split) <;> simp
@[simp] theorem State.judgeFront_pending (s : State) : (s.judgeFront).pending = s.pending := by
  unfold State.judgeFront; (repeat' split) <;> simp <;> (repeat' split) <;> simp

@[simp] theorem State.judgeRear_timebase (s : State) (i : Seat) : (s.judgeRear i).timebase = s.timebase := by
  unfold State.judgeRear; (repeat' split) <;> simp <;> (repeat' split) <;> simp
@[simp] theorem State.judgeRear_phase (s : State) (i : Seat) : (s.judgeRear i).phase = s.phase := by
  unfold State.judgeRear; (repeat' split) <;> simp <;> (repeat' split) <;> simp
@[simp] theorem State.judgeRear_resetN (s : State) (i : Seat) : (s.judgeRear i).resetN = s.resetN := by
  unfold State.judgeRear; (repeat' split) <;> simp <;> (repeat' split) <;> simp
@[simp] theorem State.judgeRear_fdp (s : State) (i : Seat) : (s.judgeRear i).fdp = s.fdp := by
  unfold State.judgeRear; (repeat' split) <;> simp <;> (repeat' split) <;> simp
@[simp] theorem State.judgeRear_vin (s : State) (i : Seat) : (s.judgeRear i).vin = s.vin := by
  unfold State.judgeRear; (repeat' split) <;> simp <;> (repeat' split) <;> simp
@[simp] theorem State.judgeRear_rvc (s : State) (i : Seat) : (s.judgeRear i).rvc = s.rvc := by
  unfold State.judgeRear; (repeat' split) <;> simp <;> (repeat' split) <;> simp
@[simp] theorem State.judgeRear_gle (s : State) (i : Seat) : (s.judgeRear i).gle = s.gle := by
  unfold State.judgeRear; (repeat' split) <;> simp <;> (repeat' split) <;> simp
@[simp] theorem State.judgeRear_rsl (s : State) (i : Seat) : (s.judgeRear i).rsl = s.rsl := by
  unfold State.judgeRear; (repeat' split) <;> simp <;> (repeat' split) <;> simp
@[simp] theorem State.judgeRear_mnu (s : State) (i : Seat) : (s.judgeRear i).mnu = s.mnu := by
  unfold State.judgeRear; (repeat' split) <;> simp <;> (repeat' split) <;> simp
@[simp] theorem State.judgeRear_sct (s : State) (i : Seat) : (s.judgeRear i).sct = s.sct := by
  unfold State.judgeRear; (repeat' split) <;> simp <;> (repeat' split) <;> simp
@[simp] theorem State.judgeRear_chu (s : State) (i : Seat) : (s.judgeRear i).chu = s.chu := by
  unfold State.judgeRear; (repeat' split) <;> simp <;> (repeat' split) <;> simp
@[simp] theorem State.judgeRear_cal (s : State) (i : Seat) : (s.judgeRear i).cal = s.cal := by
  unfold State.judgeRear; (repeat' split) <;> simp <;> (repeat' split) <;> simp
@[simp] theorem State.judgeRear_pending (s : State) (i : Seat) : (s.judgeRear i).pending = s.pending := by
  unfold State.judgeRear; (repeat' split) <;> simp <;> (repeat' split) <;> simp

@[simp] theorem State.frontRouteTakesEffect_timebase (s : State) : (s.frontRouteTakesEffect).timebase = s.timebase := by
  unfold State.frontRouteTakesEffect; (repeat' split) <;> simp
@[simp] theorem State.frontRouteTakesEffect_phase (s : State) : (s.frontRouteTakesEffect).phase = s.phase := by
  unfold State.frontRouteTakesEffect; (repeat' split) <;> simp
@[simp] theorem State.frontRouteTakesEffect_resetN (s : State) : (s.frontRouteTakesEffect).resetN = s.resetN := by
  unfold State.frontRouteTakesEffect; (repeat' split) <;> simp
@[simp] theorem State.frontRouteTakesEffect_fdp (s : State) : (s.frontRouteTakesEffect).fdp = s.fdp := by
  unfold State.frontRouteTakesEffect; (repeat' split) <;> simp
@[simp] theorem State.frontRouteTakesEffect_vin (s : State) : (s.frontRouteTakesEffect).vin = s.vin := by
  unfold State.frontRouteTakesEffect; (repeat' split) <;> simp
@[simp] theorem State.frontRouteTakesEffect_rvc (s : State) : (s.frontRouteTakesEffect).rvc = s.rvc := by
  unfold State.frontRouteTakesEffect; (repeat' split) <;> simp
@[simp] theorem State.frontRouteTakesEffect_gle (s : State) : (s.frontRouteTakesEffect).gle = s.gle := by
  unfold State.frontRouteTakesEffect; (repeat' split) <;> simp
@[simp] theorem State.frontRouteTakesEffect_rsl (s : State) : (s.frontRouteTakesEffect).rsl = s.rsl := by
  unfold State.frontRouteTakesEffect; (repeat' split) <;> simp
@[simp] theorem State.frontRouteTakesEffect_mnu (s : State) : (s.frontRouteTakesEffect).mnu = s.mnu := by
  unfold State.frontRouteTakesEffect; (repeat' split) <;> simp
@[simp] theorem State.frontRouteTakesEffect_sct (s : State) : (s.frontRouteTakesEffect).sct = s.sct := by
  unfold State.frontRouteTakesEffect; (repeat' split) <;> simp
@[simp] theorem State.frontRouteTakesEffect_chu (s : State) : (s.frontRouteTakesEffect).chu = s.chu := by
  unfold State.frontRouteTakesEffect; (repeat' split) <;> simp
@[simp] theorem State.frontRouteTakesEffect_cal (s : State) : (s.frontRouteTakesEffect).cal = s.cal := by
  unfold State.frontRouteTakesEffect; (repeat' split) <;> simp
@[simp] theorem State.frontRouteTakesEffect_pending (s : State) : (s.frontRouteTakesEffect).pending = s.pending := by
  unfold State.frontRouteTakesEffect; (repeat' split) <;> simp

@[simp] theorem State.rearRouteTakesEffect_timebase (s : State) (i : Seat) : (s.rearRouteTakesEffect i).timebase = s.timebase := by
  unfold State.rearRouteTakesEffect; (repeat' split) <;> simp
@[simp] theorem State.rearRouteTakesEffect_phase (s : State) (i : Seat) : (s.rearRouteTakesEffect i).phase = s.phase := by
  unfold State.rearRouteTakesEffect; (repeat' split) <;> simp
@[simp] theorem State.rearRouteTakesEffect_resetN (s : State) (i : Seat) : (s.rearRouteTakesEffect i).resetN = s.resetN := by
  unfold State.rearRouteTakesEffect; (repeat' split) <;> simp
@[simp] theorem State.rearRouteTakesEffect_fdp (s : State) (i : Seat) : (s.rearRouteTakesEffect i).fdp = s.fdp := by
  unfold State.rearRouteTakesEffect; (repeat' split) <;> simp
@[simp] theorem State.rearRouteTakesEffect_vin (s : State) (i : Seat) : (s.rearRouteTakesEffect i).vin = s.vin := by
  unfold State.rearRouteTakesEffect; (repeat' split) <;> simp
@[simp] theorem State.rearRouteTakesEffect_rvc (s : State) (i : Seat) : (s.rearRouteTakesEffect i).rvc = s.rvc := by
  unfold State.rearRouteTakesEffect; (repeat' split) <;> simp
@[simp] theorem State.rearRouteTakesEffect_gle (s : State) (i : Seat) : (s.rearRouteTakesEffect i).gle = s.gle := by
  unfold State.rearRouteTakesEffect; (repeat' split) <;> simp
@[simp] theorem State.rearRouteTakesEffect_rsl (s : State) (i : Seat) : (s.rearRouteTakesEffect i).rsl = s.rsl := by
  unfold State.rearRouteTakesEffect; (repeat' split) <;> simp
@[simp] theorem State.rearRouteTakesEffect_mnu (s : State) (i : Seat) : (s.rearRouteTakesEffect i).mnu = s.mnu := by
  unfold State.rearRouteTakesEffect; (repeat' split) <;> simp
@[simp] theorem State.rearRouteTakesEffect_sct (s : State) (i : Seat) : (s.rearRouteTakesEffect i).sct = s.sct := by
  unfold State.rearRouteTakesEffect; (repeat' split) <;> simp
@[simp] theorem State.rearRouteTakesEffect_chu (s : State) (i : Seat) : (s.rearRouteTakesEffect i).chu = s.chu := by
  unfold State.rearRouteTakesEffect; (repeat' split) <;> simp
@[simp] theorem State.rearRouteTakesEffect_cal (s : State) (i : Seat) : (s.rearRouteTakesEffect i).cal = s.cal := by
  unfold State.rearRouteTakesEffect; (repeat' split) <;> simp
@[simp] theorem State.rearRouteTakesEffect_pending (s : State) (i : Seat) : (s.rearRouteTakesEffect i).pending = s.pending := by
  unfold State.rearRouteTakesEffect; (repeat' split) <;> simp

@[simp] theorem State.setFilmLock_timebase (s : State) (b : Bool) : (s.setFilmLock b).timebase = s.timebase := by
  unfold State.setFilmLock; (repeat' split) <;> simp
@[simp] theorem State.setFilmLock_phase (s : State) (b : Bool) : (s.setFilmLock b).phase = s.phase := by
  unfold State.setFilmLock; (repeat' split) <;> simp
@[simp] theorem State.setFilmLock_resetN (s : State) (b : Bool) : (s.setFilmLock b).resetN = s.resetN := by
  unfold State.setFilmLock; (repeat' split) <;> simp
@[simp] theorem State.setFilmLock_fdp (s : State) (b : Bool) : (s.setFilmLock b).fdp = s.fdp := by
  unfold State.setFilmLock; (repeat' split) <;> simp
@[simp] theorem State.setFilmLock_vin (s : State) (b : Bool) : (s.setFilmLock b).vin = s.vin := by
  unfold State.setFilmLock; (repeat' split) <;> simp
@[simp] theorem State.setFilmLock_rvc (s : State) (b : Bool) : (s.setFilmLock b).rvc = s.rvc := by
  unfold State.setFilmLock; (repeat' split) <;> simp
@[simp] theorem State.setFilmLock_gle (s : State) (b : Bool) : (s.setFilmLock b).gle = s.gle := by
  unfold State.setFilmLock; (repeat' split) <;> simp
@[simp] theorem State.setFilmLock_rsl (s : State) (b : Bool) : (s.setFilmLock b).rsl = s.rsl := by
  unfold State.setFilmLock; (repeat' split) <;> simp
@[simp] theorem State.setFilmLock_mnu (s : State) (b : Bool) : (s.setFilmLock b).mnu = s.mnu := by
  unfold State.setFilmLock; (repeat' split) <;> simp
@[simp] theorem State.setFilmLock_sct (s : State) (b : Bool) : (s.setFilmLock b).sct = s.sct := by
  unfold State.setFilmLock; (repeat' split) <;> simp
@[simp] theorem State.setFilmLock_chu (s : State) (b : Bool) : (s.setFilmLock b).chu = s.chu := by
  unfold State.setFilmLock; (repeat' split) <;> simp
@[simp] theorem State.setFilmLock_cal (s : State) (b : Bool) : (s.setFilmLock b).cal = s.cal := by
  unfold State.setFilmLock; (repeat' split) <;> simp
@[simp] theorem State.setFilmLock_pending (s : State) (b : Bool) : (s.setFilmLock b).pending = s.pending := by
  unfold State.setFilmLock; (repeat' split) <;> simp

@[simp] theorem State.lockToCompositor_timebase (s : State) (f : Feed) : (s.lockToCompositor f).timebase = s.timebase := by
  unfold State.lockToCompositor; (repeat' split) <;> simp <;> (repeat' split) <;> simp
@[simp] theorem State.lockToCompositor_phase (s : State) (f : Feed) : (s.lockToCompositor f).phase = s.phase := by
  unfold State.lockToCompositor; (repeat' split) <;> simp <;> (repeat' split) <;> simp
@[simp] theorem State.lockToCompositor_resetN (s : State) (f : Feed) : (s.lockToCompositor f).resetN = s.resetN := by
  unfold State.lockToCompositor; (repeat' split) <;> simp <;> (repeat' split) <;> simp
@[simp] theorem State.lockToCompositor_cli (s : State) (f : Feed) : (s.lockToCompositor f).cli = s.cli := by
  unfold State.lockToCompositor; (repeat' split) <;> simp <;> (repeat' split) <;> simp
@[simp] theorem State.lockToCompositor_fdp (s : State) (f : Feed) : (s.lockToCompositor f).fdp = s.fdp := by
  unfold State.lockToCompositor; (repeat' split) <;> simp <;> (repeat' split) <;> simp
@[simp] theorem State.lockToCompositor_vin (s : State) (f : Feed) : (s.lockToCompositor f).vin = s.vin := by
  unfold State.lockToCompositor; (repeat' split) <;> simp <;> (repeat' split) <;> simp
@[simp] theorem State.lockToCompositor_rvc (s : State) (f : Feed) : (s.lockToCompositor f).rvc = s.rvc := by
  unfold State.lockToCompositor; (repeat' split) <;> simp <;> (repeat' split) <;> simp
@[simp] theorem State.lockToCompositor_gle (s : State) (f : Feed) : (s.lockToCompositor f).gle = s.gle := by
  unfold State.lockToCompositor; (repeat' split) <;> simp <;> (repeat' split) <;> simp
@[simp] theorem State.lockToCompositor_rsl (s : State) (f : Feed) : (s.lockToCompositor f).rsl = s.rsl := by
  unfold State.lockToCompositor; (repeat' split) <;> simp <;> (repeat' split) <;> simp
@[simp] theorem State.lockToCompositor_mnu (s : State) (f : Feed) : (s.lockToCompositor f).mnu = s.mnu := by
  unfold State.lockToCompositor; (repeat' split) <;> simp <;> (repeat' split) <;> simp
@[simp] theorem State.lockToCompositor_sct (s : State) (f : Feed) : (s.lockToCompositor f).sct = s.sct := by
  unfold State.lockToCompositor; (repeat' split) <;> simp <;> (repeat' split) <;> simp
@[simp] theorem State.lockToCompositor_chu (s : State) (f : Feed) : (s.lockToCompositor f).chu = s.chu := by
  unfold State.lockToCompositor; (repeat' split) <;> simp <;> (repeat' split) <;> simp
@[simp] theorem State.lockToCompositor_cal (s : State) (f : Feed) : (s.lockToCompositor f).cal = s.cal := by
  unfold State.lockToCompositor; (repeat' split) <;> simp <;> (repeat' split) <;> simp
@[simp] theorem State.lockToCompositor_pending (s : State) (f : Feed) : (s.lockToCompositor f).pending = s.pending := by
  unfold State.lockToCompositor; (repeat' split) <;> simp <;> (repeat' split) <;> simp

@[simp] theorem State.frontFrame_timebase (s : State) : (s.frontFrame).timebase = s.timebase := by
  unfold State.frontFrame; (repeat' split) <;> simp
@[simp] theorem State.frontFrame_phase (s : State) : (s.frontFrame).phase = s.phase := by
  unfold State.frontFrame; (repeat' split) <;> simp
@[simp] theorem State.frontFrame_resetN (s : State) : (s.frontFrame).resetN = s.resetN := by
  unfold State.frontFrame; (repeat' split) <;> simp
@[simp] theorem State.frontFrame_fdp (s : State) : (s.frontFrame).fdp = s.fdp := by
  unfold State.frontFrame; (repeat' split) <;> simp
@[simp] theorem State.frontFrame_vin (s : State) : (s.frontFrame).vin = s.vin := by
  unfold State.frontFrame; (repeat' split) <;> simp
@[simp] theorem State.frontFrame_rvc (s : State) : (s.frontFrame).rvc = s.rvc := by
  unfold State.frontFrame; (repeat' split) <;> simp
@[simp] theorem State.frontFrame_gle (s : State) : (s.frontFrame).gle = s.gle := by
  unfold State.frontFrame; (repeat' split) <;> simp
@[simp] theorem State.frontFrame_rsl (s : State) : (s.frontFrame).rsl = s.rsl := by
  unfold State.frontFrame; (repeat' split) <;> simp
@[simp] theorem State.frontFrame_mnu (s : State) : (s.frontFrame).mnu = s.mnu := by
  unfold State.frontFrame; (repeat' split) <;> simp
@[simp] theorem State.frontFrame_sct (s : State) : (s.frontFrame).sct = s.sct := by
  unfold State.frontFrame; (repeat' split) <;> simp
@[simp] theorem State.frontFrame_chu (s : State) : (s.frontFrame).chu = s.chu := by
  unfold State.frontFrame; (repeat' split) <;> simp
@[simp] theorem State.frontFrame_cal (s : State) : (s.frontFrame).cal = s.cal := by
  unfold State.frontFrame; (repeat' split) <;> simp
@[simp] theorem State.frontFrame_pending (s : State) : (s.frontFrame).pending = s.pending := by
  unfold State.frontFrame; (repeat' split) <;> simp

@[simp] theorem State.rearFrame_timebase (s : State) (i : Seat) : (s.rearFrame i).timebase = s.timebase := by
  unfold State.rearFrame; (repeat' split) <;> simp
@[simp] theorem State.rearFrame_phase (s : State) (i : Seat) : (s.rearFrame i).phase = s.phase := by
  unfold State.rearFrame; (repeat' split) <;> simp
@[simp] theorem State.rearFrame_resetN (s : State) (i : Seat) : (s.rearFrame i).resetN = s.resetN := by
  unfold State.rearFrame; (repeat' split) <;> simp
@[simp] theorem State.rearFrame_fdp (s : State) (i : Seat) : (s.rearFrame i).fdp = s.fdp := by
  unfold State.rearFrame; (repeat' split) <;> simp
@[simp] theorem State.rearFrame_vin (s : State) (i : Seat) : (s.rearFrame i).vin = s.vin := by
  unfold State.rearFrame; (repeat' split) <;> simp
@[simp] theorem State.rearFrame_rvc (s : State) (i : Seat) : (s.rearFrame i).rvc = s.rvc := by
  unfold State.rearFrame; (repeat' split) <;> simp
@[simp] theorem State.rearFrame_gle (s : State) (i : Seat) : (s.rearFrame i).gle = s.gle := by
  unfold State.rearFrame; (repeat' split) <;> simp
@[simp] theorem State.rearFrame_rsl (s : State) (i : Seat) : (s.rearFrame i).rsl = s.rsl := by
  unfold State.rearFrame; (repeat' split) <;> simp
@[simp] theorem State.rearFrame_mnu (s : State) (i : Seat) : (s.rearFrame i).mnu = s.mnu := by
  unfold State.rearFrame; (repeat' split) <;> simp
@[simp] theorem State.rearFrame_sct (s : State) (i : Seat) : (s.rearFrame i).sct = s.sct := by
  unfold State.rearFrame; (repeat' split) <;> simp
@[simp] theorem State.rearFrame_chu (s : State) (i : Seat) : (s.rearFrame i).chu = s.chu := by
  unfold State.rearFrame; (repeat' split) <;> simp
@[simp] theorem State.rearFrame_cal (s : State) (i : Seat) : (s.rearFrame i).cal = s.cal := by
  unfold State.rearFrame; (repeat' split) <;> simp
@[simp] theorem State.rearFrame_pending (s : State) (i : Seat) : (s.rearFrame i).pending = s.pending := by
  unfold State.rearFrame; (repeat' split) <;> simp

@[simp] theorem State.outputFrame_timebase (s : State) (o : Output) : (s.outputFrame o).timebase = s.timebase := by
  unfold State.outputFrame; (repeat' split) <;> simp
@[simp] theorem State.outputFrame_phase (s : State) (o : Output) : (s.outputFrame o).phase = s.phase := by
  unfold State.outputFrame; (repeat' split) <;> simp
@[simp] theorem State.outputFrame_resetN (s : State) (o : Output) : (s.outputFrame o).resetN = s.resetN := by
  unfold State.outputFrame; (repeat' split) <;> simp
@[simp] theorem State.outputFrame_fdp (s : State) (o : Output) : (s.outputFrame o).fdp = s.fdp := by
  unfold State.outputFrame; (repeat' split) <;> simp
@[simp] theorem State.outputFrame_vin (s : State) (o : Output) : (s.outputFrame o).vin = s.vin := by
  unfold State.outputFrame; (repeat' split) <;> simp
@[simp] theorem State.outputFrame_rvc (s : State) (o : Output) : (s.outputFrame o).rvc = s.rvc := by
  unfold State.outputFrame; (repeat' split) <;> simp
@[simp] theorem State.outputFrame_gle (s : State) (o : Output) : (s.outputFrame o).gle = s.gle := by
  unfold State.outputFrame; (repeat' split) <;> simp
@[simp] theorem State.outputFrame_rsl (s : State) (o : Output) : (s.outputFrame o).rsl = s.rsl := by
  unfold State.outputFrame; (repeat' split) <;> simp
@[simp] theorem State.outputFrame_mnu (s : State) (o : Output) : (s.outputFrame o).mnu = s.mnu := by
  unfold State.outputFrame; (repeat' split) <;> simp
@[simp] theorem State.outputFrame_sct (s : State) (o : Output) : (s.outputFrame o).sct = s.sct := by
  unfold State.outputFrame; (repeat' split) <;> simp
@[simp] theorem State.outputFrame_chu (s : State) (o : Output) : (s.outputFrame o).chu = s.chu := by
  unfold State.outputFrame; (repeat' split) <;> simp
@[simp] theorem State.outputFrame_cal (s : State) (o : Output) : (s.outputFrame o).cal = s.cal := by
  unfold State.outputFrame; (repeat' split) <;> simp
@[simp] theorem State.outputFrame_pending (s : State) (o : Output) : (s.outputFrame o).pending = s.pending := by
  unfold State.outputFrame; (repeat' split) <;> simp

@[simp] theorem State.startRear_timebase (s : State) (i : Seat) : (s.startRear i).timebase = s.timebase := by
  unfold State.startRear; (repeat' split) <;> simp
@[simp] theorem State.startRear_phase (s : State) (i : Seat) : (s.startRear i).phase = s.phase := by
  unfold State.startRear; (repeat' split) <;> simp
@[simp] theorem State.startRear_resetN (s : State) (i : Seat) : (s.startRear i).resetN = s.resetN := by
  unfold State.startRear; (repeat' split) <;> simp
@[simp] theorem State.startRear_fdp (s : State) (i : Seat) : (s.startRear i).fdp = s.fdp := by
  unfold State.startRear; (repeat' split) <;> simp
@[simp] theorem State.startRear_vin (s : State) (i : Seat) : (s.startRear i).vin = s.vin := by
  unfold State.startRear; (repeat' split) <;> simp
@[simp] theorem State.startRear_rvc (s : State) (i : Seat) : (s.startRear i).rvc = s.rvc := by
  unfold State.startRear; (repeat' split) <;> simp
@[simp] theorem State.startRear_gle (s : State) (i : Seat) : (s.startRear i).gle = s.gle := by
  unfold State.startRear; (repeat' split) <;> simp
@[simp] theorem State.startRear_rsl (s : State) (i : Seat) : (s.startRear i).rsl = s.rsl := by
  unfold State.startRear; (repeat' split) <;> simp
@[simp] theorem State.startRear_mnu (s : State) (i : Seat) : (s.startRear i).mnu = s.mnu := by
  unfold State.startRear; (repeat' split) <;> simp
@[simp] theorem State.startRear_sct (s : State) (i : Seat) : (s.startRear i).sct = s.sct := by
  unfold State.startRear; (repeat' split) <;> simp
@[simp] theorem State.startRear_chu (s : State) (i : Seat) : (s.startRear i).chu = s.chu := by
  unfold State.startRear; (repeat' split) <;> simp
@[simp] theorem State.startRear_cal (s : State) (i : Seat) : (s.startRear i).cal = s.cal := by
  unfold State.startRear; (repeat' split) <;> simp
@[simp] theorem State.startRear_pending (s : State) (i : Seat) : (s.startRear i).pending = s.pending := by
  unfold State.startRear; (repeat' split) <;> simp

@[simp] theorem State.stopRear_timebase (s : State) (i : Seat) : (s.stopRear i).timebase = s.timebase := by
  unfold State.stopRear; (repeat' split) <;> simp
@[simp] theorem State.stopRear_phase (s : State) (i : Seat) : (s.stopRear i).phase = s.phase := by
  unfold State.stopRear; (repeat' split) <;> simp
@[simp] theorem State.stopRear_resetN (s : State) (i : Seat) : (s.stopRear i).resetN = s.resetN := by
  unfold State.stopRear; (repeat' split) <;> simp
@[simp] theorem State.stopRear_fdp (s : State) (i : Seat) : (s.stopRear i).fdp = s.fdp := by
  unfold State.stopRear; (repeat' split) <;> simp
@[simp] theorem State.stopRear_vin (s : State) (i : Seat) : (s.stopRear i).vin = s.vin := by
  unfold State.stopRear; (repeat' split) <;> simp
@[simp] theorem State.stopRear_rvc (s : State) (i : Seat) : (s.stopRear i).rvc = s.rvc := by
  unfold State.stopRear; (repeat' split) <;> simp
@[simp] theorem State.stopRear_gle (s : State) (i : Seat) : (s.stopRear i).gle = s.gle := by
  unfold State.stopRear; (repeat' split) <;> simp
@[simp] theorem State.stopRear_rsl (s : State) (i : Seat) : (s.stopRear i).rsl = s.rsl := by
  unfold State.stopRear; (repeat' split) <;> simp
@[simp] theorem State.stopRear_mnu (s : State) (i : Seat) : (s.stopRear i).mnu = s.mnu := by
  unfold State.stopRear; (repeat' split) <;> simp
@[simp] theorem State.stopRear_sct (s : State) (i : Seat) : (s.stopRear i).sct = s.sct := by
  unfold State.stopRear; (repeat' split) <;> simp
@[simp] theorem State.stopRear_chu (s : State) (i : Seat) : (s.stopRear i).chu = s.chu := by
  unfold State.stopRear; (repeat' split) <;> simp
@[simp] theorem State.stopRear_cal (s : State) (i : Seat) : (s.stopRear i).cal = s.cal := by
  unfold State.stopRear; (repeat' split) <;> simp
@[simp] theorem State.stopRear_pending (s : State) (i : Seat) : (s.stopRear i).pending = s.pending := by
  unfold State.stopRear; (repeat' split) <;> simp

@[simp] theorem State.compositorStandby_timebase (s : State) : (s.compositorStandby).timebase = s.timebase := by
  unfold State.compositorStandby; (repeat' split) <;> simp
@[simp] theorem State.compositorStandby_phase (s : State) : (s.compositorStandby).phase = s.phase := by
  unfold State.compositorStandby; (repeat' split) <;> simp
@[simp] theorem State.compositorStandby_resetN (s : State) : (s.compositorStandby).resetN = s.resetN := by
  unfold State.compositorStandby; (repeat' split) <;> simp
@[simp] theorem State.compositorStandby_fdp (s : State) : (s.compositorStandby).fdp = s.fdp := by
  unfold State.compositorStandby; (repeat' split) <;> simp
@[simp] theorem State.compositorStandby_vin (s : State) : (s.compositorStandby).vin = s.vin := by
  unfold State.compositorStandby; (repeat' split) <;> simp
@[simp] theorem State.compositorStandby_rvc (s : State) : (s.compositorStandby).rvc = s.rvc := by
  unfold State.compositorStandby; (repeat' split) <;> simp
@[simp] theorem State.compositorStandby_gle (s : State) : (s.compositorStandby).gle = s.gle := by
  unfold State.compositorStandby; (repeat' split) <;> simp
@[simp] theorem State.compositorStandby_rsl (s : State) : (s.compositorStandby).rsl = s.rsl := by
  unfold State.compositorStandby; (repeat' split) <;> simp
@[simp] theorem State.compositorStandby_mnu (s : State) : (s.compositorStandby).mnu = s.mnu := by
  unfold State.compositorStandby; (repeat' split) <;> simp
@[simp] theorem State.compositorStandby_sct (s : State) : (s.compositorStandby).sct = s.sct := by
  unfold State.compositorStandby; (repeat' split) <;> simp
@[simp] theorem State.compositorStandby_chu (s : State) : (s.compositorStandby).chu = s.chu := by
  unfold State.compositorStandby; (repeat' split) <;> simp
@[simp] theorem State.compositorStandby_cal (s : State) : (s.compositorStandby).cal = s.cal := by
  unfold State.compositorStandby; (repeat' split) <;> simp
@[simp] theorem State.compositorStandby_pending (s : State) : (s.compositorStandby).pending = s.pending := by
  unfold State.compositorStandby; (repeat' split) <;> simp

@[simp] theorem State.compositorWarm_timebase (s : State) : (s.compositorWarm).timebase = s.timebase := by
  unfold State.compositorWarm; (repeat' split) <;> simp
@[simp] theorem State.compositorWarm_phase (s : State) : (s.compositorWarm).phase = s.phase := by
  unfold State.compositorWarm; (repeat' split) <;> simp
@[simp] theorem State.compositorWarm_resetN (s : State) : (s.compositorWarm).resetN = s.resetN := by
  unfold State.compositorWarm; (repeat' split) <;> simp
@[simp] theorem State.compositorWarm_fdp (s : State) : (s.compositorWarm).fdp = s.fdp := by
  unfold State.compositorWarm; (repeat' split) <;> simp
@[simp] theorem State.compositorWarm_vin (s : State) : (s.compositorWarm).vin = s.vin := by
  unfold State.compositorWarm; (repeat' split) <;> simp
@[simp] theorem State.compositorWarm_rvc (s : State) : (s.compositorWarm).rvc = s.rvc := by
  unfold State.compositorWarm; (repeat' split) <;> simp
@[simp] theorem State.compositorWarm_gle (s : State) : (s.compositorWarm).gle = s.gle := by
  unfold State.compositorWarm; (repeat' split) <;> simp
@[simp] theorem State.compositorWarm_rsl (s : State) : (s.compositorWarm).rsl = s.rsl := by
  unfold State.compositorWarm; (repeat' split) <;> simp
@[simp] theorem State.compositorWarm_mnu (s : State) : (s.compositorWarm).mnu = s.mnu := by
  unfold State.compositorWarm; (repeat' split) <;> simp
@[simp] theorem State.compositorWarm_sct (s : State) : (s.compositorWarm).sct = s.sct := by
  unfold State.compositorWarm; (repeat' split) <;> simp
@[simp] theorem State.compositorWarm_chu (s : State) : (s.compositorWarm).chu = s.chu := by
  unfold State.compositorWarm; (repeat' split) <;> simp
@[simp] theorem State.compositorWarm_cal (s : State) : (s.compositorWarm).cal = s.cal := by
  unfold State.compositorWarm; (repeat' split) <;> simp
@[simp] theorem State.compositorWarm_pending (s : State) : (s.compositorWarm).pending = s.pending := by
  unfold State.compositorWarm; (repeat' split) <;> simp

@[simp] theorem State.guideTrigger_timebase (s : State) : (s.guideTrigger).timebase = s.timebase := by
  unfold State.guideTrigger; (repeat' split) <;> simp
@[simp] theorem State.guideTrigger_phase (s : State) : (s.guideTrigger).phase = s.phase := by
  unfold State.guideTrigger; (repeat' split) <;> simp
@[simp] theorem State.guideTrigger_resetN (s : State) : (s.guideTrigger).resetN = s.resetN := by
  unfold State.guideTrigger; (repeat' split) <;> simp
@[simp] theorem State.guideTrigger_cli (s : State) : (s.guideTrigger).cli = s.cli := by
  unfold State.guideTrigger; (repeat' split) <;> simp
@[simp] theorem State.guideTrigger_fdp (s : State) : (s.guideTrigger).fdp = s.fdp := by
  unfold State.guideTrigger; (repeat' split) <;> simp
@[simp] theorem State.guideTrigger_vin (s : State) : (s.guideTrigger).vin = s.vin := by
  unfold State.guideTrigger; (repeat' split) <;> simp
@[simp] theorem State.guideTrigger_rvc (s : State) : (s.guideTrigger).rvc = s.rvc := by
  unfold State.guideTrigger; (repeat' split) <;> simp
@[simp] theorem State.guideTrigger_rsl (s : State) : (s.guideTrigger).rsl = s.rsl := by
  unfold State.guideTrigger; (repeat' split) <;> simp
@[simp] theorem State.guideTrigger_cmp (s : State) : (s.guideTrigger).cmp = s.cmp := by
  unfold State.guideTrigger; (repeat' split) <;> simp
@[simp] theorem State.guideTrigger_mnu (s : State) : (s.guideTrigger).mnu = s.mnu := by
  unfold State.guideTrigger; (repeat' split) <;> simp
@[simp] theorem State.guideTrigger_sct (s : State) : (s.guideTrigger).sct = s.sct := by
  unfold State.guideTrigger; (repeat' split) <;> simp
@[simp] theorem State.guideTrigger_chu (s : State) : (s.guideTrigger).chu = s.chu := by
  unfold State.guideTrigger; (repeat' split) <;> simp
@[simp] theorem State.guideTrigger_cal (s : State) : (s.guideTrigger).cal = s.cal := by
  unfold State.guideTrigger; (repeat' split) <;> simp
@[simp] theorem State.guideTrigger_pending (s : State) : (s.guideTrigger).pending = s.pending := by
  unfold State.guideTrigger; (repeat' split) <;> simp

@[simp] theorem State.trackingTrigger_timebase (s : State) : (s.trackingTrigger).timebase = s.timebase := by
  unfold State.trackingTrigger; (repeat' split) <;> simp
@[simp] theorem State.trackingTrigger_phase (s : State) : (s.trackingTrigger).phase = s.phase := by
  unfold State.trackingTrigger; (repeat' split) <;> simp
@[simp] theorem State.trackingTrigger_resetN (s : State) : (s.trackingTrigger).resetN = s.resetN := by
  unfold State.trackingTrigger; (repeat' split) <;> simp
@[simp] theorem State.trackingTrigger_cli (s : State) : (s.trackingTrigger).cli = s.cli := by
  unfold State.trackingTrigger; (repeat' split) <;> simp
@[simp] theorem State.trackingTrigger_fdp (s : State) : (s.trackingTrigger).fdp = s.fdp := by
  unfold State.trackingTrigger; (repeat' split) <;> simp
@[simp] theorem State.trackingTrigger_vin (s : State) : (s.trackingTrigger).vin = s.vin := by
  unfold State.trackingTrigger; (repeat' split) <;> simp
@[simp] theorem State.trackingTrigger_rvc (s : State) : (s.trackingTrigger).rvc = s.rvc := by
  unfold State.trackingTrigger; (repeat' split) <;> simp
@[simp] theorem State.trackingTrigger_rsl (s : State) : (s.trackingTrigger).rsl = s.rsl := by
  unfold State.trackingTrigger; (repeat' split) <;> simp
@[simp] theorem State.trackingTrigger_cmp (s : State) : (s.trackingTrigger).cmp = s.cmp := by
  unfold State.trackingTrigger; (repeat' split) <;> simp
@[simp] theorem State.trackingTrigger_mnu (s : State) : (s.trackingTrigger).mnu = s.mnu := by
  unfold State.trackingTrigger; (repeat' split) <;> simp
@[simp] theorem State.trackingTrigger_sct (s : State) : (s.trackingTrigger).sct = s.sct := by
  unfold State.trackingTrigger; (repeat' split) <;> simp
@[simp] theorem State.trackingTrigger_chu (s : State) : (s.trackingTrigger).chu = s.chu := by
  unfold State.trackingTrigger; (repeat' split) <;> simp
@[simp] theorem State.trackingTrigger_cal (s : State) : (s.trackingTrigger).cal = s.cal := by
  unfold State.trackingTrigger; (repeat' split) <;> simp
@[simp] theorem State.trackingTrigger_pending (s : State) : (s.trackingTrigger).pending = s.pending := by
  unfold State.trackingTrigger; (repeat' split) <;> simp

@[simp] theorem State.install_timebase (s : State) : (s.install).timebase = s.timebase := by
  unfold State.install; (repeat' split) <;> simp <;> (repeat' split) <;> simp
@[simp] theorem State.install_phase (s : State) : (s.install).phase = s.phase := by
  unfold State.install; (repeat' split) <;> simp <;> (repeat' split) <;> simp
@[simp] theorem State.install_resetN (s : State) : (s.install).resetN = s.resetN := by
  unfold State.install; (repeat' split) <;> simp <;> (repeat' split) <;> simp
@[simp] theorem State.install_fdp (s : State) : (s.install).fdp = s.fdp := by
  unfold State.install; (repeat' split) <;> simp <;> (repeat' split) <;> simp
@[simp] theorem State.install_vin (s : State) : (s.install).vin = s.vin := by
  unfold State.install; (repeat' split) <;> simp <;> (repeat' split) <;> simp
@[simp] theorem State.install_rvc (s : State) : (s.install).rvc = s.rvc := by
  unfold State.install; (repeat' split) <;> simp <;> (repeat' split) <;> simp
@[simp] theorem State.install_rsl (s : State) : (s.install).rsl = s.rsl := by
  unfold State.install; (repeat' split) <;> simp <;> (repeat' split) <;> simp
@[simp] theorem State.install_mnu (s : State) : (s.install).mnu = s.mnu := by
  unfold State.install; (repeat' split) <;> simp <;> (repeat' split) <;> simp
@[simp] theorem State.install_sct (s : State) : (s.install).sct = s.sct := by
  unfold State.install; (repeat' split) <;> simp <;> (repeat' split) <;> simp
@[simp] theorem State.install_chu (s : State) : (s.install).chu = s.chu := by
  unfold State.install; (repeat' split) <;> simp <;> (repeat' split) <;> simp
@[simp] theorem State.install_cal (s : State) : (s.install).cal = s.cal := by
  unfold State.install; (repeat' split) <;> simp <;> (repeat' split) <;> simp
@[simp] theorem State.install_pending (s : State) : (s.install).pending = s.pending := by
  unfold State.install; (repeat' split) <;> simp <;> (repeat' split) <;> simp

@[simp] theorem State.computationDone_timebase (s : State) : (s.computationDone).timebase = s.timebase := by
  unfold State.computationDone; (repeat' split) <;> simp <;> (repeat' split) <;> simp
@[simp] theorem State.computationDone_phase (s : State) : (s.computationDone).phase = s.phase := by
  unfold State.computationDone; (repeat' split) <;> simp <;> (repeat' split) <;> simp
@[simp] theorem State.computationDone_resetN (s : State) : (s.computationDone).resetN = s.resetN := by
  unfold State.computationDone; (repeat' split) <;> simp <;> (repeat' split) <;> simp
@[simp] theorem State.computationDone_fdp (s : State) : (s.computationDone).fdp = s.fdp := by
  unfold State.computationDone; (repeat' split) <;> simp <;> (repeat' split) <;> simp
@[simp] theorem State.computationDone_vin (s : State) : (s.computationDone).vin = s.vin := by
  unfold State.computationDone; (repeat' split) <;> simp <;> (repeat' split) <;> simp
@[simp] theorem State.computationDone_rvc (s : State) : (s.computationDone).rvc = s.rvc := by
  unfold State.computationDone; (repeat' split) <;> simp <;> (repeat' split) <;> simp
@[simp] theorem State.computationDone_rsl (s : State) : (s.computationDone).rsl = s.rsl := by
  unfold State.computationDone; (repeat' split) <;> simp <;> (repeat' split) <;> simp
@[simp] theorem State.computationDone_mnu (s : State) : (s.computationDone).mnu = s.mnu := by
  unfold State.computationDone; (repeat' split) <;> simp <;> (repeat' split) <;> simp
@[simp] theorem State.computationDone_sct (s : State) : (s.computationDone).sct = s.sct := by
  unfold State.computationDone; (repeat' split) <;> simp <;> (repeat' split) <;> simp
@[simp] theorem State.computationDone_chu (s : State) : (s.computationDone).chu = s.chu := by
  unfold State.computationDone; (repeat' split) <;> simp <;> (repeat' split) <;> simp
@[simp] theorem State.computationDone_cal (s : State) : (s.computationDone).cal = s.cal := by
  unfold State.computationDone; (repeat' split) <;> simp <;> (repeat' split) <;> simp
@[simp] theorem State.computationDone_pending (s : State) : (s.computationDone).pending = s.pending := by
  unfold State.computationDone; (repeat' split) <;> simp <;> (repeat' split) <;> simp

@[simp] theorem State.lockToGuide_timebase (s : State) (b : Bool) : (s.lockToGuide b).timebase = s.timebase := by
  unfold State.lockToGuide; (repeat' split) <;> simp
@[simp] theorem State.lockToGuide_phase (s : State) (b : Bool) : (s.lockToGuide b).phase = s.phase := by
  unfold State.lockToGuide; (repeat' split) <;> simp
@[simp] theorem State.lockToGuide_resetN (s : State) (b : Bool) : (s.lockToGuide b).resetN = s.resetN := by
  unfold State.lockToGuide; (repeat' split) <;> simp
@[simp] theorem State.lockToGuide_fdp (s : State) (b : Bool) : (s.lockToGuide b).fdp = s.fdp := by
  unfold State.lockToGuide; (repeat' split) <;> simp
@[simp] theorem State.lockToGuide_vin (s : State) (b : Bool) : (s.lockToGuide b).vin = s.vin := by
  unfold State.lockToGuide; (repeat' split) <;> simp
@[simp] theorem State.lockToGuide_rvc (s : State) (b : Bool) : (s.lockToGuide b).rvc = s.rvc := by
  unfold State.lockToGuide; (repeat' split) <;> simp
@[simp] theorem State.lockToGuide_rsl (s : State) (b : Bool) : (s.lockToGuide b).rsl = s.rsl := by
  unfold State.lockToGuide; (repeat' split) <;> simp
@[simp] theorem State.lockToGuide_mnu (s : State) (b : Bool) : (s.lockToGuide b).mnu = s.mnu := by
  unfold State.lockToGuide; (repeat' split) <;> simp
@[simp] theorem State.lockToGuide_sct (s : State) (b : Bool) : (s.lockToGuide b).sct = s.sct := by
  unfold State.lockToGuide; (repeat' split) <;> simp
@[simp] theorem State.lockToGuide_chu (s : State) (b : Bool) : (s.lockToGuide b).chu = s.chu := by
  unfold State.lockToGuide; (repeat' split) <;> simp
@[simp] theorem State.lockToGuide_cal (s : State) (b : Bool) : (s.lockToGuide b).cal = s.cal := by
  unfold State.lockToGuide; (repeat' split) <;> simp
@[simp] theorem State.lockToGuide_pending (s : State) (b : Bool) : (s.lockToGuide b).pending = s.pending := by
  unfold State.lockToGuide; (repeat' split) <;> simp

@[simp] theorem State.frameToGuide_timebase (s : State) (l : Lock) : (s.frameToGuide l).timebase = s.timebase := by
  unfold State.frameToGuide; (repeat' split) <;> simp
@[simp] theorem State.frameToGuide_phase (s : State) (l : Lock) : (s.frameToGuide l).phase = s.phase := by
  unfold State.frameToGuide; (repeat' split) <;> simp
@[simp] theorem State.frameToGuide_resetN (s : State) (l : Lock) : (s.frameToGuide l).resetN = s.resetN := by
  unfold State.frameToGuide; (repeat' split) <;> simp
@[simp] theorem State.frameToGuide_fdp (s : State) (l : Lock) : (s.frameToGuide l).fdp = s.fdp := by
  unfold State.frameToGuide; (repeat' split) <;> simp
@[simp] theorem State.frameToGuide_vin (s : State) (l : Lock) : (s.frameToGuide l).vin = s.vin := by
  unfold State.frameToGuide; (repeat' split) <;> simp
@[simp] theorem State.frameToGuide_rvc (s : State) (l : Lock) : (s.frameToGuide l).rvc = s.rvc := by
  unfold State.frameToGuide; (repeat' split) <;> simp
@[simp] theorem State.frameToGuide_rsl (s : State) (l : Lock) : (s.frameToGuide l).rsl = s.rsl := by
  unfold State.frameToGuide; (repeat' split) <;> simp
@[simp] theorem State.frameToGuide_mnu (s : State) (l : Lock) : (s.frameToGuide l).mnu = s.mnu := by
  unfold State.frameToGuide; (repeat' split) <;> simp
@[simp] theorem State.frameToGuide_sct (s : State) (l : Lock) : (s.frameToGuide l).sct = s.sct := by
  unfold State.frameToGuide; (repeat' split) <;> simp
@[simp] theorem State.frameToGuide_chu (s : State) (l : Lock) : (s.frameToGuide l).chu = s.chu := by
  unfold State.frameToGuide; (repeat' split) <;> simp
@[simp] theorem State.frameToGuide_cal (s : State) (l : Lock) : (s.frameToGuide l).cal = s.cal := by
  unfold State.frameToGuide; (repeat' split) <;> simp
@[simp] theorem State.frameToGuide_pending (s : State) (l : Lock) : (s.frameToGuide l).pending = s.pending := by
  unfold State.frameToGuide; (repeat' split) <;> simp

@[simp] theorem State.guideTrack_timebase (s : State) : (s.guideTrack).timebase = s.timebase := by
  unfold State.guideTrack; (repeat' split) <;> simp
@[simp] theorem State.guideTrack_phase (s : State) : (s.guideTrack).phase = s.phase := by
  unfold State.guideTrack; (repeat' split) <;> simp
@[simp] theorem State.guideTrack_resetN (s : State) : (s.guideTrack).resetN = s.resetN := by
  unfold State.guideTrack; (repeat' split) <;> simp
@[simp] theorem State.guideTrack_cli (s : State) : (s.guideTrack).cli = s.cli := by
  unfold State.guideTrack; (repeat' split) <;> simp
@[simp] theorem State.guideTrack_fdp (s : State) : (s.guideTrack).fdp = s.fdp := by
  unfold State.guideTrack; (repeat' split) <;> simp
@[simp] theorem State.guideTrack_vin (s : State) : (s.guideTrack).vin = s.vin := by
  unfold State.guideTrack; (repeat' split) <;> simp
@[simp] theorem State.guideTrack_rvc (s : State) : (s.guideTrack).rvc = s.rvc := by
  unfold State.guideTrack; (repeat' split) <;> simp
@[simp] theorem State.guideTrack_rsl (s : State) : (s.guideTrack).rsl = s.rsl := by
  unfold State.guideTrack; (repeat' split) <;> simp
@[simp] theorem State.guideTrack_cmp (s : State) : (s.guideTrack).cmp = s.cmp := by
  unfold State.guideTrack; (repeat' split) <;> simp
@[simp] theorem State.guideTrack_mnu (s : State) : (s.guideTrack).mnu = s.mnu := by
  unfold State.guideTrack; (repeat' split) <;> simp
@[simp] theorem State.guideTrack_sct (s : State) : (s.guideTrack).sct = s.sct := by
  unfold State.guideTrack; (repeat' split) <;> simp
@[simp] theorem State.guideTrack_chu (s : State) : (s.guideTrack).chu = s.chu := by
  unfold State.guideTrack; (repeat' split) <;> simp
@[simp] theorem State.guideTrack_cal (s : State) : (s.guideTrack).cal = s.cal := by
  unfold State.guideTrack; (repeat' split) <;> simp
@[simp] theorem State.guideTrack_pending (s : State) : (s.guideTrack).pending = s.pending := by
  unfold State.guideTrack; (repeat' split) <;> simp

@[simp] theorem State.lockChanged_timebase (s : State) (f : Feed) (l : Lock) : (s.lockChanged f l).timebase = s.timebase := by
  unfold State.lockChanged; (repeat' split) <;> simp
@[simp] theorem State.lockChanged_phase (s : State) (f : Feed) (l : Lock) : (s.lockChanged f l).phase = s.phase := by
  unfold State.lockChanged; (repeat' split) <;> simp
@[simp] theorem State.lockChanged_resetN (s : State) (f : Feed) (l : Lock) : (s.lockChanged f l).resetN = s.resetN := by
  unfold State.lockChanged; (repeat' split) <;> simp
@[simp] theorem State.lockChanged_fdp (s : State) (f : Feed) (l : Lock) : (s.lockChanged f l).fdp = s.fdp := by
  unfold State.lockChanged; (repeat' split) <;> simp
@[simp] theorem State.lockChanged_vin (s : State) (f : Feed) (l : Lock) : (s.lockChanged f l).vin = s.vin := by
  unfold State.lockChanged; (repeat' split) <;> simp
@[simp] theorem State.lockChanged_rvc (s : State) (f : Feed) (l : Lock) : (s.lockChanged f l).rvc = s.rvc := by
  unfold State.lockChanged; (repeat' split) <;> simp
@[simp] theorem State.lockChanged_rsl (s : State) (f : Feed) (l : Lock) : (s.lockChanged f l).rsl = s.rsl := by
  unfold State.lockChanged; (repeat' split) <;> simp
@[simp] theorem State.lockChanged_mnu (s : State) (f : Feed) (l : Lock) : (s.lockChanged f l).mnu = s.mnu := by
  unfold State.lockChanged; (repeat' split) <;> simp
@[simp] theorem State.lockChanged_sct (s : State) (f : Feed) (l : Lock) : (s.lockChanged f l).sct = s.sct := by
  unfold State.lockChanged; (repeat' split) <;> simp
@[simp] theorem State.lockChanged_chu (s : State) (f : Feed) (l : Lock) : (s.lockChanged f l).chu = s.chu := by
  unfold State.lockChanged; (repeat' split) <;> simp
@[simp] theorem State.lockChanged_cal (s : State) (f : Feed) (l : Lock) : (s.lockChanged f l).cal = s.cal := by
  unfold State.lockChanged; (repeat' split) <;> simp
@[simp] theorem State.lockChanged_pending (s : State) (f : Feed) (l : Lock) : (s.lockChanged f l).pending = s.pending := by
  unfold State.lockChanged; (repeat' split) <;> simp

@[simp] theorem State.clearPort_timebase (s : State) (f : Feed) (b : Bool) : (s.clearPort f b).timebase = s.timebase := by
  unfold State.clearPort; (repeat' split) <;> simp <;> (repeat' split) <;> simp
@[simp] theorem State.clearPort_phase (s : State) (f : Feed) (b : Bool) : (s.clearPort f b).phase = s.phase := by
  unfold State.clearPort; (repeat' split) <;> simp <;> (repeat' split) <;> simp
@[simp] theorem State.clearPort_resetN (s : State) (f : Feed) (b : Bool) : (s.clearPort f b).resetN = s.resetN := by
  unfold State.clearPort; (repeat' split) <;> simp <;> (repeat' split) <;> simp
@[simp] theorem State.clearPort_vin (s : State) (f : Feed) (b : Bool) : (s.clearPort f b).vin = s.vin := by
  unfold State.clearPort; (repeat' split) <;> simp <;> (repeat' split) <;> simp
@[simp] theorem State.clearPort_rvc (s : State) (f : Feed) (b : Bool) : (s.clearPort f b).rvc = s.rvc := by
  unfold State.clearPort; (repeat' split) <;> simp <;> (repeat' split) <;> simp
@[simp] theorem State.clearPort_rsl (s : State) (f : Feed) (b : Bool) : (s.clearPort f b).rsl = s.rsl := by
  unfold State.clearPort; (repeat' split) <;> simp <;> (repeat' split) <;> simp
@[simp] theorem State.clearPort_mnu (s : State) (f : Feed) (b : Bool) : (s.clearPort f b).mnu = s.mnu := by
  unfold State.clearPort; (repeat' split) <;> simp <;> (repeat' split) <;> simp
@[simp] theorem State.clearPort_sct (s : State) (f : Feed) (b : Bool) : (s.clearPort f b).sct = s.sct := by
  unfold State.clearPort; (repeat' split) <;> simp <;> (repeat' split) <;> simp
@[simp] theorem State.clearPort_chu (s : State) (f : Feed) (b : Bool) : (s.clearPort f b).chu = s.chu := by
  unfold State.clearPort; (repeat' split) <;> simp <;> (repeat' split) <;> simp
@[simp] theorem State.clearPort_cal (s : State) (f : Feed) (b : Bool) : (s.clearPort f b).cal = s.cal := by
  unfold State.clearPort; (repeat' split) <;> simp <;> (repeat' split) <;> simp
@[simp] theorem State.clearPort_pending (s : State) (f : Feed) (b : Bool) : (s.clearPort f b).pending = s.pending := by
  unfold State.clearPort; (repeat' split) <;> simp <;> (repeat' split) <;> simp

@[simp] theorem State.disablePort_timebase (s : State) (f : Feed) : (s.disablePort f).timebase = s.timebase := by
  unfold State.disablePort; (repeat' split) <;> simp
@[simp] theorem State.disablePort_phase (s : State) (f : Feed) : (s.disablePort f).phase = s.phase := by
  unfold State.disablePort; (repeat' split) <;> simp
@[simp] theorem State.disablePort_resetN (s : State) (f : Feed) : (s.disablePort f).resetN = s.resetN := by
  unfold State.disablePort; (repeat' split) <;> simp
@[simp] theorem State.disablePort_vin (s : State) (f : Feed) : (s.disablePort f).vin = s.vin := by
  unfold State.disablePort; (repeat' split) <;> simp
@[simp] theorem State.disablePort_rvc (s : State) (f : Feed) : (s.disablePort f).rvc = s.rvc := by
  unfold State.disablePort; (repeat' split) <;> simp
@[simp] theorem State.disablePort_rsl (s : State) (f : Feed) : (s.disablePort f).rsl = s.rsl := by
  unfold State.disablePort; (repeat' split) <;> simp
@[simp] theorem State.disablePort_mnu (s : State) (f : Feed) : (s.disablePort f).mnu = s.mnu := by
  unfold State.disablePort; (repeat' split) <;> simp
@[simp] theorem State.disablePort_sct (s : State) (f : Feed) : (s.disablePort f).sct = s.sct := by
  unfold State.disablePort; (repeat' split) <;> simp
@[simp] theorem State.disablePort_chu (s : State) (f : Feed) : (s.disablePort f).chu = s.chu := by
  unfold State.disablePort; (repeat' split) <;> simp
@[simp] theorem State.disablePort_cal (s : State) (f : Feed) : (s.disablePort f).cal = s.cal := by
  unfold State.disablePort; (repeat' split) <;> simp
@[simp] theorem State.disablePort_pending (s : State) (f : Feed) : (s.disablePort f).pending = s.pending := by
  unfold State.disablePort; (repeat' split) <;> simp

@[simp] theorem State.judgeCameraPower_timebase (s : State) : (s.judgeCameraPower).timebase = s.timebase := by
  unfold State.judgeCameraPower; (repeat' split) <;> simp <;> (repeat' split) <;> simp
@[simp] theorem State.judgeCameraPower_phase (s : State) : (s.judgeCameraPower).phase = s.phase := by
  unfold State.judgeCameraPower; (repeat' split) <;> simp <;> (repeat' split) <;> simp
@[simp] theorem State.judgeCameraPower_resetN (s : State) : (s.judgeCameraPower).resetN = s.resetN := by
  unfold State.judgeCameraPower; (repeat' split) <;> simp <;> (repeat' split) <;> simp
@[simp] theorem State.judgeCameraPower_vin (s : State) : (s.judgeCameraPower).vin = s.vin := by
  unfold State.judgeCameraPower; (repeat' split) <;> simp <;> (repeat' split) <;> simp
@[simp] theorem State.judgeCameraPower_rvc (s : State) : (s.judgeCameraPower).rvc = s.rvc := by
  unfold State.judgeCameraPower; (repeat' split) <;> simp <;> (repeat' split) <;> simp
@[simp] theorem State.judgeCameraPower_rsl (s : State) : (s.judgeCameraPower).rsl = s.rsl := by
  unfold State.judgeCameraPower; (repeat' split) <;> simp <;> (repeat' split) <;> simp
@[simp] theorem State.judgeCameraPower_mnu (s : State) : (s.judgeCameraPower).mnu = s.mnu := by
  unfold State.judgeCameraPower; (repeat' split) <;> simp <;> (repeat' split) <;> simp
@[simp] theorem State.judgeCameraPower_sct (s : State) : (s.judgeCameraPower).sct = s.sct := by
  unfold State.judgeCameraPower; (repeat' split) <;> simp <;> (repeat' split) <;> simp
@[simp] theorem State.judgeCameraPower_chu (s : State) : (s.judgeCameraPower).chu = s.chu := by
  unfold State.judgeCameraPower; (repeat' split) <;> simp <;> (repeat' split) <;> simp
@[simp] theorem State.judgeCameraPower_cal (s : State) : (s.judgeCameraPower).cal = s.cal := by
  unfold State.judgeCameraPower; (repeat' split) <;> simp <;> (repeat' split) <;> simp
@[simp] theorem State.judgeCameraPower_pending (s : State) : (s.judgeCameraPower).pending = s.pending := by
  unfold State.judgeCameraPower; (repeat' split) <;> simp <;> (repeat' split) <;> simp

@[simp] theorem State.disableFeeds_timebase (s : State) : (s.disableFeeds).timebase = s.timebase := by
  unfold State.disableFeeds; (repeat' split) <;> simp
@[simp] theorem State.disableFeeds_phase (s : State) : (s.disableFeeds).phase = s.phase := by
  unfold State.disableFeeds; (repeat' split) <;> simp
@[simp] theorem State.disableFeeds_resetN (s : State) : (s.disableFeeds).resetN = s.resetN := by
  unfold State.disableFeeds; (repeat' split) <;> simp
@[simp] theorem State.disableFeeds_vin (s : State) : (s.disableFeeds).vin = s.vin := by
  unfold State.disableFeeds; (repeat' split) <;> simp
@[simp] theorem State.disableFeeds_rvc (s : State) : (s.disableFeeds).rvc = s.rvc := by
  unfold State.disableFeeds; (repeat' split) <;> simp
@[simp] theorem State.disableFeeds_rsl (s : State) : (s.disableFeeds).rsl = s.rsl := by
  unfold State.disableFeeds; (repeat' split) <;> simp
@[simp] theorem State.disableFeeds_mnu (s : State) : (s.disableFeeds).mnu = s.mnu := by
  unfold State.disableFeeds; (repeat' split) <;> simp
@[simp] theorem State.disableFeeds_sct (s : State) : (s.disableFeeds).sct = s.sct := by
  unfold State.disableFeeds; (repeat' split) <;> simp
@[simp] theorem State.disableFeeds_chu (s : State) : (s.disableFeeds).chu = s.chu := by
  unfold State.disableFeeds; (repeat' split) <;> simp
@[simp] theorem State.disableFeeds_cal (s : State) : (s.disableFeeds).cal = s.cal := by
  unfold State.disableFeeds; (repeat' split) <;> simp
@[simp] theorem State.disableFeeds_pending (s : State) : (s.disableFeeds).pending = s.pending := by
  unfold State.disableFeeds; (repeat' split) <;> simp

@[simp] theorem State.feedsWarm_timebase (s : State) : (s.feedsWarm).timebase = s.timebase := by
  unfold State.feedsWarm; (repeat' split) <;> simp
@[simp] theorem State.feedsWarm_phase (s : State) : (s.feedsWarm).phase = s.phase := by
  unfold State.feedsWarm; (repeat' split) <;> simp
@[simp] theorem State.feedsWarm_resetN (s : State) : (s.feedsWarm).resetN = s.resetN := by
  unfold State.feedsWarm; (repeat' split) <;> simp
@[simp] theorem State.feedsWarm_vin (s : State) : (s.feedsWarm).vin = s.vin := by
  unfold State.feedsWarm; (repeat' split) <;> simp
@[simp] theorem State.feedsWarm_rvc (s : State) : (s.feedsWarm).rvc = s.rvc := by
  unfold State.feedsWarm; (repeat' split) <;> simp
@[simp] theorem State.feedsWarm_rsl (s : State) : (s.feedsWarm).rsl = s.rsl := by
  unfold State.feedsWarm; (repeat' split) <;> simp
@[simp] theorem State.feedsWarm_mnu (s : State) : (s.feedsWarm).mnu = s.mnu := by
  unfold State.feedsWarm; (repeat' split) <;> simp
@[simp] theorem State.feedsWarm_sct (s : State) : (s.feedsWarm).sct = s.sct := by
  unfold State.feedsWarm; (repeat' split) <;> simp
@[simp] theorem State.feedsWarm_chu (s : State) : (s.feedsWarm).chu = s.chu := by
  unfold State.feedsWarm; (repeat' split) <;> simp
@[simp] theorem State.feedsWarm_cal (s : State) : (s.feedsWarm).cal = s.cal := by
  unfold State.feedsWarm; (repeat' split) <;> simp
@[simp] theorem State.feedsWarm_pending (s : State) : (s.feedsWarm).pending = s.pending := by
  unfold State.feedsWarm; (repeat' split) <;> simp

@[simp] theorem State.setPending_timebase (s : State) (o : Output) (x : Source) : (s.setPending o x).timebase = s.timebase := by
  unfold State.setPending; (repeat' split) <;> simp <;> (repeat' split) <;> simp
@[simp] theorem State.setPending_phase (s : State) (o : Output) (x : Source) : (s.setPending o x).phase = s.phase := by
  unfold State.setPending; (repeat' split) <;> simp <;> (repeat' split) <;> simp
@[simp] theorem State.setPending_resetN (s : State) (o : Output) (x : Source) : (s.setPending o x).resetN = s.resetN := by
  unfold State.setPending; (repeat' split) <;> simp <;> (repeat' split) <;> simp
@[simp] theorem State.setPending_fdp (s : State) (o : Output) (x : Source) : (s.setPending o x).fdp = s.fdp := by
  unfold State.setPending; (repeat' split) <;> simp <;> (repeat' split) <;> simp
@[simp] theorem State.setPending_vin (s : State) (o : Output) (x : Source) : (s.setPending o x).vin = s.vin := by
  unfold State.setPending; (repeat' split) <;> simp <;> (repeat' split) <;> simp
@[simp] theorem State.setPending_rvc (s : State) (o : Output) (x : Source) : (s.setPending o x).rvc = s.rvc := by
  unfold State.setPending; (repeat' split) <;> simp <;> (repeat' split) <;> simp
@[simp] theorem State.setPending_gle (s : State) (o : Output) (x : Source) : (s.setPending o x).gle = s.gle := by
  unfold State.setPending; (repeat' split) <;> simp <;> (repeat' split) <;> simp
@[simp] theorem State.setPending_rsl (s : State) (o : Output) (x : Source) : (s.setPending o x).rsl = s.rsl := by
  unfold State.setPending; (repeat' split) <;> simp <;> (repeat' split) <;> simp
@[simp] theorem State.setPending_mnu (s : State) (o : Output) (x : Source) : (s.setPending o x).mnu = s.mnu := by
  unfold State.setPending; (repeat' split) <;> simp <;> (repeat' split) <;> simp
@[simp] theorem State.setPending_sct (s : State) (o : Output) (x : Source) : (s.setPending o x).sct = s.sct := by
  unfold State.setPending; (repeat' split) <;> simp <;> (repeat' split) <;> simp
@[simp] theorem State.setPending_chu (s : State) (o : Output) (x : Source) : (s.setPending o x).chu = s.chu := by
  unfold State.setPending; (repeat' split) <;> simp <;> (repeat' split) <;> simp
@[simp] theorem State.setPending_cal (s : State) (o : Output) (x : Source) : (s.setPending o x).cal = s.cal := by
  unfold State.setPending; (repeat' split) <;> simp <;> (repeat' split) <;> simp
@[simp] theorem State.setPending_pending (s : State) (o : Output) (x : Source) : (s.setPending o x).pending = s.pending := by
  unfold State.setPending; (repeat' split) <;> simp <;> (repeat' split) <;> simp

@[simp] theorem State.setPreview_timebase (s : State) (b : Bool) : (s.setPreview b).timebase = s.timebase := by
  unfold State.setPreview; (repeat' split) <;> simp
@[simp] theorem State.setPreview_phase (s : State) (b : Bool) : (s.setPreview b).phase = s.phase := by
  unfold State.setPreview; (repeat' split) <;> simp
@[simp] theorem State.setPreview_resetN (s : State) (b : Bool) : (s.setPreview b).resetN = s.resetN := by
  unfold State.setPreview; (repeat' split) <;> simp
@[simp] theorem State.setPreview_vin (s : State) (b : Bool) : (s.setPreview b).vin = s.vin := by
  unfold State.setPreview; (repeat' split) <;> simp
@[simp] theorem State.setPreview_rvc (s : State) (b : Bool) : (s.setPreview b).rvc = s.rvc := by
  unfold State.setPreview; (repeat' split) <;> simp
@[simp] theorem State.setPreview_rsl (s : State) (b : Bool) : (s.setPreview b).rsl = s.rsl := by
  unfold State.setPreview; (repeat' split) <;> simp
@[simp] theorem State.setPreview_mnu (s : State) (b : Bool) : (s.setPreview b).mnu = s.mnu := by
  unfold State.setPreview; (repeat' split) <;> simp
@[simp] theorem State.setPreview_sct (s : State) (b : Bool) : (s.setPreview b).sct = s.sct := by
  unfold State.setPreview; (repeat' split) <;> simp
@[simp] theorem State.setPreview_chu (s : State) (b : Bool) : (s.setPreview b).chu = s.chu := by
  unfold State.setPreview; (repeat' split) <;> simp
@[simp] theorem State.setPreview_cal (s : State) (b : Bool) : (s.setPreview b).cal = s.cal := by
  unfold State.setPreview; (repeat' split) <;> simp
@[simp] theorem State.setPreview_pending (s : State) (b : Bool) : (s.setPreview b).pending = s.pending := by
  unfold State.setPreview; (repeat' split) <;> simp

@[simp] theorem State.setBanner_timebase (s : State) (o : Output) (b : Bool) : (s.setBanner o b).timebase = s.timebase := by
  unfold State.setBanner; (repeat' split) <;> simp
@[simp] theorem State.setBanner_phase (s : State) (o : Output) (b : Bool) : (s.setBanner o b).phase = s.phase := by
  unfold State.setBanner; (repeat' split) <;> simp
@[simp] theorem State.setBanner_resetN (s : State) (o : Output) (b : Bool) : (s.setBanner o b).resetN = s.resetN := by
  unfold State.setBanner; (repeat' split) <;> simp
@[simp] theorem State.setBanner_cli (s : State) (o : Output) (b : Bool) : (s.setBanner o b).cli = s.cli := by
  unfold State.setBanner; (repeat' split) <;> simp
@[simp] theorem State.setBanner_fdp (s : State) (o : Output) (b : Bool) : (s.setBanner o b).fdp = s.fdp := by
  unfold State.setBanner; (repeat' split) <;> simp
@[simp] theorem State.setBanner_vin (s : State) (o : Output) (b : Bool) : (s.setBanner o b).vin = s.vin := by
  unfold State.setBanner; (repeat' split) <;> simp
@[simp] theorem State.setBanner_rvc (s : State) (o : Output) (b : Bool) : (s.setBanner o b).rvc = s.rvc := by
  unfold State.setBanner; (repeat' split) <;> simp
@[simp] theorem State.setBanner_gle (s : State) (o : Output) (b : Bool) : (s.setBanner o b).gle = s.gle := by
  unfold State.setBanner; (repeat' split) <;> simp
@[simp] theorem State.setBanner_rsl (s : State) (o : Output) (b : Bool) : (s.setBanner o b).rsl = s.rsl := by
  unfold State.setBanner; (repeat' split) <;> simp
@[simp] theorem State.setBanner_mnu (s : State) (o : Output) (b : Bool) : (s.setBanner o b).mnu = s.mnu := by
  unfold State.setBanner; (repeat' split) <;> simp
@[simp] theorem State.setBanner_sct (s : State) (o : Output) (b : Bool) : (s.setBanner o b).sct = s.sct := by
  unfold State.setBanner; (repeat' split) <;> simp
@[simp] theorem State.setBanner_chu (s : State) (o : Output) (b : Bool) : (s.setBanner o b).chu = s.chu := by
  unfold State.setBanner; (repeat' split) <;> simp
@[simp] theorem State.setBanner_cal (s : State) (o : Output) (b : Bool) : (s.setBanner o b).cal = s.cal := by
  unfold State.setBanner; (repeat' split) <;> simp
@[simp] theorem State.setBanner_pending (s : State) (o : Output) (b : Bool) : (s.setBanner o b).pending = s.pending := by
  unfold State.setBanner; (repeat' split) <;> simp

end Sys2Proof.Machine
end

