-- ==== Sys2Proof/Laws/Seats.lean ====
section
/-! SUPPORT. What the operations of the seat control, the menu engine and the keys leave unchanged: one lemma for each operation and field. -/

namespace Sys2Proof.Machine

@[simp] theorem State.recomputeTarget_timebase (s : State) (i : Seat) : (s.recomputeTarget i).timebase = s.timebase := by
  unfold State.recomputeTarget; (repeat' split) <;> simp <;> (repeat' split) <;> simp
@[simp] theorem State.recomputeTarget_phase (s : State) (i : Seat) : (s.recomputeTarget i).phase = s.phase := by
  unfold State.recomputeTarget; (repeat' split) <;> simp <;> (repeat' split) <;> simp
@[simp] theorem State.recomputeTarget_resetN (s : State) (i : Seat) : (s.recomputeTarget i).resetN = s.resetN := by
  unfold State.recomputeTarget; (repeat' split) <;> simp <;> (repeat' split) <;> simp
@[simp] theorem State.recomputeTarget_cli (s : State) (i : Seat) : (s.recomputeTarget i).cli = s.cli := by
  unfold State.recomputeTarget; (repeat' split) <;> simp <;> (repeat' split) <;> simp
@[simp] theorem State.recomputeTarget_fdp (s : State) (i : Seat) : (s.recomputeTarget i).fdp = s.fdp := by
  unfold State.recomputeTarget; (repeat' split) <;> simp <;> (repeat' split) <;> simp
@[simp] theorem State.recomputeTarget_vin (s : State) (i : Seat) : (s.recomputeTarget i).vin = s.vin := by
  unfold State.recomputeTarget; (repeat' split) <;> simp <;> (repeat' split) <;> simp
@[simp] theorem State.recomputeTarget_rvc (s : State) (i : Seat) : (s.recomputeTarget i).rvc = s.rvc := by
  unfold State.recomputeTarget; (repeat' split) <;> simp <;> (repeat' split) <;> simp
@[simp] theorem State.recomputeTarget_gle (s : State) (i : Seat) : (s.recomputeTarget i).gle = s.gle := by
  unfold State.recomputeTarget; (repeat' split) <;> simp <;> (repeat' split) <;> simp
@[simp] theorem State.recomputeTarget_cmp (s : State) (i : Seat) : (s.recomputeTarget i).cmp = s.cmp := by
  unfold State.recomputeTarget; (repeat' split) <;> simp <;> (repeat' split) <;> simp
@[simp] theorem State.recomputeTarget_mnu (s : State) (i : Seat) : (s.recomputeTarget i).mnu = s.mnu := by
  unfold State.recomputeTarget; (repeat' split) <;> simp <;> (repeat' split) <;> simp
@[simp] theorem State.recomputeTarget_chu (s : State) (i : Seat) : (s.recomputeTarget i).chu = s.chu := by
  unfold State.recomputeTarget; (repeat' split) <;> simp <;> (repeat' split) <;> simp
@[simp] theorem State.recomputeTarget_cal (s : State) (i : Seat) : (s.recomputeTarget i).cal = s.cal := by
  unfold State.recomputeTarget; (repeat' split) <;> simp <;> (repeat' split) <;> simp
@[simp] theorem State.recomputeTarget_pending (s : State) (i : Seat) : (s.recomputeTarget i).pending = s.pending := by
  unfold State.recomputeTarget; (repeat' split) <;> simp <;> (repeat' split) <;> simp

@[simp] theorem State.takeAmbient_timebase (s : State) (i : Seat) (l : Option Nat) : (s.takeAmbient i l).timebase = s.timebase := by
  unfold State.takeAmbient; (repeat' split) <;> simp
@[simp] theorem State.takeAmbient_phase (s : State) (i : Seat) (l : Option Nat) : (s.takeAmbient i l).phase = s.phase := by
  unfold State.takeAmbient; (repeat' split) <;> simp
@[simp] theorem State.takeAmbient_resetN (s : State) (i : Seat) (l : Option Nat) : (s.takeAmbient i l).resetN = s.resetN := by
  unfold State.takeAmbient; (repeat' split) <;> simp
@[simp] theorem State.takeAmbient_cli (s : State) (i : Seat) (l : Option Nat) : (s.takeAmbient i l).cli = s.cli := by
  unfold State.takeAmbient; (repeat' split) <;> simp
@[simp] theorem State.takeAmbient_fdp (s : State) (i : Seat) (l : Option Nat) : (s.takeAmbient i l).fdp = s.fdp := by
  unfold State.takeAmbient; (repeat' split) <;> simp
@[simp] theorem State.takeAmbient_vin (s : State) (i : Seat) (l : Option Nat) : (s.takeAmbient i l).vin = s.vin := by
  unfold State.takeAmbient; (repeat' split) <;> simp
@[simp] theorem State.takeAmbient_rvc (s : State) (i : Seat) (l : Option Nat) : (s.takeAmbient i l).rvc = s.rvc := by
  unfold State.takeAmbient; (repeat' split) <;> simp
@[simp] theorem State.takeAmbient_gle (s : State) (i : Seat) (l : Option Nat) : (s.takeAmbient i l).gle = s.gle := by
  unfold State.takeAmbient; (repeat' split) <;> simp
@[simp] theorem State.takeAmbient_cmp (s : State) (i : Seat) (l : Option Nat) : (s.takeAmbient i l).cmp = s.cmp := by
  unfold State.takeAmbient; (repeat' split) <;> simp
@[simp] theorem State.takeAmbient_mnu (s : State) (i : Seat) (l : Option Nat) : (s.takeAmbient i l).mnu = s.mnu := by
  unfold State.takeAmbient; (repeat' split) <;> simp
@[simp] theorem State.takeAmbient_chu (s : State) (i : Seat) (l : Option Nat) : (s.takeAmbient i l).chu = s.chu := by
  unfold State.takeAmbient; (repeat' split) <;> simp
@[simp] theorem State.takeAmbient_cal (s : State) (i : Seat) (l : Option Nat) : (s.takeAmbient i l).cal = s.cal := by
  unfold State.takeAmbient; (repeat' split) <;> simp
@[simp] theorem State.takeAmbient_pending (s : State) (i : Seat) (l : Option Nat) : (s.takeAmbient i l).pending = s.pending := by
  unfold State.takeAmbient; (repeat' split) <;> simp

@[simp] theorem State.takeDimmer_timebase (s : State) (d : Nat) : (s.takeDimmer d).timebase = s.timebase := by
  unfold State.takeDimmer; (repeat' split) <;> simp
@[simp] theorem State.takeDimmer_phase (s : State) (d : Nat) : (s.takeDimmer d).phase = s.phase := by
  unfold State.takeDimmer; (repeat' split) <;> simp
@[simp] theorem State.takeDimmer_resetN (s : State) (d : Nat) : (s.takeDimmer d).resetN = s.resetN := by
  unfold State.takeDimmer; (repeat' split) <;> simp
@[simp] theorem State.takeDimmer_cli (s : State) (d : Nat) : (s.takeDimmer d).cli = s.cli := by
  unfold State.takeDimmer; (repeat' split) <;> simp
@[simp] theorem State.takeDimmer_fdp (s : State) (d : Nat) : (s.takeDimmer d).fdp = s.fdp := by
  unfold State.takeDimmer; (repeat' split) <;> simp
@[simp] theorem State.takeDimmer_vin (s : State) (d : Nat) : (s.takeDimmer d).vin = s.vin := by
  unfold State.takeDimmer; (repeat' split) <;> simp
@[simp] theorem State.takeDimmer_rvc (s : State) (d : Nat) : (s.takeDimmer d).rvc = s.rvc := by
  unfold State.takeDimmer; (repeat' split) <;> simp
@[simp] theorem State.takeDimmer_gle (s : State) (d : Nat) : (s.takeDimmer d).gle = s.gle := by
  unfold State.takeDimmer; (repeat' split) <;> simp
@[simp] theorem State.takeDimmer_cmp (s : State) (d : Nat) : (s.takeDimmer d).cmp = s.cmp := by
  unfold State.takeDimmer; (repeat' split) <;> simp
@[simp] theorem State.takeDimmer_mnu (s : State) (d : Nat) : (s.takeDimmer d).mnu = s.mnu := by
  unfold State.takeDimmer; (repeat' split) <;> simp
@[simp] theorem State.takeDimmer_chu (s : State) (d : Nat) : (s.takeDimmer d).chu = s.chu := by
  unfold State.takeDimmer; (repeat' split) <;> simp
@[simp] theorem State.takeDimmer_cal (s : State) (d : Nat) : (s.takeDimmer d).cal = s.cal := by
  unfold State.takeDimmer; (repeat' split) <;> simp
@[simp] theorem State.takeDimmer_pending (s : State) (d : Nat) : (s.takeDimmer d).pending = s.pending := by
  unfold State.takeDimmer; (repeat' split) <;> simp

@[simp] theorem State.commandRemoved_timebase (s : State) (i : Seat) : (s.commandRemoved i).timebase = s.timebase := by
  unfold State.commandRemoved; (repeat' split) <;> simp
@[simp] theorem State.commandRemoved_phase (s : State) (i : Seat) : (s.commandRemoved i).phase = s.phase := by
  unfold State.commandRemoved; (repeat' split) <;> simp
@[simp] theorem State.commandRemoved_resetN (s : State) (i : Seat) : (s.commandRemoved i).resetN = s.resetN := by
  unfold State.commandRemoved; (repeat' split) <;> simp
@[simp] theorem State.commandRemoved_cli (s : State) (i : Seat) : (s.commandRemoved i).cli = s.cli := by
  unfold State.commandRemoved; (repeat' split) <;> simp
@[simp] theorem State.commandRemoved_fdp (s : State) (i : Seat) : (s.commandRemoved i).fdp = s.fdp := by
  unfold State.commandRemoved; (repeat' split) <;> simp
@[simp] theorem State.commandRemoved_vin (s : State) (i : Seat) : (s.commandRemoved i).vin = s.vin := by
  unfold State.commandRemoved; (repeat' split) <;> simp
@[simp] theorem State.commandRemoved_rvc (s : State) (i : Seat) : (s.commandRemoved i).rvc = s.rvc := by
  unfold State.commandRemoved; (repeat' split) <;> simp
@[simp] theorem State.commandRemoved_gle (s : State) (i : Seat) : (s.commandRemoved i).gle = s.gle := by
  unfold State.commandRemoved; (repeat' split) <;> simp
@[simp] theorem State.commandRemoved_cmp (s : State) (i : Seat) : (s.commandRemoved i).cmp = s.cmp := by
  unfold State.commandRemoved; (repeat' split) <;> simp
@[simp] theorem State.commandRemoved_mnu (s : State) (i : Seat) : (s.commandRemoved i).mnu = s.mnu := by
  unfold State.commandRemoved; (repeat' split) <;> simp
@[simp] theorem State.commandRemoved_chu (s : State) (i : Seat) : (s.commandRemoved i).chu = s.chu := by
  unfold State.commandRemoved; (repeat' split) <;> simp
@[simp] theorem State.commandRemoved_cal (s : State) (i : Seat) : (s.commandRemoved i).cal = s.cal := by
  unfold State.commandRemoved; (repeat' split) <;> simp
@[simp] theorem State.commandRemoved_pending (s : State) (i : Seat) : (s.commandRemoved i).pending = s.pending := by
  unfold State.commandRemoved; (repeat' split) <;> simp

@[simp] theorem State.volumePress_timebase (s : State) (i : Seat) (d : Dir) : (s.volumePress i d).timebase = s.timebase := by
  unfold State.volumePress; (repeat' split) <;> simp <;> (repeat' split) <;> simp
@[simp] theorem State.volumePress_phase (s : State) (i : Seat) (d : Dir) : (s.volumePress i d).phase = s.phase := by
  unfold State.volumePress; (repeat' split) <;> simp <;> (repeat' split) <;> simp
@[simp] theorem State.volumePress_resetN (s : State) (i : Seat) (d : Dir) : (s.volumePress i d).resetN = s.resetN := by
  unfold State.volumePress; (repeat' split) <;> simp <;> (repeat' split) <;> simp
@[simp] theorem State.volumePress_fdp (s : State) (i : Seat) (d : Dir) : (s.volumePress i d).fdp = s.fdp := by
  unfold State.volumePress; (repeat' split) <;> simp <;> (repeat' split) <;> simp
@[simp] theorem State.volumePress_vin (s : State) (i : Seat) (d : Dir) : (s.volumePress i d).vin = s.vin := by
  unfold State.volumePress; (repeat' split) <;> simp <;> (repeat' split) <;> simp
@[simp] theorem State.volumePress_rvc (s : State) (i : Seat) (d : Dir) : (s.volumePress i d).rvc = s.rvc := by
  unfold State.volumePress; (repeat' split) <;> simp <;> (repeat' split) <;> simp
@[simp] theorem State.volumePress_gle (s : State) (i : Seat) (d : Dir) : (s.volumePress i d).gle = s.gle := by
  unfold State.volumePress; (repeat' split) <;> simp <;> (repeat' split) <;> simp
@[simp] theorem State.volumePress_rsl (s : State) (i : Seat) (d : Dir) : (s.volumePress i d).rsl = s.rsl := by
  unfold State.volumePress; (repeat' split) <;> simp <;> (repeat' split) <;> simp
@[simp] theorem State.volumePress_cmp (s : State) (i : Seat) (d : Dir) : (s.volumePress i d).cmp = s.cmp := by
  unfold State.volumePress; (repeat' split) <;> simp <;> (repeat' split) <;> simp
@[simp] theorem State.volumePress_mnu (s : State) (i : Seat) (d : Dir) : (s.volumePress i d).mnu = s.mnu := by
  unfold State.volumePress; (repeat' split) <;> simp <;> (repeat' split) <;> simp
@[simp] theorem State.volumePress_chu (s : State) (i : Seat) (d : Dir) : (s.volumePress i d).chu = s.chu := by
  unfold State.volumePress; (repeat' split) <;> simp <;> (repeat' split) <;> simp
@[simp] theorem State.volumePress_cal (s : State) (i : Seat) (d : Dir) : (s.volumePress i d).cal = s.cal := by
  unfold State.volumePress; (repeat' split) <;> simp <;> (repeat' split) <;> simp
@[simp] theorem State.volumePress_pending (s : State) (i : Seat) (d : Dir) : (s.volumePress i d).pending = s.pending := by
  unfold State.volumePress; (repeat' split) <;> simp <;> (repeat' split) <;> simp

@[simp] theorem State.brightPress_timebase (s : State) (i : Seat) (d : Dir) : (s.brightPress i d).timebase = s.timebase := by
  unfold State.brightPress; (repeat' split) <;> simp <;> (repeat' split) <;> simp
@[simp] theorem State.brightPress_phase (s : State) (i : Seat) (d : Dir) : (s.brightPress i d).phase = s.phase := by
  unfold State.brightPress; (repeat' split) <;> simp <;> (repeat' split) <;> simp
@[simp] theorem State.brightPress_resetN (s : State) (i : Seat) (d : Dir) : (s.brightPress i d).resetN = s.resetN := by
  unfold State.brightPress; (repeat' split) <;> simp <;> (repeat' split) <;> simp
@[simp] theorem State.brightPress_fdp (s : State) (i : Seat) (d : Dir) : (s.brightPress i d).fdp = s.fdp := by
  unfold State.brightPress; (repeat' split) <;> simp <;> (repeat' split) <;> simp
@[simp] theorem State.brightPress_vin (s : State) (i : Seat) (d : Dir) : (s.brightPress i d).vin = s.vin := by
  unfold State.brightPress; (repeat' split) <;> simp <;> (repeat' split) <;> simp
@[simp] theorem State.brightPress_rvc (s : State) (i : Seat) (d : Dir) : (s.brightPress i d).rvc = s.rvc := by
  unfold State.brightPress; (repeat' split) <;> simp <;> (repeat' split) <;> simp
@[simp] theorem State.brightPress_gle (s : State) (i : Seat) (d : Dir) : (s.brightPress i d).gle = s.gle := by
  unfold State.brightPress; (repeat' split) <;> simp <;> (repeat' split) <;> simp
@[simp] theorem State.brightPress_cmp (s : State) (i : Seat) (d : Dir) : (s.brightPress i d).cmp = s.cmp := by
  unfold State.brightPress; (repeat' split) <;> simp <;> (repeat' split) <;> simp
@[simp] theorem State.brightPress_mnu (s : State) (i : Seat) (d : Dir) : (s.brightPress i d).mnu = s.mnu := by
  unfold State.brightPress; (repeat' split) <;> simp <;> (repeat' split) <;> simp
@[simp] theorem State.brightPress_chu (s : State) (i : Seat) (d : Dir) : (s.brightPress i d).chu = s.chu := by
  unfold State.brightPress; (repeat' split) <;> simp <;> (repeat' split) <;> simp
@[simp] theorem State.brightPress_cal (s : State) (i : Seat) (d : Dir) : (s.brightPress i d).cal = s.cal := by
  unfold State.brightPress; (repeat' split) <;> simp <;> (repeat' split) <;> simp
@[simp] theorem State.brightPress_pending (s : State) (i : Seat) (d : Dir) : (s.brightPress i d).pending = s.pending := by
  unfold State.brightPress; (repeat' split) <;> simp <;> (repeat' split) <;> simp

@[simp] theorem State.releaseKey_timebase (s : State) (i : Seat) (q : Bool) : (s.releaseKey i q).timebase = s.timebase := by
  unfold State.releaseKey; (repeat' split) <;> simp <;> (repeat' split) <;> simp
@[simp] theorem State.releaseKey_phase (s : State) (i : Seat) (q : Bool) : (s.releaseKey i q).phase = s.phase := by
  unfold State.releaseKey; (repeat' split) <;> simp <;> (repeat' split) <;> simp
@[simp] theorem State.releaseKey_resetN (s : State) (i : Seat) (q : Bool) : (s.releaseKey i q).resetN = s.resetN := by
  unfold State.releaseKey; (repeat' split) <;> simp <;> (repeat' split) <;> simp
@[simp] theorem State.releaseKey_fdp (s : State) (i : Seat) (q : Bool) : (s.releaseKey i q).fdp = s.fdp := by
  unfold State.releaseKey; (repeat' split) <;> simp <;> (repeat' split) <;> simp
@[simp] theorem State.releaseKey_vin (s : State) (i : Seat) (q : Bool) : (s.releaseKey i q).vin = s.vin := by
  unfold State.releaseKey; (repeat' split) <;> simp <;> (repeat' split) <;> simp
@[simp] theorem State.releaseKey_rvc (s : State) (i : Seat) (q : Bool) : (s.releaseKey i q).rvc = s.rvc := by
  unfold State.releaseKey; (repeat' split) <;> simp <;> (repeat' split) <;> simp
@[simp] theorem State.releaseKey_gle (s : State) (i : Seat) (q : Bool) : (s.releaseKey i q).gle = s.gle := by
  unfold State.releaseKey; (repeat' split) <;> simp <;> (repeat' split) <;> simp
@[simp] theorem State.releaseKey_rsl (s : State) (i : Seat) (q : Bool) : (s.releaseKey i q).rsl = s.rsl := by
  unfold State.releaseKey; (repeat' split) <;> simp <;> (repeat' split) <;> simp
@[simp] theorem State.releaseKey_cmp (s : State) (i : Seat) (q : Bool) : (s.releaseKey i q).cmp = s.cmp := by
  unfold State.releaseKey; (repeat' split) <;> simp <;> (repeat' split) <;> simp
@[simp] theorem State.releaseKey_mnu (s : State) (i : Seat) (q : Bool) : (s.releaseKey i q).mnu = s.mnu := by
  unfold State.releaseKey; (repeat' split) <;> simp <;> (repeat' split) <;> simp
@[simp] theorem State.releaseKey_chu (s : State) (i : Seat) (q : Bool) : (s.releaseKey i q).chu = s.chu := by
  unfold State.releaseKey; (repeat' split) <;> simp <;> (repeat' split) <;> simp
@[simp] theorem State.releaseKey_cal (s : State) (i : Seat) (q : Bool) : (s.releaseKey i q).cal = s.cal := by
  unfold State.releaseKey; (repeat' split) <;> simp <;> (repeat' split) <;> simp
@[simp] theorem State.releaseKey_pending (s : State) (i : Seat) (q : Bool) : (s.releaseKey i q).pending = s.pending := by
  unfold State.releaseKey; (repeat' split) <;> simp <;> (repeat' split) <;> simp

@[simp] theorem State.linkFellBack_timebase (s : State) (i : Seat) (q : Bool) : (s.linkFellBack i q).timebase = s.timebase := by
  unfold State.linkFellBack; (repeat' split) <;> simp
@[simp] theorem State.linkFellBack_phase (s : State) (i : Seat) (q : Bool) : (s.linkFellBack i q).phase = s.phase := by
  unfold State.linkFellBack; (repeat' split) <;> simp
@[simp] theorem State.linkFellBack_resetN (s : State) (i : Seat) (q : Bool) : (s.linkFellBack i q).resetN = s.resetN := by
  unfold State.linkFellBack; (repeat' split) <;> simp
@[simp] theorem State.linkFellBack_fdp (s : State) (i : Seat) (q : Bool) : (s.linkFellBack i q).fdp = s.fdp := by
  unfold State.linkFellBack; (repeat' split) <;> simp
@[simp] theorem State.linkFellBack_vin (s : State) (i : Seat) (q : Bool) : (s.linkFellBack i q).vin = s.vin := by
  unfold State.linkFellBack; (repeat' split) <;> simp
@[simp] theorem State.linkFellBack_rvc (s : State) (i : Seat) (q : Bool) : (s.linkFellBack i q).rvc = s.rvc := by
  unfold State.linkFellBack; (repeat' split) <;> simp
@[simp] theorem State.linkFellBack_gle (s : State) (i : Seat) (q : Bool) : (s.linkFellBack i q).gle = s.gle := by
  unfold State.linkFellBack; (repeat' split) <;> simp
@[simp] theorem State.linkFellBack_rsl (s : State) (i : Seat) (q : Bool) : (s.linkFellBack i q).rsl = s.rsl := by
  unfold State.linkFellBack; (repeat' split) <;> simp
@[simp] theorem State.linkFellBack_cmp (s : State) (i : Seat) (q : Bool) : (s.linkFellBack i q).cmp = s.cmp := by
  unfold State.linkFellBack; (repeat' split) <;> simp
@[simp] theorem State.linkFellBack_mnu (s : State) (i : Seat) (q : Bool) : (s.linkFellBack i q).mnu = s.mnu := by
  unfold State.linkFellBack; (repeat' split) <;> simp
@[simp] theorem State.linkFellBack_chu (s : State) (i : Seat) (q : Bool) : (s.linkFellBack i q).chu = s.chu := by
  unfold State.linkFellBack; (repeat' split) <;> simp
@[simp] theorem State.linkFellBack_cal (s : State) (i : Seat) (q : Bool) : (s.linkFellBack i q).cal = s.cal := by
  unfold State.linkFellBack; (repeat' split) <;> simp
@[simp] theorem State.linkFellBack_pending (s : State) (i : Seat) (q : Bool) : (s.linkFellBack i q).pending = s.pending := by
  unfold State.linkFellBack; (repeat' split) <;> simp

@[simp] theorem State.seatWarm_timebase (s : State) (i : Seat) : (s.seatWarm i).timebase = s.timebase := by
  unfold State.seatWarm; (repeat' split) <;> simp
@[simp] theorem State.seatWarm_phase (s : State) (i : Seat) : (s.seatWarm i).phase = s.phase := by
  unfold State.seatWarm; (repeat' split) <;> simp
@[simp] theorem State.seatWarm_resetN (s : State) (i : Seat) : (s.seatWarm i).resetN = s.resetN := by
  unfold State.seatWarm; (repeat' split) <;> simp
@[simp] theorem State.seatWarm_fdp (s : State) (i : Seat) : (s.seatWarm i).fdp = s.fdp := by
  unfold State.seatWarm; (repeat' split) <;> simp
@[simp] theorem State.seatWarm_vin (s : State) (i : Seat) : (s.seatWarm i).vin = s.vin := by
  unfold State.seatWarm; (repeat' split) <;> simp
@[simp] theorem State.seatWarm_rvc (s : State) (i : Seat) : (s.seatWarm i).rvc = s.rvc := by
  unfold State.seatWarm; (repeat' split) <;> simp
@[simp] theorem State.seatWarm_gle (s : State) (i : Seat) : (s.seatWarm i).gle = s.gle := by
  unfold State.seatWarm; (repeat' split) <;> simp
@[simp] theorem State.seatWarm_rsl (s : State) (i : Seat) : (s.seatWarm i).rsl = s.rsl := by
  unfold State.seatWarm; (repeat' split) <;> simp
@[simp] theorem State.seatWarm_cmp (s : State) (i : Seat) : (s.seatWarm i).cmp = s.cmp := by
  unfold State.seatWarm; (repeat' split) <;> simp
@[simp] theorem State.seatWarm_mnu (s : State) (i : Seat) : (s.seatWarm i).mnu = s.mnu := by
  unfold State.seatWarm; (repeat' split) <;> simp
@[simp] theorem State.seatWarm_chu (s : State) (i : Seat) : (s.seatWarm i).chu = s.chu := by
  unfold State.seatWarm; (repeat' split) <;> simp
@[simp] theorem State.seatWarm_cal (s : State) (i : Seat) : (s.seatWarm i).cal = s.cal := by
  unfold State.seatWarm; (repeat' split) <;> simp
@[simp] theorem State.seatWarm_pending (s : State) (i : Seat) : (s.seatWarm i).pending = s.pending := by
  unfold State.seatWarm; (repeat' split) <;> simp

@[simp] theorem State.closeMenu_timebase (s : State) (i : Seat) (r : CloseReason) (q : Bool) : (s.closeMenu i r q).timebase = s.timebase := by
  unfold State.closeMenu; (repeat' split) <;> simp
@[simp] theorem State.closeMenu_phase (s : State) (i : Seat) (r : CloseReason) (q : Bool) : (s.closeMenu i r q).phase = s.phase := by
  unfold State.closeMenu; (repeat' split) <;> simp
@[simp] theorem State.closeMenu_resetN (s : State) (i : Seat) (r : CloseReason) (q : Bool) : (s.closeMenu i r q).resetN = s.resetN := by
  unfold State.closeMenu; (repeat' split) <;> simp
@[simp] theorem State.closeMenu_fdp (s : State) (i : Seat) (r : CloseReason) (q : Bool) : (s.closeMenu i r q).fdp = s.fdp := by
  unfold State.closeMenu; (repeat' split) <;> simp
@[simp] theorem State.closeMenu_vin (s : State) (i : Seat) (r : CloseReason) (q : Bool) : (s.closeMenu i r q).vin = s.vin := by
  unfold State.closeMenu; (repeat' split) <;> simp
@[simp] theorem State.closeMenu_rvc (s : State) (i : Seat) (r : CloseReason) (q : Bool) : (s.closeMenu i r q).rvc = s.rvc := by
  unfold State.closeMenu; (repeat' split) <;> simp
@[simp] theorem State.closeMenu_gle (s : State) (i : Seat) (r : CloseReason) (q : Bool) : (s.closeMenu i r q).gle = s.gle := by
  unfold State.closeMenu; (repeat' split) <;> simp
@[simp] theorem State.closeMenu_rsl (s : State) (i : Seat) (r : CloseReason) (q : Bool) : (s.closeMenu i r q).rsl = s.rsl := by
  unfold State.closeMenu; (repeat' split) <;> simp
@[simp] theorem State.closeMenu_sct (s : State) (i : Seat) (r : CloseReason) (q : Bool) : (s.closeMenu i r q).sct = s.sct := by
  unfold State.closeMenu; (repeat' split) <;> simp
@[simp] theorem State.closeMenu_chu (s : State) (i : Seat) (r : CloseReason) (q : Bool) : (s.closeMenu i r q).chu = s.chu := by
  unfold State.closeMenu; (repeat' split) <;> simp
@[simp] theorem State.closeMenu_cal (s : State) (i : Seat) (r : CloseReason) (q : Bool) : (s.closeMenu i r q).cal = s.cal := by
  unfold State.closeMenu; (repeat' split) <;> simp
@[simp] theorem State.closeMenu_pending (s : State) (i : Seat) (r : CloseReason) (q : Bool) : (s.closeMenu i r q).pending = s.pending := by
  unfold State.closeMenu; (repeat' split) <;> simp

@[simp] theorem State.screenLost_timebase (s : State) (i : Seat) (q : Bool) : (s.screenLost i q).timebase = s.timebase := by
  unfold State.screenLost; (repeat' split) <;> simp
@[simp] theorem State.screenLost_phase (s : State) (i : Seat) (q : Bool) : (s.screenLost i q).phase = s.phase := by
  unfold State.screenLost; (repeat' split) <;> simp
@[simp] theorem State.screenLost_resetN (s : State) (i : Seat) (q : Bool) : (s.screenLost i q).resetN = s.resetN := by
  unfold State.screenLost; (repeat' split) <;> simp
@[simp] theorem State.screenLost_fdp (s : State) (i : Seat) (q : Bool) : (s.screenLost i q).fdp = s.fdp := by
  unfold State.screenLost; (repeat' split) <;> simp
@[simp] theorem State.screenLost_vin (s : State) (i : Seat) (q : Bool) : (s.screenLost i q).vin = s.vin := by
  unfold State.screenLost; (repeat' split) <;> simp
@[simp] theorem State.screenLost_rvc (s : State) (i : Seat) (q : Bool) : (s.screenLost i q).rvc = s.rvc := by
  unfold State.screenLost; (repeat' split) <;> simp
@[simp] theorem State.screenLost_gle (s : State) (i : Seat) (q : Bool) : (s.screenLost i q).gle = s.gle := by
  unfold State.screenLost; (repeat' split) <;> simp
@[simp] theorem State.screenLost_rsl (s : State) (i : Seat) (q : Bool) : (s.screenLost i q).rsl = s.rsl := by
  unfold State.screenLost; (repeat' split) <;> simp
@[simp] theorem State.screenLost_sct (s : State) (i : Seat) (q : Bool) : (s.screenLost i q).sct = s.sct := by
  unfold State.screenLost; (repeat' split) <;> simp
@[simp] theorem State.screenLost_chu (s : State) (i : Seat) (q : Bool) : (s.screenLost i q).chu = s.chu := by
  unfold State.screenLost; (repeat' split) <;> simp
@[simp] theorem State.screenLost_cal (s : State) (i : Seat) (q : Bool) : (s.screenLost i q).cal = s.cal := by
  unfold State.screenLost; (repeat' split) <;> simp
@[simp] theorem State.screenLost_pending (s : State) (i : Seat) (q : Bool) : (s.screenLost i q).pending = s.pending := by
  unfold State.screenLost; (repeat' split) <;> simp

@[simp] theorem State.menuClick_timebase (s : State) (i : Seat) (p : Nat) : (s.menuClick i p).timebase = s.timebase := by
  unfold State.menuClick; (repeat' split) <;> simp
@[simp] theorem State.menuClick_phase (s : State) (i : Seat) (p : Nat) : (s.menuClick i p).phase = s.phase := by
  unfold State.menuClick; (repeat' split) <;> simp
@[simp] theorem State.menuClick_resetN (s : State) (i : Seat) (p : Nat) : (s.menuClick i p).resetN = s.resetN := by
  unfold State.menuClick; (repeat' split) <;> simp
@[simp] theorem State.menuClick_fdp (s : State) (i : Seat) (p : Nat) : (s.menuClick i p).fdp = s.fdp := by
  unfold State.menuClick; (repeat' split) <;> simp
@[simp] theorem State.menuClick_vin (s : State) (i : Seat) (p : Nat) : (s.menuClick i p).vin = s.vin := by
  unfold State.menuClick; (repeat' split) <;> simp
@[simp] theorem State.menuClick_gle (s : State) (i : Seat) (p : Nat) : (s.menuClick i p).gle = s.gle := by
  unfold State.menuClick; (repeat' split) <;> simp
@[simp] theorem State.menuClick_rsl (s : State) (i : Seat) (p : Nat) : (s.menuClick i p).rsl = s.rsl := by
  unfold State.menuClick; (repeat' split) <;> simp
@[simp] theorem State.menuClick_cmp (s : State) (i : Seat) (p : Nat) : (s.menuClick i p).cmp = s.cmp := by
  unfold State.menuClick; (repeat' split) <;> simp
@[simp] theorem State.menuClick_mnu (s : State) (i : Seat) (p : Nat) : (s.menuClick i p).mnu = s.mnu := by
  unfold State.menuClick; (repeat' split) <;> simp
@[simp] theorem State.menuClick_sct (s : State) (i : Seat) (p : Nat) : (s.menuClick i p).sct = s.sct := by
  unfold State.menuClick; (repeat' split) <;> simp
@[simp] theorem State.menuClick_cal (s : State) (i : Seat) (p : Nat) : (s.menuClick i p).cal = s.cal := by
  unfold State.menuClick; (repeat' split) <;> simp
@[simp] theorem State.menuClick_pending (s : State) (i : Seat) (p : Nat) : (s.menuClick i p).pending = s.pending := by
  unfold State.menuClick; (repeat' split) <;> simp

@[simp] theorem State.consumed_timebase (s : State) (i : Seat) (p : Nat) : (s.consumed i p).timebase = s.timebase := by
  unfold State.consumed; (repeat' split) <;> simp
@[simp] theorem State.consumed_phase (s : State) (i : Seat) (p : Nat) : (s.consumed i p).phase = s.phase := by
  unfold State.consumed; (repeat' split) <;> simp
@[simp] theorem State.consumed_resetN (s : State) (i : Seat) (p : Nat) : (s.consumed i p).resetN = s.resetN := by
  unfold State.consumed; (repeat' split) <;> simp
@[simp] theorem State.consumed_fdp (s : State) (i : Seat) (p : Nat) : (s.consumed i p).fdp = s.fdp := by
  unfold State.consumed; (repeat' split) <;> simp
@[simp] theorem State.consumed_vin (s : State) (i : Seat) (p : Nat) : (s.consumed i p).vin = s.vin := by
  unfold State.consumed; (repeat' split) <;> simp
@[simp] theorem State.consumed_gle (s : State) (i : Seat) (p : Nat) : (s.consumed i p).gle = s.gle := by
  unfold State.consumed; (repeat' split) <;> simp
@[simp] theorem State.consumed_rsl (s : State) (i : Seat) (p : Nat) : (s.consumed i p).rsl = s.rsl := by
  unfold State.consumed; (repeat' split) <;> simp
@[simp] theorem State.consumed_cmp (s : State) (i : Seat) (p : Nat) : (s.consumed i p).cmp = s.cmp := by
  unfold State.consumed; (repeat' split) <;> simp
@[simp] theorem State.consumed_sct (s : State) (i : Seat) (p : Nat) : (s.consumed i p).sct = s.sct := by
  unfold State.consumed; (repeat' split) <;> simp
@[simp] theorem State.consumed_cal (s : State) (i : Seat) (p : Nat) : (s.consumed i p).cal = s.cal := by
  unfold State.consumed; (repeat' split) <;> simp
@[simp] theorem State.consumed_pending (s : State) (i : Seat) (p : Nat) : (s.consumed i p).pending = s.pending := by
  unfold State.consumed; (repeat' split) <;> simp

@[simp] theorem State.menuMove_timebase (s : State) (i : Seat) (p : Page) (e : Entry) (d : Dir) : (s.menuMove i p e d).timebase = s.timebase := by
  unfold State.menuMove; (repeat' split) <;> simp
@[simp] theorem State.menuMove_phase (s : State) (i : Seat) (p : Page) (e : Entry) (d : Dir) : (s.menuMove i p e d).phase = s.phase := by
  unfold State.menuMove; (repeat' split) <;> simp
@[simp] theorem State.menuMove_resetN (s : State) (i : Seat) (p : Page) (e : Entry) (d : Dir) : (s.menuMove i p e d).resetN = s.resetN := by
  unfold State.menuMove; (repeat' split) <;> simp
@[simp] theorem State.menuMove_fdp (s : State) (i : Seat) (p : Page) (e : Entry) (d : Dir) : (s.menuMove i p e d).fdp = s.fdp := by
  unfold State.menuMove; (repeat' split) <;> simp
@[simp] theorem State.menuMove_vin (s : State) (i : Seat) (p : Page) (e : Entry) (d : Dir) : (s.menuMove i p e d).vin = s.vin := by
  unfold State.menuMove; (repeat' split) <;> simp
@[simp] theorem State.menuMove_gle (s : State) (i : Seat) (p : Page) (e : Entry) (d : Dir) : (s.menuMove i p e d).gle = s.gle := by
  unfold State.menuMove; (repeat' split) <;> simp
@[simp] theorem State.menuMove_rsl (s : State) (i : Seat) (p : Page) (e : Entry) (d : Dir) : (s.menuMove i p e d).rsl = s.rsl := by
  unfold State.menuMove; (repeat' split) <;> simp
@[simp] theorem State.menuMove_cmp (s : State) (i : Seat) (p : Page) (e : Entry) (d : Dir) : (s.menuMove i p e d).cmp = s.cmp := by
  unfold State.menuMove; (repeat' split) <;> simp
@[simp] theorem State.menuMove_sct (s : State) (i : Seat) (p : Page) (e : Entry) (d : Dir) : (s.menuMove i p e d).sct = s.sct := by
  unfold State.menuMove; (repeat' split) <;> simp
@[simp] theorem State.menuMove_cal (s : State) (i : Seat) (p : Page) (e : Entry) (d : Dir) : (s.menuMove i p e d).cal = s.cal := by
  unfold State.menuMove; (repeat' split) <;> simp
@[simp] theorem State.menuMove_pending (s : State) (i : Seat) (p : Page) (e : Entry) (d : Dir) : (s.menuMove i p e d).pending = s.pending := by
  unfold State.menuMove; (repeat' split) <;> simp

@[simp] theorem State.menuPop_timebase (s : State) (i : Seat) : (s.menuPop i).timebase = s.timebase := by
  unfold State.menuPop; (repeat' split) <;> simp
@[simp] theorem State.menuPop_phase (s : State) (i : Seat) : (s.menuPop i).phase = s.phase := by
  unfold State.menuPop; (repeat' split) <;> simp
@[simp] theorem State.menuPop_resetN (s : State) (i : Seat) : (s.menuPop i).resetN = s.resetN := by
  unfold State.menuPop; (repeat' split) <;> simp
@[simp] theorem State.menuPop_fdp (s : State) (i : Seat) : (s.menuPop i).fdp = s.fdp := by
  unfold State.menuPop; (repeat' split) <;> simp
@[simp] theorem State.menuPop_vin (s : State) (i : Seat) : (s.menuPop i).vin = s.vin := by
  unfold State.menuPop; (repeat' split) <;> simp
@[simp] theorem State.menuPop_gle (s : State) (i : Seat) : (s.menuPop i).gle = s.gle := by
  unfold State.menuPop; (repeat' split) <;> simp
@[simp] theorem State.menuPop_rsl (s : State) (i : Seat) : (s.menuPop i).rsl = s.rsl := by
  unfold State.menuPop; (repeat' split) <;> simp
@[simp] theorem State.menuPop_sct (s : State) (i : Seat) : (s.menuPop i).sct = s.sct := by
  unfold State.menuPop; (repeat' split) <;> simp
@[simp] theorem State.menuPop_cal (s : State) (i : Seat) : (s.menuPop i).cal = s.cal := by
  unfold State.menuPop; (repeat' split) <;> simp
@[simp] theorem State.menuPop_pending (s : State) (i : Seat) : (s.menuPop i).pending = s.pending := by
  unfold State.menuPop; (repeat' split) <;> simp

@[simp] theorem State.menuOk_timebase (s : State) (i : Seat) (e : Entry) (n : Nat) (it : Item) : (s.menuOk i e n it).timebase = s.timebase := by
  unfold State.menuOk; (repeat' split) <;> simp
@[simp] theorem State.menuOk_phase (s : State) (i : Seat) (e : Entry) (n : Nat) (it : Item) : (s.menuOk i e n it).phase = s.phase := by
  unfold State.menuOk; (repeat' split) <;> simp
@[simp] theorem State.menuOk_resetN (s : State) (i : Seat) (e : Entry) (n : Nat) (it : Item) : (s.menuOk i e n it).resetN = s.resetN := by
  unfold State.menuOk; (repeat' split) <;> simp
@[simp] theorem State.menuOk_fdp (s : State) (i : Seat) (e : Entry) (n : Nat) (it : Item) : (s.menuOk i e n it).fdp = s.fdp := by
  unfold State.menuOk; (repeat' split) <;> simp
@[simp] theorem State.menuOk_vin (s : State) (i : Seat) (e : Entry) (n : Nat) (it : Item) : (s.menuOk i e n it).vin = s.vin := by
  unfold State.menuOk; (repeat' split) <;> simp
@[simp] theorem State.menuOk_gle (s : State) (i : Seat) (e : Entry) (n : Nat) (it : Item) : (s.menuOk i e n it).gle = s.gle := by
  unfold State.menuOk; (repeat' split) <;> simp
@[simp] theorem State.menuOk_rsl (s : State) (i : Seat) (e : Entry) (n : Nat) (it : Item) : (s.menuOk i e n it).rsl = s.rsl := by
  unfold State.menuOk; (repeat' split) <;> simp
@[simp] theorem State.menuOk_sct (s : State) (i : Seat) (e : Entry) (n : Nat) (it : Item) : (s.menuOk i e n it).sct = s.sct := by
  unfold State.menuOk; (repeat' split) <;> simp
@[simp] theorem State.menuOk_cal (s : State) (i : Seat) (e : Entry) (n : Nat) (it : Item) : (s.menuOk i e n it).cal = s.cal := by
  unfold State.menuOk; (repeat' split) <;> simp
@[simp] theorem State.menuOk_pending (s : State) (i : Seat) (e : Entry) (n : Nat) (it : Item) : (s.menuOk i e n it).pending = s.pending := by
  unfold State.menuOk; (repeat' split) <;> simp

@[simp] theorem State.menuSide_timebase (s : State) (i : Seat) (e : Entry) (n : Nat) (it : Item) (d : Dir) : (s.menuSide i e n it d).timebase = s.timebase := by
  unfold State.menuSide; (repeat' split) <;> simp <;> (repeat' split) <;> simp
@[simp] theorem State.menuSide_phase (s : State) (i : Seat) (e : Entry) (n : Nat) (it : Item) (d : Dir) : (s.menuSide i e n it d).phase = s.phase := by
  unfold State.menuSide; (repeat' split) <;> simp <;> (repeat' split) <;> simp
@[simp] theorem State.menuSide_resetN (s : State) (i : Seat) (e : Entry) (n : Nat) (it : Item) (d : Dir) : (s.menuSide i e n it d).resetN = s.resetN := by
  unfold State.menuSide; (repeat' split) <;> simp <;> (repeat' split) <;> simp
@[simp] theorem State.menuSide_fdp (s : State) (i : Seat) (e : Entry) (n : Nat) (it : Item) (d : Dir) : (s.menuSide i e n it d).fdp = s.fdp := by
  unfold State.menuSide; (repeat' split) <;> simp <;> (repeat' split) <;> simp
@[simp] theorem State.menuSide_vin (s : State) (i : Seat) (e : Entry) (n : Nat) (it : Item) (d : Dir) : (s.menuSide i e n it d).vin = s.vin := by
  unfold State.menuSide; (repeat' split) <;> simp <;> (repeat' split) <;> simp
@[simp] theorem State.menuSide_gle (s : State) (i : Seat) (e : Entry) (n : Nat) (it : Item) (d : Dir) : (s.menuSide i e n it d).gle = s.gle := by
  unfold State.menuSide; (repeat' split) <;> simp <;> (repeat' split) <;> simp
@[simp] theorem State.menuSide_cmp (s : State) (i : Seat) (e : Entry) (n : Nat) (it : Item) (d : Dir) : (s.menuSide i e n it d).cmp = s.cmp := by
  unfold State.menuSide; (repeat' split) <;> simp <;> (repeat' split) <;> simp
@[simp] theorem State.menuSide_cal (s : State) (i : Seat) (e : Entry) (n : Nat) (it : Item) (d : Dir) : (s.menuSide i e n it d).cal = s.cal := by
  unfold State.menuSide; (repeat' split) <;> simp <;> (repeat' split) <;> simp
@[simp] theorem State.menuSide_pending (s : State) (i : Seat) (e : Entry) (n : Nat) (it : Item) (d : Dir) : (s.menuSide i e n it d).pending = s.pending := by
  unfold State.menuSide; (repeat' split) <;> simp <;> (repeat' split) <;> simp

@[simp] theorem State.menuKey_timebase (s : State) (i : Seat) (k : Key) : (s.menuKey i k).timebase = s.timebase := by
  unfold State.menuKey; (repeat' split) <;> simp
@[simp] theorem State.menuKey_phase (s : State) (i : Seat) (k : Key) : (s.menuKey i k).phase = s.phase := by
  unfold State.menuKey; (repeat' split) <;> simp
@[simp] theorem State.menuKey_resetN (s : State) (i : Seat) (k : Key) : (s.menuKey i k).resetN = s.resetN := by
  unfold State.menuKey; (repeat' split) <;> simp
@[simp] theorem State.menuKey_fdp (s : State) (i : Seat) (k : Key) : (s.menuKey i k).fdp = s.fdp := by
  unfold State.menuKey; (repeat' split) <;> simp
@[simp] theorem State.menuKey_vin (s : State) (i : Seat) (k : Key) : (s.menuKey i k).vin = s.vin := by
  unfold State.menuKey; (repeat' split) <;> simp
@[simp] theorem State.menuKey_gle (s : State) (i : Seat) (k : Key) : (s.menuKey i k).gle = s.gle := by
  unfold State.menuKey; (repeat' split) <;> simp
@[simp] theorem State.menuKey_cal (s : State) (i : Seat) (k : Key) : (s.menuKey i k).cal = s.cal := by
  unfold State.menuKey; (repeat' split) <;> simp
@[simp] theorem State.menuKey_pending (s : State) (i : Seat) (k : Key) : (s.menuKey i k).pending = s.pending := by
  unfold State.menuKey; (repeat' split) <;> simp

@[simp] theorem State.adjustSeat_timebase (s : State) (p : Page) (i : Seat) : (s.adjustSeat p i).timebase = s.timebase := by
  unfold State.adjustSeat; (repeat' split) <;> simp
@[simp] theorem State.adjustSeat_phase (s : State) (p : Page) (i : Seat) : (s.adjustSeat p i).phase = s.phase := by
  unfold State.adjustSeat; (repeat' split) <;> simp
@[simp] theorem State.adjustSeat_resetN (s : State) (p : Page) (i : Seat) : (s.adjustSeat p i).resetN = s.resetN := by
  unfold State.adjustSeat; (repeat' split) <;> simp
@[simp] theorem State.adjustSeat_cli (s : State) (p : Page) (i : Seat) : (s.adjustSeat p i).cli = s.cli := by
  unfold State.adjustSeat; (repeat' split) <;> simp
@[simp] theorem State.adjustSeat_fdp (s : State) (p : Page) (i : Seat) : (s.adjustSeat p i).fdp = s.fdp := by
  unfold State.adjustSeat; (repeat' split) <;> simp
@[simp] theorem State.adjustSeat_vin (s : State) (p : Page) (i : Seat) : (s.adjustSeat p i).vin = s.vin := by
  unfold State.adjustSeat; (repeat' split) <;> simp
@[simp] theorem State.adjustSeat_rvc (s : State) (p : Page) (i : Seat) : (s.adjustSeat p i).rvc = s.rvc := by
  unfold State.adjustSeat; (repeat' split) <;> simp
@[simp] theorem State.adjustSeat_gle (s : State) (p : Page) (i : Seat) : (s.adjustSeat p i).gle = s.gle := by
  unfold State.adjustSeat; (repeat' split) <;> simp
@[simp] theorem State.adjustSeat_rsl (s : State) (p : Page) (i : Seat) : (s.adjustSeat p i).rsl = s.rsl := by
  unfold State.adjustSeat; (repeat' split) <;> simp
@[simp] theorem State.adjustSeat_cmp (s : State) (p : Page) (i : Seat) : (s.adjustSeat p i).cmp = s.cmp := by
  unfold State.adjustSeat; (repeat' split) <;> simp
@[simp] theorem State.adjustSeat_sct (s : State) (p : Page) (i : Seat) : (s.adjustSeat p i).sct = s.sct := by
  unfold State.adjustSeat; (repeat' split) <;> simp
@[simp] theorem State.adjustSeat_chu (s : State) (p : Page) (i : Seat) : (s.adjustSeat p i).chu = s.chu := by
  unfold State.adjustSeat; (repeat' split) <;> simp
@[simp] theorem State.adjustSeat_cal (s : State) (p : Page) (i : Seat) : (s.adjustSeat p i).cal = s.cal := by
  unfold State.adjustSeat; (repeat' split) <;> simp
@[simp] theorem State.adjustSeat_pending (s : State) (p : Page) (i : Seat) : (s.adjustSeat p i).pending = s.pending := by
  unfold State.adjustSeat; (repeat' split) <;> simp

@[simp] theorem State.adjustBoth_timebase (s : State) (p : Page) : (s.adjustBoth p).timebase = s.timebase := by
  unfold State.adjustBoth; (repeat' split) <;> simp
@[simp] theorem State.adjustBoth_phase (s : State) (p : Page) : (s.adjustBoth p).phase = s.phase := by
  unfold State.adjustBoth; (repeat' split) <;> simp
@[simp] theorem State.adjustBoth_resetN (s : State) (p : Page) : (s.adjustBoth p).resetN = s.resetN := by
  unfold State.adjustBoth; (repeat' split) <;> simp
@[simp] theorem State.adjustBoth_cli (s : State) (p : Page) : (s.adjustBoth p).cli = s.cli := by
  unfold State.adjustBoth; (repeat' split) <;> simp
@[simp] theorem State.adjustBoth_fdp (s : State) (p : Page) : (s.adjustBoth p).fdp = s.fdp := by
  unfold State.adjustBoth; (repeat' split) <;> simp
@[simp] theorem State.adjustBoth_vin (s : State) (p : Page) : (s.adjustBoth p).vin = s.vin := by
  unfold State.adjustBoth; (repeat' split) <;> simp
@[simp] theorem State.adjustBoth_rvc (s : State) (p : Page) : (s.adjustBoth p).rvc = s.rvc := by
  unfold State.adjustBoth; (repeat' split) <;> simp
@[simp] theorem State.adjustBoth_gle (s : State) (p : Page) : (s.adjustBoth p).gle = s.gle := by
  unfold State.adjustBoth; (repeat' split) <;> simp
@[simp] theorem State.adjustBoth_rsl (s : State) (p : Page) : (s.adjustBoth p).rsl = s.rsl := by
  unfold State.adjustBoth; (repeat' split) <;> simp
@[simp] theorem State.adjustBoth_cmp (s : State) (p : Page) : (s.adjustBoth p).cmp = s.cmp := by
  unfold State.adjustBoth; (repeat' split) <;> simp
@[simp] theorem State.adjustBoth_sct (s : State) (p : Page) : (s.adjustBoth p).sct = s.sct := by
  unfold State.adjustBoth; (repeat' split) <;> simp
@[simp] theorem State.adjustBoth_chu (s : State) (p : Page) : (s.adjustBoth p).chu = s.chu := by
  unfold State.adjustBoth; (repeat' split) <;> simp
@[simp] theorem State.adjustBoth_cal (s : State) (p : Page) : (s.adjustBoth p).cal = s.cal := by
  unfold State.adjustBoth; (repeat' split) <;> simp
@[simp] theorem State.adjustBoth_pending (s : State) (p : Page) : (s.adjustBoth p).pending = s.pending := by
  unfold State.adjustBoth; (repeat' split) <;> simp

@[simp] theorem State.changeItem_timebase (s : State) (p n : Nat) (a b : Item) : (s.changeItem p n a b).timebase = s.timebase := by
  unfold State.changeItem; (repeat' split) <;> simp <;> (repeat' split) <;> simp
@[simp] theorem State.changeItem_phase (s : State) (p n : Nat) (a b : Item) : (s.changeItem p n a b).phase = s.phase := by
  unfold State.changeItem; (repeat' split) <;> simp <;> (repeat' split) <;> simp
@[simp] theorem State.changeItem_resetN (s : State) (p n : Nat) (a b : Item) : (s.changeItem p n a b).resetN = s.resetN := by
  unfold State.changeItem; (repeat' split) <;> simp <;> (repeat' split) <;> simp
@[simp] theorem State.changeItem_cli (s : State) (p n : Nat) (a b : Item) : (s.changeItem p n a b).cli = s.cli := by
  unfold State.changeItem; (repeat' split) <;> simp <;> (repeat' split) <;> simp
@[simp] theorem State.changeItem_fdp (s : State) (p n : Nat) (a b : Item) : (s.changeItem p n a b).fdp = s.fdp := by
  unfold State.changeItem; (repeat' split) <;> simp <;> (repeat' split) <;> simp
@[simp] theorem State.changeItem_vin (s : State) (p n : Nat) (a b : Item) : (s.changeItem p n a b).vin = s.vin := by
  unfold State.changeItem; (repeat' split) <;> simp <;> (repeat' split) <;> simp
@[simp] theorem State.changeItem_rvc (s : State) (p n : Nat) (a b : Item) : (s.changeItem p n a b).rvc = s.rvc := by
  unfold State.changeItem; (repeat' split) <;> simp <;> (repeat' split) <;> simp
@[simp] theorem State.changeItem_gle (s : State) (p n : Nat) (a b : Item) : (s.changeItem p n a b).gle = s.gle := by
  unfold State.changeItem; (repeat' split) <;> simp <;> (repeat' split) <;> simp
@[simp] theorem State.changeItem_rsl (s : State) (p n : Nat) (a b : Item) : (s.changeItem p n a b).rsl = s.rsl := by
  unfold State.changeItem; (repeat' split) <;> simp <;> (repeat' split) <;> simp
@[simp] theorem State.changeItem_cmp (s : State) (p n : Nat) (a b : Item) : (s.changeItem p n a b).cmp = s.cmp := by
  unfold State.changeItem; (repeat' split) <;> simp <;> (repeat' split) <;> simp
@[simp] theorem State.changeItem_sct (s : State) (p n : Nat) (a b : Item) : (s.changeItem p n a b).sct = s.sct := by
  unfold State.changeItem; (repeat' split) <;> simp <;> (repeat' split) <;> simp
@[simp] theorem State.changeItem_chu (s : State) (p n : Nat) (a b : Item) : (s.changeItem p n a b).chu = s.chu := by
  unfold State.changeItem; (repeat' split) <;> simp <;> (repeat' split) <;> simp
@[simp] theorem State.changeItem_cal (s : State) (p n : Nat) (a b : Item) : (s.changeItem p n a b).cal = s.cal := by
  unfold State.changeItem; (repeat' split) <;> simp <;> (repeat' split) <;> simp
@[simp] theorem State.changeItem_pending (s : State) (p n : Nat) (a b : Item) : (s.changeItem p n a b).pending = s.pending := by
  unfold State.changeItem; (repeat' split) <;> simp <;> (repeat' split) <;> simp

@[simp] theorem State.closeIfHolds_timebase (s : State) (id : Nat) (i : Seat) : (s.closeIfHolds id i).timebase = s.timebase := by
  unfold State.closeIfHolds; (repeat' split) <;> simp
@[simp] theorem State.closeIfHolds_phase (s : State) (id : Nat) (i : Seat) : (s.closeIfHolds id i).phase = s.phase := by
  unfold State.closeIfHolds; (repeat' split) <;> simp
@[simp] theorem State.closeIfHolds_resetN (s : State) (id : Nat) (i : Seat) : (s.closeIfHolds id i).resetN = s.resetN := by
  unfold State.closeIfHolds; (repeat' split) <;> simp
@[simp] theorem State.closeIfHolds_fdp (s : State) (id : Nat) (i : Seat) : (s.closeIfHolds id i).fdp = s.fdp := by
  unfold State.closeIfHolds; (repeat' split) <;> simp
@[simp] theorem State.closeIfHolds_vin (s : State) (id : Nat) (i : Seat) : (s.closeIfHolds id i).vin = s.vin := by
  unfold State.closeIfHolds; (repeat' split) <;> simp
@[simp] theorem State.closeIfHolds_rvc (s : State) (id : Nat) (i : Seat) : (s.closeIfHolds id i).rvc = s.rvc := by
  unfold State.closeIfHolds; (repeat' split) <;> simp
@[simp] theorem State.closeIfHolds_gle (s : State) (id : Nat) (i : Seat) : (s.closeIfHolds id i).gle = s.gle := by
  unfold State.closeIfHolds; (repeat' split) <;> simp
@[simp] theorem State.closeIfHolds_rsl (s : State) (id : Nat) (i : Seat) : (s.closeIfHolds id i).rsl = s.rsl := by
  unfold State.closeIfHolds; (repeat' split) <;> simp
@[simp] theorem State.closeIfHolds_sct (s : State) (id : Nat) (i : Seat) : (s.closeIfHolds id i).sct = s.sct := by
  unfold State.closeIfHolds; (repeat' split) <;> simp
@[simp] theorem State.closeIfHolds_chu (s : State) (id : Nat) (i : Seat) : (s.closeIfHolds id i).chu = s.chu := by
  unfold State.closeIfHolds; (repeat' split) <;> simp
@[simp] theorem State.closeIfHolds_cal (s : State) (id : Nat) (i : Seat) : (s.closeIfHolds id i).cal = s.cal := by
  unfold State.closeIfHolds; (repeat' split) <;> simp
@[simp] theorem State.closeIfHolds_pending (s : State) (id : Nat) (i : Seat) : (s.closeIfHolds id i).pending = s.pending := by
  unfold State.closeIfHolds; (repeat' split) <;> simp

@[simp] theorem State.idleExpired_timebase (s : State) (i : Seat) : (s.idleExpired i).timebase = s.timebase := by
  unfold State.idleExpired; (repeat' split) <;> simp
@[simp] theorem State.idleExpired_phase (s : State) (i : Seat) : (s.idleExpired i).phase = s.phase := by
  unfold State.idleExpired; (repeat' split) <;> simp
@[simp] theorem State.idleExpired_resetN (s : State) (i : Seat) : (s.idleExpired i).resetN = s.resetN := by
  unfold State.idleExpired; (repeat' split) <;> simp
@[simp] theorem State.idleExpired_fdp (s : State) (i : Seat) : (s.idleExpired i).fdp = s.fdp := by
  unfold State.idleExpired; (repeat' split) <;> simp
@[simp] theorem State.idleExpired_vin (s : State) (i : Seat) : (s.idleExpired i).vin = s.vin := by
  unfold State.idleExpired; (repeat' split) <;> simp
@[simp] theorem State.idleExpired_rvc (s : State) (i : Seat) : (s.idleExpired i).rvc = s.rvc := by
  unfold State.idleExpired; (repeat' split) <;> simp
@[simp] theorem State.idleExpired_gle (s : State) (i : Seat) : (s.idleExpired i).gle = s.gle := by
  unfold State.idleExpired; (repeat' split) <;> simp
@[simp] theorem State.idleExpired_rsl (s : State) (i : Seat) : (s.idleExpired i).rsl = s.rsl := by
  unfold State.idleExpired; (repeat' split) <;> simp
@[simp] theorem State.idleExpired_sct (s : State) (i : Seat) : (s.idleExpired i).sct = s.sct := by
  unfold State.idleExpired; (repeat' split) <;> simp
@[simp] theorem State.idleExpired_chu (s : State) (i : Seat) : (s.idleExpired i).chu = s.chu := by
  unfold State.idleExpired; (repeat' split) <;> simp
@[simp] theorem State.idleExpired_cal (s : State) (i : Seat) : (s.idleExpired i).cal = s.cal := by
  unfold State.idleExpired; (repeat' split) <;> simp
@[simp] theorem State.idleExpired_pending (s : State) (i : Seat) : (s.idleExpired i).pending = s.pending := by
  unfold State.idleExpired; (repeat' split) <;> simp

@[simp] theorem State.navigate_timebase (s : State) (i : Seat) (k : Key) (e : KeyEvent) : (s.navigate i k e).timebase = s.timebase := by
  unfold State.navigate; (repeat' split) <;> simp
@[simp] theorem State.navigate_phase (s : State) (i : Seat) (k : Key) (e : KeyEvent) : (s.navigate i k e).phase = s.phase := by
  unfold State.navigate; (repeat' split) <;> simp
@[simp] theorem State.navigate_resetN (s : State) (i : Seat) (k : Key) (e : KeyEvent) : (s.navigate i k e).resetN = s.resetN := by
  unfold State.navigate; (repeat' split) <;> simp
@[simp] theorem State.navigate_fdp (s : State) (i : Seat) (k : Key) (e : KeyEvent) : (s.navigate i k e).fdp = s.fdp := by
  unfold State.navigate; (repeat' split) <;> simp
@[simp] theorem State.navigate_vin (s : State) (i : Seat) (k : Key) (e : KeyEvent) : (s.navigate i k e).vin = s.vin := by
  unfold State.navigate; (repeat' split) <;> simp
@[simp] theorem State.navigate_gle (s : State) (i : Seat) (k : Key) (e : KeyEvent) : (s.navigate i k e).gle = s.gle := by
  unfold State.navigate; (repeat' split) <;> simp
@[simp] theorem State.navigate_cal (s : State) (i : Seat) (k : Key) (e : KeyEvent) : (s.navigate i k e).cal = s.cal := by
  unfold State.navigate; (repeat' split) <;> simp
@[simp] theorem State.navigate_pending (s : State) (i : Seat) (k : Key) (e : KeyEvent) : (s.navigate i k e).pending = s.pending := by
  unfold State.navigate; (repeat' split) <;> simp

@[simp] theorem State.menuPress_timebase (s : State) (i : Seat) (e : KeyEvent) : (s.menuPress i e).timebase = s.timebase := by
  unfold State.menuPress State.menuKeyOpen; cases s.rootPage i <;> simp <;> split <;> simp
@[simp] theorem State.menuPress_phase (s : State) (i : Seat) (e : KeyEvent) : (s.menuPress i e).phase = s.phase := by
  unfold State.menuPress State.menuKeyOpen; cases s.rootPage i <;> simp <;> split <;> simp
@[simp] theorem State.menuPress_resetN (s : State) (i : Seat) (e : KeyEvent) : (s.menuPress i e).resetN = s.resetN := by
  unfold State.menuPress State.menuKeyOpen; cases s.rootPage i <;> simp <;> split <;> simp
@[simp] theorem State.menuPress_fdp (s : State) (i : Seat) (e : KeyEvent) : (s.menuPress i e).fdp = s.fdp := by
  unfold State.menuPress State.menuKeyOpen; cases s.rootPage i <;> simp <;> split <;> simp
@[simp] theorem State.menuPress_vin (s : State) (i : Seat) (e : KeyEvent) : (s.menuPress i e).vin = s.vin := by
  unfold State.menuPress State.menuKeyOpen; cases s.rootPage i <;> simp <;> split <;> simp
@[simp] theorem State.menuPress_gle (s : State) (i : Seat) (e : KeyEvent) : (s.menuPress i e).gle = s.gle := by
  unfold State.menuPress State.menuKeyOpen; cases s.rootPage i <;> simp <;> split <;> simp
@[simp] theorem State.menuPress_cal (s : State) (i : Seat) (e : KeyEvent) : (s.menuPress i e).cal = s.cal := by
  unfold State.menuPress State.menuKeyOpen; cases s.rootPage i <;> simp <;> split <;> simp
@[simp] theorem State.menuPress_pending (s : State) (i : Seat) (e : KeyEvent) : (s.menuPress i e).pending = s.pending := by
  unfold State.menuPress State.menuKeyOpen; cases s.rootPage i <;> simp <;> split <;> simp

@[simp] theorem State.dispatchKey_timebase (s : State) (i : Seat) (k : Key) (e : KeyEvent) : (s.dispatchKey i k e).timebase = s.timebase := by
  unfold State.dispatchKey; (repeat' split) <;> simp
@[simp] theorem State.dispatchKey_phase (s : State) (i : Seat) (k : Key) (e : KeyEvent) : (s.dispatchKey i k e).phase = s.phase := by
  unfold State.dispatchKey; (repeat' split) <;> simp
@[simp] theorem State.dispatchKey_resetN (s : State) (i : Seat) (k : Key) (e : KeyEvent) : (s.dispatchKey i k e).resetN = s.resetN := by
  unfold State.dispatchKey; (repeat' split) <;> simp
@[simp] theorem State.dispatchKey_fdp (s : State) (i : Seat) (k : Key) (e : KeyEvent) : (s.dispatchKey i k e).fdp = s.fdp := by
  unfold State.dispatchKey; (repeat' split) <;> simp
@[simp] theorem State.dispatchKey_vin (s : State) (i : Seat) (k : Key) (e : KeyEvent) : (s.dispatchKey i k e).vin = s.vin := by
  unfold State.dispatchKey; (repeat' split) <;> simp
@[simp] theorem State.dispatchKey_gle (s : State) (i : Seat) (k : Key) (e : KeyEvent) : (s.dispatchKey i k e).gle = s.gle := by
  unfold State.dispatchKey; (repeat' split) <;> simp
@[simp] theorem State.dispatchKey_cal (s : State) (i : Seat) (k : Key) (e : KeyEvent) : (s.dispatchKey i k e).cal = s.cal := by
  unfold State.dispatchKey; (repeat' split) <;> simp
@[simp] theorem State.dispatchKey_pending (s : State) (i : Seat) (k : Key) (e : KeyEvent) : (s.dispatchKey i k e).pending = s.pending := by
  unfold State.dispatchKey; (repeat' split) <;> simp

@[simp] theorem State.holdKey_timebase (s : State) (i : Seat) (k : Key) : (s.holdKey i k).timebase = s.timebase := by
  unfold State.holdKey; (repeat' split) <;> simp
@[simp] theorem State.holdKey_phase (s : State) (i : Seat) (k : Key) : (s.holdKey i k).phase = s.phase := by
  unfold State.holdKey; (repeat' split) <;> simp
@[simp] theorem State.holdKey_resetN (s : State) (i : Seat) (k : Key) : (s.holdKey i k).resetN = s.resetN := by
  unfold State.holdKey; (repeat' split) <;> simp
@[simp] theorem State.holdKey_fdp (s : State) (i : Seat) (k : Key) : (s.holdKey i k).fdp = s.fdp := by
  unfold State.holdKey; (repeat' split) <;> simp
@[simp] theorem State.holdKey_vin (s : State) (i : Seat) (k : Key) : (s.holdKey i k).vin = s.vin := by
  unfold State.holdKey; (repeat' split) <;> simp
@[simp] theorem State.holdKey_rvc (s : State) (i : Seat) (k : Key) : (s.holdKey i k).rvc = s.rvc := by
  unfold State.holdKey; (repeat' split) <;> simp
@[simp] theorem State.holdKey_gle (s : State) (i : Seat) (k : Key) : (s.holdKey i k).gle = s.gle := by
  unfold State.holdKey; (repeat' split) <;> simp
@[simp] theorem State.holdKey_rsl (s : State) (i : Seat) (k : Key) : (s.holdKey i k).rsl = s.rsl := by
  unfold State.holdKey; (repeat' split) <;> simp
@[simp] theorem State.holdKey_cmp (s : State) (i : Seat) (k : Key) : (s.holdKey i k).cmp = s.cmp := by
  unfold State.holdKey; (repeat' split) <;> simp
@[simp] theorem State.holdKey_mnu (s : State) (i : Seat) (k : Key) : (s.holdKey i k).mnu = s.mnu := by
  unfold State.holdKey; (repeat' split) <;> simp
@[simp] theorem State.holdKey_chu (s : State) (i : Seat) (k : Key) : (s.holdKey i k).chu = s.chu := by
  unfold State.holdKey; (repeat' split) <;> simp
@[simp] theorem State.holdKey_cal (s : State) (i : Seat) (k : Key) : (s.holdKey i k).cal = s.cal := by
  unfold State.holdKey; (repeat' split) <;> simp
@[simp] theorem State.holdKey_pending (s : State) (i : Seat) (k : Key) : (s.holdKey i k).pending = s.pending := by
  unfold State.holdKey; (repeat' split) <;> simp

@[simp] theorem State.keyPress_timebase (s : State) (i : Seat) (k : Key) : (s.keyPress i k).timebase = s.timebase := by
  unfold State.keyPress; (repeat' split) <;> simp
@[simp] theorem State.keyPress_phase (s : State) (i : Seat) (k : Key) : (s.keyPress i k).phase = s.phase := by
  unfold State.keyPress; (repeat' split) <;> simp
@[simp] theorem State.keyPress_resetN (s : State) (i : Seat) (k : Key) : (s.keyPress i k).resetN = s.resetN := by
  unfold State.keyPress; (repeat' split) <;> simp
@[simp] theorem State.keyPress_fdp (s : State) (i : Seat) (k : Key) : (s.keyPress i k).fdp = s.fdp := by
  unfold State.keyPress; (repeat' split) <;> simp
@[simp] theorem State.keyPress_vin (s : State) (i : Seat) (k : Key) : (s.keyPress i k).vin = s.vin := by
  unfold State.keyPress; (repeat' split) <;> simp
@[simp] theorem State.keyPress_gle (s : State) (i : Seat) (k : Key) : (s.keyPress i k).gle = s.gle := by
  unfold State.keyPress; (repeat' split) <;> simp
@[simp] theorem State.keyPress_cal (s : State) (i : Seat) (k : Key) : (s.keyPress i k).cal = s.cal := by
  unfold State.keyPress; (repeat' split) <;> simp
@[simp] theorem State.keyPress_pending (s : State) (i : Seat) (k : Key) : (s.keyPress i k).pending = s.pending := by
  unfold State.keyPress; (repeat' split) <;> simp

@[simp] theorem State.keyRelease_timebase (s : State) (i : Seat) (k : Key) : (s.keyRelease i k).timebase = s.timebase := by
  unfold State.keyRelease; (repeat' split) <;> simp
@[simp] theorem State.keyRelease_phase (s : State) (i : Seat) (k : Key) : (s.keyRelease i k).phase = s.phase := by
  unfold State.keyRelease; (repeat' split) <;> simp
@[simp] theorem State.keyRelease_resetN (s : State) (i : Seat) (k : Key) : (s.keyRelease i k).resetN = s.resetN := by
  unfold State.keyRelease; (repeat' split) <;> simp
@[simp] theorem State.keyRelease_fdp (s : State) (i : Seat) (k : Key) : (s.keyRelease i k).fdp = s.fdp := by
  unfold State.keyRelease; (repeat' split) <;> simp
@[simp] theorem State.keyRelease_vin (s : State) (i : Seat) (k : Key) : (s.keyRelease i k).vin = s.vin := by
  unfold State.keyRelease; (repeat' split) <;> simp
@[simp] theorem State.keyRelease_rvc (s : State) (i : Seat) (k : Key) : (s.keyRelease i k).rvc = s.rvc := by
  unfold State.keyRelease; (repeat' split) <;> simp
@[simp] theorem State.keyRelease_gle (s : State) (i : Seat) (k : Key) : (s.keyRelease i k).gle = s.gle := by
  unfold State.keyRelease; (repeat' split) <;> simp
@[simp] theorem State.keyRelease_rsl (s : State) (i : Seat) (k : Key) : (s.keyRelease i k).rsl = s.rsl := by
  unfold State.keyRelease; (repeat' split) <;> simp
@[simp] theorem State.keyRelease_cmp (s : State) (i : Seat) (k : Key) : (s.keyRelease i k).cmp = s.cmp := by
  unfold State.keyRelease; (repeat' split) <;> simp
@[simp] theorem State.keyRelease_mnu (s : State) (i : Seat) (k : Key) : (s.keyRelease i k).mnu = s.mnu := by
  unfold State.keyRelease; (repeat' split) <;> simp
@[simp] theorem State.keyRelease_chu (s : State) (i : Seat) (k : Key) : (s.keyRelease i k).chu = s.chu := by
  unfold State.keyRelease; (repeat' split) <;> simp
@[simp] theorem State.keyRelease_cal (s : State) (i : Seat) (k : Key) : (s.keyRelease i k).cal = s.cal := by
  unfold State.keyRelease; (repeat' split) <;> simp
@[simp] theorem State.keyRelease_pending (s : State) (i : Seat) (k : Key) : (s.keyRelease i k).pending = s.pending := by
  unfold State.keyRelease; (repeat' split) <;> simp

@[simp] theorem State.keyRepeat_timebase (s : State) (i : Seat) : (s.keyRepeat i).timebase = s.timebase := by
  unfold State.keyRepeat; (repeat' split) <;> simp
@[simp] theorem State.keyRepeat_phase (s : State) (i : Seat) : (s.keyRepeat i).phase = s.phase := by
  unfold State.keyRepeat; (repeat' split) <;> simp
@[simp] theorem State.keyRepeat_resetN (s : State) (i : Seat) : (s.keyRepeat i).resetN = s.resetN := by
  unfold State.keyRepeat; (repeat' split) <;> simp
@[simp] theorem State.keyRepeat_fdp (s : State) (i : Seat) : (s.keyRepeat i).fdp = s.fdp := by
  unfold State.keyRepeat; (repeat' split) <;> simp
@[simp] theorem State.keyRepeat_vin (s : State) (i : Seat) : (s.keyRepeat i).vin = s.vin := by
  unfold State.keyRepeat; (repeat' split) <;> simp
@[simp] theorem State.keyRepeat_gle (s : State) (i : Seat) : (s.keyRepeat i).gle = s.gle := by
  unfold State.keyRepeat; (repeat' split) <;> simp
@[simp] theorem State.keyRepeat_cal (s : State) (i : Seat) : (s.keyRepeat i).cal = s.cal := by
  unfold State.keyRepeat; (repeat' split) <;> simp
@[simp] theorem State.keyRepeat_pending (s : State) (i : Seat) : (s.keyRepeat i).pending = s.pending := by
  unfold State.keyRepeat; (repeat' split) <;> simp

@[simp] theorem State.keyEvent_timebase (s : State) (i : Seat) (k e : Nat) : (s.keyEvent i k e).timebase = s.timebase := by
  unfold State.keyEvent; (repeat' split) <;> simp
@[simp] theorem State.keyEvent_phase (s : State) (i : Seat) (k e : Nat) : (s.keyEvent i k e).phase = s.phase := by
  unfold State.keyEvent; (repeat' split) <;> simp
@[simp] theorem State.keyEvent_resetN (s : State) (i : Seat) (k e : Nat) : (s.keyEvent i k e).resetN = s.resetN := by
  unfold State.keyEvent; (repeat' split) <;> simp
@[simp] theorem State.keyEvent_fdp (s : State) (i : Seat) (k e : Nat) : (s.keyEvent i k e).fdp = s.fdp := by
  unfold State.keyEvent; (repeat' split) <;> simp
@[simp] theorem State.keyEvent_vin (s : State) (i : Seat) (k e : Nat) : (s.keyEvent i k e).vin = s.vin := by
  unfold State.keyEvent; (repeat' split) <;> simp
@[simp] theorem State.keyEvent_gle (s : State) (i : Seat) (k e : Nat) : (s.keyEvent i k e).gle = s.gle := by
  unfold State.keyEvent; (repeat' split) <;> simp
@[simp] theorem State.keyEvent_cal (s : State) (i : Seat) (k e : Nat) : (s.keyEvent i k e).cal = s.cal := by
  unfold State.keyEvent; (repeat' split) <;> simp
@[simp] theorem State.keyEvent_pending (s : State) (i : Seat) (k e : Nat) : (s.keyEvent i k e).pending = s.pending := by
  unfold State.keyEvent; (repeat' split) <;> simp

end Sys2Proof.Machine
end

