-- ==== Sys2Proof/Laws/Links.lean ====
section
/-! SUPPORT. What the operations of the rear screen links leave unchanged: one lemma for each operation and field. -/

namespace Sys2Proof.Machine

@[simp] theorem State.fellBack_timebase (s : State) (i : Seat) (l : Link) (q : Bool) : (s.fellBack i l q).timebase = s.timebase := by
  unfold State.fellBack; (repeat' split) <;> simp
@[simp] theorem State.fellBack_phase (s : State) (i : Seat) (l : Link) (q : Bool) : (s.fellBack i l q).phase = s.phase := by
  unfold State.fellBack; (repeat' split) <;> simp
@[simp] theorem State.fellBack_resetN (s : State) (i : Seat) (l : Link) (q : Bool) : (s.fellBack i l q).resetN = s.resetN := by
  unfold State.fellBack; (repeat' split) <;> simp
@[simp] theorem State.fellBack_fdp (s : State) (i : Seat) (l : Link) (q : Bool) : (s.fellBack i l q).fdp = s.fdp := by
  unfold State.fellBack; (repeat' split) <;> simp
@[simp] theorem State.fellBack_vin (s : State) (i : Seat) (l : Link) (q : Bool) : (s.fellBack i l q).vin = s.vin := by
  unfold State.fellBack; (repeat' split) <;> simp
@[simp] theorem State.fellBack_rvc (s : State) (i : Seat) (l : Link) (q : Bool) : (s.fellBack i l q).rvc = s.rvc := by
  unfold State.fellBack; (repeat' split) <;> simp
@[simp] theorem State.fellBack_gle (s : State) (i : Seat) (l : Link) (q : Bool) : (s.fellBack i l q).gle = s.gle := by
  unfold State.fellBack; (repeat' split) <;> simp
@[simp] theorem State.fellBack_chu (s : State) (i : Seat) (l : Link) (q : Bool) : (s.fellBack i l q).chu = s.chu := by
  unfold State.fellBack; (repeat' split) <;> simp
@[simp] theorem State.fellBack_cal (s : State) (i : Seat) (l : Link) (q : Bool) : (s.fellBack i l q).cal = s.cal := by
  unfold State.fellBack; (repeat' split) <;> simp
@[simp] theorem State.fellBack_pending (s : State) (i : Seat) (l : Link) (q : Bool) : (s.fellBack i l q).pending = s.pending := by
  unfold State.fellBack; (repeat' split) <;> simp

@[simp] theorem State.enterRecovery_timebase (s : State) (i : Seat) (r : LinkReason) : (s.enterRecovery i r).timebase = s.timebase := by
  unfold State.enterRecovery; (repeat' split) <;> simp
@[simp] theorem State.enterRecovery_phase (s : State) (i : Seat) (r : LinkReason) : (s.enterRecovery i r).phase = s.phase := by
  unfold State.enterRecovery; (repeat' split) <;> simp
@[simp] theorem State.enterRecovery_resetN (s : State) (i : Seat) (r : LinkReason) : (s.enterRecovery i r).resetN = s.resetN := by
  unfold State.enterRecovery; (repeat' split) <;> simp
@[simp] theorem State.enterRecovery_fdp (s : State) (i : Seat) (r : LinkReason) : (s.enterRecovery i r).fdp = s.fdp := by
  unfold State.enterRecovery; (repeat' split) <;> simp
@[simp] theorem State.enterRecovery_vin (s : State) (i : Seat) (r : LinkReason) : (s.enterRecovery i r).vin = s.vin := by
  unfold State.enterRecovery; (repeat' split) <;> simp
@[simp] theorem State.enterRecovery_rvc (s : State) (i : Seat) (r : LinkReason) : (s.enterRecovery i r).rvc = s.rvc := by
  unfold State.enterRecovery; (repeat' split) <;> simp
@[simp] theorem State.enterRecovery_gle (s : State) (i : Seat) (r : LinkReason) : (s.enterRecovery i r).gle = s.gle := by
  unfold State.enterRecovery; (repeat' split) <;> simp
@[simp] theorem State.enterRecovery_chu (s : State) (i : Seat) (r : LinkReason) : (s.enterRecovery i r).chu = s.chu := by
  unfold State.enterRecovery; (repeat' split) <;> simp
@[simp] theorem State.enterRecovery_cal (s : State) (i : Seat) (r : LinkReason) : (s.enterRecovery i r).cal = s.cal := by
  unfold State.enterRecovery; (repeat' split) <;> simp
@[simp] theorem State.enterRecovery_pending (s : State) (i : Seat) (r : LinkReason) : (s.enterRecovery i r).pending = s.pending := by
  unfold State.enterRecovery; (repeat' split) <;> simp

@[simp] theorem State.detach_timebase (s : State) (i : Seat) (r : LinkReason) (q : Bool) : (s.detach i r q).timebase = s.timebase := by
  unfold State.detach; (repeat' split) <;> simp <;> (repeat' split) <;> simp
@[simp] theorem State.detach_phase (s : State) (i : Seat) (r : LinkReason) (q : Bool) : (s.detach i r q).phase = s.phase := by
  unfold State.detach; (repeat' split) <;> simp <;> (repeat' split) <;> simp
@[simp] theorem State.detach_resetN (s : State) (i : Seat) (r : LinkReason) (q : Bool) : (s.detach i r q).resetN = s.resetN := by
  unfold State.detach; (repeat' split) <;> simp <;> (repeat' split) <;> simp
@[simp] theorem State.detach_fdp (s : State) (i : Seat) (r : LinkReason) (q : Bool) : (s.detach i r q).fdp = s.fdp := by
  unfold State.detach; (repeat' split) <;> simp <;> (repeat' split) <;> simp
@[simp] theorem State.detach_vin (s : State) (i : Seat) (r : LinkReason) (q : Bool) : (s.detach i r q).vin = s.vin := by
  unfold State.detach; (repeat' split) <;> simp <;> (repeat' split) <;> simp
@[simp] theorem State.detach_rvc (s : State) (i : Seat) (r : LinkReason) (q : Bool) : (s.detach i r q).rvc = s.rvc := by
  unfold State.detach; (repeat' split) <;> simp <;> (repeat' split) <;> simp
@[simp] theorem State.detach_gle (s : State) (i : Seat) (r : LinkReason) (q : Bool) : (s.detach i r q).gle = s.gle := by
  unfold State.detach; (repeat' split) <;> simp <;> (repeat' split) <;> simp
@[simp] theorem State.detach_chu (s : State) (i : Seat) (r : LinkReason) (q : Bool) : (s.detach i r q).chu = s.chu := by
  unfold State.detach; (repeat' split) <;> simp <;> (repeat' split) <;> simp
@[simp] theorem State.detach_cal (s : State) (i : Seat) (r : LinkReason) (q : Bool) : (s.detach i r q).cal = s.cal := by
  unfold State.detach; (repeat' split) <;> simp <;> (repeat' split) <;> simp
@[simp] theorem State.detach_pending (s : State) (i : Seat) (r : LinkReason) (q : Bool) : (s.detach i r q).pending = s.pending := by
  unfold State.detach; (repeat' split) <;> simp <;> (repeat' split) <;> simp

@[simp] theorem State.enterHailing_timebase (s : State) (i : Seat) : (s.enterHailing i).timebase = s.timebase := by
  unfold State.enterHailing; (repeat' split) <;> simp
@[simp] theorem State.enterHailing_phase (s : State) (i : Seat) : (s.enterHailing i).phase = s.phase := by
  unfold State.enterHailing; (repeat' split) <;> simp
@[simp] theorem State.enterHailing_resetN (s : State) (i : Seat) : (s.enterHailing i).resetN = s.resetN := by
  unfold State.enterHailing; (repeat' split) <;> simp
@[simp] theorem State.enterHailing_fdp (s : State) (i : Seat) : (s.enterHailing i).fdp = s.fdp := by
  unfold State.enterHailing; (repeat' split) <;> simp
@[simp] theorem State.enterHailing_vin (s : State) (i : Seat) : (s.enterHailing i).vin = s.vin := by
  unfold State.enterHailing; (repeat' split) <;> simp
@[simp] theorem State.enterHailing_rvc (s : State) (i : Seat) : (s.enterHailing i).rvc = s.rvc := by
  unfold State.enterHailing; (repeat' split) <;> simp
@[simp] theorem State.enterHailing_gle (s : State) (i : Seat) : (s.enterHailing i).gle = s.gle := by
  unfold State.enterHailing; (repeat' split) <;> simp
@[simp] theorem State.enterHailing_cmp (s : State) (i : Seat) : (s.enterHailing i).cmp = s.cmp := by
  unfold State.enterHailing; (repeat' split) <;> simp
@[simp] theorem State.enterHailing_mnu (s : State) (i : Seat) : (s.enterHailing i).mnu = s.mnu := by
  unfold State.enterHailing; (repeat' split) <;> simp
@[simp] theorem State.enterHailing_sct (s : State) (i : Seat) : (s.enterHailing i).sct = s.sct := by
  unfold State.enterHailing; (repeat' split) <;> simp
@[simp] theorem State.enterHailing_chu (s : State) (i : Seat) : (s.enterHailing i).chu = s.chu := by
  unfold State.enterHailing; (repeat' split) <;> simp
@[simp] theorem State.enterHailing_cal (s : State) (i : Seat) : (s.enterHailing i).cal = s.cal := by
  unfold State.enterHailing; (repeat' split) <;> simp
@[simp] theorem State.enterHailing_pending (s : State) (i : Seat) : (s.enterHailing i).pending = s.pending := by
  unfold State.enterHailing; (repeat' split) <;> simp

@[simp] theorem State.judgeHailing_timebase (s : State) (i : Seat) : (s.judgeHailing i).timebase = s.timebase := by
  unfold State.judgeHailing; (repeat' split) <;> simp <;> (repeat' split) <;> simp
@[simp] theorem State.judgeHailing_phase (s : State) (i : Seat) : (s.judgeHailing i).phase = s.phase := by
  unfold State.judgeHailing; (repeat' split) <;> simp <;> (repeat' split) <;> simp
@[simp] theorem State.judgeHailing_resetN (s : State) (i : Seat) : (s.judgeHailing i).resetN = s.resetN := by
  unfold State.judgeHailing; (repeat' split) <;> simp <;> (repeat' split) <;> simp
@[simp] theorem State.judgeHailing_fdp (s : State) (i : Seat) : (s.judgeHailing i).fdp = s.fdp := by
  unfold State.judgeHailing; (repeat' split) <;> simp <;> (repeat' split) <;> simp
@[simp] theorem State.judgeHailing_vin (s : State) (i : Seat) : (s.judgeHailing i).vin = s.vin := by
  unfold State.judgeHailing; (repeat' split) <;> simp <;> (repeat' split) <;> simp
@[simp] theorem State.judgeHailing_rvc (s : State) (i : Seat) : (s.judgeHailing i).rvc = s.rvc := by
  unfold State.judgeHailing; (repeat' split) <;> simp <;> (repeat' split) <;> simp
@[simp] theorem State.judgeHailing_gle (s : State) (i : Seat) : (s.judgeHailing i).gle = s.gle := by
  unfold State.judgeHailing; (repeat' split) <;> simp <;> (repeat' split) <;> simp
@[simp] theorem State.judgeHailing_cmp (s : State) (i : Seat) : (s.judgeHailing i).cmp = s.cmp := by
  unfold State.judgeHailing; (repeat' split) <;> simp <;> (repeat' split) <;> simp
@[simp] theorem State.judgeHailing_mnu (s : State) (i : Seat) : (s.judgeHailing i).mnu = s.mnu := by
  unfold State.judgeHailing; (repeat' split) <;> simp <;> (repeat' split) <;> simp
@[simp] theorem State.judgeHailing_sct (s : State) (i : Seat) : (s.judgeHailing i).sct = s.sct := by
  unfold State.judgeHailing; (repeat' split) <;> simp <;> (repeat' split) <;> simp
@[simp] theorem State.judgeHailing_chu (s : State) (i : Seat) : (s.judgeHailing i).chu = s.chu := by
  unfold State.judgeHailing; (repeat' split) <;> simp <;> (repeat' split) <;> simp
@[simp] theorem State.judgeHailing_cal (s : State) (i : Seat) : (s.judgeHailing i).cal = s.cal := by
  unfold State.judgeHailing; (repeat' split) <;> simp <;> (repeat' split) <;> simp
@[simp] theorem State.judgeHailing_pending (s : State) (i : Seat) : (s.judgeHailing i).pending = s.pending := by
  unfold State.judgeHailing; (repeat' split) <;> simp <;> (repeat' split) <;> simp

@[simp] theorem State.reoffer_timebase (s : State) (i : Seat) : (s.reoffer i).timebase = s.timebase := by
  unfold State.reoffer; (repeat' split) <;> simp
@[simp] theorem State.reoffer_phase (s : State) (i : Seat) : (s.reoffer i).phase = s.phase := by
  unfold State.reoffer; (repeat' split) <;> simp
@[simp] theorem State.reoffer_resetN (s : State) (i : Seat) : (s.reoffer i).resetN = s.resetN := by
  unfold State.reoffer; (repeat' split) <;> simp
@[simp] theorem State.reoffer_fdp (s : State) (i : Seat) : (s.reoffer i).fdp = s.fdp := by
  unfold State.reoffer; (repeat' split) <;> simp
@[simp] theorem State.reoffer_vin (s : State) (i : Seat) : (s.reoffer i).vin = s.vin := by
  unfold State.reoffer; (repeat' split) <;> simp
@[simp] theorem State.reoffer_rvc (s : State) (i : Seat) : (s.reoffer i).rvc = s.rvc := by
  unfold State.reoffer; (repeat' split) <;> simp
@[simp] theorem State.reoffer_gle (s : State) (i : Seat) : (s.reoffer i).gle = s.gle := by
  unfold State.reoffer; (repeat' split) <;> simp
@[simp] theorem State.reoffer_chu (s : State) (i : Seat) : (s.reoffer i).chu = s.chu := by
  unfold State.reoffer; (repeat' split) <;> simp
@[simp] theorem State.reoffer_cal (s : State) (i : Seat) : (s.reoffer i).cal = s.cal := by
  unfold State.reoffer; (repeat' split) <;> simp
@[simp] theorem State.reoffer_pending (s : State) (i : Seat) : (s.reoffer i).pending = s.pending := by
  unfold State.reoffer; (repeat' split) <;> simp

@[simp] theorem State.select_timebase (s : State) (i : Seat) : (s.select i).timebase = s.timebase := by
  unfold State.select; (repeat' split) <;> simp <;> (repeat' split) <;> simp
@[simp] theorem State.select_phase (s : State) (i : Seat) : (s.select i).phase = s.phase := by
  unfold State.select; (repeat' split) <;> simp <;> (repeat' split) <;> simp
@[simp] theorem State.select_resetN (s : State) (i : Seat) : (s.select i).resetN = s.resetN := by
  unfold State.select; (repeat' split) <;> simp <;> (repeat' split) <;> simp
@[simp] theorem State.select_fdp (s : State) (i : Seat) : (s.select i).fdp = s.fdp := by
  unfold State.select; (repeat' split) <;> simp <;> (repeat' split) <;> simp
@[simp] theorem State.select_vin (s : State) (i : Seat) : (s.select i).vin = s.vin := by
  unfold State.select; (repeat' split) <;> simp <;> (repeat' split) <;> simp
@[simp] theorem State.select_rvc (s : State) (i : Seat) : (s.select i).rvc = s.rvc := by
  unfold State.select; (repeat' split) <;> simp <;> (repeat' split) <;> simp
@[simp] theorem State.select_gle (s : State) (i : Seat) : (s.select i).gle = s.gle := by
  unfold State.select; (repeat' split) <;> simp <;> (repeat' split) <;> simp
@[simp] theorem State.select_cmp (s : State) (i : Seat) : (s.select i).cmp = s.cmp := by
  unfold State.select; (repeat' split) <;> simp <;> (repeat' split) <;> simp
@[simp] theorem State.select_mnu (s : State) (i : Seat) : (s.select i).mnu = s.mnu := by
  unfold State.select; (repeat' split) <;> simp <;> (repeat' split) <;> simp
@[simp] theorem State.select_sct (s : State) (i : Seat) : (s.select i).sct = s.sct := by
  unfold State.select; (repeat' split) <;> simp <;> (repeat' split) <;> simp
@[simp] theorem State.select_chu (s : State) (i : Seat) : (s.select i).chu = s.chu := by
  unfold State.select; (repeat' split) <;> simp <;> (repeat' split) <;> simp
@[simp] theorem State.select_cal (s : State) (i : Seat) : (s.select i).cal = s.cal := by
  unfold State.select; (repeat' split) <;> simp <;> (repeat' split) <;> simp
@[simp] theorem State.select_pending (s : State) (i : Seat) : (s.select i).pending = s.pending := by
  unfold State.select; (repeat' split) <;> simp <;> (repeat' split) <;> simp

@[simp] theorem State.enterClaiming_timebase (s : State) (i : Seat) : (s.enterClaiming i).timebase = s.timebase := by
  unfold State.enterClaiming; (repeat' split) <;> simp
@[simp] theorem State.enterClaiming_phase (s : State) (i : Seat) : (s.enterClaiming i).phase = s.phase := by
  unfold State.enterClaiming; (repeat' split) <;> simp
@[simp] theorem State.enterClaiming_resetN (s : State) (i : Seat) : (s.enterClaiming i).resetN = s.resetN := by
  unfold State.enterClaiming; (repeat' split) <;> simp
@[simp] theorem State.enterClaiming_fdp (s : State) (i : Seat) : (s.enterClaiming i).fdp = s.fdp := by
  unfold State.enterClaiming; (repeat' split) <;> simp
@[simp] theorem State.enterClaiming_vin (s : State) (i : Seat) : (s.enterClaiming i).vin = s.vin := by
  unfold State.enterClaiming; (repeat' split) <;> simp
@[simp] theorem State.enterClaiming_rvc (s : State) (i : Seat) : (s.enterClaiming i).rvc = s.rvc := by
  unfold State.enterClaiming; (repeat' split) <;> simp
@[simp] theorem State.enterClaiming_gle (s : State) (i : Seat) : (s.enterClaiming i).gle = s.gle := by
  unfold State.enterClaiming; (repeat' split) <;> simp
@[simp] theorem State.enterClaiming_cmp (s : State) (i : Seat) : (s.enterClaiming i).cmp = s.cmp := by
  unfold State.enterClaiming; (repeat' split) <;> simp
@[simp] theorem State.enterClaiming_mnu (s : State) (i : Seat) : (s.enterClaiming i).mnu = s.mnu := by
  unfold State.enterClaiming; (repeat' split) <;> simp
@[simp] theorem State.enterClaiming_sct (s : State) (i : Seat) : (s.enterClaiming i).sct = s.sct := by
  unfold State.enterClaiming; (repeat' split) <;> simp
@[simp] theorem State.enterClaiming_chu (s : State) (i : Seat) : (s.enterClaiming i).chu = s.chu := by
  unfold State.enterClaiming; (repeat' split) <;> simp
@[simp] theorem State.enterClaiming_cal (s : State) (i : Seat) : (s.enterClaiming i).cal = s.cal := by
  unfold State.enterClaiming; (repeat' split) <;> simp
@[simp] theorem State.enterClaiming_pending (s : State) (i : Seat) : (s.enterClaiming i).pending = s.pending := by
  unfold State.enterClaiming; (repeat' split) <;> simp

@[simp] theorem State.takeOffers_timebase (s : State) (i : Seat) (b : List Byte) : (s.takeOffers i b).timebase = s.timebase := by
  unfold State.takeOffers; (repeat' split) <;> simp
@[simp] theorem State.takeOffers_phase (s : State) (i : Seat) (b : List Byte) : (s.takeOffers i b).phase = s.phase := by
  unfold State.takeOffers; (repeat' split) <;> simp
@[simp] theorem State.takeOffers_resetN (s : State) (i : Seat) (b : List Byte) : (s.takeOffers i b).resetN = s.resetN := by
  unfold State.takeOffers; (repeat' split) <;> simp
@[simp] theorem State.takeOffers_fdp (s : State) (i : Seat) (b : List Byte) : (s.takeOffers i b).fdp = s.fdp := by
  unfold State.takeOffers; (repeat' split) <;> simp
@[simp] theorem State.takeOffers_vin (s : State) (i : Seat) (b : List Byte) : (s.takeOffers i b).vin = s.vin := by
  unfold State.takeOffers; (repeat' split) <;> simp
@[simp] theorem State.takeOffers_rvc (s : State) (i : Seat) (b : List Byte) : (s.takeOffers i b).rvc = s.rvc := by
  unfold State.takeOffers; (repeat' split) <;> simp
@[simp] theorem State.takeOffers_gle (s : State) (i : Seat) (b : List Byte) : (s.takeOffers i b).gle = s.gle := by
  unfold State.takeOffers; (repeat' split) <;> simp
@[simp] theorem State.takeOffers_chu (s : State) (i : Seat) (b : List Byte) : (s.takeOffers i b).chu = s.chu := by
  unfold State.takeOffers; (repeat' split) <;> simp
@[simp] theorem State.takeOffers_cal (s : State) (i : Seat) (b : List Byte) : (s.takeOffers i b).cal = s.cal := by
  unfold State.takeOffers; (repeat' split) <;> simp
@[simp] theorem State.takeOffers_pending (s : State) (i : Seat) (b : List Byte) : (s.takeOffers i b).pending = s.pending := by
  unfold State.takeOffers; (repeat' split) <;> simp

@[simp] theorem State.enterStreaming_timebase (s : State) (i : Seat) (a : Agreement) : (s.enterStreaming i a).timebase = s.timebase := by
  unfold State.enterStreaming; (repeat' split) <;> simp
@[simp] theorem State.enterStreaming_phase (s : State) (i : Seat) (a : Agreement) : (s.enterStreaming i a).phase = s.phase := by
  unfold State.enterStreaming; (repeat' split) <;> simp
@[simp] theorem State.enterStreaming_resetN (s : State) (i : Seat) (a : Agreement) : (s.enterStreaming i a).resetN = s.resetN := by
  unfold State.enterStreaming; (repeat' split) <;> simp
@[simp] theorem State.enterStreaming_fdp (s : State) (i : Seat) (a : Agreement) : (s.enterStreaming i a).fdp = s.fdp := by
  unfold State.enterStreaming; (repeat' split) <;> simp
@[simp] theorem State.enterStreaming_vin (s : State) (i : Seat) (a : Agreement) : (s.enterStreaming i a).vin = s.vin := by
  unfold State.enterStreaming; (repeat' split) <;> simp
@[simp] theorem State.enterStreaming_rvc (s : State) (i : Seat) (a : Agreement) : (s.enterStreaming i a).rvc = s.rvc := by
  unfold State.enterStreaming; (repeat' split) <;> simp
@[simp] theorem State.enterStreaming_gle (s : State) (i : Seat) (a : Agreement) : (s.enterStreaming i a).gle = s.gle := by
  unfold State.enterStreaming; (repeat' split) <;> simp
@[simp] theorem State.enterStreaming_mnu (s : State) (i : Seat) (a : Agreement) : (s.enterStreaming i a).mnu = s.mnu := by
  unfold State.enterStreaming; (repeat' split) <;> simp
@[simp] theorem State.enterStreaming_chu (s : State) (i : Seat) (a : Agreement) : (s.enterStreaming i a).chu = s.chu := by
  unfold State.enterStreaming; (repeat' split) <;> simp
@[simp] theorem State.enterStreaming_cal (s : State) (i : Seat) (a : Agreement) : (s.enterStreaming i a).cal = s.cal := by
  unfold State.enterStreaming; (repeat' split) <;> simp
@[simp] theorem State.enterStreaming_pending (s : State) (i : Seat) (a : Agreement) : (s.enterStreaming i a).pending = s.pending := by
  unfold State.enterStreaming; (repeat' split) <;> simp

@[simp] theorem State.takeAccept_timebase (s : State) (i : Seat) : (s.takeAccept i).timebase = s.timebase := by
  unfold State.takeAccept; (repeat' split) <;> simp
@[simp] theorem State.takeAccept_phase (s : State) (i : Seat) : (s.takeAccept i).phase = s.phase := by
  unfold State.takeAccept; (repeat' split) <;> simp
@[simp] theorem State.takeAccept_resetN (s : State) (i : Seat) : (s.takeAccept i).resetN = s.resetN := by
  unfold State.takeAccept; (repeat' split) <;> simp
@[simp] theorem State.takeAccept_fdp (s : State) (i : Seat) : (s.takeAccept i).fdp = s.fdp := by
  unfold State.takeAccept; (repeat' split) <;> simp
@[simp] theorem State.takeAccept_vin (s : State) (i : Seat) : (s.takeAccept i).vin = s.vin := by
  unfold State.takeAccept; (repeat' split) <;> simp
@[simp] theorem State.takeAccept_rvc (s : State) (i : Seat) : (s.takeAccept i).rvc = s.rvc := by
  unfold State.takeAccept; (repeat' split) <;> simp
@[simp] theorem State.takeAccept_gle (s : State) (i : Seat) : (s.takeAccept i).gle = s.gle := by
  unfold State.takeAccept; (repeat' split) <;> simp
@[simp] theorem State.takeAccept_mnu (s : State) (i : Seat) : (s.takeAccept i).mnu = s.mnu := by
  unfold State.takeAccept; (repeat' split) <;> simp
@[simp] theorem State.takeAccept_chu (s : State) (i : Seat) : (s.takeAccept i).chu = s.chu := by
  unfold State.takeAccept; (repeat' split) <;> simp
@[simp] theorem State.takeAccept_cal (s : State) (i : Seat) : (s.takeAccept i).cal = s.cal := by
  unfold State.takeAccept; (repeat' split) <;> simp
@[simp] theorem State.takeAccept_pending (s : State) (i : Seat) : (s.takeAccept i).pending = s.pending := by
  unfold State.takeAccept; (repeat' split) <;> simp

@[simp] theorem State.takeReject_timebase (s : State) (i : Seat) : (s.takeReject i).timebase = s.timebase := by
  unfold State.takeReject; (repeat' split) <;> simp
@[simp] theorem State.takeReject_phase (s : State) (i : Seat) : (s.takeReject i).phase = s.phase := by
  unfold State.takeReject; (repeat' split) <;> simp
@[simp] theorem State.takeReject_resetN (s : State) (i : Seat) : (s.takeReject i).resetN = s.resetN := by
  unfold State.takeReject; (repeat' split) <;> simp
@[simp] theorem State.takeReject_fdp (s : State) (i : Seat) : (s.takeReject i).fdp = s.fdp := by
  unfold State.takeReject; (repeat' split) <;> simp
@[simp] theorem State.takeReject_vin (s : State) (i : Seat) : (s.takeReject i).vin = s.vin := by
  unfold State.takeReject; (repeat' split) <;> simp
@[simp] theorem State.takeReject_rvc (s : State) (i : Seat) : (s.takeReject i).rvc = s.rvc := by
  unfold State.takeReject; (repeat' split) <;> simp
@[simp] theorem State.takeReject_gle (s : State) (i : Seat) : (s.takeReject i).gle = s.gle := by
  unfold State.takeReject; (repeat' split) <;> simp
@[simp] theorem State.takeReject_cmp (s : State) (i : Seat) : (s.takeReject i).cmp = s.cmp := by
  unfold State.takeReject; (repeat' split) <;> simp
@[simp] theorem State.takeReject_mnu (s : State) (i : Seat) : (s.takeReject i).mnu = s.mnu := by
  unfold State.takeReject; (repeat' split) <;> simp
@[simp] theorem State.takeReject_sct (s : State) (i : Seat) : (s.takeReject i).sct = s.sct := by
  unfold State.takeReject; (repeat' split) <;> simp
@[simp] theorem State.takeReject_chu (s : State) (i : Seat) : (s.takeReject i).chu = s.chu := by
  unfold State.takeReject; (repeat' split) <;> simp
@[simp] theorem State.takeReject_cal (s : State) (i : Seat) : (s.takeReject i).cal = s.cal := by
  unfold State.takeReject; (repeat' split) <;> simp
@[simp] theorem State.takeReject_pending (s : State) (i : Seat) : (s.takeReject i).pending = s.pending := by
  unfold State.takeReject; (repeat' split) <;> simp

@[simp] theorem State.takeAck_timebase (s : State) (i : Seat) (b : Bool) : (s.takeAck i b).timebase = s.timebase := by
  unfold State.takeAck; (repeat' split) <;> simp
@[simp] theorem State.takeAck_phase (s : State) (i : Seat) (b : Bool) : (s.takeAck i b).phase = s.phase := by
  unfold State.takeAck; (repeat' split) <;> simp
@[simp] theorem State.takeAck_resetN (s : State) (i : Seat) (b : Bool) : (s.takeAck i b).resetN = s.resetN := by
  unfold State.takeAck; (repeat' split) <;> simp
@[simp] theorem State.takeAck_cli (s : State) (i : Seat) (b : Bool) : (s.takeAck i b).cli = s.cli := by
  unfold State.takeAck; (repeat' split) <;> simp
@[simp] theorem State.takeAck_fdp (s : State) (i : Seat) (b : Bool) : (s.takeAck i b).fdp = s.fdp := by
  unfold State.takeAck; (repeat' split) <;> simp
@[simp] theorem State.takeAck_vin (s : State) (i : Seat) (b : Bool) : (s.takeAck i b).vin = s.vin := by
  unfold State.takeAck; (repeat' split) <;> simp
@[simp] theorem State.takeAck_rvc (s : State) (i : Seat) (b : Bool) : (s.takeAck i b).rvc = s.rvc := by
  unfold State.takeAck; (repeat' split) <;> simp
@[simp] theorem State.takeAck_gle (s : State) (i : Seat) (b : Bool) : (s.takeAck i b).gle = s.gle := by
  unfold State.takeAck; (repeat' split) <;> simp
@[simp] theorem State.takeAck_cmp (s : State) (i : Seat) (b : Bool) : (s.takeAck i b).cmp = s.cmp := by
  unfold State.takeAck; (repeat' split) <;> simp
@[simp] theorem State.takeAck_mnu (s : State) (i : Seat) (b : Bool) : (s.takeAck i b).mnu = s.mnu := by
  unfold State.takeAck; (repeat' split) <;> simp
@[simp] theorem State.takeAck_chu (s : State) (i : Seat) (b : Bool) : (s.takeAck i b).chu = s.chu := by
  unfold State.takeAck; (repeat' split) <;> simp
@[simp] theorem State.takeAck_cal (s : State) (i : Seat) (b : Bool) : (s.takeAck i b).cal = s.cal := by
  unfold State.takeAck; (repeat' split) <;> simp
@[simp] theorem State.takeAck_pending (s : State) (i : Seat) (b : Bool) : (s.takeAck i b).pending = s.pending := by
  unfold State.takeAck; (repeat' split) <;> simp

@[simp] theorem State.takeAmbientLevel_timebase (s : State) (i : Seat) (l : Option Nat) : (s.takeAmbientLevel i l).timebase = s.timebase := by
  unfold State.takeAmbientLevel; (repeat' split) <;> simp
@[simp] theorem State.takeAmbientLevel_phase (s : State) (i : Seat) (l : Option Nat) : (s.takeAmbientLevel i l).phase = s.phase := by
  unfold State.takeAmbientLevel; (repeat' split) <;> simp
@[simp] theorem State.takeAmbientLevel_resetN (s : State) (i : Seat) (l : Option Nat) : (s.takeAmbientLevel i l).resetN = s.resetN := by
  unfold State.takeAmbientLevel; (repeat' split) <;> simp
@[simp] theorem State.takeAmbientLevel_cli (s : State) (i : Seat) (l : Option Nat) : (s.takeAmbientLevel i l).cli = s.cli := by
  unfold State.takeAmbientLevel; (repeat' split) <;> simp
@[simp] theorem State.takeAmbientLevel_fdp (s : State) (i : Seat) (l : Option Nat) : (s.takeAmbientLevel i l).fdp = s.fdp := by
  unfold State.takeAmbientLevel; (repeat' split) <;> simp
@[simp] theorem State.takeAmbientLevel_vin (s : State) (i : Seat) (l : Option Nat) : (s.takeAmbientLevel i l).vin = s.vin := by
  unfold State.takeAmbientLevel; (repeat' split) <;> simp
@[simp] theorem State.takeAmbientLevel_rvc (s : State) (i : Seat) (l : Option Nat) : (s.takeAmbientLevel i l).rvc = s.rvc := by
  unfold State.takeAmbientLevel; (repeat' split) <;> simp
@[simp] theorem State.takeAmbientLevel_gle (s : State) (i : Seat) (l : Option Nat) : (s.takeAmbientLevel i l).gle = s.gle := by
  unfold State.takeAmbientLevel; (repeat' split) <;> simp
@[simp] theorem State.takeAmbientLevel_cmp (s : State) (i : Seat) (l : Option Nat) : (s.takeAmbientLevel i l).cmp = s.cmp := by
  unfold State.takeAmbientLevel; (repeat' split) <;> simp
@[simp] theorem State.takeAmbientLevel_mnu (s : State) (i : Seat) (l : Option Nat) : (s.takeAmbientLevel i l).mnu = s.mnu := by
  unfold State.takeAmbientLevel; (repeat' split) <;> simp
@[simp] theorem State.takeAmbientLevel_chu (s : State) (i : Seat) (l : Option Nat) : (s.takeAmbientLevel i l).chu = s.chu := by
  unfold State.takeAmbientLevel; (repeat' split) <;> simp
@[simp] theorem State.takeAmbientLevel_cal (s : State) (i : Seat) (l : Option Nat) : (s.takeAmbientLevel i l).cal = s.cal := by
  unfold State.takeAmbientLevel; (repeat' split) <;> simp
@[simp] theorem State.takeAmbientLevel_pending (s : State) (i : Seat) (l : Option Nat) : (s.takeAmbientLevel i l).pending = s.pending := by
  unfold State.takeAmbientLevel; (repeat' split) <;> simp

@[simp] theorem State.keyEvents_timebase (s : State) (i : Seat) (b : List Byte) (e k : Nat) : (s.keyEvents i b e k).timebase = s.timebase := by
  induction e generalizing s k with
  | zero => rfl
  | succ e ih => rw [State.keyEvents, ih]; simp
@[simp] theorem State.keyEvents_phase (s : State) (i : Seat) (b : List Byte) (e k : Nat) : (s.keyEvents i b e k).phase = s.phase := by
  induction e generalizing s k with
  | zero => rfl
  | succ e ih => rw [State.keyEvents, ih]; simp
@[simp] theorem State.keyEvents_resetN (s : State) (i : Seat) (b : List Byte) (e k : Nat) : (s.keyEvents i b e k).resetN = s.resetN := by
  induction e generalizing s k with
  | zero => rfl
  | succ e ih => rw [State.keyEvents, ih]; simp
@[simp] theorem State.keyEvents_fdp (s : State) (i : Seat) (b : List Byte) (e k : Nat) : (s.keyEvents i b e k).fdp = s.fdp := by
  induction e generalizing s k with
  | zero => rfl
  | succ e ih => rw [State.keyEvents, ih]; simp
@[simp] theorem State.keyEvents_vin (s : State) (i : Seat) (b : List Byte) (e k : Nat) : (s.keyEvents i b e k).vin = s.vin := by
  induction e generalizing s k with
  | zero => rfl
  | succ e ih => rw [State.keyEvents, ih]; simp
@[simp] theorem State.keyEvents_gle (s : State) (i : Seat) (b : List Byte) (e k : Nat) : (s.keyEvents i b e k).gle = s.gle := by
  induction e generalizing s k with
  | zero => rfl
  | succ e ih => rw [State.keyEvents, ih]; simp
@[simp] theorem State.keyEvents_cal (s : State) (i : Seat) (b : List Byte) (e k : Nat) : (s.keyEvents i b e k).cal = s.cal := by
  induction e generalizing s k with
  | zero => rfl
  | succ e ih => rw [State.keyEvents, ih]; simp
@[simp] theorem State.keyEvents_pending (s : State) (i : Seat) (b : List Byte) (e k : Nat) : (s.keyEvents i b e k).pending = s.pending := by
  induction e generalizing s k with
  | zero => rfl
  | succ e ih => rw [State.keyEvents, ih]; simp

@[simp] theorem State.takeReport_timebase (s : State) (i : Seat) (b : List Byte) : (s.takeReport i b).timebase = s.timebase := by
  unfold State.takeReport; (repeat' split) <;> simp <;> (repeat' split) <;> simp
@[simp] theorem State.takeReport_phase (s : State) (i : Seat) (b : List Byte) : (s.takeReport i b).phase = s.phase := by
  unfold State.takeReport; (repeat' split) <;> simp <;> (repeat' split) <;> simp
@[simp] theorem State.takeReport_resetN (s : State) (i : Seat) (b : List Byte) : (s.takeReport i b).resetN = s.resetN := by
  unfold State.takeReport; (repeat' split) <;> simp <;> (repeat' split) <;> simp
@[simp] theorem State.takeReport_fdp (s : State) (i : Seat) (b : List Byte) : (s.takeReport i b).fdp = s.fdp := by
  unfold State.takeReport; (repeat' split) <;> simp <;> (repeat' split) <;> simp
@[simp] theorem State.takeReport_vin (s : State) (i : Seat) (b : List Byte) : (s.takeReport i b).vin = s.vin := by
  unfold State.takeReport; (repeat' split) <;> simp <;> (repeat' split) <;> simp
@[simp] theorem State.takeReport_gle (s : State) (i : Seat) (b : List Byte) : (s.takeReport i b).gle = s.gle := by
  unfold State.takeReport; (repeat' split) <;> simp <;> (repeat' split) <;> simp
@[simp] theorem State.takeReport_cal (s : State) (i : Seat) (b : List Byte) : (s.takeReport i b).cal = s.cal := by
  unfold State.takeReport; (repeat' split) <;> simp <;> (repeat' split) <;> simp
@[simp] theorem State.takeReport_pending (s : State) (i : Seat) (b : List Byte) : (s.takeReport i b).pending = s.pending := by
  unfold State.takeReport; (repeat' split) <;> simp <;> (repeat' split) <;> simp

@[simp] theorem State.takeStatus_timebase (s : State) (i : Seat) (b : List Byte) : (s.takeStatus i b).timebase = s.timebase := by
  unfold State.takeStatus; (repeat' split) <;> simp
@[simp] theorem State.takeStatus_phase (s : State) (i : Seat) (b : List Byte) : (s.takeStatus i b).phase = s.phase := by
  unfold State.takeStatus; (repeat' split) <;> simp
@[simp] theorem State.takeStatus_resetN (s : State) (i : Seat) (b : List Byte) : (s.takeStatus i b).resetN = s.resetN := by
  unfold State.takeStatus; (repeat' split) <;> simp
@[simp] theorem State.takeStatus_fdp (s : State) (i : Seat) (b : List Byte) : (s.takeStatus i b).fdp = s.fdp := by
  unfold State.takeStatus; (repeat' split) <;> simp
@[simp] theorem State.takeStatus_vin (s : State) (i : Seat) (b : List Byte) : (s.takeStatus i b).vin = s.vin := by
  unfold State.takeStatus; (repeat' split) <;> simp
@[simp] theorem State.takeStatus_gle (s : State) (i : Seat) (b : List Byte) : (s.takeStatus i b).gle = s.gle := by
  unfold State.takeStatus; (repeat' split) <;> simp
@[simp] theorem State.takeStatus_cal (s : State) (i : Seat) (b : List Byte) : (s.takeStatus i b).cal = s.cal := by
  unfold State.takeStatus; (repeat' split) <;> simp
@[simp] theorem State.takeStatus_pending (s : State) (i : Seat) (b : List Byte) : (s.takeStatus i b).pending = s.pending := by
  unfold State.takeStatus; (repeat' split) <;> simp

@[simp] theorem State.takeReset_timebase (s : State) (i : Seat) (r : LinkReason) : (s.takeReset i r).timebase = s.timebase := by
  unfold State.takeReset; (repeat' split) <;> simp
@[simp] theorem State.takeReset_phase (s : State) (i : Seat) (r : LinkReason) : (s.takeReset i r).phase = s.phase := by
  unfold State.takeReset; (repeat' split) <;> simp
@[simp] theorem State.takeReset_resetN (s : State) (i : Seat) (r : LinkReason) : (s.takeReset i r).resetN = s.resetN := by
  unfold State.takeReset; (repeat' split) <;> simp
@[simp] theorem State.takeReset_fdp (s : State) (i : Seat) (r : LinkReason) : (s.takeReset i r).fdp = s.fdp := by
  unfold State.takeReset; (repeat' split) <;> simp
@[simp] theorem State.takeReset_vin (s : State) (i : Seat) (r : LinkReason) : (s.takeReset i r).vin = s.vin := by
  unfold State.takeReset; (repeat' split) <;> simp
@[simp] theorem State.takeReset_rvc (s : State) (i : Seat) (r : LinkReason) : (s.takeReset i r).rvc = s.rvc := by
  unfold State.takeReset; (repeat' split) <;> simp
@[simp] theorem State.takeReset_gle (s : State) (i : Seat) (r : LinkReason) : (s.takeReset i r).gle = s.gle := by
  unfold State.takeReset; (repeat' split) <;> simp
@[simp] theorem State.takeReset_chu (s : State) (i : Seat) (r : LinkReason) : (s.takeReset i r).chu = s.chu := by
  unfold State.takeReset; (repeat' split) <;> simp
@[simp] theorem State.takeReset_cal (s : State) (i : Seat) (r : LinkReason) : (s.takeReset i r).cal = s.cal := by
  unfold State.takeReset; (repeat' split) <;> simp
@[simp] theorem State.takeReset_pending (s : State) (i : Seat) (r : LinkReason) : (s.takeReset i r).pending = s.pending := by
  unfold State.takeReset; (repeat' split) <;> simp

@[simp] theorem State.takeMessage_timebase (s : State) (i : Seat) (m : List Byte) : (s.takeMessage i m).timebase = s.timebase := by
  unfold State.takeMessage; (repeat' split) <;> simp
@[simp] theorem State.takeMessage_phase (s : State) (i : Seat) (m : List Byte) : (s.takeMessage i m).phase = s.phase := by
  unfold State.takeMessage; (repeat' split) <;> simp
@[simp] theorem State.takeMessage_resetN (s : State) (i : Seat) (m : List Byte) : (s.takeMessage i m).resetN = s.resetN := by
  unfold State.takeMessage; (repeat' split) <;> simp
@[simp] theorem State.takeMessage_fdp (s : State) (i : Seat) (m : List Byte) : (s.takeMessage i m).fdp = s.fdp := by
  unfold State.takeMessage; (repeat' split) <;> simp
@[simp] theorem State.takeMessage_vin (s : State) (i : Seat) (m : List Byte) : (s.takeMessage i m).vin = s.vin := by
  unfold State.takeMessage; (repeat' split) <;> simp
@[simp] theorem State.takeMessage_gle (s : State) (i : Seat) (m : List Byte) : (s.takeMessage i m).gle = s.gle := by
  unfold State.takeMessage; (repeat' split) <;> simp
@[simp] theorem State.takeMessage_cal (s : State) (i : Seat) (m : List Byte) : (s.takeMessage i m).cal = s.cal := by
  unfold State.takeMessage; (repeat' split) <;> simp
@[simp] theorem State.takeMessage_pending (s : State) (i : Seat) (m : List Byte) : (s.takeMessage i m).pending = s.pending := by
  unfold State.takeMessage; (repeat' split) <;> simp

@[simp] theorem State.hailExpired_timebase (s : State) (i : Seat) : (s.hailExpired i).timebase = s.timebase := by
  unfold State.hailExpired; (repeat' split) <;> simp <;> (repeat' split) <;> simp
@[simp] theorem State.hailExpired_phase (s : State) (i : Seat) : (s.hailExpired i).phase = s.phase := by
  unfold State.hailExpired; (repeat' split) <;> simp <;> (repeat' split) <;> simp
@[simp] theorem State.hailExpired_resetN (s : State) (i : Seat) : (s.hailExpired i).resetN = s.resetN := by
  unfold State.hailExpired; (repeat' split) <;> simp <;> (repeat' split) <;> simp
@[simp] theorem State.hailExpired_fdp (s : State) (i : Seat) : (s.hailExpired i).fdp = s.fdp := by
  unfold State.hailExpired; (repeat' split) <;> simp <;> (repeat' split) <;> simp
@[simp] theorem State.hailExpired_vin (s : State) (i : Seat) : (s.hailExpired i).vin = s.vin := by
  unfold State.hailExpired; (repeat' split) <;> simp <;> (repeat' split) <;> simp
@[simp] theorem State.hailExpired_rvc (s : State) (i : Seat) : (s.hailExpired i).rvc = s.rvc := by
  unfold State.hailExpired; (repeat' split) <;> simp <;> (repeat' split) <;> simp
@[simp] theorem State.hailExpired_gle (s : State) (i : Seat) : (s.hailExpired i).gle = s.gle := by
  unfold State.hailExpired; (repeat' split) <;> simp <;> (repeat' split) <;> simp
@[simp] theorem State.hailExpired_chu (s : State) (i : Seat) : (s.hailExpired i).chu = s.chu := by
  unfold State.hailExpired; (repeat' split) <;> simp <;> (repeat' split) <;> simp
@[simp] theorem State.hailExpired_cal (s : State) (i : Seat) : (s.hailExpired i).cal = s.cal := by
  unfold State.hailExpired; (repeat' split) <;> simp <;> (repeat' split) <;> simp
@[simp] theorem State.hailExpired_pending (s : State) (i : Seat) : (s.hailExpired i).pending = s.pending := by
  unfold State.hailExpired; (repeat' split) <;> simp <;> (repeat' split) <;> simp

@[simp] theorem State.claimExpired_timebase (s : State) (i : Seat) : (s.claimExpired i).timebase = s.timebase := by
  unfold State.claimExpired; (repeat' split) <;> simp <;> (repeat' split) <;> simp
@[simp] theorem State.claimExpired_phase (s : State) (i : Seat) : (s.claimExpired i).phase = s.phase := by
  unfold State.claimExpired; (repeat' split) <;> simp <;> (repeat' split) <;> simp
@[simp] theorem State.claimExpired_resetN (s : State) (i : Seat) : (s.claimExpired i).resetN = s.resetN := by
  unfold State.claimExpired; (repeat' split) <;> simp <;> (repeat' split) <;> simp
@[simp] theorem State.claimExpired_fdp (s : State) (i : Seat) : (s.claimExpired i).fdp = s.fdp := by
  unfold State.claimExpired; (repeat' split) <;> simp <;> (repeat' split) <;> simp
@[simp] theorem State.claimExpired_vin (s : State) (i : Seat) : (s.claimExpired i).vin = s.vin := by
  unfold State.claimExpired; (repeat' split) <;> simp <;> (repeat' split) <;> simp
@[simp] theorem State.claimExpired_rvc (s : State) (i : Seat) : (s.claimExpired i).rvc = s.rvc := by
  unfold State.claimExpired; (repeat' split) <;> simp <;> (repeat' split) <;> simp
@[simp] theorem State.claimExpired_gle (s : State) (i : Seat) : (s.claimExpired i).gle = s.gle := by
  unfold State.claimExpired; (repeat' split) <;> simp <;> (repeat' split) <;> simp
@[simp] theorem State.claimExpired_chu (s : State) (i : Seat) : (s.claimExpired i).chu = s.chu := by
  unfold State.claimExpired; (repeat' split) <;> simp <;> (repeat' split) <;> simp
@[simp] theorem State.claimExpired_cal (s : State) (i : Seat) : (s.claimExpired i).cal = s.cal := by
  unfold State.claimExpired; (repeat' split) <;> simp <;> (repeat' split) <;> simp
@[simp] theorem State.claimExpired_pending (s : State) (i : Seat) : (s.claimExpired i).pending = s.pending := by
  unfold State.claimExpired; (repeat' split) <;> simp <;> (repeat' split) <;> simp

@[simp] theorem State.pollExpired_timebase (s : State) (i : Seat) : (s.pollExpired i).timebase = s.timebase := by
  unfold State.pollExpired; (repeat' split) <;> simp <;> (repeat' split) <;> simp
@[simp] theorem State.pollExpired_phase (s : State) (i : Seat) : (s.pollExpired i).phase = s.phase := by
  unfold State.pollExpired; (repeat' split) <;> simp <;> (repeat' split) <;> simp
@[simp] theorem State.pollExpired_resetN (s : State) (i : Seat) : (s.pollExpired i).resetN = s.resetN := by
  unfold State.pollExpired; (repeat' split) <;> simp <;> (repeat' split) <;> simp
@[simp] theorem State.pollExpired_fdp (s : State) (i : Seat) : (s.pollExpired i).fdp = s.fdp := by
  unfold State.pollExpired; (repeat' split) <;> simp <;> (repeat' split) <;> simp
@[simp] theorem State.pollExpired_vin (s : State) (i : Seat) : (s.pollExpired i).vin = s.vin := by
  unfold State.pollExpired; (repeat' split) <;> simp <;> (repeat' split) <;> simp
@[simp] theorem State.pollExpired_rvc (s : State) (i : Seat) : (s.pollExpired i).rvc = s.rvc := by
  unfold State.pollExpired; (repeat' split) <;> simp <;> (repeat' split) <;> simp
@[simp] theorem State.pollExpired_gle (s : State) (i : Seat) : (s.pollExpired i).gle = s.gle := by
  unfold State.pollExpired; (repeat' split) <;> simp <;> (repeat' split) <;> simp
@[simp] theorem State.pollExpired_chu (s : State) (i : Seat) : (s.pollExpired i).chu = s.chu := by
  unfold State.pollExpired; (repeat' split) <;> simp <;> (repeat' split) <;> simp
@[simp] theorem State.pollExpired_cal (s : State) (i : Seat) : (s.pollExpired i).cal = s.cal := by
  unfold State.pollExpired; (repeat' split) <;> simp <;> (repeat' split) <;> simp
@[simp] theorem State.pollExpired_pending (s : State) (i : Seat) : (s.pollExpired i).pending = s.pending := by
  unfold State.pollExpired; (repeat' split) <;> simp <;> (repeat' split) <;> simp

@[simp] theorem State.holdOffExpired_timebase (s : State) (i : Seat) : (s.holdOffExpired i).timebase = s.timebase := by
  unfold State.holdOffExpired; (repeat' split) <;> simp <;> (repeat' split) <;> simp
@[simp] theorem State.holdOffExpired_phase (s : State) (i : Seat) : (s.holdOffExpired i).phase = s.phase := by
  unfold State.holdOffExpired; (repeat' split) <;> simp <;> (repeat' split) <;> simp
@[simp] theorem State.holdOffExpired_resetN (s : State) (i : Seat) : (s.holdOffExpired i).resetN = s.resetN := by
  unfold State.holdOffExpired; (repeat' split) <;> simp <;> (repeat' split) <;> simp
@[simp] theorem State.holdOffExpired_fdp (s : State) (i : Seat) : (s.holdOffExpired i).fdp = s.fdp := by
  unfold State.holdOffExpired; (repeat' split) <;> simp <;> (repeat' split) <;> simp
@[simp] theorem State.holdOffExpired_vin (s : State) (i : Seat) : (s.holdOffExpired i).vin = s.vin := by
  unfold State.holdOffExpired; (repeat' split) <;> simp <;> (repeat' split) <;> simp
@[simp] theorem State.holdOffExpired_rvc (s : State) (i : Seat) : (s.holdOffExpired i).rvc = s.rvc := by
  unfold State.holdOffExpired; (repeat' split) <;> simp <;> (repeat' split) <;> simp
@[simp] theorem State.holdOffExpired_gle (s : State) (i : Seat) : (s.holdOffExpired i).gle = s.gle := by
  unfold State.holdOffExpired; (repeat' split) <;> simp <;> (repeat' split) <;> simp
@[simp] theorem State.holdOffExpired_cmp (s : State) (i : Seat) : (s.holdOffExpired i).cmp = s.cmp := by
  unfold State.holdOffExpired; (repeat' split) <;> simp <;> (repeat' split) <;> simp
@[simp] theorem State.holdOffExpired_mnu (s : State) (i : Seat) : (s.holdOffExpired i).mnu = s.mnu := by
  unfold State.holdOffExpired; (repeat' split) <;> simp <;> (repeat' split) <;> simp
@[simp] theorem State.holdOffExpired_sct (s : State) (i : Seat) : (s.holdOffExpired i).sct = s.sct := by
  unfold State.holdOffExpired; (repeat' split) <;> simp <;> (repeat' split) <;> simp
@[simp] theorem State.holdOffExpired_chu (s : State) (i : Seat) : (s.holdOffExpired i).chu = s.chu := by
  unfold State.holdOffExpired; (repeat' split) <;> simp <;> (repeat' split) <;> simp
@[simp] theorem State.holdOffExpired_cal (s : State) (i : Seat) : (s.holdOffExpired i).cal = s.cal := by
  unfold State.holdOffExpired; (repeat' split) <;> simp <;> (repeat' split) <;> simp
@[simp] theorem State.holdOffExpired_pending (s : State) (i : Seat) : (s.holdOffExpired i).pending = s.pending := by
  unfold State.holdOffExpired; (repeat' split) <;> simp <;> (repeat' split) <;> simp

@[simp] theorem State.settleExpired_timebase (s : State) (i : Seat) : (s.settleExpired i).timebase = s.timebase := by
  unfold State.settleExpired; (repeat' split) <;> simp
@[simp] theorem State.settleExpired_phase (s : State) (i : Seat) : (s.settleExpired i).phase = s.phase := by
  unfold State.settleExpired; (repeat' split) <;> simp
@[simp] theorem State.settleExpired_resetN (s : State) (i : Seat) : (s.settleExpired i).resetN = s.resetN := by
  unfold State.settleExpired; (repeat' split) <;> simp
@[simp] theorem State.settleExpired_fdp (s : State) (i : Seat) : (s.settleExpired i).fdp = s.fdp := by
  unfold State.settleExpired; (repeat' split) <;> simp
@[simp] theorem State.settleExpired_vin (s : State) (i : Seat) : (s.settleExpired i).vin = s.vin := by
  unfold State.settleExpired; (repeat' split) <;> simp
@[simp] theorem State.settleExpired_rvc (s : State) (i : Seat) : (s.settleExpired i).rvc = s.rvc := by
  unfold State.settleExpired; (repeat' split) <;> simp
@[simp] theorem State.settleExpired_gle (s : State) (i : Seat) : (s.settleExpired i).gle = s.gle := by
  unfold State.settleExpired; (repeat' split) <;> simp
@[simp] theorem State.settleExpired_cmp (s : State) (i : Seat) : (s.settleExpired i).cmp = s.cmp := by
  unfold State.settleExpired; (repeat' split) <;> simp
@[simp] theorem State.settleExpired_mnu (s : State) (i : Seat) : (s.settleExpired i).mnu = s.mnu := by
  unfold State.settleExpired; (repeat' split) <;> simp
@[simp] theorem State.settleExpired_sct (s : State) (i : Seat) : (s.settleExpired i).sct = s.sct := by
  unfold State.settleExpired; (repeat' split) <;> simp
@[simp] theorem State.settleExpired_chu (s : State) (i : Seat) : (s.settleExpired i).chu = s.chu := by
  unfold State.settleExpired; (repeat' split) <;> simp
@[simp] theorem State.settleExpired_cal (s : State) (i : Seat) : (s.settleExpired i).cal = s.cal := by
  unfold State.settleExpired; (repeat' split) <;> simp
@[simp] theorem State.settleExpired_pending (s : State) (i : Seat) : (s.settleExpired i).pending = s.pending := by
  unfold State.settleExpired; (repeat' split) <;> simp

@[simp] theorem State.presenceGained_timebase (s : State) (i : Seat) : (s.presenceGained i).timebase = s.timebase := by
  unfold State.presenceGained; (repeat' split) <;> simp
@[simp] theorem State.presenceGained_phase (s : State) (i : Seat) : (s.presenceGained i).phase = s.phase := by
  unfold State.presenceGained; (repeat' split) <;> simp
@[simp] theorem State.presenceGained_resetN (s : State) (i : Seat) : (s.presenceGained i).resetN = s.resetN := by
  unfold State.presenceGained; (repeat' split) <;> simp
@[simp] theorem State.presenceGained_fdp (s : State) (i : Seat) : (s.presenceGained i).fdp = s.fdp := by
  unfold State.presenceGained; (repeat' split) <;> simp
@[simp] theorem State.presenceGained_vin (s : State) (i : Seat) : (s.presenceGained i).vin = s.vin := by
  unfold State.presenceGained; (repeat' split) <;> simp
@[simp] theorem State.presenceGained_rvc (s : State) (i : Seat) : (s.presenceGained i).rvc = s.rvc := by
  unfold State.presenceGained; (repeat' split) <;> simp
@[simp] theorem State.presenceGained_gle (s : State) (i : Seat) : (s.presenceGained i).gle = s.gle := by
  unfold State.presenceGained; (repeat' split) <;> simp
@[simp] theorem State.presenceGained_cmp (s : State) (i : Seat) : (s.presenceGained i).cmp = s.cmp := by
  unfold State.presenceGained; (repeat' split) <;> simp
@[simp] theorem State.presenceGained_mnu (s : State) (i : Seat) : (s.presenceGained i).mnu = s.mnu := by
  unfold State.presenceGained; (repeat' split) <;> simp
@[simp] theorem State.presenceGained_sct (s : State) (i : Seat) : (s.presenceGained i).sct = s.sct := by
  unfold State.presenceGained; (repeat' split) <;> simp
@[simp] theorem State.presenceGained_chu (s : State) (i : Seat) : (s.presenceGained i).chu = s.chu := by
  unfold State.presenceGained; (repeat' split) <;> simp
@[simp] theorem State.presenceGained_cal (s : State) (i : Seat) : (s.presenceGained i).cal = s.cal := by
  unfold State.presenceGained; (repeat' split) <;> simp
@[simp] theorem State.presenceGained_pending (s : State) (i : Seat) : (s.presenceGained i).pending = s.pending := by
  unfold State.presenceGained; (repeat' split) <;> simp

@[simp] theorem State.presenceLost_timebase (s : State) (i : Seat) : (s.presenceLost i).timebase = s.timebase := by
  unfold State.presenceLost; (repeat' split) <;> simp
@[simp] theorem State.presenceLost_phase (s : State) (i : Seat) : (s.presenceLost i).phase = s.phase := by
  unfold State.presenceLost; (repeat' split) <;> simp
@[simp] theorem State.presenceLost_resetN (s : State) (i : Seat) : (s.presenceLost i).resetN = s.resetN := by
  unfold State.presenceLost; (repeat' split) <;> simp
@[simp] theorem State.presenceLost_fdp (s : State) (i : Seat) : (s.presenceLost i).fdp = s.fdp := by
  unfold State.presenceLost; (repeat' split) <;> simp
@[simp] theorem State.presenceLost_vin (s : State) (i : Seat) : (s.presenceLost i).vin = s.vin := by
  unfold State.presenceLost; (repeat' split) <;> simp
@[simp] theorem State.presenceLost_rvc (s : State) (i : Seat) : (s.presenceLost i).rvc = s.rvc := by
  unfold State.presenceLost; (repeat' split) <;> simp
@[simp] theorem State.presenceLost_gle (s : State) (i : Seat) : (s.presenceLost i).gle = s.gle := by
  unfold State.presenceLost; (repeat' split) <;> simp
@[simp] theorem State.presenceLost_chu (s : State) (i : Seat) : (s.presenceLost i).chu = s.chu := by
  unfold State.presenceLost; (repeat' split) <;> simp
@[simp] theorem State.presenceLost_cal (s : State) (i : Seat) : (s.presenceLost i).cal = s.cal := by
  unfold State.presenceLost; (repeat' split) <;> simp
@[simp] theorem State.presenceLost_pending (s : State) (i : Seat) : (s.presenceLost i).pending = s.pending := by
  unfold State.presenceLost; (repeat' split) <;> simp

@[simp] theorem State.linkWarm_timebase (s : State) (i : Seat) : (s.linkWarm i).timebase = s.timebase := by
  unfold State.linkWarm; (repeat' split) <;> simp
@[simp] theorem State.linkWarm_phase (s : State) (i : Seat) : (s.linkWarm i).phase = s.phase := by
  unfold State.linkWarm; (repeat' split) <;> simp
@[simp] theorem State.linkWarm_resetN (s : State) (i : Seat) : (s.linkWarm i).resetN = s.resetN := by
  unfold State.linkWarm; (repeat' split) <;> simp
@[simp] theorem State.linkWarm_fdp (s : State) (i : Seat) : (s.linkWarm i).fdp = s.fdp := by
  unfold State.linkWarm; (repeat' split) <;> simp
@[simp] theorem State.linkWarm_vin (s : State) (i : Seat) : (s.linkWarm i).vin = s.vin := by
  unfold State.linkWarm; (repeat' split) <;> simp
@[simp] theorem State.linkWarm_rvc (s : State) (i : Seat) : (s.linkWarm i).rvc = s.rvc := by
  unfold State.linkWarm; (repeat' split) <;> simp
@[simp] theorem State.linkWarm_gle (s : State) (i : Seat) : (s.linkWarm i).gle = s.gle := by
  unfold State.linkWarm; (repeat' split) <;> simp
@[simp] theorem State.linkWarm_chu (s : State) (i : Seat) : (s.linkWarm i).chu = s.chu := by
  unfold State.linkWarm; (repeat' split) <;> simp
@[simp] theorem State.linkWarm_cal (s : State) (i : Seat) : (s.linkWarm i).cal = s.cal := by
  unfold State.linkWarm; (repeat' split) <;> simp
@[simp] theorem State.linkWarm_pending (s : State) (i : Seat) : (s.linkWarm i).pending = s.pending := by
  unfold State.linkWarm; (repeat' split) <;> simp

end Sys2Proof.Machine
end

