-- ==== Sys2Proof/Laws/Reverse.lean ====
section
/-! SUPPORT. What the operations of the reverse view controller, the modes, the feeds and the vehicle intake leave unchanged: one lemma for each operation and field. -/

namespace Sys2Proof.Machine

@[simp] theorem State.reverseToCompositor_timebase (s : State) (c : Bool) : (s.reverseToCompositor c).timebase = s.timebase := by
  unfold State.reverseToCompositor; (repeat' split) <;> simp
@[simp] theorem State.reverseToCompositor_phase (s : State) (c : Bool) : (s.reverseToCompositor c).phase = s.phase := by
  unfold State.reverseToCompositor; (repeat' split) <;> simp
@[simp] theorem State.reverseToCompositor_resetN (s : State) (c : Bool) : (s.reverseToCompositor c).resetN = s.resetN := by
  unfold State.reverseToCompositor; (repeat' split) <;> simp
@[simp] theorem State.reverseToCompositor_fdp (s : State) (c : Bool) : (s.reverseToCompositor c).fdp = s.fdp := by
  unfold State.reverseToCompositor; (repeat' split) <;> simp
@[simp] theorem State.reverseToCompositor_vin (s : State) (c : Bool) : (s.reverseToCompositor c).vin = s.vin := by
  unfold State.reverseToCompositor; (repeat' split) <;> simp
@[simp] theorem State.reverseToCompositor_rvc (s : State) (c : Bool) : (s.reverseToCompositor c).rvc = s.rvc := by
  unfold State.reverseToCompositor; (repeat' split) <;> simp
@[simp] theorem State.reverseToCompositor_gle (s : State) (c : Bool) : (s.reverseToCompositor c).gle = s.gle := by
  unfold State.reverseToCompositor; (repeat' split) <;> simp
@[simp] theorem State.reverseToCompositor_rsl (s : State) (c : Bool) : (s.reverseToCompositor c).rsl = s.rsl := by
  unfold State.reverseToCompositor; (repeat' split) <;> simp
@[simp] theorem State.reverseToCompositor_mnu (s : State) (c : Bool) : (s.reverseToCompositor c).mnu = s.mnu := by
  unfold State.reverseToCompositor; (repeat' split) <;> simp
@[simp] theorem State.reverseToCompositor_sct (s : State) (c : Bool) : (s.reverseToCompositor c).sct = s.sct := by
  unfold State.reverseToCompositor; (repeat' split) <;> simp
@[simp] theorem State.reverseToCompositor_chu (s : State) (c : Bool) : (s.reverseToCompositor c).chu = s.chu := by
  unfold State.reverseToCompositor; (repeat' split) <;> simp
@[simp] theorem State.reverseToCompositor_cal (s : State) (c : Bool) : (s.reverseToCompositor c).cal = s.cal := by
  unfold State.reverseToCompositor; (repeat' split) <;> simp
@[simp] theorem State.reverseToCompositor_pending (s : State) (c : Bool) : (s.reverseToCompositor c).pending = s.pending := by
  unfold State.reverseToCompositor; (repeat' split) <;> simp

@[simp] theorem State.reverseToGuide_timebase (s : State) (c : Bool) : (s.reverseToGuide c).timebase = s.timebase := by
  unfold State.reverseToGuide; (repeat' split) <;> simp
@[simp] theorem State.reverseToGuide_phase (s : State) (c : Bool) : (s.reverseToGuide c).phase = s.phase := by
  unfold State.reverseToGuide; (repeat' split) <;> simp
@[simp] theorem State.reverseToGuide_resetN (s : State) (c : Bool) : (s.reverseToGuide c).resetN = s.resetN := by
  unfold State.reverseToGuide; (repeat' split) <;> simp
@[simp] theorem State.reverseToGuide_cli (s : State) (c : Bool) : (s.reverseToGuide c).cli = s.cli := by
  unfold State.reverseToGuide; (repeat' split) <;> simp
@[simp] theorem State.reverseToGuide_fdp (s : State) (c : Bool) : (s.reverseToGuide c).fdp = s.fdp := by
  unfold State.reverseToGuide; (repeat' split) <;> simp
@[simp] theorem State.reverseToGuide_vin (s : State) (c : Bool) : (s.reverseToGuide c).vin = s.vin := by
  unfold State.reverseToGuide; (repeat' split) <;> simp
@[simp] theorem State.reverseToGuide_rvc (s : State) (c : Bool) : (s.reverseToGuide c).rvc = s.rvc := by
  unfold State.reverseToGuide; (repeat' split) <;> simp
@[simp] theorem State.reverseToGuide_rsl (s : State) (c : Bool) : (s.reverseToGuide c).rsl = s.rsl := by
  unfold State.reverseToGuide; (repeat' split) <;> simp
@[simp] theorem State.reverseToGuide_cmp (s : State) (c : Bool) : (s.reverseToGuide c).cmp = s.cmp := by
  unfold State.reverseToGuide; (repeat' split) <;> simp
@[simp] theorem State.reverseToGuide_mnu (s : State) (c : Bool) : (s.reverseToGuide c).mnu = s.mnu := by
  unfold State.reverseToGuide; (repeat' split) <;> simp
@[simp] theorem State.reverseToGuide_sct (s : State) (c : Bool) : (s.reverseToGuide c).sct = s.sct := by
  unfold State.reverseToGuide; (repeat' split) <;> simp
@[simp] theorem State.reverseToGuide_chu (s : State) (c : Bool) : (s.reverseToGuide c).chu = s.chu := by
  unfold State.reverseToGuide; (repeat' split) <;> simp
@[simp] theorem State.reverseToGuide_cal (s : State) (c : Bool) : (s.reverseToGuide c).cal = s.cal := by
  unfold State.reverseToGuide; (repeat' split) <;> simp
@[simp] theorem State.reverseToGuide_pending (s : State) (c : Bool) : (s.reverseToGuide c).pending = s.pending := by
  unfold State.reverseToGuide; (repeat' split) <;> simp

@[simp] theorem State.reverseChime_timebase (s : State) (a b : RvcState) : (s.reverseChime a b).timebase = s.timebase := by
  unfold State.reverseChime; (repeat' split) <;> simp
@[simp] theorem State.reverseChime_phase (s : State) (a b : RvcState) : (s.reverseChime a b).phase = s.phase := by
  unfold State.reverseChime; (repeat' split) <;> simp
@[simp] theorem State.reverseChime_resetN (s : State) (a b : RvcState) : (s.reverseChime a b).resetN = s.resetN := by
  unfold State.reverseChime; (repeat' split) <;> simp
@[simp] theorem State.reverseChime_fdp (s : State) (a b : RvcState) : (s.reverseChime a b).fdp = s.fdp := by
  unfold State.reverseChime; (repeat' split) <;> simp
@[simp] theorem State.reverseChime_vin (s : State) (a b : RvcState) : (s.reverseChime a b).vin = s.vin := by
  unfold State.reverseChime; (repeat' split) <;> simp
@[simp] theorem State.reverseChime_gle (s : State) (a b : RvcState) : (s.reverseChime a b).gle = s.gle := by
  unfold State.reverseChime; (repeat' split) <;> simp
@[simp] theorem State.reverseChime_rsl (s : State) (a b : RvcState) : (s.reverseChime a b).rsl = s.rsl := by
  unfold State.reverseChime; (repeat' split) <;> simp
@[simp] theorem State.reverseChime_cmp (s : State) (a b : RvcState) : (s.reverseChime a b).cmp = s.cmp := by
  unfold State.reverseChime; (repeat' split) <;> simp
@[simp] theorem State.reverseChime_mnu (s : State) (a b : RvcState) : (s.reverseChime a b).mnu = s.mnu := by
  unfold State.reverseChime; (repeat' split) <;> simp
@[simp] theorem State.reverseChime_sct (s : State) (a b : RvcState) : (s.reverseChime a b).sct = s.sct := by
  unfold State.reverseChime; (repeat' split) <;> simp
@[simp] theorem State.reverseChime_cal (s : State) (a b : RvcState) : (s.reverseChime a b).cal = s.cal := by
  unfold State.reverseChime; (repeat' split) <;> simp
@[simp] theorem State.reverseChime_pending (s : State) (a b : RvcState) : (s.reverseChime a b).pending = s.pending := by
  unfold State.reverseChime; (repeat' split) <;> simp

@[simp] theorem State.changeRvc_timebase (s : State) (c : RvcChange) : (s.changeRvc c).timebase = s.timebase := by
  unfold State.changeRvc; (repeat' split) <;> simp <;> (repeat' split) <;> simp
@[simp] theorem State.changeRvc_phase (s : State) (c : RvcChange) : (s.changeRvc c).phase = s.phase := by
  unfold State.changeRvc; (repeat' split) <;> simp <;> (repeat' split) <;> simp
@[simp] theorem State.changeRvc_resetN (s : State) (c : RvcChange) : (s.changeRvc c).resetN = s.resetN := by
  unfold State.changeRvc; (repeat' split) <;> simp <;> (repeat' split) <;> simp
@[simp] theorem State.changeRvc_vin (s : State) (c : RvcChange) : (s.changeRvc c).vin = s.vin := by
  unfold State.changeRvc; (repeat' split) <;> simp <;> (repeat' split) <;> simp
@[simp] theorem State.changeRvc_rsl (s : State) (c : RvcChange) : (s.changeRvc c).rsl = s.rsl := by
  unfold State.changeRvc; (repeat' split) <;> simp <;> (repeat' split) <;> simp
@[simp] theorem State.changeRvc_mnu (s : State) (c : RvcChange) : (s.changeRvc c).mnu = s.mnu := by
  unfold State.changeRvc; (repeat' split) <;> simp <;> (repeat' split) <;> simp
@[simp] theorem State.changeRvc_sct (s : State) (c : RvcChange) : (s.changeRvc c).sct = s.sct := by
  unfold State.changeRvc; (repeat' split) <;> simp <;> (repeat' split) <;> simp
@[simp] theorem State.changeRvc_cal (s : State) (c : RvcChange) : (s.changeRvc c).cal = s.cal := by
  unfold State.changeRvc; (repeat' split) <;> simp <;> (repeat' split) <;> simp
@[simp] theorem State.changeRvc_pending (s : State) (c : RvcChange) : (s.changeRvc c).pending = s.pending := by
  unfold State.changeRvc; (repeat' split) <;> simp <;> (repeat' split) <;> simp

@[simp] theorem State.enterCueing_timebase (s : State) : (s.enterCueing).timebase = s.timebase := by
  unfold State.enterCueing; (repeat' split) <;> simp
@[simp] theorem State.enterCueing_phase (s : State) : (s.enterCueing).phase = s.phase := by
  unfold State.enterCueing; (repeat' split) <;> simp
@[simp] theorem State.enterCueing_resetN (s : State) : (s.enterCueing).resetN = s.resetN := by
  unfold State.enterCueing; (repeat' split) <;> simp
@[simp] theorem State.enterCueing_vin (s : State) : (s.enterCueing).vin = s.vin := by
  unfold State.enterCueing; (repeat' split) <;> simp
@[simp] theorem State.enterCueing_rsl (s : State) : (s.enterCueing).rsl = s.rsl := by
  unfold State.enterCueing; (repeat' split) <;> simp
@[simp] theorem State.enterCueing_mnu (s : State) : (s.enterCueing).mnu = s.mnu := by
  unfold State.enterCueing; (repeat' split) <;> simp
@[simp] theorem State.enterCueing_sct (s : State) : (s.enterCueing).sct = s.sct := by
  unfold State.enterCueing; (repeat' split) <;> simp
@[simp] theorem State.enterCueing_cal (s : State) : (s.enterCueing).cal = s.cal := by
  unfold State.enterCueing; (repeat' split) <;> simp
@[simp] theorem State.enterCueing_pending (s : State) : (s.enterCueing).pending = s.pending := by
  unfold State.enterCueing; (repeat' split) <;> simp

@[simp] theorem State.enterLive_timebase (s : State) (r : RvcReason) : (s.enterLive r).timebase = s.timebase := by
  unfold State.enterLive; (repeat' split) <;> simp
@[simp] theorem State.enterLive_phase (s : State) (r : RvcReason) : (s.enterLive r).phase = s.phase := by
  unfold State.enterLive; (repeat' split) <;> simp
@[simp] theorem State.enterLive_resetN (s : State) (r : RvcReason) : (s.enterLive r).resetN = s.resetN := by
  unfold State.enterLive; (repeat' split) <;> simp
@[simp] theorem State.enterLive_vin (s : State) (r : RvcReason) : (s.enterLive r).vin = s.vin := by
  unfold State.enterLive; (repeat' split) <;> simp
@[simp] theorem State.enterLive_rsl (s : State) (r : RvcReason) : (s.enterLive r).rsl = s.rsl := by
  unfold State.enterLive; (repeat' split) <;> simp
@[simp] theorem State.enterLive_mnu (s : State) (r : RvcReason) : (s.enterLive r).mnu = s.mnu := by
  unfold State.enterLive; (repeat' split) <;> simp
@[simp] theorem State.enterLive_sct (s : State) (r : RvcReason) : (s.enterLive r).sct = s.sct := by
  unfold State.enterLive; (repeat' split) <;> simp
@[simp] theorem State.enterLive_cal (s : State) (r : RvcReason) : (s.enterLive r).cal = s.cal := by
  unfold State.enterLive; (repeat' split) <;> simp
@[simp] theorem State.enterLive_pending (s : State) (r : RvcReason) : (s.enterLive r).pending = s.pending := by
  unfold State.enterLive; (repeat' split) <;> simp

@[simp] theorem State.enterFault_timebase (s : State) (r : RvcReason) : (s.enterFault r).timebase = s.timebase := by
  unfold State.enterFault; (repeat' split) <;> simp
@[simp] theorem State.enterFault_phase (s : State) (r : RvcReason) : (s.enterFault r).phase = s.phase := by
  unfold State.enterFault; (repeat' split) <;> simp
@[simp] theorem State.enterFault_resetN (s : State) (r : RvcReason) : (s.enterFault r).resetN = s.resetN := by
  unfold State.enterFault; (repeat' split) <;> simp
@[simp] theorem State.enterFault_vin (s : State) (r : RvcReason) : (s.enterFault r).vin = s.vin := by
  unfold State.enterFault; (repeat' split) <;> simp
@[simp] theorem State.enterFault_rsl (s : State) (r : RvcReason) : (s.enterFault r).rsl = s.rsl := by
  unfold State.enterFault; (repeat' split) <;> simp
@[simp] theorem State.enterFault_mnu (s : State) (r : RvcReason) : (s.enterFault r).mnu = s.mnu := by
  unfold State.enterFault; (repeat' split) <;> simp
@[simp] theorem State.enterFault_sct (s : State) (r : RvcReason) : (s.enterFault r).sct = s.sct := by
  unfold State.enterFault; (repeat' split) <;> simp
@[simp] theorem State.enterFault_cal (s : State) (r : RvcReason) : (s.enterFault r).cal = s.cal := by
  unfold State.enterFault; (repeat' split) <;> simp
@[simp] theorem State.enterFault_pending (s : State) (r : RvcReason) : (s.enterFault r).pending = s.pending := by
  unfold State.enterFault; (repeat' split) <;> simp

@[simp] theorem State.enterHeld_timebase (s : State) (v : HeldView) : (s.enterHeld v).timebase = s.timebase := by
  unfold State.enterHeld; (repeat' split) <;> simp
@[simp] theorem State.enterHeld_phase (s : State) (v : HeldView) : (s.enterHeld v).phase = s.phase := by
  unfold State.enterHeld; (repeat' split) <;> simp
@[simp] theorem State.enterHeld_resetN (s : State) (v : HeldView) : (s.enterHeld v).resetN = s.resetN := by
  unfold State.enterHeld; (repeat' split) <;> simp
@[simp] theorem State.enterHeld_vin (s : State) (v : HeldView) : (s.enterHeld v).vin = s.vin := by
  unfold State.enterHeld; (repeat' split) <;> simp
@[simp] theorem State.enterHeld_rsl (s : State) (v : HeldView) : (s.enterHeld v).rsl = s.rsl := by
  unfold State.enterHeld; (repeat' split) <;> simp
@[simp] theorem State.enterHeld_mnu (s : State) (v : HeldView) : (s.enterHeld v).mnu = s.mnu := by
  unfold State.enterHeld; (repeat' split) <;> simp
@[simp] theorem State.enterHeld_sct (s : State) (v : HeldView) : (s.enterHeld v).sct = s.sct := by
  unfold State.enterHeld; (repeat' split) <;> simp
@[simp] theorem State.enterHeld_cal (s : State) (v : HeldView) : (s.enterHeld v).cal = s.cal := by
  unfold State.enterHeld; (repeat' split) <;> simp
@[simp] theorem State.enterHeld_pending (s : State) (v : HeldView) : (s.enterHeld v).pending = s.pending := by
  unfold State.enterHeld; (repeat' split) <;> simp

@[simp] theorem State.enterOff_timebase (s : State) (r : RvcReason) : (s.enterOff r).timebase = s.timebase := by
  unfold State.enterOff; (repeat' split) <;> simp
@[simp] theorem State.enterOff_phase (s : State) (r : RvcReason) : (s.enterOff r).phase = s.phase := by
  unfold State.enterOff; (repeat' split) <;> simp
@[simp] theorem State.enterOff_resetN (s : State) (r : RvcReason) : (s.enterOff r).resetN = s.resetN := by
  unfold State.enterOff; (repeat' split) <;> simp
@[simp] theorem State.enterOff_vin (s : State) (r : RvcReason) : (s.enterOff r).vin = s.vin := by
  unfold State.enterOff; (repeat' split) <;> simp
@[simp] theorem State.enterOff_rsl (s : State) (r : RvcReason) : (s.enterOff r).rsl = s.rsl := by
  unfold State.enterOff; (repeat' split) <;> simp
@[simp] theorem State.enterOff_mnu (s : State) (r : RvcReason) : (s.enterOff r).mnu = s.mnu := by
  unfold State.enterOff; (repeat' split) <;> simp
@[simp] theorem State.enterOff_sct (s : State) (r : RvcReason) : (s.enterOff r).sct = s.sct := by
  unfold State.enterOff; (repeat' split) <;> simp
@[simp] theorem State.enterOff_cal (s : State) (r : RvcReason) : (s.enterOff r).cal = s.cal := by
  unfold State.enterOff; (repeat' split) <;> simp
@[simp] theorem State.enterOff_pending (s : State) (r : RvcReason) : (s.enterOff r).pending = s.pending := by
  unfold State.enterOff; (repeat' split) <;> simp

@[simp] theorem State.confirmedReverse_timebase (s : State) : (s.confirmedReverse).timebase = s.timebase := by
  unfold State.confirmedReverse; (repeat' split) <;> simp
@[simp] theorem State.confirmedReverse_phase (s : State) : (s.confirmedReverse).phase = s.phase := by
  unfold State.confirmedReverse; (repeat' split) <;> simp
@[simp] theorem State.confirmedReverse_resetN (s : State) : (s.confirmedReverse).resetN = s.resetN := by
  unfold State.confirmedReverse; (repeat' split) <;> simp
@[simp] theorem State.confirmedReverse_vin (s : State) : (s.confirmedReverse).vin = s.vin := by
  unfold State.confirmedReverse; (repeat' split) <;> simp
@[simp] theorem State.confirmedReverse_rsl (s : State) : (s.confirmedReverse).rsl = s.rsl := by
  unfold State.confirmedReverse; (repeat' split) <;> simp
@[simp] theorem State.confirmedReverse_mnu (s : State) : (s.confirmedReverse).mnu = s.mnu := by
  unfold State.confirmedReverse; (repeat' split) <;> simp
@[simp] theorem State.confirmedReverse_sct (s : State) : (s.confirmedReverse).sct = s.sct := by
  unfold State.confirmedReverse; (repeat' split) <;> simp
@[simp] theorem State.confirmedReverse_cal (s : State) : (s.confirmedReverse).cal = s.cal := by
  unfold State.confirmedReverse; (repeat' split) <;> simp
@[simp] theorem State.confirmedReverse_pending (s : State) : (s.confirmedReverse).pending = s.pending := by
  unfold State.confirmedReverse; (repeat' split) <;> simp

@[simp] theorem State.release_timebase (s : State) (v : HeldView) : (s.release v).timebase = s.timebase := by
  unfold State.release; (repeat' split) <;> simp
@[simp] theorem State.release_phase (s : State) (v : HeldView) : (s.release v).phase = s.phase := by
  unfold State.release; (repeat' split) <;> simp
@[simp] theorem State.release_resetN (s : State) (v : HeldView) : (s.release v).resetN = s.resetN := by
  unfold State.release; (repeat' split) <;> simp
@[simp] theorem State.release_vin (s : State) (v : HeldView) : (s.release v).vin = s.vin := by
  unfold State.release; (repeat' split) <;> simp
@[simp] theorem State.release_rsl (s : State) (v : HeldView) : (s.release v).rsl = s.rsl := by
  unfold State.release; (repeat' split) <;> simp
@[simp] theorem State.release_mnu (s : State) (v : HeldView) : (s.release v).mnu = s.mnu := by
  unfold State.release; (repeat' split) <;> simp
@[simp] theorem State.release_sct (s : State) (v : HeldView) : (s.release v).sct = s.sct := by
  unfold State.release; (repeat' split) <;> simp
@[simp] theorem State.release_cal (s : State) (v : HeldView) : (s.release v).cal = s.cal := by
  unfold State.release; (repeat' split) <;> simp
@[simp] theorem State.release_pending (s : State) (v : HeldView) : (s.release v).pending = s.pending := by
  unfold State.release; (repeat' split) <;> simp

@[simp] theorem State.confirmedNotReverse_timebase (s : State) : (s.confirmedNotReverse).timebase = s.timebase := by
  unfold State.confirmedNotReverse; (repeat' split) <;> simp
@[simp] theorem State.confirmedNotReverse_phase (s : State) : (s.confirmedNotReverse).phase = s.phase := by
  unfold State.confirmedNotReverse; (repeat' split) <;> simp
@[simp] theorem State.confirmedNotReverse_resetN (s : State) : (s.confirmedNotReverse).resetN = s.resetN := by
  unfold State.confirmedNotReverse; (repeat' split) <;> simp
@[simp] theorem State.confirmedNotReverse_vin (s : State) : (s.confirmedNotReverse).vin = s.vin := by
  unfold State.confirmedNotReverse; (repeat' split) <;> simp
@[simp] theorem State.confirmedNotReverse_rsl (s : State) : (s.confirmedNotReverse).rsl = s.rsl := by
  unfold State.confirmedNotReverse; (repeat' split) <;> simp
@[simp] theorem State.confirmedNotReverse_mnu (s : State) : (s.confirmedNotReverse).mnu = s.mnu := by
  unfold State.confirmedNotReverse; (repeat' split) <;> simp
@[simp] theorem State.confirmedNotReverse_sct (s : State) : (s.confirmedNotReverse).sct = s.sct := by
  unfold State.confirmedNotReverse; (repeat' split) <;> simp
@[simp] theorem State.confirmedNotReverse_cal (s : State) : (s.confirmedNotReverse).cal = s.cal := by
  unfold State.confirmedNotReverse; (repeat' split) <;> simp
@[simp] theorem State.confirmedNotReverse_pending (s : State) : (s.confirmedNotReverse).pending = s.pending := by
  unfold State.confirmedNotReverse; (repeat' split) <;> simp

@[simp] theorem State.takeLevel_timebase (s : State) (g : Gear) (e : Stamp) : (s.takeLevel g e).timebase = s.timebase := by
  unfold State.takeLevel; (repeat' split) <;> simp
@[simp] theorem State.takeLevel_phase (s : State) (g : Gear) (e : Stamp) : (s.takeLevel g e).phase = s.phase := by
  unfold State.takeLevel; (repeat' split) <;> simp
@[simp] theorem State.takeLevel_resetN (s : State) (g : Gear) (e : Stamp) : (s.takeLevel g e).resetN = s.resetN := by
  unfold State.takeLevel; (repeat' split) <;> simp
@[simp] theorem State.takeLevel_vin (s : State) (g : Gear) (e : Stamp) : (s.takeLevel g e).vin = s.vin := by
  unfold State.takeLevel; (repeat' split) <;> simp
@[simp] theorem State.takeLevel_rsl (s : State) (g : Gear) (e : Stamp) : (s.takeLevel g e).rsl = s.rsl := by
  unfold State.takeLevel; (repeat' split) <;> simp
@[simp] theorem State.takeLevel_mnu (s : State) (g : Gear) (e : Stamp) : (s.takeLevel g e).mnu = s.mnu := by
  unfold State.takeLevel; (repeat' split) <;> simp
@[simp] theorem State.takeLevel_sct (s : State) (g : Gear) (e : Stamp) : (s.takeLevel g e).sct = s.sct := by
  unfold State.takeLevel; (repeat' split) <;> simp
@[simp] theorem State.takeLevel_cal (s : State) (g : Gear) (e : Stamp) : (s.takeLevel g e).cal = s.cal := by
  unfold State.takeLevel; (repeat' split) <;> simp
@[simp] theorem State.takeLevel_pending (s : State) (g : Gear) (e : Stamp) : (s.takeLevel g e).pending = s.pending := by
  unfold State.takeLevel; (repeat' split) <;> simp

@[simp] theorem State.camLocked_timebase (s : State) : (s.camLocked).timebase = s.timebase := by
  unfold State.camLocked; (repeat' split) <;> simp
@[simp] theorem State.camLocked_phase (s : State) : (s.camLocked).phase = s.phase := by
  unfold State.camLocked; (repeat' split) <;> simp
@[simp] theorem State.camLocked_resetN (s : State) : (s.camLocked).resetN = s.resetN := by
  unfold State.camLocked; (repeat' split) <;> simp
@[simp] theorem State.camLocked_vin (s : State) : (s.camLocked).vin = s.vin := by
  unfold State.camLocked; (repeat' split) <;> simp
@[simp] theorem State.camLocked_rsl (s : State) : (s.camLocked).rsl = s.rsl := by
  unfold State.camLocked; (repeat' split) <;> simp
@[simp] theorem State.camLocked_mnu (s : State) : (s.camLocked).mnu = s.mnu := by
  unfold State.camLocked; (repeat' split) <;> simp
@[simp] theorem State.camLocked_sct (s : State) : (s.camLocked).sct = s.sct := by
  unfold State.camLocked; (repeat' split) <;> simp
@[simp] theorem State.camLocked_cal (s : State) : (s.camLocked).cal = s.cal := by
  unfold State.camLocked; (repeat' split) <;> simp
@[simp] theorem State.camLocked_pending (s : State) : (s.camLocked).pending = s.pending := by
  unfold State.camLocked; (repeat' split) <;> simp

@[simp] theorem State.camLeft_timebase (s : State) : (s.camLeft).timebase = s.timebase := by
  unfold State.camLeft; (repeat' split) <;> simp
@[simp] theorem State.camLeft_phase (s : State) : (s.camLeft).phase = s.phase := by
  unfold State.camLeft; (repeat' split) <;> simp
@[simp] theorem State.camLeft_resetN (s : State) : (s.camLeft).resetN = s.resetN := by
  unfold State.camLeft; (repeat' split) <;> simp
@[simp] theorem State.camLeft_vin (s : State) : (s.camLeft).vin = s.vin := by
  unfold State.camLeft; (repeat' split) <;> simp
@[simp] theorem State.camLeft_rsl (s : State) : (s.camLeft).rsl = s.rsl := by
  unfold State.camLeft; (repeat' split) <;> simp
@[simp] theorem State.camLeft_mnu (s : State) : (s.camLeft).mnu = s.mnu := by
  unfold State.camLeft; (repeat' split) <;> simp
@[simp] theorem State.camLeft_sct (s : State) : (s.camLeft).sct = s.sct := by
  unfold State.camLeft; (repeat' split) <;> simp
@[simp] theorem State.camLeft_cal (s : State) : (s.camLeft).cal = s.cal := by
  unfold State.camLeft; (repeat' split) <;> simp
@[simp] theorem State.camLeft_pending (s : State) : (s.camLeft).pending = s.pending := by
  unfold State.camLeft; (repeat' split) <;> simp

@[simp] theorem State.cueExpired_timebase (s : State) : (s.cueExpired).timebase = s.timebase := by
  unfold State.cueExpired; (repeat' split) <;> simp
@[simp] theorem State.cueExpired_phase (s : State) : (s.cueExpired).phase = s.phase := by
  unfold State.cueExpired; (repeat' split) <;> simp
@[simp] theorem State.cueExpired_resetN (s : State) : (s.cueExpired).resetN = s.resetN := by
  unfold State.cueExpired; (repeat' split) <;> simp
@[simp] theorem State.cueExpired_vin (s : State) : (s.cueExpired).vin = s.vin := by
  unfold State.cueExpired; (repeat' split) <;> simp
@[simp] theorem State.cueExpired_rsl (s : State) : (s.cueExpired).rsl = s.rsl := by
  unfold State.cueExpired; (repeat' split) <;> simp
@[simp] theorem State.cueExpired_mnu (s : State) : (s.cueExpired).mnu = s.mnu := by
  unfold State.cueExpired; (repeat' split) <;> simp
@[simp] theorem State.cueExpired_sct (s : State) : (s.cueExpired).sct = s.sct := by
  unfold State.cueExpired; (repeat' split) <;> simp
@[simp] theorem State.cueExpired_cal (s : State) : (s.cueExpired).cal = s.cal := by
  unfold State.cueExpired; (repeat' split) <;> simp
@[simp] theorem State.cueExpired_pending (s : State) : (s.cueExpired).pending = s.pending := by
  unfold State.cueExpired; (repeat' split) <;> simp

@[simp] theorem State.holdExpired_timebase (s : State) : (s.holdExpired).timebase = s.timebase := by
  unfold State.holdExpired; (repeat' split) <;> simp
@[simp] theorem State.holdExpired_phase (s : State) : (s.holdExpired).phase = s.phase := by
  unfold State.holdExpired; (repeat' split) <;> simp
@[simp] theorem State.holdExpired_resetN (s : State) : (s.holdExpired).resetN = s.resetN := by
  unfold State.holdExpired; (repeat' split) <;> simp
@[simp] theorem State.holdExpired_vin (s : State) : (s.holdExpired).vin = s.vin := by
  unfold State.holdExpired; (repeat' split) <;> simp
@[simp] theorem State.holdExpired_rsl (s : State) : (s.holdExpired).rsl = s.rsl := by
  unfold State.holdExpired; (repeat' split) <;> simp
@[simp] theorem State.holdExpired_mnu (s : State) : (s.holdExpired).mnu = s.mnu := by
  unfold State.holdExpired; (repeat' split) <;> simp
@[simp] theorem State.holdExpired_sct (s : State) : (s.holdExpired).sct = s.sct := by
  unfold State.holdExpired; (repeat' split) <;> simp
@[simp] theorem State.holdExpired_cal (s : State) : (s.holdExpired).cal = s.cal := by
  unfold State.holdExpired; (repeat' split) <;> simp
@[simp] theorem State.holdExpired_pending (s : State) : (s.holdExpired).pending = s.pending := by
  unfold State.holdExpired; (repeat' split) <;> simp

@[simp] theorem State.freshSpeed_timebase (s : State) : (s.freshSpeed).timebase = s.timebase := by
  unfold State.freshSpeed; (repeat' split) <;> simp
@[simp] theorem State.freshSpeed_phase (s : State) : (s.freshSpeed).phase = s.phase := by
  unfold State.freshSpeed; (repeat' split) <;> simp
@[simp] theorem State.freshSpeed_resetN (s : State) : (s.freshSpeed).resetN = s.resetN := by
  unfold State.freshSpeed; (repeat' split) <;> simp
@[simp] theorem State.freshSpeed_vin (s : State) : (s.freshSpeed).vin = s.vin := by
  unfold State.freshSpeed; (repeat' split) <;> simp
@[simp] theorem State.freshSpeed_rsl (s : State) : (s.freshSpeed).rsl = s.rsl := by
  unfold State.freshSpeed; (repeat' split) <;> simp
@[simp] theorem State.freshSpeed_mnu (s : State) : (s.freshSpeed).mnu = s.mnu := by
  unfold State.freshSpeed; (repeat' split) <;> simp
@[simp] theorem State.freshSpeed_sct (s : State) : (s.freshSpeed).sct = s.sct := by
  unfold State.freshSpeed; (repeat' split) <;> simp
@[simp] theorem State.freshSpeed_cal (s : State) : (s.freshSpeed).cal = s.cal := by
  unfold State.freshSpeed; (repeat' split) <;> simp
@[simp] theorem State.freshSpeed_pending (s : State) : (s.freshSpeed).pending = s.pending := by
  unfold State.freshSpeed; (repeat' split) <;> simp

@[simp] theorem State.handLock_timebase (s : State) (f : Feed) (a b : Lock) : (s.handLock f a b).timebase = s.timebase := by
  unfold State.handLock; (repeat' split) <;> simp
@[simp] theorem State.handLock_phase (s : State) (f : Feed) (a b : Lock) : (s.handLock f a b).phase = s.phase := by
  unfold State.handLock; (repeat' split) <;> simp
@[simp] theorem State.handLock_resetN (s : State) (f : Feed) (a b : Lock) : (s.handLock f a b).resetN = s.resetN := by
  unfold State.handLock; (repeat' split) <;> simp
@[simp] theorem State.handLock_vin (s : State) (f : Feed) (a b : Lock) : (s.handLock f a b).vin = s.vin := by
  unfold State.handLock; (repeat' split) <;> simp
@[simp] theorem State.handLock_rsl (s : State) (f : Feed) (a b : Lock) : (s.handLock f a b).rsl = s.rsl := by
  unfold State.handLock; (repeat' split) <;> simp
@[simp] theorem State.handLock_mnu (s : State) (f : Feed) (a b : Lock) : (s.handLock f a b).mnu = s.mnu := by
  unfold State.handLock; (repeat' split) <;> simp
@[simp] theorem State.handLock_sct (s : State) (f : Feed) (a b : Lock) : (s.handLock f a b).sct = s.sct := by
  unfold State.handLock; (repeat' split) <;> simp
@[simp] theorem State.handLock_cal (s : State) (f : Feed) (a b : Lock) : (s.handLock f a b).cal = s.cal := by
  unfold State.handLock; (repeat' split) <;> simp
@[simp] theorem State.handLock_pending (s : State) (f : Feed) (a b : Lock) : (s.handLock f a b).pending = s.pending := by
  unfold State.handLock; (repeat' split) <;> simp

@[simp] theorem State.frameStart_timebase (s : State) (f : Feed) : (s.frameStart f).timebase = s.timebase := by
  unfold State.frameStart; (repeat' split) <;> simp <;> (repeat' split) <;> simp
@[simp] theorem State.frameStart_phase (s : State) (f : Feed) : (s.frameStart f).phase = s.phase := by
  unfold State.frameStart; (repeat' split) <;> simp <;> (repeat' split) <;> simp
@[simp] theorem State.frameStart_resetN (s : State) (f : Feed) : (s.frameStart f).resetN = s.resetN := by
  unfold State.frameStart; (repeat' split) <;> simp <;> (repeat' split) <;> simp
@[simp] theorem State.frameStart_vin (s : State) (f : Feed) : (s.frameStart f).vin = s.vin := by
  unfold State.frameStart; (repeat' split) <;> simp <;> (repeat' split) <;> simp
@[simp] theorem State.frameStart_rsl (s : State) (f : Feed) : (s.frameStart f).rsl = s.rsl := by
  unfold State.frameStart; (repeat' split) <;> simp <;> (repeat' split) <;> simp
@[simp] theorem State.frameStart_mnu (s : State) (f : Feed) : (s.frameStart f).mnu = s.mnu := by
  unfold State.frameStart; (repeat' split) <;> simp <;> (repeat' split) <;> simp
@[simp] theorem State.frameStart_sct (s : State) (f : Feed) : (s.frameStart f).sct = s.sct := by
  unfold State.frameStart; (repeat' split) <;> simp <;> (repeat' split) <;> simp
@[simp] theorem State.frameStart_cal (s : State) (f : Feed) : (s.frameStart f).cal = s.cal := by
  unfold State.frameStart; (repeat' split) <;> simp <;> (repeat' split) <;> simp
@[simp] theorem State.frameStart_pending (s : State) (f : Feed) : (s.frameStart f).pending = s.pending := by
  unfold State.frameStart; (repeat' split) <;> simp <;> (repeat' split) <;> simp

@[simp] theorem State.frameWatchExpired_timebase (s : State) (f : Feed) : (s.frameWatchExpired f).timebase = s.timebase := by
  unfold State.frameWatchExpired; (repeat' split) <;> simp <;> (repeat' split) <;> simp
@[simp] theorem State.frameWatchExpired_phase (s : State) (f : Feed) : (s.frameWatchExpired f).phase = s.phase := by
  unfold State.frameWatchExpired; (repeat' split) <;> simp <;> (repeat' split) <;> simp
@[simp] theorem State.frameWatchExpired_resetN (s : State) (f : Feed) : (s.frameWatchExpired f).resetN = s.resetN := by
  unfold State.frameWatchExpired; (repeat' split) <;> simp <;> (repeat' split) <;> simp
@[simp] theorem State.frameWatchExpired_vin (s : State) (f : Feed) : (s.frameWatchExpired f).vin = s.vin := by
  unfold State.frameWatchExpired; (repeat' split) <;> simp <;> (repeat' split) <;> simp
@[simp] theorem State.frameWatchExpired_rsl (s : State) (f : Feed) : (s.frameWatchExpired f).rsl = s.rsl := by
  unfold State.frameWatchExpired; (repeat' split) <;> simp <;> (repeat' split) <;> simp
@[simp] theorem State.frameWatchExpired_mnu (s : State) (f : Feed) : (s.frameWatchExpired f).mnu = s.mnu := by
  unfold State.frameWatchExpired; (repeat' split) <;> simp <;> (repeat' split) <;> simp
@[simp] theorem State.frameWatchExpired_sct (s : State) (f : Feed) : (s.frameWatchExpired f).sct = s.sct := by
  unfold State.frameWatchExpired; (repeat' split) <;> simp <;> (repeat' split) <;> simp
@[simp] theorem State.frameWatchExpired_cal (s : State) (f : Feed) : (s.frameWatchExpired f).cal = s.cal := by
  unfold State.frameWatchExpired; (repeat' split) <;> simp <;> (repeat' split) <;> simp
@[simp] theorem State.frameWatchExpired_pending (s : State) (f : Feed) : (s.frameWatchExpired f).pending = s.pending := by
  unfold State.frameWatchExpired; (repeat' split) <;> simp <;> (repeat' split) <;> simp

@[simp] theorem State.speedToCompositor_timebase (s : State) : (s.speedToCompositor).timebase = s.timebase := by
  unfold State.speedToCompositor; (repeat' split) <;> simp
@[simp] theorem State.speedToCompositor_phase (s : State) : (s.speedToCompositor).phase = s.phase := by
  unfold State.speedToCompositor; (repeat' split) <;> simp
@[simp] theorem State.speedToCompositor_resetN (s : State) : (s.speedToCompositor).resetN = s.resetN := by
  unfold State.speedToCompositor; (repeat' split) <;> simp
@[simp] theorem State.speedToCompositor_fdp (s : State) : (s.speedToCompositor).fdp = s.fdp := by
  unfold State.speedToCompositor; (repeat' split) <;> simp
@[simp] theorem State.speedToCompositor_vin (s : State) : (s.speedToCompositor).vin = s.vin := by
  unfold State.speedToCompositor; (repeat' split) <;> simp
@[simp] theorem State.speedToCompositor_rvc (s : State) : (s.speedToCompositor).rvc = s.rvc := by
  unfold State.speedToCompositor; (repeat' split) <;> simp
@[simp] theorem State.speedToCompositor_gle (s : State) : (s.speedToCompositor).gle = s.gle := by
  unfold State.speedToCompositor; (repeat' split) <;> simp
@[simp] theorem State.speedToCompositor_rsl (s : State) : (s.speedToCompositor).rsl = s.rsl := by
  unfold State.speedToCompositor; (repeat' split) <;> simp
@[simp] theorem State.speedToCompositor_mnu (s : State) : (s.speedToCompositor).mnu = s.mnu := by
  unfold State.speedToCompositor; (repeat' split) <;> simp
@[simp] theorem State.speedToCompositor_sct (s : State) : (s.speedToCompositor).sct = s.sct := by
  unfold State.speedToCompositor; (repeat' split) <;> simp
@[simp] theorem State.speedToCompositor_chu (s : State) : (s.speedToCompositor).chu = s.chu := by
  unfold State.speedToCompositor; (repeat' split) <;> simp
@[simp] theorem State.speedToCompositor_cal (s : State) : (s.speedToCompositor).cal = s.cal := by
  unfold State.speedToCompositor; (repeat' split) <;> simp
@[simp] theorem State.speedToCompositor_pending (s : State) : (s.speedToCompositor).pending = s.pending := by
  unfold State.speedToCompositor; (repeat' split) <;> simp

@[simp] theorem State.deliver_timebase (s : State) (r : Report) : (s.deliver r).timebase = s.timebase := by
  unfold State.deliver; (repeat' split) <;> simp
@[simp] theorem State.deliver_phase (s : State) (r : Report) : (s.deliver r).phase = s.phase := by
  unfold State.deliver; (repeat' split) <;> simp
@[simp] theorem State.deliver_resetN (s : State) (r : Report) : (s.deliver r).resetN = s.resetN := by
  unfold State.deliver; (repeat' split) <;> simp
@[simp] theorem State.deliver_vin (s : State) (r : Report) : (s.deliver r).vin = s.vin := by
  unfold State.deliver; (repeat' split) <;> simp
@[simp] theorem State.deliver_mnu (s : State) (r : Report) : (s.deliver r).mnu = s.mnu := by
  unfold State.deliver; (repeat' split) <;> simp
@[simp] theorem State.deliver_cal (s : State) (r : Report) : (s.deliver r).cal = s.cal := by
  unfold State.deliver; (repeat' split) <;> simp
@[simp] theorem State.deliver_pending (s : State) (r : Report) : (s.deliver r).pending = s.pending := by
  unfold State.deliver; (repeat' split) <;> simp

@[simp] theorem State.deliverStale_timebase (s : State) (w : Watched) : (s.deliverStale w).timebase = s.timebase := by
  unfold State.deliverStale; (repeat' split) <;> simp
@[simp] theorem State.deliverStale_phase (s : State) (w : Watched) : (s.deliverStale w).phase = s.phase := by
  unfold State.deliverStale; (repeat' split) <;> simp
@[simp] theorem State.deliverStale_resetN (s : State) (w : Watched) : (s.deliverStale w).resetN = s.resetN := by
  unfold State.deliverStale; (repeat' split) <;> simp
@[simp] theorem State.deliverStale_fdp (s : State) (w : Watched) : (s.deliverStale w).fdp = s.fdp := by
  unfold State.deliverStale; (repeat' split) <;> simp
@[simp] theorem State.deliverStale_vin (s : State) (w : Watched) : (s.deliverStale w).vin = s.vin := by
  unfold State.deliverStale; (repeat' split) <;> simp
@[simp] theorem State.deliverStale_rsl (s : State) (w : Watched) : (s.deliverStale w).rsl = s.rsl := by
  unfold State.deliverStale; (repeat' split) <;> simp
@[simp] theorem State.deliverStale_mnu (s : State) (w : Watched) : (s.deliverStale w).mnu = s.mnu := by
  unfold State.deliverStale; (repeat' split) <;> simp
@[simp] theorem State.deliverStale_sct (s : State) (w : Watched) : (s.deliverStale w).sct = s.sct := by
  unfold State.deliverStale; (repeat' split) <;> simp
@[simp] theorem State.deliverStale_cal (s : State) (w : Watched) : (s.deliverStale w).cal = s.cal := by
  unfold State.deliverStale; (repeat' split) <;> simp
@[simp] theorem State.deliverStale_pending (s : State) (w : Watched) : (s.deliverStale w).pending = s.pending := by
  unfold State.deliverStale; (repeat' split) <;> simp

@[simp] theorem State.watchExpired_timebase (s : State) (w : Watched) : (s.watchExpired w).timebase = s.timebase := by
  unfold State.watchExpired; (repeat' split) <;> simp
@[simp] theorem State.watchExpired_phase (s : State) (w : Watched) : (s.watchExpired w).phase = s.phase := by
  unfold State.watchExpired; (repeat' split) <;> simp
@[simp] theorem State.watchExpired_resetN (s : State) (w : Watched) : (s.watchExpired w).resetN = s.resetN := by
  unfold State.watchExpired; (repeat' split) <;> simp
@[simp] theorem State.watchExpired_fdp (s : State) (w : Watched) : (s.watchExpired w).fdp = s.fdp := by
  unfold State.watchExpired; (repeat' split) <;> simp
@[simp] theorem State.watchExpired_rsl (s : State) (w : Watched) : (s.watchExpired w).rsl = s.rsl := by
  unfold State.watchExpired; (repeat' split) <;> simp
@[simp] theorem State.watchExpired_mnu (s : State) (w : Watched) : (s.watchExpired w).mnu = s.mnu := by
  unfold State.watchExpired; (repeat' split) <;> simp
@[simp] theorem State.watchExpired_sct (s : State) (w : Watched) : (s.watchExpired w).sct = s.sct := by
  unfold State.watchExpired; (repeat' split) <;> simp
@[simp] theorem State.watchExpired_cal (s : State) (w : Watched) : (s.watchExpired w).cal = s.cal := by
  unfold State.watchExpired; (repeat' split) <;> simp
@[simp] theorem State.watchExpired_pending (s : State) (w : Watched) : (s.watchExpired w).pending = s.pending := by
  unfold State.watchExpired; (repeat' split) <;> simp

@[simp] theorem State.runEffects_timebase (s : State) : (s.runEffects).timebase = s.timebase := by
  unfold State.runEffects; (repeat' split) <;> simp
@[simp] theorem State.runEffects_phase (s : State) : (s.runEffects).phase = s.phase := by
  unfold State.runEffects; (repeat' split) <;> simp
@[simp] theorem State.runEffects_resetN (s : State) : (s.runEffects).resetN = s.resetN := by
  unfold State.runEffects; (repeat' split) <;> simp
@[simp] theorem State.runEffects_vin (s : State) : (s.runEffects).vin = s.vin := by
  unfold State.runEffects; (repeat' split) <;> simp
@[simp] theorem State.runEffects_rvc (s : State) : (s.runEffects).rvc = s.rvc := by
  unfold State.runEffects; (repeat' split) <;> simp
@[simp] theorem State.runEffects_gle (s : State) : (s.runEffects).gle = s.gle := by
  unfold State.runEffects; (repeat' split) <;> simp
@[simp] theorem State.runEffects_mnu (s : State) : (s.runEffects).mnu = s.mnu := by
  unfold State.runEffects; (repeat' split) <;> simp
@[simp] theorem State.runEffects_sct (s : State) : (s.runEffects).sct = s.sct := by
  unfold State.runEffects; (repeat' split) <;> simp
@[simp] theorem State.runEffects_chu (s : State) : (s.runEffects).chu = s.chu := by
  unfold State.runEffects; (repeat' split) <;> simp
@[simp] theorem State.runEffects_cal (s : State) : (s.runEffects).cal = s.cal := by
  unfold State.runEffects; (repeat' split) <;> simp
@[simp] theorem State.runEffects_pending (s : State) : (s.runEffects).pending = s.pending := by
  unfold State.runEffects; (repeat' split) <;> simp

@[simp] theorem State.enterRun_timebase (s : State) (c : ModeCause) : (s.enterRun c).timebase = s.timebase := by
  unfold State.enterRun; (repeat' split) <;> simp
@[simp] theorem State.enterRun_phase (s : State) (c : ModeCause) : (s.enterRun c).phase = s.phase := by
  unfold State.enterRun; (repeat' split) <;> simp
@[simp] theorem State.enterRun_resetN (s : State) (c : ModeCause) : (s.enterRun c).resetN = s.resetN := by
  unfold State.enterRun; (repeat' split) <;> simp
@[simp] theorem State.enterRun_vin (s : State) (c : ModeCause) : (s.enterRun c).vin = s.vin := by
  unfold State.enterRun; (repeat' split) <;> simp
@[simp] theorem State.enterRun_rvc (s : State) (c : ModeCause) : (s.enterRun c).rvc = s.rvc := by
  unfold State.enterRun; (repeat' split) <;> simp
@[simp] theorem State.enterRun_gle (s : State) (c : ModeCause) : (s.enterRun c).gle = s.gle := by
  unfold State.enterRun; (repeat' split) <;> simp
@[simp] theorem State.enterRun_mnu (s : State) (c : ModeCause) : (s.enterRun c).mnu = s.mnu := by
  unfold State.enterRun; (repeat' split) <;> simp
@[simp] theorem State.enterRun_sct (s : State) (c : ModeCause) : (s.enterRun c).sct = s.sct := by
  unfold State.enterRun; (repeat' split) <;> simp
@[simp] theorem State.enterRun_chu (s : State) (c : ModeCause) : (s.enterRun c).chu = s.chu := by
  unfold State.enterRun; (repeat' split) <;> simp
@[simp] theorem State.enterRun_cal (s : State) (c : ModeCause) : (s.enterRun c).cal = s.cal := by
  unfold State.enterRun; (repeat' split) <;> simp
@[simp] theorem State.enterRun_pending (s : State) (c : ModeCause) : (s.enterRun c).pending = s.pending := by
  unfold State.enterRun; (repeat' split) <;> simp

@[simp] theorem State.reverseWake_timebase (s : State) (g : Gear) : (s.reverseWake g).timebase = s.timebase := by
  unfold State.reverseWake; (repeat' split) <;> simp
@[simp] theorem State.reverseWake_phase (s : State) (g : Gear) : (s.reverseWake g).phase = s.phase := by
  unfold State.reverseWake; (repeat' split) <;> simp
@[simp] theorem State.reverseWake_resetN (s : State) (g : Gear) : (s.reverseWake g).resetN = s.resetN := by
  unfold State.reverseWake; (repeat' split) <;> simp
@[simp] theorem State.reverseWake_vin (s : State) (g : Gear) : (s.reverseWake g).vin = s.vin := by
  unfold State.reverseWake; (repeat' split) <;> simp
@[simp] theorem State.reverseWake_rvc (s : State) (g : Gear) : (s.reverseWake g).rvc = s.rvc := by
  unfold State.reverseWake; (repeat' split) <;> simp
@[simp] theorem State.reverseWake_gle (s : State) (g : Gear) : (s.reverseWake g).gle = s.gle := by
  unfold State.reverseWake; (repeat' split) <;> simp
@[simp] theorem State.reverseWake_mnu (s : State) (g : Gear) : (s.reverseWake g).mnu = s.mnu := by
  unfold State.reverseWake; (repeat' split) <;> simp
@[simp] theorem State.reverseWake_sct (s : State) (g : Gear) : (s.reverseWake g).sct = s.sct := by
  unfold State.reverseWake; (repeat' split) <;> simp
@[simp] theorem State.reverseWake_chu (s : State) (g : Gear) : (s.reverseWake g).chu = s.chu := by
  unfold State.reverseWake; (repeat' split) <;> simp
@[simp] theorem State.reverseWake_cal (s : State) (g : Gear) : (s.reverseWake g).cal = s.cal := by
  unfold State.reverseWake; (repeat' split) <;> simp
@[simp] theorem State.reverseWake_pending (s : State) (g : Gear) : (s.reverseWake g).pending = s.pending := by
  unfold State.reverseWake; (repeat' split) <;> simp

@[simp] theorem State.enterStandby_timebase (s : State) : (s.enterStandby).timebase = s.timebase := by
  unfold State.enterStandby; (repeat' split) <;> simp
@[simp] theorem State.enterStandby_phase (s : State) : (s.enterStandby).phase = s.phase := by
  unfold State.enterStandby; (repeat' split) <;> simp
@[simp] theorem State.enterStandby_resetN (s : State) : (s.enterStandby).resetN = s.resetN := by
  unfold State.enterStandby; (repeat' split) <;> simp
@[simp] theorem State.enterStandby_vin (s : State) : (s.enterStandby).vin = s.vin := by
  unfold State.enterStandby; (repeat' split) <;> simp
@[simp] theorem State.enterStandby_cal (s : State) : (s.enterStandby).cal = s.cal := by
  unfold State.enterStandby; (repeat' split) <;> simp
@[simp] theorem State.enterStandby_pending (s : State) : (s.enterStandby).pending = s.pending := by
  unfold State.enterStandby; (repeat' split) <;> simp

@[simp] theorem State.gearEdge_timebase (s : State) (b : Bool) : (s.gearEdge b).timebase = s.timebase := by
  unfold State.gearEdge; (repeat' split) <;> simp
@[simp] theorem State.gearEdge_phase (s : State) (b : Bool) : (s.gearEdge b).phase = s.phase := by
  unfold State.gearEdge; (repeat' split) <;> simp
@[simp] theorem State.gearEdge_resetN (s : State) (b : Bool) : (s.gearEdge b).resetN = s.resetN := by
  unfold State.gearEdge; (repeat' split) <;> simp
@[simp] theorem State.gearEdge_cli (s : State) (b : Bool) : (s.gearEdge b).cli = s.cli := by
  unfold State.gearEdge; (repeat' split) <;> simp
@[simp] theorem State.gearEdge_fdp (s : State) (b : Bool) : (s.gearEdge b).fdp = s.fdp := by
  unfold State.gearEdge; (repeat' split) <;> simp
@[simp] theorem State.gearEdge_rvc (s : State) (b : Bool) : (s.gearEdge b).rvc = s.rvc := by
  unfold State.gearEdge; (repeat' split) <;> simp
@[simp] theorem State.gearEdge_gle (s : State) (b : Bool) : (s.gearEdge b).gle = s.gle := by
  unfold State.gearEdge; (repeat' split) <;> simp
@[simp] theorem State.gearEdge_rsl (s : State) (b : Bool) : (s.gearEdge b).rsl = s.rsl := by
  unfold State.gearEdge; (repeat' split) <;> simp
@[simp] theorem State.gearEdge_cmp (s : State) (b : Bool) : (s.gearEdge b).cmp = s.cmp := by
  unfold State.gearEdge; (repeat' split) <;> simp
@[simp] theorem State.gearEdge_mnu (s : State) (b : Bool) : (s.gearEdge b).mnu = s.mnu := by
  unfold State.gearEdge; (repeat' split) <;> simp
@[simp] theorem State.gearEdge_sct (s : State) (b : Bool) : (s.gearEdge b).sct = s.sct := by
  unfold State.gearEdge; (repeat' split) <;> simp
@[simp] theorem State.gearEdge_chu (s : State) (b : Bool) : (s.gearEdge b).chu = s.chu := by
  unfold State.gearEdge; (repeat' split) <;> simp
@[simp] theorem State.gearEdge_cal (s : State) (b : Bool) : (s.gearEdge b).cal = s.cal := by
  unfold State.gearEdge; (repeat' split) <;> simp
@[simp] theorem State.gearEdge_pending (s : State) (b : Bool) : (s.gearEdge b).pending = s.pending := by
  unfold State.gearEdge; (repeat' split) <;> simp

@[simp] theorem State.watchGear_timebase (s : State) : (s.watchGear).timebase = s.timebase := by
  unfold State.watchGear; (repeat' split) <;> simp
@[simp] theorem State.watchGear_phase (s : State) : (s.watchGear).phase = s.phase := by
  unfold State.watchGear; (repeat' split) <;> simp
@[simp] theorem State.watchGear_resetN (s : State) : (s.watchGear).resetN = s.resetN := by
  unfold State.watchGear; (repeat' split) <;> simp
@[simp] theorem State.watchGear_cli (s : State) : (s.watchGear).cli = s.cli := by
  unfold State.watchGear; (repeat' split) <;> simp
@[simp] theorem State.watchGear_fdp (s : State) : (s.watchGear).fdp = s.fdp := by
  unfold State.watchGear; (repeat' split) <;> simp
@[simp] theorem State.watchGear_rvc (s : State) : (s.watchGear).rvc = s.rvc := by
  unfold State.watchGear; (repeat' split) <;> simp
@[simp] theorem State.watchGear_gle (s : State) : (s.watchGear).gle = s.gle := by
  unfold State.watchGear; (repeat' split) <;> simp
@[simp] theorem State.watchGear_rsl (s : State) : (s.watchGear).rsl = s.rsl := by
  unfold State.watchGear; (repeat' split) <;> simp
@[simp] theorem State.watchGear_cmp (s : State) : (s.watchGear).cmp = s.cmp := by
  unfold State.watchGear; (repeat' split) <;> simp
@[simp] theorem State.watchGear_mnu (s : State) : (s.watchGear).mnu = s.mnu := by
  unfold State.watchGear; (repeat' split) <;> simp
@[simp] theorem State.watchGear_sct (s : State) : (s.watchGear).sct = s.sct := by
  unfold State.watchGear; (repeat' split) <;> simp
@[simp] theorem State.watchGear_chu (s : State) : (s.watchGear).chu = s.chu := by
  unfold State.watchGear; (repeat' split) <;> simp
@[simp] theorem State.watchGear_cal (s : State) : (s.watchGear).cal = s.cal := by
  unfold State.watchGear; (repeat' split) <;> simp
@[simp] theorem State.watchGear_pending (s : State) : (s.watchGear).pending = s.pending := by
  unfold State.watchGear; (repeat' split) <;> simp

@[simp] theorem State.debounceExpired_timebase (s : State) : (s.debounceExpired).timebase = s.timebase := by
  unfold State.debounceExpired; (repeat' split) <;> simp
@[simp] theorem State.debounceExpired_phase (s : State) : (s.debounceExpired).phase = s.phase := by
  unfold State.debounceExpired; (repeat' split) <;> simp
@[simp] theorem State.debounceExpired_resetN (s : State) : (s.debounceExpired).resetN = s.resetN := by
  unfold State.debounceExpired; (repeat' split) <;> simp
@[simp] theorem State.debounceExpired_mnu (s : State) : (s.debounceExpired).mnu = s.mnu := by
  unfold State.debounceExpired; (repeat' split) <;> simp
@[simp] theorem State.debounceExpired_sct (s : State) : (s.debounceExpired).sct = s.sct := by
  unfold State.debounceExpired; (repeat' split) <;> simp
@[simp] theorem State.debounceExpired_cal (s : State) : (s.debounceExpired).cal = s.cal := by
  unfold State.debounceExpired; (repeat' split) <;> simp
@[simp] theorem State.debounceExpired_pending (s : State) : (s.debounceExpired).pending = s.pending := by
  unfold State.debounceExpired; (repeat' split) <;> simp

@[simp] theorem State.startMode_timebase (s : State) : (s.startMode).timebase = s.timebase := by
  unfold State.startMode; (repeat' split) <;> simp <;> (repeat' split) <;> simp
@[simp] theorem State.startMode_resetN (s : State) : (s.startMode).resetN = s.resetN := by
  unfold State.startMode; (repeat' split) <;> simp <;> (repeat' split) <;> simp
@[simp] theorem State.startMode_rvc (s : State) : (s.startMode).rvc = s.rvc := by
  unfold State.startMode; (repeat' split) <;> simp <;> (repeat' split) <;> simp
@[simp] theorem State.startMode_gle (s : State) : (s.startMode).gle = s.gle := by
  unfold State.startMode; (repeat' split) <;> simp <;> (repeat' split) <;> simp
@[simp] theorem State.startMode_mnu (s : State) : (s.startMode).mnu = s.mnu := by
  unfold State.startMode; (repeat' split) <;> simp <;> (repeat' split) <;> simp
@[simp] theorem State.startMode_sct (s : State) : (s.startMode).sct = s.sct := by
  unfold State.startMode; (repeat' split) <;> simp <;> (repeat' split) <;> simp
@[simp] theorem State.startMode_chu (s : State) : (s.startMode).chu = s.chu := by
  unfold State.startMode; (repeat' split) <;> simp <;> (repeat' split) <;> simp
@[simp] theorem State.startMode_cal (s : State) : (s.startMode).cal = s.cal := by
  unfold State.startMode; (repeat' split) <;> simp <;> (repeat' split) <;> simp
@[simp] theorem State.startMode_pending (s : State) : (s.startMode).pending = s.pending := by
  unfold State.startMode; (repeat' split) <;> simp <;> (repeat' split) <;> simp

end Sys2Proof.Machine
end

