-- ==== Sys2Proof/Laws/Control.lean ====
section
/-! SUPPORT. What the operations of the control link interface and the calibration store leave unchanged: one lemma for each operation and field. -/

namespace Sys2Proof.Machine

@[simp] theorem State.byteWatchExpired_timebase (s : State) : (s.byteWatchExpired).timebase = s.timebase := by
  unfold State.byteWatchExpired; (repeat' split) <;> simp
@[simp] theorem State.byteWatchExpired_phase (s : State) : (s.byteWatchExpired).phase = s.phase := by
  unfold State.byteWatchExpired; (repeat' split) <;> simp
@[simp] theorem State.byteWatchExpired_resetN (s : State) : (s.byteWatchExpired).resetN = s.resetN := by
  unfold State.byteWatchExpired; (repeat' split) <;> simp
@[simp] theorem State.byteWatchExpired_fdp (s : State) : (s.byteWatchExpired).fdp = s.fdp := by
  unfold State.byteWatchExpired; (repeat' split) <;> simp
@[simp] theorem State.byteWatchExpired_vin (s : State) : (s.byteWatchExpired).vin = s.vin := by
  unfold State.byteWatchExpired; (repeat' split) <;> simp
@[simp] theorem State.byteWatchExpired_rvc (s : State) : (s.byteWatchExpired).rvc = s.rvc := by
  unfold State.byteWatchExpired; (repeat' split) <;> simp
@[simp] theorem State.byteWatchExpired_gle (s : State) : (s.byteWatchExpired).gle = s.gle := by
  unfold State.byteWatchExpired; (repeat' split) <;> simp
@[simp] theorem State.byteWatchExpired_rsl (s : State) : (s.byteWatchExpired).rsl = s.rsl := by
  unfold State.byteWatchExpired; (repeat' split) <;> simp
@[simp] theorem State.byteWatchExpired_cmp (s : State) : (s.byteWatchExpired).cmp = s.cmp := by
  unfold State.byteWatchExpired; (repeat' split) <;> simp
@[simp] theorem State.byteWatchExpired_mnu (s : State) : (s.byteWatchExpired).mnu = s.mnu := by
  unfold State.byteWatchExpired; (repeat' split) <;> simp
@[simp] theorem State.byteWatchExpired_sct (s : State) : (s.byteWatchExpired).sct = s.sct := by
  unfold State.byteWatchExpired; (repeat' split) <;> simp
@[simp] theorem State.byteWatchExpired_chu (s : State) : (s.byteWatchExpired).chu = s.chu := by
  unfold State.byteWatchExpired; (repeat' split) <;> simp
@[simp] theorem State.byteWatchExpired_cal (s : State) : (s.byteWatchExpired).cal = s.cal := by
  unfold State.byteWatchExpired; (repeat' split) <;> simp
@[simp] theorem State.byteWatchExpired_pending (s : State) : (s.byteWatchExpired).pending = s.pending := by
  unfold State.byteWatchExpired; (repeat' split) <;> simp

@[simp] theorem State.checkFrame_timebase (s : State) : (s.checkFrame).timebase = s.timebase := by
  unfold State.checkFrame; (repeat' split) <;> simp
@[simp] theorem State.checkFrame_phase (s : State) : (s.checkFrame).phase = s.phase := by
  unfold State.checkFrame; (repeat' split) <;> simp
@[simp] theorem State.checkFrame_resetN (s : State) : (s.checkFrame).resetN = s.resetN := by
  unfold State.checkFrame; (repeat' split) <;> simp
@[simp] theorem State.checkFrame_fdp (s : State) : (s.checkFrame).fdp = s.fdp := by
  unfold State.checkFrame; (repeat' split) <;> simp
@[simp] theorem State.checkFrame_vin (s : State) : (s.checkFrame).vin = s.vin := by
  unfold State.checkFrame; (repeat' split) <;> simp
@[simp] theorem State.checkFrame_rvc (s : State) : (s.checkFrame).rvc = s.rvc := by
  unfold State.checkFrame; (repeat' split) <;> simp
@[simp] theorem State.checkFrame_gle (s : State) : (s.checkFrame).gle = s.gle := by
  unfold State.checkFrame; (repeat' split) <;> simp
@[simp] theorem State.checkFrame_rsl (s : State) : (s.checkFrame).rsl = s.rsl := by
  unfold State.checkFrame; (repeat' split) <;> simp
@[simp] theorem State.checkFrame_cmp (s : State) : (s.checkFrame).cmp = s.cmp := by
  unfold State.checkFrame; (repeat' split) <;> simp
@[simp] theorem State.checkFrame_mnu (s : State) : (s.checkFrame).mnu = s.mnu := by
  unfold State.checkFrame; (repeat' split) <;> simp
@[simp] theorem State.checkFrame_sct (s : State) : (s.checkFrame).sct = s.sct := by
  unfold State.checkFrame; (repeat' split) <;> simp
@[simp] theorem State.checkFrame_chu (s : State) : (s.checkFrame).chu = s.chu := by
  unfold State.checkFrame; (repeat' split) <;> simp
@[simp] theorem State.checkFrame_cal (s : State) : (s.checkFrame).cal = s.cal := by
  unfold State.checkFrame; (repeat' split) <;> simp
@[simp] theorem State.checkFrame_pending (s : State) : (s.checkFrame).pending = s.pending := by
  unfold State.checkFrame; (repeat' split) <;> simp

@[simp] theorem State.menusWarm_timebase (s : State) : (s.menusWarm).timebase = s.timebase := by
  unfold State.menusWarm; (repeat' split) <;> simp
@[simp] theorem State.menusWarm_phase (s : State) : (s.menusWarm).phase = s.phase := by
  unfold State.menusWarm; (repeat' split) <;> simp
@[simp] theorem State.menusWarm_resetN (s : State) : (s.menusWarm).resetN = s.resetN := by
  unfold State.menusWarm; (repeat' split) <;> simp
@[simp] theorem State.menusWarm_fdp (s : State) : (s.menusWarm).fdp = s.fdp := by
  unfold State.menusWarm; (repeat' split) <;> simp
@[simp] theorem State.menusWarm_vin (s : State) : (s.menusWarm).vin = s.vin := by
  unfold State.menusWarm; (repeat' split) <;> simp
@[simp] theorem State.menusWarm_rvc (s : State) : (s.menusWarm).rvc = s.rvc := by
  unfold State.menusWarm; (repeat' split) <;> simp
@[simp] theorem State.menusWarm_gle (s : State) : (s.menusWarm).gle = s.gle := by
  unfold State.menusWarm; (repeat' split) <;> simp
@[simp] theorem State.menusWarm_rsl (s : State) : (s.menusWarm).rsl = s.rsl := by
  unfold State.menusWarm; (repeat' split) <;> simp
@[simp] theorem State.menusWarm_sct (s : State) : (s.menusWarm).sct = s.sct := by
  unfold State.menusWarm; (repeat' split) <;> simp
@[simp] theorem State.menusWarm_chu (s : State) : (s.menusWarm).chu = s.chu := by
  unfold State.menusWarm; (repeat' split) <;> simp
@[simp] theorem State.menusWarm_cal (s : State) : (s.menusWarm).cal = s.cal := by
  unfold State.menusWarm; (repeat' split) <;> simp
@[simp] theorem State.menusWarm_pending (s : State) : (s.menusWarm).pending = s.pending := by
  unfold State.menusWarm; (repeat' split) <;> simp

@[simp] theorem State.warmRestart_timebase (s : State) : (s.warmRestart).timebase = s.timebase := by
  unfold State.warmRestart; (repeat' split) <;> simp
@[simp] theorem State.warmRestart_phase (s : State) : (s.warmRestart).phase = s.phase := by
  unfold State.warmRestart; (repeat' split) <;> simp
@[simp] theorem State.warmRestart_resetN (s : State) : (s.warmRestart).resetN = s.resetN := by
  unfold State.warmRestart; (repeat' split) <;> simp
@[simp] theorem State.warmRestart_vin (s : State) : (s.warmRestart).vin = s.vin := by
  unfold State.warmRestart; (repeat' split) <;> simp
@[simp] theorem State.warmRestart_rvc (s : State) : (s.warmRestart).rvc = s.rvc := by
  unfold State.warmRestart; (repeat' split) <;> simp
@[simp] theorem State.warmRestart_cal (s : State) : (s.warmRestart).cal = s.cal := by
  unfold State.warmRestart; (repeat' split) <;> simp
@[simp] theorem State.warmRestart_pending (s : State) : (s.warmRestart).pending = s.pending := by
  unfold State.warmRestart; (repeat' split) <;> simp

@[simp] theorem State.replySent_timebase (s : State) : (s.replySent).timebase = s.timebase := by
  unfold State.replySent; (repeat' split) <;> simp <;> (repeat' split) <;> simp
@[simp] theorem State.replySent_phase (s : State) : (s.replySent).phase = s.phase := by
  unfold State.replySent; (repeat' split) <;> simp <;> (repeat' split) <;> simp
@[simp] theorem State.replySent_resetN (s : State) : (s.replySent).resetN = s.resetN := by
  unfold State.replySent; (repeat' split) <;> simp <;> (repeat' split) <;> simp
@[simp] theorem State.replySent_vin (s : State) : (s.replySent).vin = s.vin := by
  unfold State.replySent; (repeat' split) <;> simp <;> (repeat' split) <;> simp
@[simp] theorem State.replySent_rvc (s : State) : (s.replySent).rvc = s.rvc := by
  unfold State.replySent; (repeat' split) <;> simp <;> (repeat' split) <;> simp
@[simp] theorem State.replySent_cal (s : State) : (s.replySent).cal = s.cal := by
  unfold State.replySent; (repeat' split) <;> simp <;> (repeat' split) <;> simp
@[simp] theorem State.replySent_pending (s : State) : (s.replySent).pending = s.pending := by
  unfold State.replySent; (repeat' split) <;> simp <;> (repeat' split) <;> simp

@[simp] theorem State.frameEnded_timebase (s : State) : (s.frameEnded).timebase = s.timebase := by
  unfold State.frameEnded; (repeat' split) <;> simp
@[simp] theorem State.frameEnded_phase (s : State) : (s.frameEnded).phase = s.phase := by
  unfold State.frameEnded; (repeat' split) <;> simp
@[simp] theorem State.frameEnded_resetN (s : State) : (s.frameEnded).resetN = s.resetN := by
  unfold State.frameEnded; (repeat' split) <;> simp
@[simp] theorem State.frameEnded_vin (s : State) : (s.frameEnded).vin = s.vin := by
  unfold State.frameEnded; (repeat' split) <;> simp
@[simp] theorem State.frameEnded_rvc (s : State) : (s.frameEnded).rvc = s.rvc := by
  unfold State.frameEnded; (repeat' split) <;> simp
@[simp] theorem State.frameEnded_cal (s : State) : (s.frameEnded).cal = s.cal := by
  unfold State.frameEnded; (repeat' split) <;> simp
@[simp] theorem State.frameEnded_pending (s : State) : (s.frameEnded).pending = s.pending := by
  unfold State.frameEnded; (repeat' split) <;> simp

@[simp] theorem State.dispatchUnknown_timebase (s : State) : (s.dispatchUnknown).timebase = s.timebase := by
  unfold State.dispatchUnknown; (repeat' split) <;> simp
@[simp] theorem State.dispatchUnknown_phase (s : State) : (s.dispatchUnknown).phase = s.phase := by
  unfold State.dispatchUnknown; (repeat' split) <;> simp
@[simp] theorem State.dispatchUnknown_resetN (s : State) : (s.dispatchUnknown).resetN = s.resetN := by
  unfold State.dispatchUnknown; (repeat' split) <;> simp
@[simp] theorem State.dispatchUnknown_fdp (s : State) : (s.dispatchUnknown).fdp = s.fdp := by
  unfold State.dispatchUnknown; (repeat' split) <;> simp
@[simp] theorem State.dispatchUnknown_vin (s : State) : (s.dispatchUnknown).vin = s.vin := by
  unfold State.dispatchUnknown; (repeat' split) <;> simp
@[simp] theorem State.dispatchUnknown_rvc (s : State) : (s.dispatchUnknown).rvc = s.rvc := by
  unfold State.dispatchUnknown; (repeat' split) <;> simp
@[simp] theorem State.dispatchUnknown_gle (s : State) : (s.dispatchUnknown).gle = s.gle := by
  unfold State.dispatchUnknown; (repeat' split) <;> simp
@[simp] theorem State.dispatchUnknown_rsl (s : State) : (s.dispatchUnknown).rsl = s.rsl := by
  unfold State.dispatchUnknown; (repeat' split) <;> simp
@[simp] theorem State.dispatchUnknown_cmp (s : State) : (s.dispatchUnknown).cmp = s.cmp := by
  unfold State.dispatchUnknown; (repeat' split) <;> simp
@[simp] theorem State.dispatchUnknown_mnu (s : State) : (s.dispatchUnknown).mnu = s.mnu := by
  unfold State.dispatchUnknown; (repeat' split) <;> simp
@[simp] theorem State.dispatchUnknown_sct (s : State) : (s.dispatchUnknown).sct = s.sct := by
  unfold State.dispatchUnknown; (repeat' split) <;> simp
@[simp] theorem State.dispatchUnknown_chu (s : State) : (s.dispatchUnknown).chu = s.chu := by
  unfold State.dispatchUnknown; (repeat' split) <;> simp
@[simp] theorem State.dispatchUnknown_cal (s : State) : (s.dispatchUnknown).cal = s.cal := by
  unfold State.dispatchUnknown; (repeat' split) <;> simp
@[simp] theorem State.dispatchUnknown_pending (s : State) : (s.dispatchUnknown).pending = s.pending := by
  unfold State.dispatchUnknown; (repeat' split) <;> simp

@[simp] theorem State.writeField_timebase (s : State) (no k : Nat) (v : Int) : (s.writeField no k v).timebase = s.timebase := by
  unfold State.writeField; (repeat' split) <;> simp <;> (repeat' split) <;> simp
@[simp] theorem State.writeField_phase (s : State) (no k : Nat) (v : Int) : (s.writeField no k v).phase = s.phase := by
  unfold State.writeField; (repeat' split) <;> simp <;> (repeat' split) <;> simp
@[simp] theorem State.writeField_resetN (s : State) (no k : Nat) (v : Int) : (s.writeField no k v).resetN = s.resetN := by
  unfold State.writeField; (repeat' split) <;> simp <;> (repeat' split) <;> simp
@[simp] theorem State.writeField_cli (s : State) (no k : Nat) (v : Int) : (s.writeField no k v).cli = s.cli := by
  unfold State.writeField; (repeat' split) <;> simp <;> (repeat' split) <;> simp
@[simp] theorem State.writeField_fdp (s : State) (no k : Nat) (v : Int) : (s.writeField no k v).fdp = s.fdp := by
  unfold State.writeField; (repeat' split) <;> simp <;> (repeat' split) <;> simp
@[simp] theorem State.writeField_vin (s : State) (no k : Nat) (v : Int) : (s.writeField no k v).vin = s.vin := by
  unfold State.writeField; (repeat' split) <;> simp <;> (repeat' split) <;> simp
@[simp] theorem State.writeField_rvc (s : State) (no k : Nat) (v : Int) : (s.writeField no k v).rvc = s.rvc := by
  unfold State.writeField; (repeat' split) <;> simp <;> (repeat' split) <;> simp
@[simp] theorem State.writeField_rsl (s : State) (no k : Nat) (v : Int) : (s.writeField no k v).rsl = s.rsl := by
  unfold State.writeField; (repeat' split) <;> simp <;> (repeat' split) <;> simp
@[simp] theorem State.writeField_cmp (s : State) (no k : Nat) (v : Int) : (s.writeField no k v).cmp = s.cmp := by
  unfold State.writeField; (repeat' split) <;> simp <;> (repeat' split) <;> simp
@[simp] theorem State.writeField_mnu (s : State) (no k : Nat) (v : Int) : (s.writeField no k v).mnu = s.mnu := by
  unfold State.writeField; (repeat' split) <;> simp <;> (repeat' split) <;> simp
@[simp] theorem State.writeField_sct (s : State) (no k : Nat) (v : Int) : (s.writeField no k v).sct = s.sct := by
  unfold State.writeField; (repeat' split) <;> simp <;> (repeat' split) <;> simp
@[simp] theorem State.writeField_pending (s : State) (no k : Nat) (v : Int) : (s.writeField no k v).pending = s.pending := by
  unfold State.writeField; (repeat' split) <;> simp <;> (repeat' split) <;> simp

@[simp] theorem State.programmed_timebase (s : State) (f : Option FaultyCells) : (s.programmed f).timebase = s.timebase := by
  unfold State.programmed; (repeat' split) <;> simp
@[simp] theorem State.programmed_phase (s : State) (f : Option FaultyCells) : (s.programmed f).phase = s.phase := by
  unfold State.programmed; (repeat' split) <;> simp
@[simp] theorem State.programmed_resetN (s : State) (f : Option FaultyCells) : (s.programmed f).resetN = s.resetN := by
  unfold State.programmed; (repeat' split) <;> simp
@[simp] theorem State.programmed_fdp (s : State) (f : Option FaultyCells) : (s.programmed f).fdp = s.fdp := by
  unfold State.programmed; (repeat' split) <;> simp
@[simp] theorem State.programmed_vin (s : State) (f : Option FaultyCells) : (s.programmed f).vin = s.vin := by
  unfold State.programmed; (repeat' split) <;> simp
@[simp] theorem State.programmed_rvc (s : State) (f : Option FaultyCells) : (s.programmed f).rvc = s.rvc := by
  unfold State.programmed; (repeat' split) <;> simp
@[simp] theorem State.programmed_gle (s : State) (f : Option FaultyCells) : (s.programmed f).gle = s.gle := by
  unfold State.programmed; (repeat' split) <;> simp
@[simp] theorem State.programmed_rsl (s : State) (f : Option FaultyCells) : (s.programmed f).rsl = s.rsl := by
  unfold State.programmed; (repeat' split) <;> simp
@[simp] theorem State.programmed_cmp (s : State) (f : Option FaultyCells) : (s.programmed f).cmp = s.cmp := by
  unfold State.programmed; (repeat' split) <;> simp
@[simp] theorem State.programmed_mnu (s : State) (f : Option FaultyCells) : (s.programmed f).mnu = s.mnu := by
  unfold State.programmed; (repeat' split) <;> simp
@[simp] theorem State.programmed_sct (s : State) (f : Option FaultyCells) : (s.programmed f).sct = s.sct := by
  unfold State.programmed; (repeat' split) <;> simp
@[simp] theorem State.programmed_chu (s : State) (f : Option FaultyCells) : (s.programmed f).chu = s.chu := by
  unfold State.programmed; (repeat' split) <;> simp
@[simp] theorem State.programmed_pending (s : State) (f : Option FaultyCells) : (s.programmed f).pending = s.pending := by
  unfold State.programmed; (repeat' split) <;> simp

end Sys2Proof.Machine
end

