-- ==== Sys2Proof/Laws/Guide.lean ====
section
/-! SUPPORT. What the guide arithmetic's shared functions do: the rounding, the projection, the clipping of an end and what is drawn
between two ends, each by the relation of Safety.lean that says it. -/

namespace Sys2Proof.Machine

/-- Rounding to the nearest integer, halves away from zero. -/
theorem roundDiv_isRounded (n : Int) (d : Nat) (hd : 0 < d) : isRounded (roundDiv n d) n d := by
  unfold isRounded roundDiv
  have h1 := Nat.div_add_mod (2 * n.natAbs + d) (2 * d)
  have h2 := Nat.mod_lt (2 * n.natAbs + d) (show 0 < 2 * d by omega)
  generalize (2 * n.natAbs + d) / (2 * d) = q at *
  generalize (2 * n.natAbs + d) % (2 * d) = r at *
  have h3 : ((2 * d * q : Nat) : Int) + r = 2 * (n.natAbs : Int) + d := by exact_mod_cast h1
  push_cast at h3
  by_cases hn : n < 0
  · have : ¬ (0 ≤ n) := by omega
    simp only [hn, this, if_true, if_false]
    rw [abs_of_neg hn] at h3
    have : (r : Int) < 2 * d := by exact_mod_cast h2
    constructor <;> nlinarith
  · have hn' : 0 ≤ n := by omega
    simp only [hn, hn', if_true, if_false]
    rw [abs_of_nonneg hn'] at h3
    have : (r : Int) < 2 * d := by exact_mod_cast h2
    constructor <;> nlinarith

/-- The rounding of a value with an integer part that is not negative. -/
theorem roundDiv_shift (a n : Int) (d : Nat) (hd : 0 < d) (ha : 0 ≤ a) (hn : 0 ≤ n) :
    roundDiv (d * a + n) d = a + roundDiv n d := by
  unfold roundDiv
  have : ¬ ((d:Int) * a + n < 0) := by
    have := mul_nonneg (show (0:Int) ≤ d by omega) ha
    omega
  have h2 : ¬ (n < 0) := by omega
  simp only [this, h2, if_false]
  obtain ⟨a', rfl⟩ := Int.eq_ofNat_of_zero_le ha
  obtain ⟨n', rfl⟩ := Int.eq_ofNat_of_zero_le hn
  have : ((d:Int) * a' + n').natAbs = d * a' + n' := by
    rw [← Int.natCast_mul, ← Int.natCast_add, Int.natAbs_natCast]
  rw [this]
  simp only [Int.natAbs_natCast]
  have : 2 * (d * a' + n') + d = 2 * n' + d + 2 * d * a' := by ring
  rw [this, Nat.add_mul_div_left _ _ (by omega)]
  push_cast; ring

/-- R60: what a projection is. -/
theorem GuideInput.project_projects (i : GuideInput) (x y : Int) : i.projectsTo x y (i.project x y) := by
  unfold GuideInput.projectsTo GuideInput.project
  simp only
  constructor
  · intro h; simp [h]
  · intro h
    refine ⟨_, _, roundDiv_isRounded _ _ (by omega), roundDiv_isRounded _ _ (by omega), ?_⟩
    rw [if_neg (by omega)]
    generalize roundDiv _ _ = u
    generalize roundDiv _ _ = v
    congr 1
    unfold clampInt
    simp only [Pt.mk.injEq]
    refine ⟨?_, ?_, ?_⟩
    · split <;> [skip; split] <;> omega
    · split <;> [skip; split] <;> omega
    · rw [Bool.eq_iff_iff]
      simp only [Bool.not_eq_true', Bool.and_eq_false_iff, decide_eq_false_iff_not, decide_eq_true_eq]
      split <;> [skip; split] <;> split <;> [skip; split;skip; split;skip; split] <;> omega

/-- R64: where a clipped end lies. -/
theorem clipEnd_crosses (a b : Pt) (w h : Nat) (ha : a.isIn w h) : crossesAt a b w h (clipEnd a b w h) := by
  obtain ⟨h1, h2, h3, h4⟩ := ha
  unfold crossesAt clipEnd violated
  simp only
  have corner : ∀ (av bv y : Int) (tu du dv tv: Nat), 0 < du → (dv:Int) = (bv - av).natAbs → tv = (y - av).natAbs → ((0 ≤ bv - av ∧ 0 ≤ y - av) ∨ (bv - av ≤ 0 ∧ y - av ≤ 0)) → tu * dv = tv * du →
      roundDiv (av * du + (bv - av) * tu) du = y := by
    intro av bv y tu du dv tv hdu hdv htv hs e
    have e' : (tu : Int) * dv = tv * du := by exact_mod_cast e
    have key : (bv - av) * tu = (y - av) * du := by
      rcases hs with ⟨s1, s2⟩ | ⟨s1, s2⟩
      · have x1 : (dv:Int) = bv - av := by omega
        have x2 : (tv:Int) = y - av := by omega
        rw [x1, x2] at e'; linarith
      · have x1 : (dv:Int) = -(bv - av) := by omega
        have x2 : (tv:Int) = -(y - av) := by omega
        rw [x1, x2] at e'; linarith
    rw [key]
    have : av * du + (y - av) * du = y * du := by ring
    rw [this]
    have hr := roundDiv_isRounded (y * du) du hdu
    unfold isRounded at hr
    generalize roundDiv (y * du) du = m at *
    have hd : (0:Int) < du := by exact_mod_cast hdu
    split at hr
    · obtain ⟨r1, r2⟩ := hr
      have t1 : m - y < 1 := by by_contra hc; have : 1 ≤ m - y := by omega
                                nlinarith
      have t2 : -1 < m - y := by by_contra hc; have : m - y ≤ -1 := by omega
                                 nlinarith
      omega
    · obtain ⟨r1, r2⟩ := hr
      have t1 : m - y < 1 := by by_contra hc; have : 1 ≤ m - y := by omega
                                nlinarith
      have t2 : -1 < m - y := by by_contra hc; have : m - y ≤ -1 := by omega
                                 nlinarith
      omega
  refine ⟨?_, ?_, ?_⟩
  · intro hu hv
    have hv1 : ¬ b.v < 0 := by omega
    have hv2 : ¬ (h : Int) - 1 < b.v := by omega
    rw [if_neg hv1, if_neg hv2]
    by_cases c : b.u < 0
    · simp only [c, if_true, Option.map_some, Option.map_none, crossing]
      exact ⟨trivial, roundDiv_isRounded _ _ (by omega)⟩
    · have c2 : (w : Int) - 1 < b.u := by omega
      simp only [c, c2, if_true, if_false, Option.map_some, Option.map_none, crossing]
      exact ⟨trivial, roundDiv_isRounded _ _ (by omega)⟩
  · intro hv hu
    have hv1 : ¬ b.u < 0 := by omega
    have hv2 : ¬ (w : Int) - 1 < b.u := by omega
    rw [if_neg hv1, if_neg hv2]
    by_cases c : b.v < 0
    · simp only [c, if_true, Option.map_some, Option.map_none, crossing]
      exact ⟨trivial, roundDiv_isRounded _ _ (by omega)⟩
    · have c2 : (h : Int) - 1 < b.v := by omega
      simp only [c, c2, if_true, if_false, Option.map_some, Option.map_none, crossing]
      exact ⟨trivial, roundDiv_isRounded _ _ (by omega)⟩
  · intro hu hv
    have eu : (if b.u < 0 then some 0 else if (w:Int) - 1 < b.u then some ((w:Int) - 1) else none) = some (if b.u < 0 then (0:Int) else (w:Int) - 1) := by
      split <;> [rfl; skip]
      rw [if_pos (by omega)]
    have ev : (if b.v < 0 then some 0 else if (h:Int) - 1 < b.v then some ((h:Int) - 1) else none) = some (if b.v < 0 then (0:Int) else (h:Int) - 1) := by
      split <;> [rfl; skip]
      rw [if_pos (by omega)]
    rw [eu, ev]
    simp only [Option.map_some, crossing]
    refine ⟨?_, ?_, ?_⟩
    · intro hlt; rw [if_pos (by omega)]; exact ⟨rfl, roundDiv_isRounded _ _ (by omega)⟩
    · intro hlt; rw [if_neg (by omega)]; exact ⟨rfl, roundDiv_isRounded _ _ (by omega)⟩
    · intro he; rw [if_pos (by omega)]
      refine Prod.ext rfl ?_
      exact corner _ _ _ _ _ _ _ (by omega) rfl rfl (by split <;> omega) he

/-- R63: what is drawn between two ends. -/
theorem judgeEnds_drawn (w h : Nat) (p q : Option Pt) : drawnAs (judgeEnds p q w h) p q w h := by
  have hin : ∀ p : Pt, p.inside w h = true ↔ p.isIn w h := by
    intro p; unfold Pt.inside; simp only [Bool.and_eq_true, decide_eq_true_eq]; omega
  unfold drawnAs
  constructor
  · rintro (rfl | rfl)
    · cases q <;> rfl
    · cases p <;> rfl
  · rintro a b rfl rfl
    refine ⟨?_, ?_, ?_, ?_⟩ <;> intro x y
    · simp [judgeEnds, (hin a).2 x, (hin b).2 y]
    · refine ⟨clipEnd a b w h, clipEnd_crosses _ _ _ _ x, ?_⟩
      simp [judgeEnds, (hin a).2 x, Bool.eq_false_iff.2 (mt (hin b).1 y)]
    · refine ⟨clipEnd b a w h, clipEnd_crosses _ _ _ _ y, ?_⟩
      simp [judgeEnds, (hin b).2 y, Bool.eq_false_iff.2 (mt (hin a).1 x)]
    · simp [judgeEnds, Bool.eq_false_iff.2 (mt (hin b).1 y), Bool.eq_false_iff.2 (mt (hin a).1 x)]

end Sys2Proof.Machine
end

