-- ==== Sys2Proof/Laws/Posts.lean ====
section
/-! SUPPORT. What the operations that post notices leave of the control link: the request queue and the part mode; and the
operations of the chime unit that leave the state of the reverse view controller. -/

namespace Sys2Proof.Machine

@[simp] theorem State.post_cli_queue (s : State) (n : Nat) (b : NoticeBody) : (s.post n b).cli.queue = s.cli.queue := by
  unfold State.post Cli.post; (repeat' split) <;> rfl
@[simp] theorem State.post_cli_mode (s : State) (n : Nat) (b : NoticeBody) : (s.post n b).cli.mode = s.cli.mode := by
  unfold State.post Cli.post; (repeat' split) <;> rfl
@[simp] theorem State.setMode_cli_queue (s : State) (m : PartMode) : (s.setMode m).cli.queue = s.cli.queue := rfl
@[simp] theorem State.postLink_cli_queue (s : State) (i : Seat) : (s.postLink i).cli.queue = s.cli.queue := by
  unfold State.postLink; (repeat' split) <;> simp
@[simp] theorem State.postLink_cli_mode (s : State) (i : Seat) : (s.postLink i).cli.mode = s.cli.mode := by
  unfold State.postLink; (repeat' split) <;> simp
@[simp] theorem State.postLevel_cli_queue (s : State) (i : Seat) : (s.postLevel i).cli.queue = s.cli.queue := by
  unfold State.postLevel; (repeat' split) <;> simp
@[simp] theorem State.postLevel_cli_mode (s : State) (i : Seat) : (s.postLevel i).cli.mode = s.cli.mode := by
  unfold State.postLevel; (repeat' split) <;> simp
@[simp] theorem State.postMode_cli_queue (s : State) (c : ModeCause) : (s.postMode c).cli.queue = s.cli.queue := by
  unfold State.postMode; (repeat' split) <;> simp
@[simp] theorem State.postMode_cli_mode (s : State) (c : ModeCause) : (s.postMode c).cli.mode = s.cli.mode := by
  unfold State.postMode; (repeat' split) <;> simp
@[simp] theorem State.postChoice_cli_queue (s : State) (i : Seat) (p n : Nat) (a : MenuAction) (v : Nat) : (s.postChoice i p n a v).cli.queue = s.cli.queue := by
  unfold State.postChoice; (repeat' split) <;> simp
@[simp] theorem State.postChoice_cli_mode (s : State) (i : Seat) (p n : Nat) (a : MenuAction) (v : Nat) : (s.postChoice i p n a v).cli.mode = s.cli.mode := by
  unfold State.postChoice; (repeat' split) <;> simp
@[simp] theorem State.forwardKey_cli_queue (s : State) (i : Seat) (k : Key) (e : KeyEvent) : (s.forwardKey i k e).cli.queue = s.cli.queue := by
  unfold State.forwardKey; (repeat' split) <;> simp
@[simp] theorem State.forwardKey_cli_mode (s : State) (i : Seat) (k : Key) (e : KeyEvent) : (s.forwardKey i k e).cli.mode = s.cli.mode := by
  unfold State.forwardKey; (repeat' split) <;> simp
@[simp] theorem State.endChime_cli_queue (s : State) (ch : Chime) (o : ChimeOutcome) : (s.endChime ch o).cli.queue = s.cli.queue := by
  unfold State.endChime; (repeat' split) <;> simp
@[simp] theorem State.endChime_cli_mode (s : State) (ch : Chime) (o : ChimeOutcome) : (s.endChime ch o).cli.mode = s.cli.mode := by
  unfold State.endChime; (repeat' split) <;> simp
@[simp] theorem State.joinQueue_cli_queue (s : State) (ch : Chime) : ((s.joinQueue ch).1).cli.queue = s.cli.queue := by
  unfold State.joinQueue; (repeat' split) <;> simp
@[simp] theorem State.joinQueue_cli_mode (s : State) (ch : Chime) : ((s.joinQueue ch).1).cli.mode = s.cli.mode := by
  unfold State.joinQueue; (repeat' split) <;> simp
@[simp] theorem State.preempted_cli_queue (s : State) (v : Option Playing) : (s.preempted v).cli.queue = s.cli.queue := by
  unfold State.preempted; (repeat' split) <;> simp <;> (repeat' split) <;> simp
@[simp] theorem State.preempted_cli_mode (s : State) (v : Option Playing) : (s.preempted v).cli.mode = s.cli.mode := by
  unfold State.preempted; (repeat' split) <;> simp <;> (repeat' split) <;> simp
@[simp] theorem State.preempt_cli_queue (s : State) (ch : Chime) : (s.preempt ch).cli.queue = s.cli.queue := by
  unfold State.preempt; (repeat' split) <;> simp
@[simp] theorem State.preempt_cli_mode (s : State) (ch : Chime) : (s.preempt ch).cli.mode = s.cli.mode := by
  unfold State.preempt; (repeat' split) <;> simp
@[simp] theorem State.arrive_cli_queue (s : State) (r : ChimeRequest) : ((s.arrive r).1).cli.queue = s.cli.queue := by
  unfold State.arrive; (repeat' split) <;> simp <;> (repeat' split) <;> simp
@[simp] theorem State.arrive_cli_mode (s : State) (r : ChimeRequest) : ((s.arrive r).1).cli.mode = s.cli.mode := by
  unfold State.arrive; (repeat' split) <;> simp <;> (repeat' split) <;> simp
@[simp] theorem State.click_cli_queue (s : State) (i : Seat) (p : Nat) : (s.click i p).cli.queue = s.cli.queue := by
  unfold State.click; (repeat' split) <;> simp
@[simp] theorem State.click_cli_mode (s : State) (i : Seat) (p : Nat) : (s.click i p).cli.mode = s.cli.mode := by
  unfold State.click; (repeat' split) <;> simp
@[simp] theorem State.engageChime_cli_queue (s : State) : (s.engageChime).cli.queue = s.cli.queue := by
  unfold State.engageChime; (repeat' split) <;> simp
@[simp] theorem State.engageChime_cli_mode (s : State) : (s.engageChime).cli.mode = s.cli.mode := by
  unfold State.engageChime; (repeat' split) <;> simp
@[simp] theorem State.faultChime_cli_queue (s : State) : (s.faultChime).cli.queue = s.cli.queue := by
  unfold State.faultChime; (repeat' split) <;> simp
@[simp] theorem State.faultChime_cli_mode (s : State) : (s.faultChime).cli.mode = s.cli.mode := by
  unfold State.faultChime; (repeat' split) <;> simp
@[simp] theorem State.judgePark_cli_queue (s : State) : (s.judgePark).cli.queue = s.cli.queue := by
  unfold State.judgePark; (repeat' split) <;> simp <;> (repeat' split) <;> simp
@[simp] theorem State.judgePark_cli_mode (s : State) : (s.judgePark).cli.mode = s.cli.mode := by
  unfold State.judgePark; (repeat' split) <;> simp <;> (repeat' split) <;> simp
@[simp] theorem State.endAll_cli_queue (s : State) (l : List Chime) : (s.endAll l).cli.queue = s.cli.queue := by
  induction l generalizing s with
  | nil => rfl
  | cons ch rest ih => rw [State.endAll, ih]; simp
@[simp] theorem State.endAll_cli_mode (s : State) (l : List Chime) : (s.endAll l).cli.mode = s.cli.mode := by
  induction l generalizing s with
  | nil => rfl
  | cons ch rest ih => rw [State.endAll, ih]; simp
@[simp] theorem State.chimesStandby_cli_queue (s : State) : (s.chimesStandby).cli.queue = s.cli.queue := by
  unfold State.chimesStandby; (repeat' split) <;> simp
@[simp] theorem State.chimesStandby_cli_mode (s : State) : (s.chimesStandby).cli.mode = s.cli.mode := by
  unfold State.chimesStandby; (repeat' split) <;> simp
@[simp] theorem State.finish_cli_queue (s : State) (v : Voice) (ch : Chime) : (s.finish v ch).cli.queue = s.cli.queue := by
  unfold State.finish; (repeat' split) <;> simp
@[simp] theorem State.finish_cli_mode (s : State) (v : Voice) (ch : Chime) : (s.finish v ch).cli.mode = s.cli.mode := by
  unfold State.finish; (repeat' split) <;> simp
@[simp] theorem State.stepEnded_cli_queue (s : State) (v : Voice) : (s.stepEnded v).cli.queue = s.cli.queue := by
  unfold State.stepEnded; (repeat' split) <;> simp
@[simp] theorem State.stepEnded_cli_mode (s : State) (v : Voice) : (s.stepEnded v).cli.mode = s.cli.mode := by
  unfold State.stepEnded; (repeat' split) <;> simp
@[simp] theorem State.judgeFront_cli_queue (s : State) : (s.judgeFront).cli.queue = s.cli.queue := by
  unfold State.judgeFront; (repeat' split) <;> simp <;> (repeat' split) <;> simp
@[simp] theorem State.judgeFront_cli_mode (s : State) : (s.judgeFront).cli.mode = s.cli.mode := by
  unfold State.judgeFront; (repeat' split) <;> simp <;> (repeat' split) <;> simp
@[simp] theorem State.judgeRear_cli_queue (s : State) (i : Seat) : (s.judgeRear i).cli.queue = s.cli.queue := by
  unfold State.judgeRear; (repeat' split) <;> simp <;> (repeat' split) <;> simp
@[simp] theorem State.judgeRear_cli_mode (s : State) (i : Seat) : (s.judgeRear i).cli.mode = s.cli.mode := by
  unfold State.judgeRear; (repeat' split) <;> simp <;> (repeat' split) <;> simp
@[simp] theorem State.frontRouteTakesEffect_cli_queue (s : State) : (s.frontRouteTakesEffect).cli.queue = s.cli.queue := by
  unfold State.frontRouteTakesEffect; (repeat' split) <;> simp
@[simp] theorem State.frontRouteTakesEffect_cli_mode (s : State) : (s.frontRouteTakesEffect).cli.mode = s.cli.mode := by
  unfold State.frontRouteTakesEffect; (repeat' split) <;> simp
@[simp] theorem State.rearRouteTakesEffect_cli_queue (s : State) (i : Seat) : (s.rearRouteTakesEffect i).cli.queue = s.cli.queue := by
  unfold State.rearRouteTakesEffect; (repeat' split) <;> simp
@[simp] theorem State.rearRouteTakesEffect_cli_mode (s : State) (i : Seat) : (s.rearRouteTakesEffect i).cli.mode = s.cli.mode := by
  unfold State.rearRouteTakesEffect; (repeat' split) <;> simp
@[simp] theorem State.setFilmLock_cli_queue (s : State) (b : Bool) : (s.setFilmLock b).cli.queue = s.cli.queue := by
  unfold State.setFilmLock; (repeat' split) <;> simp
@[simp] theorem State.setFilmLock_cli_mode (s : State) (b : Bool) : (s.setFilmLock b).cli.mode = s.cli.mode := by
  unfold State.setFilmLock; (repeat' split) <;> simp
@[simp] theorem State.frontFrame_cli_queue (s : State) : (s.frontFrame).cli.queue = s.cli.queue := by
  unfold State.frontFrame; (repeat' split) <;> simp
@[simp] theorem State.frontFrame_cli_mode (s : State) : (s.frontFrame).cli.mode = s.cli.mode := by
  unfold State.frontFrame; (repeat' split) <;> simp
@[simp] theorem State.rearFrame_cli_queue (s : State) (i : Seat) : (s.rearFrame i).cli.queue = s.cli.queue := by
  unfold State.rearFrame; (repeat' split) <;> simp
@[simp] theorem State.rearFrame_cli_mode (s : State) (i : Seat) : (s.rearFrame i).cli.mode = s.cli.mode := by
  unfold State.rearFrame; (repeat' split) <;> simp
@[simp] theorem State.outputFrame_cli_queue (s : State) (o : Output) : (s.outputFrame o).cli.queue = s.cli.queue := by
  unfold State.outputFrame; (repeat' split) <;> simp
@[simp] theorem State.outputFrame_cli_mode (s : State) (o : Output) : (s.outputFrame o).cli.mode = s.cli.mode := by
  unfold State.outputFrame; (repeat' split) <;> simp
@[simp] theorem State.startRear_cli_queue (s : State) (i : Seat) : (s.startRear i).cli.queue = s.cli.queue := by
  unfold State.startRear; (repeat' split) <;> simp
@[simp] theorem State.startRear_cli_mode (s : State) (i : Seat) : (s.startRear i).cli.mode = s.cli.mode := by
  unfold State.startRear; (repeat' split) <;> simp
@[simp] theorem State.stopRear_cli_queue (s : State) (i : Seat) : (s.stopRear i).cli.queue = s.cli.queue := by
  unfold State.stopRear; (repeat' split) <;> simp
@[simp] theorem State.stopRear_cli_mode (s : State) (i : Seat) : (s.stopRear i).cli.mode = s.cli.mode := by
  unfold State.stopRear; (repeat' split) <;> simp
@[simp] theorem State.compositorStandby_cli_queue (s : State) : (s.compositorStandby).cli.queue = s.cli.queue := by
  unfold State.compositorStandby; (repeat' split) <;> simp
@[simp] theorem State.compositorStandby_cli_mode (s : State) : (s.compositorStandby).cli.mode = s.cli.mode := by
  unfold State.compositorStandby; (repeat' split) <;> simp
@[simp] theorem State.compositorWarm_cli_queue (s : State) : (s.compositorWarm).cli.queue = s.cli.queue := by
  unfold State.compositorWarm; (repeat' split) <;> simp
@[simp] theorem State.compositorWarm_cli_mode (s : State) : (s.compositorWarm).cli.mode = s.cli.mode := by
  unfold State.compositorWarm; (repeat' split) <;> simp
@[simp] theorem State.install_cli_queue (s : State) : (s.install).cli.queue = s.cli.queue := by
  unfold State.install; (repeat' split) <;> simp <;> (repeat' split) <;> simp
@[simp] theorem State.install_cli_mode (s : State) : (s.install).cli.mode = s.cli.mode := by
  unfold State.install; (repeat' split) <;> simp <;> (repeat' split) <;> simp
@[simp] theorem State.computationDone_cli_queue (s : State) : (s.computationDone).cli.queue = s.cli.queue := by
  unfold State.computationDone; (repeat' split) <;> simp <;> (repeat' split) <;> simp
@[simp] theorem State.computationDone_cli_mode (s : State) : (s.computationDone).cli.mode = s.cli.mode := by
  unfold State.computationDone; (repeat' split) <;> simp <;> (repeat' split) <;> simp
@[simp] theorem State.lockToGuide_cli_queue (s : State) (b : Bool) : (s.lockToGuide b).cli.queue = s.cli.queue := by
  unfold State.lockToGuide; (repeat' split) <;> simp
@[simp] theorem State.lockToGuide_cli_mode (s : State) (b : Bool) : (s.lockToGuide b).cli.mode = s.cli.mode := by
  unfold State.lockToGuide; (repeat' split) <;> simp
@[simp] theorem State.frameToGuide_cli_queue (s : State) (l : Lock) : (s.frameToGuide l).cli.queue = s.cli.queue := by
  unfold State.frameToGuide; (repeat' split) <;> simp
@[simp] theorem State.frameToGuide_cli_mode (s : State) (l : Lock) : (s.frameToGuide l).cli.mode = s.cli.mode := by
  unfold State.frameToGuide; (repeat' split) <;> simp
@[simp] theorem State.lockChanged_cli_queue (s : State) (f : Feed) (l : Lock) : (s.lockChanged f l).cli.queue = s.cli.queue := by
  unfold State.lockChanged; (repeat' split) <;> simp
@[simp] theorem State.lockChanged_cli_mode (s : State) (f : Feed) (l : Lock) : (s.lockChanged f l).cli.mode = s.cli.mode := by
  unfold State.lockChanged; (repeat' split) <;> simp
@[simp] theorem State.clearPort_cli_queue (s : State) (f : Feed) (b : Bool) : (s.clearPort f b).cli.queue = s.cli.queue := by
  unfold State.clearPort; (repeat' split) <;> simp <;> (repeat' split) <;> simp
@[simp] theorem State.clearPort_cli_mode (s : State) (f : Feed) (b : Bool) : (s.clearPort f b).cli.mode = s.cli.mode := by
  unfold State.clearPort; (repeat' split) <;> simp <;> (repeat' split) <;> simp
@[simp] theorem State.disablePort_cli_queue (s : State) (f : Feed) : (s.disablePort f).cli.queue = s.cli.queue := by
  unfold State.disablePort; (repeat' split) <;> simp
@[simp] theorem State.disablePort_cli_mode (s : State) (f : Feed) : (s.disablePort f).cli.mode = s.cli.mode := by
  unfold State.disablePort; (repeat' split) <;> simp
@[simp] theorem State.judgeCameraPower_cli_queue (s : State) : (s.judgeCameraPower).cli.queue = s.cli.queue := by
  unfold State.judgeCameraPower; (repeat' split) <;> simp <;> (repeat' split) <;> simp
@[simp] theorem State.judgeCameraPower_cli_mode (s : State) : (s.judgeCameraPower).cli.mode = s.cli.mode := by
  unfold State.judgeCameraPower; (repeat' split) <;> simp <;> (repeat' split) <;> simp
@[simp] theorem State.disableFeeds_cli_queue (s : State) : (s.disableFeeds).cli.queue = s.cli.queue := by
  unfold State.disableFeeds; (repeat' split) <;> simp
@[simp] theorem State.disableFeeds_cli_mode (s : State) : (s.disableFeeds).cli.mode = s.cli.mode := by
  unfold State.disableFeeds; (repeat' split) <;> simp
@[simp] theorem State.feedsWarm_cli_queue (s : State) : (s.feedsWarm).cli.queue = s.cli.queue := by
  unfold State.feedsWarm; (repeat' split) <;> simp
@[simp] theorem State.feedsWarm_cli_mode (s : State) : (s.feedsWarm).cli.mode = s.cli.mode := by
  unfold State.feedsWarm; (repeat' split) <;> simp
@[simp] theorem State.setPending_cli_queue (s : State) (o : Output) (x : Source) : (s.setPending o x).cli.queue = s.cli.queue := by
  unfold State.setPending; (repeat' split) <;> simp <;> (repeat' split) <;> simp
@[simp] theorem State.setPending_cli_mode (s : State) (o : Output) (x : Source) : (s.setPending o x).cli.mode = s.cli.mode := by
  unfold State.setPending; (repeat' split) <;> simp <;> (repeat' split) <;> simp
@[simp] theorem State.setPreview_cli_queue (s : State) (b : Bool) : (s.setPreview b).cli.queue = s.cli.queue := by
  unfold State.setPreview; (repeat' split) <;> simp
@[simp] theorem State.setPreview_cli_mode (s : State) (b : Bool) : (s.setPreview b).cli.mode = s.cli.mode := by
  unfold State.setPreview; (repeat' split) <;> simp
@[simp] theorem State.volumePress_cli_queue (s : State) (i : Seat) (d : Dir) : (s.volumePress i d).cli.queue = s.cli.queue := by
  unfold State.volumePress; (repeat' split) <;> simp <;> (repeat' split) <;> simp
@[simp] theorem State.volumePress_cli_mode (s : State) (i : Seat) (d : Dir) : (s.volumePress i d).cli.mode = s.cli.mode := by
  unfold State.volumePress; (repeat' split) <;> simp <;> (repeat' split) <;> simp
@[simp] theorem State.brightPress_cli_queue (s : State) (i : Seat) (d : Dir) : (s.brightPress i d).cli.queue = s.cli.queue := by
  unfold State.brightPress; (repeat' split) <;> simp <;> (repeat' split) <;> simp
@[simp] theorem State.brightPress_cli_mode (s : State) (i : Seat) (d : Dir) : (s.brightPress i d).cli.mode = s.cli.mode := by
  unfold State.brightPress; (repeat' split) <;> simp <;> (repeat' split) <;> simp
@[simp] theorem State.releaseKey_cli_queue (s : State) (i : Seat) (q : Bool) : (s.releaseKey i q).cli.queue = s.cli.queue := by
  unfold State.releaseKey; (repeat' split) <;> simp <;> (repeat' split) <;> simp
@[simp] theorem State.releaseKey_cli_mode (s : State) (i : Seat) (q : Bool) : (s.releaseKey i q).cli.mode = s.cli.mode := by
  unfold State.releaseKey; (repeat' split) <;> simp <;> (repeat' split) <;> simp
@[simp] theorem State.linkFellBack_cli_queue (s : State) (i : Seat) (q : Bool) : (s.linkFellBack i q).cli.queue = s.cli.queue := by
  unfold State.linkFellBack; (repeat' split) <;> simp
@[simp] theorem State.linkFellBack_cli_mode (s : State) (i : Seat) (q : Bool) : (s.linkFellBack i q).cli.mode = s.cli.mode := by
  unfold State.linkFellBack; (repeat' split) <;> simp
@[simp] theorem State.seatWarm_cli_queue (s : State) (i : Seat) : (s.seatWarm i).cli.queue = s.cli.queue := by
  unfold State.seatWarm; (repeat' split) <;> simp
@[simp] theorem State.seatWarm_cli_mode (s : State) (i : Seat) : (s.seatWarm i).cli.mode = s.cli.mode := by
  unfold State.seatWarm; (repeat' split) <;> simp
@[simp] theorem State.closeMenu_cli_queue (s : State) (i : Seat) (r : CloseReason) (q : Bool) : (s.closeMenu i r q).cli.queue = s.cli.queue := by
  unfold State.closeMenu; (repeat' split) <;> simp
@[simp] theorem State.closeMenu_cli_mode (s : State) (i : Seat) (r : CloseReason) (q : Bool) : (s.closeMenu i r q).cli.mode = s.cli.mode := by
  unfold State.closeMenu; (repeat' split) <;> simp
@[simp] theorem State.screenLost_cli_queue (s : State) (i : Seat) (q : Bool) : (s.screenLost i q).cli.queue = s.cli.queue := by
  unfold State.screenLost; (repeat' split) <;> simp
@[simp] theorem State.screenLost_cli_mode (s : State) (i : Seat) (q : Bool) : (s.screenLost i q).cli.mode = s.cli.mode := by
  unfold State.screenLost; (repeat' split) <;> simp
@[simp] theorem State.menuClick_cli_queue (s : State) (i : Seat) (p : Nat) : (s.menuClick i p).cli.queue = s.cli.queue := by
  unfold State.menuClick; (repeat' split) <;> simp
@[simp] theorem State.menuClick_cli_mode (s : State) (i : Seat) (p : Nat) : (s.menuClick i p).cli.mode = s.cli.mode := by
  unfold State.menuClick; (repeat' split) <;> simp
@[simp] theorem State.consumed_cli_queue (s : State) (i : Seat) (p : Nat) : (s.consumed i p).cli.queue = s.cli.queue := by
  unfold State.consumed; (repeat' split) <;> simp
@[simp] theorem State.consumed_cli_mode (s : State) (i : Seat) (p : Nat) : (s.consumed i p).cli.mode = s.cli.mode := by
  unfold State.consumed; (repeat' split) <;> simp
@[simp] theorem State.menuMove_cli_queue (s : State) (i : Seat) (p : Page) (e : Entry) (d : Dir) : (s.menuMove i p e d).cli.queue = s.cli.queue := by
  unfold State.menuMove; (repeat' split) <;> simp
@[simp] theorem State.menuMove_cli_mode (s : State) (i : Seat) (p : Page) (e : Entry) (d : Dir) : (s.menuMove i p e d).cli.mode = s.cli.mode := by
  unfold State.menuMove; (repeat' split) <;> simp
@[simp] theorem State.menuPop_cli_queue (s : State) (i : Seat) : (s.menuPop i).cli.queue = s.cli.queue := by
  unfold State.menuPop; (repeat' split) <;> simp
@[simp] theorem State.menuPop_cli_mode (s : State) (i : Seat) : (s.menuPop i).cli.mode = s.cli.mode := by
  unfold State.menuPop; (repeat' split) <;> simp
@[simp] theorem State.menuOk_cli_queue (s : State) (i : Seat) (e : Entry) (n : Nat) (it : Item) : (s.menuOk i e n it).cli.queue = s.cli.queue := by
  unfold State.menuOk; (repeat' split) <;> simp
@[simp] theorem State.menuOk_cli_mode (s : State) (i : Seat) (e : Entry) (n : Nat) (it : Item) : (s.menuOk i e n it).cli.mode = s.cli.mode := by
  unfold State.menuOk; (repeat' split) <;> simp
@[simp] theorem State.menuSide_cli_queue (s : State) (i : Seat) (e : Entry) (n : Nat) (it : Item) (d : Dir) : (s.menuSide i e n it d).cli.queue = s.cli.queue := by
  unfold State.menuSide; (repeat' split) <;> simp <;> (repeat' split) <;> simp
@[simp] theorem State.menuSide_cli_mode (s : State) (i : Seat) (e : Entry) (n : Nat) (it : Item) (d : Dir) : (s.menuSide i e n it d).cli.mode = s.cli.mode := by
  unfold State.menuSide; (repeat' split) <;> simp <;> (repeat' split) <;> simp
@[simp] theorem State.menuKey_cli_queue (s : State) (i : Seat) (k : Key) : (s.menuKey i k).cli.queue = s.cli.queue := by
  unfold State.menuKey; (repeat' split) <;> simp
@[simp] theorem State.menuKey_cli_mode (s : State) (i : Seat) (k : Key) : (s.menuKey i k).cli.mode = s.cli.mode := by
  unfold State.menuKey; (repeat' split) <;> simp
@[simp] theorem State.closeIfHolds_cli_queue (s : State) (id : Nat) (i : Seat) : (s.closeIfHolds id i).cli.queue = s.cli.queue := by
  unfold State.closeIfHolds; (repeat' split) <;> simp
@[simp] theorem State.closeIfHolds_cli_mode (s : State) (id : Nat) (i : Seat) : (s.closeIfHolds id i).cli.mode = s.cli.mode := by
  unfold State.closeIfHolds; (repeat' split) <;> simp
@[simp] theorem State.idleExpired_cli_queue (s : State) (i : Seat) : (s.idleExpired i).cli.queue = s.cli.queue := by
  unfold State.idleExpired; (repeat' split) <;> simp
@[simp] theorem State.idleExpired_cli_mode (s : State) (i : Seat) : (s.idleExpired i).cli.mode = s.cli.mode := by
  unfold State.idleExpired; (repeat' split) <;> simp
@[simp] theorem State.navigate_cli_queue (s : State) (i : Seat) (k : Key) (e : KeyEvent) : (s.navigate i k e).cli.queue = s.cli.queue := by
  unfold State.navigate; (repeat' split) <;> simp
@[simp] theorem State.navigate_cli_mode (s : State) (i : Seat) (k : Key) (e : KeyEvent) : (s.navigate i k e).cli.mode = s.cli.mode := by
  unfold State.navigate; (repeat' split) <;> simp
@[simp] theorem State.menuPress_cli_queue (s : State) (i : Seat) (e : KeyEvent) : (s.menuPress i e).cli.queue = s.cli.queue := by
  unfold State.menuPress State.menuKeyOpen; cases s.rootPage i <;> simp <;> split <;> simp
@[simp] theorem State.menuPress_cli_mode (s : State) (i : Seat) (e : KeyEvent) : (s.menuPress i e).cli.mode = s.cli.mode := by
  unfold State.menuPress State.menuKeyOpen; cases s.rootPage i <;> simp <;> split <;> simp
@[simp] theorem State.dispatchKey_cli_queue (s : State) (i : Seat) (k : Key) (e : KeyEvent) : (s.dispatchKey i k e).cli.queue = s.cli.queue := by
  unfold State.dispatchKey; (repeat' split) <;> simp
@[simp] theorem State.dispatchKey_cli_mode (s : State) (i : Seat) (k : Key) (e : KeyEvent) : (s.dispatchKey i k e).cli.mode = s.cli.mode := by
  unfold State.dispatchKey; (repeat' split) <;> simp
@[simp] theorem State.holdKey_cli_queue (s : State) (i : Seat) (k : Key) : (s.holdKey i k).cli.queue = s.cli.queue := by
  unfold State.holdKey; (repeat' split) <;> simp
@[simp] theorem State.holdKey_cli_mode (s : State) (i : Seat) (k : Key) : (s.holdKey i k).cli.mode = s.cli.mode := by
  unfold State.holdKey; (repeat' split) <;> simp
@[simp] theorem State.keyPress_cli_queue (s : State) (i : Seat) (k : Key) : (s.keyPress i k).cli.queue = s.cli.queue := by
  unfold State.keyPress; (repeat' split) <;> simp
@[simp] theorem State.keyPress_cli_mode (s : State) (i : Seat) (k : Key) : (s.keyPress i k).cli.mode = s.cli.mode := by
  unfold State.keyPress; (repeat' split) <;> simp
@[simp] theorem State.keyRelease_cli_queue (s : State) (i : Seat) (k : Key) : (s.keyRelease i k).cli.queue = s.cli.queue := by
  unfold State.keyRelease; (repeat' split) <;> simp
@[simp] theorem State.keyRelease_cli_mode (s : State) (i : Seat) (k : Key) : (s.keyRelease i k).cli.mode = s.cli.mode := by
  unfold State.keyRelease; (repeat' split) <;> simp
@[simp] theorem State.keyRepeat_cli_queue (s : State) (i : Seat) : (s.keyRepeat i).cli.queue = s.cli.queue := by
  unfold State.keyRepeat; (repeat' split) <;> simp
@[simp] theorem State.keyRepeat_cli_mode (s : State) (i : Seat) : (s.keyRepeat i).cli.mode = s.cli.mode := by
  unfold State.keyRepeat; (repeat' split) <;> simp
@[simp] theorem State.keyEvent_cli_queue (s : State) (i : Seat) (k e : Nat) : (s.keyEvent i k e).cli.queue = s.cli.queue := by
  unfold State.keyEvent; (repeat' split) <;> simp
@[simp] theorem State.keyEvent_cli_mode (s : State) (i : Seat) (k e : Nat) : (s.keyEvent i k e).cli.mode = s.cli.mode := by
  unfold State.keyEvent; (repeat' split) <;> simp
@[simp] theorem State.fellBack_cli_queue (s : State) (i : Seat) (l : Link) (q : Bool) : (s.fellBack i l q).cli.queue = s.cli.queue := by
  unfold State.fellBack; (repeat' split) <;> simp
@[simp] theorem State.fellBack_cli_mode (s : State) (i : Seat) (l : Link) (q : Bool) : (s.fellBack i l q).cli.mode = s.cli.mode := by
  unfold State.fellBack; (repeat' split) <;> simp
@[simp] theorem State.enterRecovery_cli_queue (s : State) (i : Seat) (r : LinkReason) : (s.enterRecovery i r).cli.queue = s.cli.queue := by
  unfold State.enterRecovery; (repeat' split) <;> simp
@[simp] theorem State.enterRecovery_cli_mode (s : State) (i : Seat) (r : LinkReason) : (s.enterRecovery i r).cli.mode = s.cli.mode := by
  unfold State.enterRecovery; (repeat' split) <;> simp
@[simp] theorem State.detach_cli_queue (s : State) (i : Seat) (r : LinkReason) (q : Bool) : (s.detach i r q).cli.queue = s.cli.queue := by
  unfold State.detach; (repeat' split) <;> simp <;> (repeat' split) <;> simp
@[simp] theorem State.detach_cli_mode (s : State) (i : Seat) (r : LinkReason) (q : Bool) : (s.detach i r q).cli.mode = s.cli.mode := by
  unfold State.detach; (repeat' split) <;> simp <;> (repeat' split) <;> simp
@[simp] theorem State.enterHailing_cli_queue (s : State) (i : Seat) : (s.enterHailing i).cli.queue = s.cli.queue := by
  unfold State.enterHailing; (repeat' split) <;> simp
@[simp] theorem State.enterHailing_cli_mode (s : State) (i : Seat) : (s.enterHailing i).cli.mode = s.cli.mode := by
  unfold State.enterHailing; (repeat' split) <;> simp
@[simp] theorem State.judgeHailing_cli_queue (s : State) (i : Seat) : (s.judgeHailing i).cli.queue = s.cli.queue := by
  unfold State.judgeHailing; (repeat' split) <;> simp <;> (repeat' split) <;> simp
@[simp] theorem State.judgeHailing_cli_mode (s : State) (i : Seat) : (s.judgeHailing i).cli.mode = s.cli.mode := by
  unfold State.judgeHailing; (repeat' split) <;> simp <;> (repeat' split) <;> simp
@[simp] theorem State.reoffer_cli_queue (s : State) (i : Seat) : (s.reoffer i).cli.queue = s.cli.queue := by
  unfold State.reoffer; (repeat' split) <;> simp
@[simp] theorem State.reoffer_cli_mode (s : State) (i : Seat) : (s.reoffer i).cli.mode = s.cli.mode := by
  unfold State.reoffer; (repeat' split) <;> simp
@[simp] theorem State.select_cli_queue (s : State) (i : Seat) : (s.select i).cli.queue = s.cli.queue := by
  unfold State.select; (repeat' split) <;> simp <;> (repeat' split) <;> simp
@[simp] theorem State.select_cli_mode (s : State) (i : Seat) : (s.select i).cli.mode = s.cli.mode := by
  unfold State.select; (repeat' split) <;> simp <;> (repeat' split) <;> simp
@[simp] theorem State.enterClaiming_cli_queue (s : State) (i : Seat) : (s.enterClaiming i).cli.queue = s.cli.queue := by
  unfold State.enterClaiming; (repeat' split) <;> simp
@[simp] theorem State.enterClaiming_cli_mode (s : State) (i : Seat) : (s.enterClaiming i).cli.mode = s.cli.mode := by
  unfold State.enterClaiming; (repeat' split) <;> simp
@[simp] theorem State.takeOffers_cli_queue (s : State) (i : Seat) (b : List Byte) : (s.takeOffers i b).cli.queue = s.cli.queue := by
  unfold State.takeOffers; (repeat' split) <;> simp
@[simp] theorem State.takeOffers_cli_mode (s : State) (i : Seat) (b : List Byte) : (s.takeOffers i b).cli.mode = s.cli.mode := by
  unfold State.takeOffers; (repeat' split) <;> simp
@[simp] theorem State.enterStreaming_cli_queue (s : State) (i : Seat) (a : Agreement) : (s.enterStreaming i a).cli.queue = s.cli.queue := by
  unfold State.enterStreaming; (repeat' split) <;> simp
@[simp] theorem State.enterStreaming_cli_mode (s : State) (i : Seat) (a : Agreement) : (s.enterStreaming i a).cli.mode = s.cli.mode := by
  unfold State.enterStreaming; (repeat' split) <;> simp
@[simp] theorem State.takeAccept_cli_queue (s : State) (i : Seat) : (s.takeAccept i).cli.queue = s.cli.queue := by
  unfold State.takeAccept; (repeat' split) <;> simp
@[simp] theorem State.takeAccept_cli_mode (s : State) (i : Seat) : (s.takeAccept i).cli.mode = s.cli.mode := by
  unfold State.takeAccept; (repeat' split) <;> simp
@[simp] theorem State.takeReject_cli_queue (s : State) (i : Seat) : (s.takeReject i).cli.queue = s.cli.queue := by
  unfold State.takeReject; (repeat' split) <;> simp
@[simp] theorem State.takeReject_cli_mode (s : State) (i : Seat) : (s.takeReject i).cli.mode = s.cli.mode := by
  unfold State.takeReject; (repeat' split) <;> simp
@[simp] theorem State.keyEvents_cli_queue (s : State) (i : Seat) (b : List Byte) (e k : Nat) : (s.keyEvents i b e k).cli.queue = s.cli.queue := by
  induction e generalizing s k with
  | zero => rfl
  | succ e ih => rw [State.keyEvents, ih]; simp
@[simp] theorem State.keyEvents_cli_mode (s : State) (i : Seat) (b : List Byte) (e k : Nat) : (s.keyEvents i b e k).cli.mode = s.cli.mode := by
  induction e generalizing s k with
  | zero => rfl
  | succ e ih => rw [State.keyEvents, ih]; simp
@[simp] theorem State.takeReport_cli_queue (s : State) (i : Seat) (b : List Byte) : (s.takeReport i b).cli.queue = s.cli.queue := by
  unfold State.takeReport; (repeat' split) <;> simp <;> (repeat' split) <;> simp
@[simp] theorem State.takeReport_cli_mode (s : State) (i : Seat) (b : List Byte) : (s.takeReport i b).cli.mode = s.cli.mode := by
  unfold State.takeReport; (repeat' split) <;> simp <;> (repeat' split) <;> simp
@[simp] theorem State.takeStatus_cli_queue (s : State) (i : Seat) (b : List Byte) : (s.takeStatus i b).cli.queue = s.cli.queue := by
  unfold State.takeStatus; (repeat' split) <;> simp
@[simp] theorem State.takeStatus_cli_mode (s : State) (i : Seat) (b : List Byte) : (s.takeStatus i b).cli.mode = s.cli.mode := by
  unfold State.takeStatus; (repeat' split) <;> simp
@[simp] theorem State.takeReset_cli_queue (s : State) (i : Seat) (r : LinkReason) : (s.takeReset i r).cli.queue = s.cli.queue := by
  unfold State.takeReset; (repeat' split) <;> simp
@[simp] theorem State.takeReset_cli_mode (s : State) (i : Seat) (r : LinkReason) : (s.takeReset i r).cli.mode = s.cli.mode := by
  unfold State.takeReset; (repeat' split) <;> simp
@[simp] theorem State.takeMessage_cli_queue (s : State) (i : Seat) (m : List Byte) : (s.takeMessage i m).cli.queue = s.cli.queue := by
  unfold State.takeMessage; (repeat' split) <;> simp
@[simp] theorem State.takeMessage_cli_mode (s : State) (i : Seat) (m : List Byte) : (s.takeMessage i m).cli.mode = s.cli.mode := by
  unfold State.takeMessage; (repeat' split) <;> simp
@[simp] theorem State.hailExpired_cli_queue (s : State) (i : Seat) : (s.hailExpired i).cli.queue = s.cli.queue := by
  unfold State.hailExpired; (repeat' split) <;> simp <;> (repeat' split) <;> simp
@[simp] theorem State.hailExpired_cli_mode (s : State) (i : Seat) : (s.hailExpired i).cli.mode = s.cli.mode := by
  unfold State.hailExpired; (repeat' split) <;> simp <;> (repeat' split) <;> simp
@[simp] theorem State.claimExpired_cli_queue (s : State) (i : Seat) : (s.claimExpired i).cli.queue = s.cli.queue := by
  unfold State.claimExpired; (repeat' split) <;> simp <;> (repeat' split) <;> simp
@[simp] theorem State.claimExpired_cli_mode (s : State) (i : Seat) : (s.claimExpired i).cli.mode = s.cli.mode := by
  unfold State.claimExpired; (repeat' split) <;> simp <;> (repeat' split) <;> simp
@[simp] theorem State.pollExpired_cli_queue (s : State) (i : Seat) : (s.pollExpired i).cli.queue = s.cli.queue := by
  unfold State.pollExpired; (repeat' split) <;> simp <;> (repeat' split) <;> simp
@[simp] theorem State.pollExpired_cli_mode (s : State) (i : Seat) : (s.pollExpired i).cli.mode = s.cli.mode := by
  unfold State.pollExpired; (repeat' split) <;> simp <;> (repeat' split) <;> simp
@[simp] theorem State.holdOffExpired_cli_queue (s : State) (i : Seat) : (s.holdOffExpired i).cli.queue = s.cli.queue := by
  unfold State.holdOffExpired; (repeat' split) <;> simp <;> (repeat' split) <;> simp
@[simp] theorem State.holdOffExpired_cli_mode (s : State) (i : Seat) : (s.holdOffExpired i).cli.mode = s.cli.mode := by
  unfold State.holdOffExpired; (repeat' split) <;> simp <;> (repeat' split) <;> simp
@[simp] theorem State.settleExpired_cli_queue (s : State) (i : Seat) : (s.settleExpired i).cli.queue = s.cli.queue := by
  unfold State.settleExpired; (repeat' split) <;> simp
@[simp] theorem State.settleExpired_cli_mode (s : State) (i : Seat) : (s.settleExpired i).cli.mode = s.cli.mode := by
  unfold State.settleExpired; (repeat' split) <;> simp
@[simp] theorem State.presenceGained_cli_queue (s : State) (i : Seat) : (s.presenceGained i).cli.queue = s.cli.queue := by
  unfold State.presenceGained; (repeat' split) <;> simp
@[simp] theorem State.presenceGained_cli_mode (s : State) (i : Seat) : (s.presenceGained i).cli.mode = s.cli.mode := by
  unfold State.presenceGained; (repeat' split) <;> simp
@[simp] theorem State.presenceLost_cli_queue (s : State) (i : Seat) : (s.presenceLost i).cli.queue = s.cli.queue := by
  unfold State.presenceLost; (repeat' split) <;> simp
@[simp] theorem State.presenceLost_cli_mode (s : State) (i : Seat) : (s.presenceLost i).cli.mode = s.cli.mode := by
  unfold State.presenceLost; (repeat' split) <;> simp
@[simp] theorem State.linkWarm_cli_queue (s : State) (i : Seat) : (s.linkWarm i).cli.queue = s.cli.queue := by
  unfold State.linkWarm; (repeat' split) <;> simp
@[simp] theorem State.linkWarm_cli_mode (s : State) (i : Seat) : (s.linkWarm i).cli.mode = s.cli.mode := by
  unfold State.linkWarm; (repeat' split) <;> simp
@[simp] theorem State.reverseToCompositor_cli_queue (s : State) (c : Bool) : (s.reverseToCompositor c).cli.queue = s.cli.queue := by
  unfold State.reverseToCompositor; (repeat' split) <;> simp
@[simp] theorem State.reverseToCompositor_cli_mode (s : State) (c : Bool) : (s.reverseToCompositor c).cli.mode = s.cli.mode := by
  unfold State.reverseToCompositor; (repeat' split) <;> simp
@[simp] theorem State.reverseChime_cli_queue (s : State) (a b : RvcState) : (s.reverseChime a b).cli.queue = s.cli.queue := by
  unfold State.reverseChime; (repeat' split) <;> simp
@[simp] theorem State.reverseChime_cli_mode (s : State) (a b : RvcState) : (s.reverseChime a b).cli.mode = s.cli.mode := by
  unfold State.reverseChime; (repeat' split) <;> simp
@[simp] theorem State.changeRvc_cli_queue (s : State) (c : RvcChange) : (s.changeRvc c).cli.queue = s.cli.queue := by
  unfold State.changeRvc; (repeat' split) <;> simp <;> (repeat' split) <;> simp
@[simp] theorem State.changeRvc_cli_mode (s : State) (c : RvcChange) : (s.changeRvc c).cli.mode = s.cli.mode := by
  unfold State.changeRvc; (repeat' split) <;> simp <;> (repeat' split) <;> simp
@[simp] theorem State.enterCueing_cli_queue (s : State) : (s.enterCueing).cli.queue = s.cli.queue := by
  unfold State.enterCueing; (repeat' split) <;> simp
@[simp] theorem State.enterCueing_cli_mode (s : State) : (s.enterCueing).cli.mode = s.cli.mode := by
  unfold State.enterCueing; (repeat' split) <;> simp
@[simp] theorem State.enterLive_cli_queue (s : State) (r : RvcReason) : (s.enterLive r).cli.queue = s.cli.queue := by
  unfold State.enterLive; (repeat' split) <;> simp
@[simp] theorem State.enterLive_cli_mode (s : State) (r : RvcReason) : (s.enterLive r).cli.mode = s.cli.mode := by
  unfold State.enterLive; (repeat' split) <;> simp
@[simp] theorem State.enterFault_cli_queue (s : State) (r : RvcReason) : (s.enterFault r).cli.queue = s.cli.queue := by
  unfold State.enterFault; (repeat' split) <;> simp
@[simp] theorem State.enterFault_cli_mode (s : State) (r : RvcReason) : (s.enterFault r).cli.mode = s.cli.mode := by
  unfold State.enterFault; (repeat' split) <;> simp
@[simp] theorem State.enterHeld_cli_queue (s : State) (v : HeldView) : (s.enterHeld v).cli.queue = s.cli.queue := by
  unfold State.enterHeld; (repeat' split) <;> simp
@[simp] theorem State.enterHeld_cli_mode (s : State) (v : HeldView) : (s.enterHeld v).cli.mode = s.cli.mode := by
  unfold State.enterHeld; (repeat' split) <;> simp
@[simp] theorem State.enterOff_cli_queue (s : State) (r : RvcReason) : (s.enterOff r).cli.queue = s.cli.queue := by
  unfold State.enterOff; (repeat' split) <;> simp
@[simp] theorem State.enterOff_cli_mode (s : State) (r : RvcReason) : (s.enterOff r).cli.mode = s.cli.mode := by
  unfold State.enterOff; (repeat' split) <;> simp
@[simp] theorem State.confirmedReverse_cli_queue (s : State) : (s.confirmedReverse).cli.queue = s.cli.queue := by
  unfold State.confirmedReverse; (repeat' split) <;> simp
@[simp] theorem State.confirmedReverse_cli_mode (s : State) : (s.confirmedReverse).cli.mode = s.cli.mode := by
  unfold State.confirmedReverse; (repeat' split) <;> simp
@[simp] theorem State.release_cli_queue (s : State) (v : HeldView) : (s.release v).cli.queue = s.cli.queue := by
  unfold State.release; (repeat' split) <;> simp
@[simp] theorem State.release_cli_mode (s : State) (v : HeldView) : (s.release v).cli.mode = s.cli.mode := by
  unfold State.release; (repeat' split) <;> simp
@[simp] theorem State.confirmedNotReverse_cli_queue (s : State) : (s.confirmedNotReverse).cli.queue = s.cli.queue := by
  unfold State.confirmedNotReverse; (repeat' split) <;> simp
@[simp] theorem State.confirmedNotReverse_cli_mode (s : State) : (s.confirmedNotReverse).cli.mode = s.cli.mode := by
  unfold State.confirmedNotReverse; (repeat' split) <;> simp
@[simp] theorem State.takeLevel_cli_queue (s : State) (g : Gear) (e : Stamp) : (s.takeLevel g e).cli.queue = s.cli.queue := by
  unfold State.takeLevel; (repeat' split) <;> simp
@[simp] theorem State.takeLevel_cli_mode (s : State) (g : Gear) (e : Stamp) : (s.takeLevel g e).cli.mode = s.cli.mode := by
  unfold State.takeLevel; (repeat' split) <;> simp
@[simp] theorem State.camLocked_cli_queue (s : State) : (s.camLocked).cli.queue = s.cli.queue := by
  unfold State.camLocked; (repeat' split) <;> simp
@[simp] theorem State.camLocked_cli_mode (s : State) : (s.camLocked).cli.mode = s.cli.mode := by
  unfold State.camLocked; (repeat' split) <;> simp
@[simp] theorem State.camLeft_cli_queue (s : State) : (s.camLeft).cli.queue = s.cli.queue := by
  unfold State.camLeft; (repeat' split) <;> simp
@[simp] theorem State.camLeft_cli_mode (s : State) : (s.camLeft).cli.mode = s.cli.mode := by
  unfold State.camLeft; (repeat' split) <;> simp
@[simp] theorem State.cueExpired_cli_queue (s : State) : (s.cueExpired).cli.queue = s.cli.queue := by
  unfold State.cueExpired; (repeat' split) <;> simp
@[simp] theorem State.cueExpired_cli_mode (s : State) : (s.cueExpired).cli.mode = s.cli.mode := by
  unfold State.cueExpired; (repeat' split) <;> simp
@[simp] theorem State.holdExpired_cli_queue (s : State) : (s.holdExpired).cli.queue = s.cli.queue := by
  unfold State.holdExpired; (repeat' split) <;> simp
@[simp] theorem State.holdExpired_cli_mode (s : State) : (s.holdExpired).cli.mode = s.cli.mode := by
  unfold State.holdExpired; (repeat' split) <;> simp
@[simp] theorem State.freshSpeed_cli_queue (s : State) : (s.freshSpeed).cli.queue = s.cli.queue := by
  unfold State.freshSpeed; (repeat' split) <;> simp
@[simp] theorem State.freshSpeed_cli_mode (s : State) : (s.freshSpeed).cli.mode = s.cli.mode := by
  unfold State.freshSpeed; (repeat' split) <;> simp
@[simp] theorem State.handLock_cli_queue (s : State) (f : Feed) (a b : Lock) : (s.handLock f a b).cli.queue = s.cli.queue := by
  unfold State.handLock; (repeat' split) <;> simp
@[simp] theorem State.handLock_cli_mode (s : State) (f : Feed) (a b : Lock) : (s.handLock f a b).cli.mode = s.cli.mode := by
  unfold State.handLock; (repeat' split) <;> simp
@[simp] theorem State.frameStart_cli_queue (s : State) (f : Feed) : (s.frameStart f).cli.queue = s.cli.queue := by
  unfold State.frameStart; (repeat' split) <;> simp <;> (repeat' split) <;> simp
@[simp] theorem State.frameStart_cli_mode (s : State) (f : Feed) : (s.frameStart f).cli.mode = s.cli.mode := by
  unfold State.frameStart; (repeat' split) <;> simp <;> (repeat' split) <;> simp
@[simp] theorem State.frameWatchExpired_cli_queue (s : State) (f : Feed) : (s.frameWatchExpired f).cli.queue = s.cli.queue := by
  unfold State.frameWatchExpired; (repeat' split) <;> simp <;> (repeat' split) <;> simp
@[simp] theorem State.frameWatchExpired_cli_mode (s : State) (f : Feed) : (s.frameWatchExpired f).cli.mode = s.cli.mode := by
  unfold State.frameWatchExpired; (repeat' split) <;> simp <;> (repeat' split) <;> simp
@[simp] theorem State.speedToCompositor_cli_queue (s : State) : (s.speedToCompositor).cli.queue = s.cli.queue := by
  unfold State.speedToCompositor; (repeat' split) <;> simp
@[simp] theorem State.speedToCompositor_cli_mode (s : State) : (s.speedToCompositor).cli.mode = s.cli.mode := by
  unfold State.speedToCompositor; (repeat' split) <;> simp
@[simp] theorem State.deliver_cli_queue (s : State) (r : Report) : (s.deliver r).cli.queue = s.cli.queue := by
  unfold State.deliver; (repeat' split) <;> simp
@[simp] theorem State.deliver_cli_mode (s : State) (r : Report) : (s.deliver r).cli.mode = s.cli.mode := by
  unfold State.deliver; (repeat' split) <;> simp
@[simp] theorem State.deliverStale_cli_queue (s : State) (w : Watched) : (s.deliverStale w).cli.queue = s.cli.queue := by
  unfold State.deliverStale; (repeat' split) <;> simp
@[simp] theorem State.deliverStale_cli_mode (s : State) (w : Watched) : (s.deliverStale w).cli.mode = s.cli.mode := by
  unfold State.deliverStale; (repeat' split) <;> simp
@[simp] theorem State.watchExpired_cli_queue (s : State) (w : Watched) : (s.watchExpired w).cli.queue = s.cli.queue := by
  unfold State.watchExpired; (repeat' split) <;> simp
@[simp] theorem State.watchExpired_cli_mode (s : State) (w : Watched) : (s.watchExpired w).cli.mode = s.cli.mode := by
  unfold State.watchExpired; (repeat' split) <;> simp
@[simp] theorem State.runEffects_cli_queue (s : State) : (s.runEffects).cli.queue = s.cli.queue := by
  unfold State.runEffects; (repeat' split) <;> simp
@[simp] theorem State.runEffects_cli_mode (s : State) : (s.runEffects).cli.mode = s.cli.mode := by
  unfold State.runEffects; (repeat' split) <;> simp
@[simp] theorem State.enterRun_cli_queue (s : State) (c : ModeCause) : (s.enterRun c).cli.queue = s.cli.queue := by
  unfold State.enterRun; (repeat' split) <;> simp
@[simp] theorem State.reverseWake_cli_queue (s : State) (g : Gear) : (s.reverseWake g).cli.queue = s.cli.queue := by
  unfold State.reverseWake; (repeat' split) <;> simp
@[simp] theorem State.enterStandby_cli_queue (s : State) : (s.enterStandby).cli.queue = s.cli.queue := by
  unfold State.enterStandby; (repeat' split) <;> simp
@[simp] theorem State.debounceExpired_cli_queue (s : State) : (s.debounceExpired).cli.queue = s.cli.queue := by
  unfold State.debounceExpired; (repeat' split) <;> simp
@[simp] theorem State.startMode_cli_queue (s : State) : (s.startMode).cli.queue = s.cli.queue := by
  unfold State.startMode; (repeat' split) <;> simp <;> (repeat' split) <;> simp
@[simp] theorem State.menusWarm_cli_queue (s : State) : (s.menusWarm).cli.queue = s.cli.queue := by
  unfold State.menusWarm; (repeat' split) <;> simp
@[simp] theorem State.menusWarm_cli_mode (s : State) : (s.menusWarm).cli.mode = s.cli.mode := by
  unfold State.menusWarm; (repeat' split) <;> simp
@[simp] theorem State.programmed_cli_queue (s : State) (f : Option FaultyCells) : (s.programmed f).cli.queue = s.cli.queue := by
  unfold State.programmed; (repeat' split) <;> simp
@[simp] theorem State.programmed_cli_mode (s : State) (f : Option FaultyCells) : (s.programmed f).cli.mode = s.cli.mode := by
  unfold State.programmed; (repeat' split) <;> simp
@[simp] theorem State.endChime_rvc_state (s : State) (ch : Chime) (o : ChimeOutcome) : (s.endChime ch o).rvc.state = s.rvc.state := by
  unfold State.endChime; split <;> first | rfl | (simp only [Rvc.chimeEnded]; split <;> rfl)
@[simp] theorem State.joinQueue_rvc_state (s : State) (ch : Chime) : ((s.joinQueue ch).1).rvc.state = s.rvc.state := by
  unfold State.joinQueue; (repeat' split) <;> simp
@[simp] theorem State.preempted_rvc_state (s : State) (v : Option Playing) : (s.preempted v).rvc.state = s.rvc.state := by
  unfold State.preempted; (repeat' split) <;> simp <;> (repeat' split) <;> simp
@[simp] theorem State.preempt_rvc_state (s : State) (ch : Chime) : (s.preempt ch).rvc.state = s.rvc.state := by
  unfold State.preempt; (repeat' split) <;> simp
@[simp] theorem State.arrive_rvc_state (s : State) (r : ChimeRequest) : ((s.arrive r).1).rvc.state = s.rvc.state := by
  unfold State.arrive; (repeat' split) <;> simp <;> (repeat' split) <;> simp
@[simp] theorem State.click_rvc_state (s : State) (i : Seat) (p : Nat) : (s.click i p).rvc.state = s.rvc.state := by
  unfold State.click; (repeat' split) <;> simp
@[simp] theorem State.engageChime_rvc_state (s : State) : (s.engageChime).rvc.state = s.rvc.state := by
  unfold State.engageChime; (repeat' split) <;> simp
@[simp] theorem State.faultChime_rvc_state (s : State) : (s.faultChime).rvc.state = s.rvc.state := by
  unfold State.faultChime; (repeat' split) <;> simp
@[simp] theorem State.cancelFaultChime_rvc_state (s : State) : (s.cancelFaultChime).rvc.state = s.rvc.state := by
  unfold State.cancelFaultChime; (repeat' split) <;> simp
@[simp] theorem State.judgePark_rvc_state (s : State) : (s.judgePark).rvc.state = s.rvc.state := by
  unfold State.judgePark; (repeat' split) <;> simp <;> (repeat' split) <;> simp
@[simp] theorem State.endAll_rvc_state (s : State) (l : List Chime) : (s.endAll l).rvc.state = s.rvc.state := by
  induction l generalizing s with
  | nil => rfl
  | cons ch rest ih => rw [State.endAll, ih]; simp
@[simp] theorem State.chimesStandby_rvc_state (s : State) : (s.chimesStandby).rvc.state = s.rvc.state := by
  unfold State.chimesStandby; (repeat' split) <;> simp
@[simp] theorem State.finish_rvc_state (s : State) (v : Voice) (ch : Chime) : (s.finish v ch).rvc.state = s.rvc.state := by
  unfold State.finish; (repeat' split) <;> simp
@[simp] theorem State.stepEnded_rvc_state (s : State) (v : Voice) : (s.stepEnded v).rvc.state = s.rvc.state := by
  unfold State.stepEnded; (repeat' split) <;> simp
@[simp] theorem State.menuClick_rvc_state (s : State) (i : Seat) (p : Nat) : (s.menuClick i p).rvc.state = s.rvc.state := by
  unfold State.menuClick; (repeat' split) <;> simp
@[simp] theorem State.consumed_rvc_state (s : State) (i : Seat) (p : Nat) : (s.consumed i p).rvc.state = s.rvc.state := by
  unfold State.consumed; (repeat' split) <;> simp
@[simp] theorem State.menuMove_rvc_state (s : State) (i : Seat) (p : Page) (e : Entry) (d : Dir) : (s.menuMove i p e d).rvc.state = s.rvc.state := by
  unfold State.menuMove; (repeat' split) <;> simp
@[simp] theorem State.menuPop_rvc_state (s : State) (i : Seat) : (s.menuPop i).rvc.state = s.rvc.state := by
  unfold State.menuPop; (repeat' split) <;> simp
@[simp] theorem State.menuOk_rvc_state (s : State) (i : Seat) (e : Entry) (n : Nat) (it : Item) : (s.menuOk i e n it).rvc.state = s.rvc.state := by
  unfold State.menuOk; (repeat' split) <;> simp
@[simp] theorem State.menuSide_rvc_state (s : State) (i : Seat) (e : Entry) (n : Nat) (it : Item) (d : Dir) : (s.menuSide i e n it d).rvc.state = s.rvc.state := by
  unfold State.menuSide; (repeat' split) <;> simp <;> (repeat' split) <;> simp
@[simp] theorem State.menuKey_rvc_state (s : State) (i : Seat) (k : Key) : (s.menuKey i k).rvc.state = s.rvc.state := by
  unfold State.menuKey; (repeat' split) <;> simp
@[simp] theorem State.navigate_rvc_state (s : State) (i : Seat) (k : Key) (e : KeyEvent) : (s.navigate i k e).rvc.state = s.rvc.state := by
  unfold State.navigate; (repeat' split) <;> simp
@[simp] theorem State.menuPress_rvc_state (s : State) (i : Seat) (e : KeyEvent) : (s.menuPress i e).rvc.state = s.rvc.state := by
  unfold State.menuPress State.menuKeyOpen; cases s.rootPage i <;> simp <;> split <;> simp
@[simp] theorem State.dispatchKey_rvc_state (s : State) (i : Seat) (k : Key) (e : KeyEvent) : (s.dispatchKey i k e).rvc.state = s.rvc.state := by
  unfold State.dispatchKey; (repeat' split) <;> simp
@[simp] theorem State.keyPress_rvc_state (s : State) (i : Seat) (k : Key) : (s.keyPress i k).rvc.state = s.rvc.state := by
  unfold State.keyPress; (repeat' split) <;> simp
@[simp] theorem State.keyRepeat_rvc_state (s : State) (i : Seat) : (s.keyRepeat i).rvc.state = s.rvc.state := by
  unfold State.keyRepeat; (repeat' split) <;> simp
@[simp] theorem State.keyEvent_rvc_state (s : State) (i : Seat) (k e : Nat) : (s.keyEvent i k e).rvc.state = s.rvc.state := by
  unfold State.keyEvent; (repeat' split) <;> simp
@[simp] theorem State.keyEvents_rvc_state (s : State) (i : Seat) (b : List Byte) (e k : Nat) : (s.keyEvents i b e k).rvc.state = s.rvc.state := by
  induction e generalizing s k with
  | zero => rfl
  | succ e ih => rw [State.keyEvents, ih]; simp
@[simp] theorem State.takeReport_rvc_state (s : State) (i : Seat) (b : List Byte) : (s.takeReport i b).rvc.state = s.rvc.state := by
  unfold State.takeReport; (repeat' split) <;> simp <;> (repeat' split) <;> simp
@[simp] theorem State.takeStatus_rvc_state (s : State) (i : Seat) (b : List Byte) : (s.takeStatus i b).rvc.state = s.rvc.state := by
  unfold State.takeStatus; (repeat' split) <;> simp
@[simp] theorem State.takeMessage_rvc_state (s : State) (i : Seat) (m : List Byte) : (s.takeMessage i m).rvc.state = s.rvc.state := by
  unfold State.takeMessage; (repeat' split) <;> simp
@[simp] theorem State.reverseChime_rvc_state (s : State) (a b : RvcState) : (s.reverseChime a b).rvc.state = s.rvc.state := by
  unfold State.reverseChime; (repeat' split) <;> simp
@[simp] theorem State.deliverStale_rvc_state (s : State) (w : Watched) : (s.deliverStale w).rvc.state = s.rvc.state := by
  unfold State.deliverStale; (repeat' split) <;> simp
@[simp] theorem State.watchExpired_rvc_state (s : State) (w : Watched) : (s.watchExpired w).rvc.state = s.rvc.state := by
  unfold State.watchExpired; (repeat' split) <;> simp
@[simp] theorem State.enterStandby_rvc_state (s : State) : (s.enterStandby).rvc.state = s.rvc.state := by
  unfold State.enterStandby; (repeat' split) <;> simp

end Sys2Proof.Machine
end

