-- ==== Sys2Proof/Laws/Ops.lean ====
section
/-! SUPPORT. What the shared operations do, said once each: the post of a notice, the end of an event, the events and the
dispatch of a request. -/

namespace Sys2Proof.Machine

/-! ## Posting (R13) -/

theorem Cli.post_disabled {c : Cli} {body : NoticeBody} (now : Stamp) (source : Nat)
    (h : c.selection.getD body.kind.index false = false) : c.post now source body = c := by
  simp only [Cli.post, h, Bool.not_false, if_true]

theorem Cli.post_merges {c : Cli} {body : NoticeBody} {source : Nat} (now : Stamp)
    (h : c.selection.getD body.kind.index false = true) (hm : c.board.any (·.sameMatter source body) = true) :
    c.post now source body
      = { c with board := c.board.map (fun e => if e.sameMatter source body then ⟨source, body, now, true⟩ else e) } := by
  simp only [Cli.post, h, hm, Bool.not_true, if_true, Bool.false_eq_true, if_false]

theorem Cli.post_joins {c : Cli} {body : NoticeBody} {source : Nat} (now : Stamp)
    (h : c.selection.getD body.kind.index false = true) (hm : c.board.any (·.sameMatter source body) = false)
    (hr : c.board.length < 24) :
    c.post now source body = { c with board := c.board ++ [⟨source, body, now, false⟩] } := by
  simp only [Cli.post, h, hm, Config.boardSize, hr, Bool.not_true, if_true, Bool.false_eq_true, if_false]

theorem Cli.post_drops {c : Cli} {body : NoticeBody} {source : Nat} (now : Stamp)
    (h : c.selection.getD body.kind.index false = true) (hm : c.board.any (·.sameMatter source body) = false)
    (hr : ¬ c.board.length < 24) : c.post now source body = { c with overflow := true } := by
  simp only [Cli.post, h, hm, Config.boardSize, hr, Bool.not_true, Bool.false_eq_true, if_false]

/-- A post changes at most the board and the overflow indicator. -/
theorem Cli.post_keeps (c : Cli) (now : Stamp) (source : Nat) (body : NoticeBody) :
    ∃ board overflow, c.post now source body = { c with board := board, overflow := overflow } := by
  unfold Cli.post
  split
  · exact ⟨_, _, rfl⟩
  · split
    · exact ⟨_, _, rfl⟩
    · split <;> exact ⟨_, _, rfl⟩

/-! ## The transmitter (R6) -/

/-- The choice of the next frame changes at most the refusal list, the board, the overflow indicator, the previous sort and
the frame being sent. -/
theorem Cli.sendNext_keeps (c : Cli) (now : Stamp) :
    ∃ refusals board overflow prevSort tx, c.sendNext now
      = { c with refusals := refusals, board := board, overflow := overflow, prevSort := prevSort, tx := tx } := by
  unfold Cli.sendNext
  (repeat' split) <;> exact ⟨_, _, _, _, _, rfl⟩

theorem Cli.sendNext_busy {c : Cli} {f : TxFrame} (now : Stamp) (h : c.tx = some f) : c.sendNext now = c := by
  simp only [Cli.sendNext, h]

@[simp] theorem Cli.sendNext_queue (c : Cli) (now : Stamp) : (c.sendNext now).queue = c.queue := by
  obtain ⟨_, _, _, _, _, h⟩ := c.sendNext_keeps now; rw [h]

@[simp] theorem Cli.sendNext_mode (c : Cli) (now : Stamp) : (c.sendNext now).mode = c.mode := by
  obtain ⟨_, _, _, _, _, h⟩ := c.sendNext_keeps now; rw [h]

@[simp] theorem Cli.sendNext_selection (c : Cli) (now : Stamp) : (c.sendNext now).selection = c.selection := by
  obtain ⟨_, _, _, _, _, h⟩ := c.sendNext_keeps now; rw [h]

@[simp] theorem Cli.sendNext_lineMap (c : Cli) (now : Stamp) : (c.sendNext now).lineMap = c.lineMap := by
  obtain ⟨_, _, _, _, _, h⟩ := c.sendNext_keeps now; rw [h]

@[simp] theorem Cli.sendNext_receiver (c : Cli) (now : Stamp) : (c.sendNext now).receiver = c.receiver := by
  obtain ⟨_, _, _, _, _, h⟩ := c.sendNext_keeps now; rw [h]

@[simp] theorem Cli.sendNext_complete (c : Cli) (now : Stamp) : (c.sendNext now).complete = c.complete := by
  obtain ⟨_, _, _, _, _, h⟩ := c.sendNext_keeps now; rw [h]

@[simp] theorem Cli.sendNext_startCause (c : Cli) (now : Stamp) : (c.sendNext now).startCause = c.startCause := by
  obtain ⟨_, _, _, _, _, h⟩ := c.sendNext_keeps now; rw [h]

@[simp] theorem Cli.sendNext_warmPending (c : Cli) (now : Stamp) : (c.sendNext now).warmPending = c.warmPending := by
  obtain ⟨_, _, _, _, _, h⟩ := c.sendNext_keeps now; rw [h]

/-! ## The end of an event -/

/-- The end of an event changes at most the ducking of the zones and what the transmitter sends. -/
theorem State.settle_eq (s : State) :
    s.settle = { s with cli := s.cli.sendNext s.timebase, chu := { s.chu with duck := s.followDucks.chu.duck } } := rfl

@[simp] theorem State.settle_cli (s : State) : s.settle.cli = s.cli.sendNext s.timebase := rfl
@[simp] theorem State.settle_voice1 (s : State) : s.settle.chu.voice1 = s.chu.voice1 := rfl
@[simp] theorem State.settle_voice2 (s : State) : s.settle.chu.voice2 = s.chu.voice2 := rfl
@[simp] theorem State.settle_chimeQueue (s : State) : s.settle.chu.queue = s.chu.queue := rfl
@[simp] theorem State.settle_table (s : State) : s.settle.chu.table = s.chu.table := rfl
@[simp] theorem State.settle_frontLevel (s : State) : s.settle.chu.frontLevel = s.chu.frontLevel := rfl
@[simp] theorem State.settle_link (s : State) (i : Seat) : s.settle.link i = s.link i := rfl
@[simp] theorem State.settle_seat (s : State) (i : Seat) : s.settle.seat i = s.seat i := rfl
@[simp] theorem State.settle_port (s : State) (f : Feed) : s.settle.port f = s.port f := rfl
@[simp] theorem State.settle_ctx (s : State) (i : Seat) : s.settle.ctx i = s.ctx i := rfl
@[simp] theorem State.settle_rearRow (s : State) (i : Seat) : s.settle.rearRow i = s.rearRow i := rfl

/-- The time of an event is the only field `atTime` sets. -/
theorem State.atTime_eq (s : State) (t : Stamp) : s.atTime t = { s with timebase := t } := rfl

theorem State.event_running {s : State} (h : s.phase = .running) (t : Stamp) (act : State → State) :
    s.event t act = (act (s.atTime t)).settle := by
  simp [State.event, State.atTime, h]

theorem State.event_quiet {s : State} (h : s.phase ≠ .running) (t : Stamp) (act : State → State) :
    s.event t act = s.atTime t := by
  simp [State.event, State.atTime, h]

theorem State.happens_running {s : State} (h : s.phase = .running) (t : Stamp) (act : State → State) :
    s.happens t act = .next (act (s.atTime t)).settle := by
  simp [State.happens, State.event_running h]

theorem State.happens_quiet {s : State} (h : s.phase ≠ .running) (t : Stamp) (act : State → State) :
    s.happens t act = .next (s.atTime t) := by
  simp [State.happens, State.event_quiet h]

/-! ## The dispatch of a request (R4) -/

theorem State.asks_request {s : State} {code : Byte} {p : List Byte} (h : s.asks code p) :
    ∃ q, s.cli.nextRequest = some q ∧ q.code = code ∧ q.payload = p := by
  obtain ⟨-, hq⟩ := h
  cases hn : s.cli.nextRequest with
  | none => simp [hn] at hq
  | some q => exact ⟨q, rfl, by simpa [hn] using hq⟩

/-- A request that asks for dispatch is judged, and its reply stands at the oldest WAITING entry. -/
theorem State.request_eq {s : State} {code : Byte} {p : List Byte} (h : s.asks code p) (t : Stamp)
    (lengthOk : List Byte → Bool) (inStandby : Bool) (owner : Owner) :
    s.request t code lengthOk inStandby owner
      = .next ((((s.atTime t).judge lengthOk inStandby owner p).1).replied ((s.atTime t).judge lengthOk inStandby owner p).2) := by
  obtain ⟨q, hn, rfl, rfl⟩ := State.asks_request h
  have hd : (s.atTime t).cli.nextRequest = some q := hn
  simp only [State.request, State.event_running h.1, State.dispatch, hd, if_true, State.replied]

theorem State.judge_ok {s : State} {p : List Byte} {lengthOk : List Byte → Bool} {inStandby : Bool}
    (hl : lengthOk p = true) (hm : s.cli.mode = .run ∨ inStandby = true) (owner : Owner) :
    s.judge lengthOk inStandby owner p = owner p s := by
  rcases hm with h | h <;> simp [State.judge, hl, h]

theorem State.judge_badLength {s : State} {p : List Byte} {lengthOk : List Byte → Bool} (hl : lengthOk p = false)
    (inStandby : Bool) (owner : Owner) : s.judge lengthOk inStandby owner p = (s, refuse .badLength) := by
  simp [State.judge, hl]

theorem State.judge_notNow {s : State} {p : List Byte} {lengthOk : List Byte → Bool} (hl : lengthOk p = true)
    (hm : s.cli.mode = .standby) (owner : Owner) : s.judge lengthOk false owner p = (s, refuse .notNow) := by
  simp [State.judge, hl, hm]

/-- A request that passes the checks of R4 leaves what its owner leaves, with the owner's reply. -/
theorem State.request_ok {s : State} {code : Byte} {p : List Byte} {lengthOk : List Byte → Bool} {inStandby : Bool}
    (h : s.asks code p) (hl : lengthOk p = true) (hm : s.cli.mode = .run ∨ inStandby = true) (t : Stamp) (owner : Owner) :
    s.request t code lengthOk inStandby owner
      = .next ((owner p (s.atTime t)).1.replied (owner p (s.atTime t)).2) := by
  rw [State.request_eq h, State.judge_ok (s := s.atTime t) hl hm]

theorem State.request_badLength {s : State} {code : Byte} {p : List Byte} {lengthOk : List Byte → Bool}
    (h : s.asks code p) (hl : lengthOk p = false) (t : Stamp) (inStandby : Bool) (owner : Owner) :
    s.request t code lengthOk inStandby owner = .next (s.onlyReplies t (refuse .badLength)) := by
  rw [State.request_eq h, State.judge_badLength (s := s.atTime t) hl]; rfl

theorem State.request_notNow {s : State} {code : Byte} {p : List Byte} {lengthOk : List Byte → Bool}
    (h : s.asks code p) (hl : lengthOk p = true) (hm : s.cli.mode = .standby) (t : Stamp) (owner : Owner) :
    s.request t code lengthOk false owner = .next (s.onlyReplies t (refuse .notNow)) := by
  rw [State.request_eq h, State.judge_notNow (s := s.atTime t) hl hm]; rfl

end Sys2Proof.Machine
end

