-- ==== Sys2Proof/Laws/Keys.lean ====
section
/-! SUPPORT. What the chime unit's placement, the menu engine and the keys do, said once each by the relations of Safety.lean. -/

namespace Sys2Proof.Machine

/-! ## Chimes -/

/-- R152, R159: what a chime that begins on a voice leaves. -/
theorem State.startOn_begins (s : State) (ch : Chime) (v : Voice) : s.startOn ch v = { s with chu := s.withVoice v ch } := by
  unfold State.startOn State.startBeep State.withVoice State.begun State.beepGap Chu.parkOnTime
  by_cases h : ch.origin = .park <;> cases v <;> simp only [h, if_true, if_false, Chu.setVoice] <;> cases s.vin.obstacle <;> rfl

theorem clashes_false_iff (voice : Option Playing) (z : ZoneSet) : clashes voice z = false ↔ clear voice z := by
  cases voice <;> simp [clashes, clear]

/-- R152, R153: a chime that another blocks cannot be placed. -/
theorem Chu.canPlace_of_blocked (c : Chu) (v : Voice) (z : ZoneSet) (p : Playing) (h : c.blocked v z p) : c.canPlace z = false := by
  obtain ⟨hv, hb⟩ := h
  unfold Chu.canPlace
  cases v <;> simp only [Chu.voice] at hv <;> rw [hv] <;> rcases hb with ⟨h1, h2⟩ | hb
  · obtain ⟨q, hq⟩ := Option.isSome_iff_exists.1 h2; simp [hq]
  · simp [clashes, hb]
  · obtain ⟨q, hq⟩ := Option.isSome_iff_exists.1 h1; simp [hq]
  · simp [clashes, hb]

/-- R153 step 3: the blocking chime of a voice, as preemption reads it. -/
theorem Chu.blocks_iff (c : Chu) (v : Voice) (z : ZoneSet) : c.blocks v z = true ↔ ∃ p, c.blocked v z p := by
  unfold Chu.blocks Chu.blocked
  cases c.voice v <;> simp

/-- R153: a chime outranks a voice exactly when it outranks the chime that blocks it there. -/
theorem Chu.outranks_iff (c : Chu) (v : Voice) (z : ZoneSet) (n : Nat) :
    c.outranks v z n = true ↔ ∀ p, c.blocked v z p → p.chime.priority < n := by
  unfold Chu.outranks Chu.blocks Chu.blocked
  cases h : c.voice v with
  | none => simp
  | some p => simp only [Bool.or_eq_true, Bool.not_eq_true', decide_eq_true_eq]; constructor
              · rintro (hb | hb) q ⟨hq, hc⟩
                · simp at hq; subst hq
                  simp [Bool.or_eq_false_iff] at hb
                  rcases hc with ⟨h1, h2⟩ | hc
                  · obtain ⟨hb, -⟩ := hb
                    simp [h1] at hb; simp [hb] at h2
                  · simp [hc] at hb
                · simp at hq; subst hq; exact hb
              · intro hq
                by_cases hc : (c.voice1.isSome ∧ c.voice2.isSome) ∨ p.chime.zones.meets z = true
                · exact .inr (hq p ⟨rfl, hc⟩)
                · left; simp only [not_or, not_and_or] at hc; simp only [Bool.or_eq_false_iff, Bool.and_eq_false_iff]
                  exact ⟨by rcases hc.1 with h | h <;> simp [h], by simp [hc.2]⟩

/-- R153: when both voices are blocked or the one that plays blocks, every chime that plays blocks. -/
theorem Chu.blocks_all (c : Chu) (z : ZoneSet) (h : c.canPlace z = false) (v : Voice) : c.blocks v z = (c.voice v).isSome := by
  unfold Chu.canPlace at h
  unfold Chu.blocks
  cases h1 : c.voice1 <;> cases h2 : c.voice2 <;> cases v <;> simp_all [Chu.voice, clashes]

/-- R153, R154: what a preempted chime leaves. -/
theorem State.preempted_yields (s : State) (voice : Option Playing) : (s.preempted voice).yieldsFrom s voice := by
  refine ⟨fun h => by subst h; rfl, fun p h => ?_⟩
  subst h
  unfold State.preempted
  refine ⟨fun h => by simp [h], fun h hj => by simp [h, hj], fun h hj => ?_⟩
  simp only [h, if_true, hj]
  have : (s.joinQueue p.chime).1 = s := by
    revert hj; unfold State.joinQueue; (repeat' split) <;> simp
  rw [this]; rfl

/-- R153: a chime that yields leaves the voices. -/
theorem State.preempted_voice1 (s : State) (voice : Option Playing) : (s.preempted voice).chu.voice1 = s.chu.voice1 := by
  unfold State.preempted State.joinQueue State.endChime
  cases voice with
  | none => rfl
  | some p => simp only []; (repeat' split) <;> rfl

/-- R153: where every chime that plays blocks, both voices are freed, the chimes yield, and the new one is placed. -/
theorem State.preempt_all (s : State) (ch : Chime) (h : ∀ v, s.chu.blocks v ch.zones = (s.chu.voice v).isSome) :
    s.preempt ch = (((({ s with chu := { s.chu with voice1 := none, voice2 := none } } : State).preempted s.chu.voice1).preempted
      s.chu.voice2).place ch).fill := by
  unfold State.preempt
  simp only [h]
  cases h1 : s.chu.voice1 <;> cases h2 : s.chu.voice2 <;> simp [Chu.voice, h1, h2]

/-- The handle that the record of an arrival took. -/
def Arrival.handle : Arrival → Option Nat
  | .playing h => some h
  | .waiting h => some h
  | .discarded => none
  | .refused => none

/-- R151, R153, R154: what an arrival leaves. -/
theorem State.arrive_arrives (s : State) (r : ChimeRequest) : (s.arrive r).1.arrivesFrom s r (s.arrive r).2.handle := by
  unfold State.arrive
  refine ⟨fun h1 h2 => ?_, fun h1 h2 h3 => ?_, ?_, ?_, ?_⟩
  · have h1' : s.chu.voice1.isNone = true := by simp [h1]
    have hc : s.chu.canPlace r.zones = true := by simp only [Chu.canPlace, h1', (clashes_false_iff _ _).2 h2]; rfl
    simp only [hc, if_true, State.place, Chu.formed, h1', State.startOn_begins]; exact ⟨rfl, rfl⟩
  · have h1' : s.chu.voice1.isNone = false := by cases h : s.chu.voice1 <;> simp_all
    have hc : s.chu.canPlace r.zones = true := by
      simp only [Chu.canPlace, (clashes_false_iff _ _).2 h2]; simp [h3]
    simp only [hc, if_true, State.place, Chu.formed, h1', State.startOn_begins]; exact ⟨rfl, rfl⟩
  · rintro ⟨v, p, hb⟩ hr
    have hc := Chu.canPlace_of_blocked _ _ _ _ hb
    simp [hc, hr, Arrival.handle]
  · rintro ⟨v, p, hb⟩ hr ho
    have hc := Chu.canPlace_of_blocked _ _ _ _ hb
    have ha := Chu.blocks_all _ _ hc
    have e : (s.chu.outranks .v1 r.zones r.priority && s.chu.outranks .v2 r.zones r.priority) = true := by
      rw [Bool.and_eq_true]; exact ⟨(Chu.outranks_iff _ _ _ _).2 (ho .v1), (Chu.outranks_iff _ _ _ _).2 (ho .v2)⟩
    simp only [hc, hr, e, if_true, if_false, Bool.false_eq_true]
    refine ⟨_, _, State.preempted_yields _ _, State.preempted_yields _ _, ?_, rfl⟩
    have hp : ∀ x : State, x.chu.voice1 = none → x.place (s.chu.form r) = { x with chu := x.withVoice .v1 (s.chu.form r) } := by
      intro x hx; unfold State.place; rw [hx, State.startOn_begins]; rfl
    rw [State.preempt_all _ _ ha, hp _ (by rw [State.preempted_voice1, State.preempted_voice1])]
    rfl
  · rintro ⟨v, p, hb, hp⟩ hr
    have hc := Chu.canPlace_of_blocked _ _ _ _ hb
    have e : (s.chu.outranks .v1 r.zones r.priority && s.chu.outranks .v2 r.zones r.priority) = false := by
      rw [Bool.and_eq_false_iff]
      have : s.chu.outranks v r.zones r.priority = false := by
        rw [Bool.eq_false_iff]; intro h; have := (Chu.outranks_iff _ _ _ _).1 h p hb; omega
      cases v
      · exact .inl this
      · exact .inr this
    simp only [hc, hr, e, if_false, Bool.false_eq_true]
    refine ⟨fun h => ?_, fun h => ?_⟩
    · have h' : (({ s with chu := s.chu.formed } : State).joinQueue (s.chu.form r)).2 = true := h
      rw [if_pos h']; exact ⟨rfl, rfl⟩
    · have h' : ¬ (({ s with chu := s.chu.formed } : State).joinQueue (s.chu.form r)).2 = true := by
        rw [Bool.not_eq_true]; exact h
      rw [if_neg h']; exact ⟨rfl, rfl⟩

/-- R123: what asking for a click leaves. -/
theorem State.menuClick_clicks (s : State) (i : Seat) (pattern : Nat) : (s.menuClick i pattern).clicksFrom s i pattern := by
  unfold State.menuClick
  refine ⟨fun h => by simp [State.image, h], fun h => ?_⟩
  have e : (if calMenuClick s.image = true then s.click i pattern else s) = s.click i pattern := by rw [if_pos]; exact h
  rw [e]
  cases i <;> exact ⟨_, State.arrive_arrives s _⟩

/-- R155: a queue without an entry that can be placed is left. -/
theorem State.fillOnce_none (s : State) (h : ∀ x ∈ s.chu.queue, s.chu.canPlace x.zones = false) : s.fillOnce = s := by
  unfold State.fillOnce
  have : s.chu.queue.find? (fun ch => s.chu.canPlace ch.zones) = none := by
    simp only [List.find?_eq_none]; intro x hx; simp [h x hx]
  rw [this]

/-- R155: the first entry that can be placed leaves the queue and begins. -/
theorem State.fillOnce_some (s : State) (before after : List Chime) (x : Chime) (hq : s.chu.queue = before ++ x :: after)
    (hb : ∀ y ∈ before, s.chu.canPlace y.zones = false) (hx : s.chu.canPlace x.zones = true) :
    s.fillOnce = ({ s with chu := { s.chu with queue := before ++ after } } : State).place x := by
  unfold State.fillOnce
  have h1 : s.chu.queue.find? (fun ch => s.chu.canPlace ch.zones) = some x := by
    rw [hq, List.find?_append, List.find?_eq_none.2 (by intro y hy; simp [hb y hy])]; simp [hx]
  have h2 : s.chu.queue.erase x = before ++ after := by
    have : x ∉ before := fun hm => by simp [hb x hm] at hx
    rw [hq, List.erase_append_right _ this]; simp
  rw [h1]; simp only [h2]

/-! ## Seats -/

theorem SeatRec.worthHanding_iff (r : SeatRec) :
    r.worthHanding = true ↔ ∀ ref, r.next.or r.lastSent = some ref → 2 ≤ ((r.target : Int) - (ref : Int)).natAbs := by
  unfold SeatRec.worthHanding
  cases h : r.next.or r.lastSent with
  | none => simp
  | some ref => simp

/-- R145, R147: what a recomputed backlight target leaves. -/
theorem State.recomputeTarget_retargets (s : State) (i : Seat) : (s.recomputeTarget i).retargetsFrom s i := by
  unfold State.recomputeTarget
  constructor
  · intro h
    rw [if_pos ((SeatRec.worthHanding_iff _).2 h)]
    cases i <;> rfl
  · intro h
    rw [if_neg (fun hc => h ((SeatRec.worthHanding_iff _).1 hc))]; rfl

/-- R142, R143: what a volume press leaves. -/
theorem State.volumePress_moves (s : State) (i : Seat) (dir : Dir) : (s.volumePress i dir).volumeFrom s i dir := by
  unfold State.volumeFrom State.volumePress
  refine ⟨if (s.seat i).continues dir s.timebase (calWindow s.image) then (s.seat i).step else calBaseStep s.image, ?_, ?_, ?_⟩
  · rintro ⟨h1, st, h2, h3⟩
    rw [if_pos]
    simp only [Option.mem_def] at h2
    change _ ≤ 1000 * calWindow s.image at h3
    simp only [SeatRec.continues, h2, h1, decide_true, Bool.true_and, decide_eq_true_eq]; exact h3
  · intro h
    rw [if_neg]; · rfl
    intro hc; apply h
    unfold SeatRec.continues at hc
    split at hc
    · cases hc
    · rename_i st hst
      simp only [Bool.and_eq_true, decide_eq_true_eq] at hc
      exact ⟨hc.1, st, hst, hc.2⟩
  · simp only []
    generalize (if (s.seat i).continues dir s.timebase (calWindow s.image) then (s.seat i).step else calBaseStep s.image) = step
    have hv : movedVolume (s.seat i).volume step dir = (match dir with | .up => min 60 ((s.seat i).volume + step) | .down => (s.seat i).volume - step) := by
      cases dir
      · simp only [movedVolume]; split <;> omega
      · rfl
    have hn : nextStep step (calBaseStep s.image) (calStepCap s.image) = if calStepCap s.cal.working < calBaseStep s.cal.working then calBaseStep s.cal.working else min (calStepCap s.cal.working) (step + 1) := by
      unfold nextStep State.image; split
      · rfl
      · split <;> omega
    simp only [hv, hn, State.postLevel, State.seat_setSeat_same] <;> rfl

/-- R144: what a brightness press leaves. -/
theorem State.brightPress_moves (s : State) (i : Seat) (dir : Dir) : (s.brightPress i dir).brightFrom s i dir := by
  unfold State.brightFrom State.brightPress
  intro r offset h1 h2
  have : movedOffset (s.seat i).offset dir = offset := by
    change -10 ≤ (s.seat i).offset at h1; change (s.seat i).offset ≤ 10 at h2
    unfold offset
    cases dir <;> simp only [movedOffset]
    · change _ = min 10 ((s.seat i).offset + 1); split <;> omega
    · change _ = max (-10) ((s.seat i).offset - 1); split <;> omega
  simp only [this]
  constructor
  · intro h; rw [if_pos h]
  · intro h; rw [if_neg h]
    simp only [State.postLevel, State.seat_setSeat_same]
    exact State.recomputeTarget_retargets _ _

/-! ## Pages -/

theorem Page.enables_le (p : Page) (n : Nat) (h : p.enables n) : 1 ≤ n ∧ n ≤ p.items.length := by
  unfold Page.enables Page.isEnabled Page.item at h
  by_cases h0 : n = 0
  · simp [h0] at h
  · simp only [h0, if_false] at h
    cases hi : p.items[n-1]? with
    | none => simp [hi] at h
    | some it => have := (List.getElem?_eq_some_iff.1 hi).1; omega

theorem Page.enabledAbove_iff (p : Page) (f g : Nat) : p.enabledAbove f = some g ↔ p.nextAbove f g := by
  unfold Page.enabledAbove Page.nextAbove Page.numbers
  rw [List.find?_map, Option.map_eq_some_iff]
  constructor
  · rintro ⟨a, ha, rfl⟩
    rw [List.find?_range_eq_some] at ha
    obtain ⟨h1, h2, h3⟩ := ha
    simp only [Function.comp, Bool.and_eq_true, decide_eq_true_eq, Bool.not_eq_true', Bool.and_eq_false_iff,
      decide_eq_false_iff_not] at h1 h3
    refine ⟨h1.1, h1.2, fun m m1 m2 hm => ?_⟩
    have := (p.enables_le m hm)
    have := h3 (m - 1) (by omega)
    rw [show m - 1 + 1 = m by omega] at this
    rcases this with h | h
    · omega
    · exact absurd hm (Bool.eq_false_iff.1 h)
  · rintro ⟨h1, h2, h3⟩
    have := p.enables_le g h2
    refine ⟨g - 1, ?_, by omega⟩
    rw [List.find?_range_eq_some]
    refine ⟨?_, ?_, ?_⟩
    · simp [show g - 1 + 1 = g by omega, h1, h2]
    · simp; omega
    · intro j hj
      simp only [Function.comp, Bool.not_eq_true', Bool.and_eq_false_iff, decide_eq_false_iff_not]
      by_cases hf : f < j + 1
      · right; exact Bool.eq_false_iff.2 (h3 (j + 1) hf (by omega))
      · left; exact hf

theorem Page.firstEnabled_eq (p : Page) : p.firstEnabled = p.enabledAbove 0 := by
  unfold Page.firstEnabled Page.enabledAbove Page.numbers
  rw [List.find?_map, List.find?_map]
  congr 2

theorem Page.enabledBelow_some (p : Page) (f g : Nat) (h : p.nextBelow f g) : p.enabledBelow f = some g := by
  obtain ⟨h1, h2, h3⟩ := h
  have hr := p.enables_le g h2
  unfold Page.enabledBelow
  cases hf : p.numbers.reverse.find? (fun n => decide (n < f) && p.isEnabled n) with
  | none =>
    rw [List.find?_eq_none] at hf
    have := hf g (by simp [Page.numbers]; exact ⟨g-1, by omega, by omega⟩)
    simp [h1, h2] at this
  | some k =>
    rw [List.find?_eq_some_iff_append] at hf
    obtain ⟨hk, as, bs, he, ha⟩ := hf
    simp at hk
    refine Classical.byContradiction fun hne => ?_
    have hkg : k ≠ g := fun e => hne (by rw [e])
    have hle : k < g := by
      refine Classical.byContradiction fun hc => ?_
      exact h3 k (by omega) hk.1 hk.2
    -- g occurs before k in reversed increasing numbers
    have hsort : (p.numbers.reverse).Pairwise (· > ·) := by
      rw [List.pairwise_reverse]
      unfold Page.numbers
      rw [List.pairwise_map]
      exact List.pairwise_lt_range.imp (by intro a b h; omega)
    have hg : g ∈ p.numbers.reverse := by simp [Page.numbers]; exact ⟨g-1, by omega, by omega⟩
    rw [he] at hsort hg
    rw [List.mem_append, List.mem_cons] at hg
    rcases hg with hg | hg | hg
    · have := ha g hg; simp [h1, h2] at this
    · exact hkg hg.symm
    · rw [List.pairwise_append] at hsort
      have := (List.pairwise_cons.1 hsort.2.1).1 g hg
      omega

theorem Page.enabledBelow_of (p : Page) (f g : Nat) (h : p.enabledBelow f = some g) : p.nextBelow f g := by
  have h0 := h
  unfold Page.enabledBelow at h
  have hk := List.find?_some h
  simp only [Bool.and_eq_true, decide_eq_true_eq] at hk
  -- largest enabled below f
  have : ∃ m, p.nextBelow f m := by
    have key : ∀ d, ∀ g, d = f - g → g < f → p.enables g → ∃ m, p.nextBelow f m := by
      intro d
      induction d using Nat.strongRecOn with
      | _ d ih =>
        intro g hd hg he
        by_cases hh : ∃ m, g < m ∧ m < f ∧ p.enables m
        · obtain ⟨m, m1, m2, m3⟩ := hh
          exact ih (f - m) (by omega) m rfl m2 m3
        · exact ⟨g, hg, he, fun m m1 m2 m3 => hh ⟨m, m1, m2, m3⟩⟩
    exact key _ g rfl hk.1 hk.2
  obtain ⟨m, hm⟩ := this
  have := p.enabledBelow_some f m hm
  rw [h0] at this; cases this; exact hm

theorem Entry.rewindow_eq (e : Entry) (g : Nat) : Entry.rewindow { e with focus := some g } = ⟨e.page, some g, windowFor g e.top⟩ := rfl

/-- R124: what an adjustment leaves. -/
theorem Page.adjust_adjusts (p : Page) (e : Entry) : p.adjustsTo e (p.adjust e) := by
  have hw : ∀ fo, p.adjustFocus e.focus = fo → (p.adjust e).focus = fo := by intro fo h; exact h
  have hnone : (∀ n, ¬ p.enables n) → p.adjustFocus e.focus = none := by
    intro hn
    have a0 : ∀ f, p.enabledAbove f = none := by
      intro f; cases h : p.enabledAbove f with
      | none => rfl
      | some g => exact absurd ((p.enabledAbove_iff f g).1 h).2.1 (hn g)
    have b0 : ∀ f, p.enabledBelow f = none := by
      intro f; cases h : p.enabledBelow f with
      | none => rfl
      | some g => exact absurd (p.enabledBelow_of f g h).2.1 (hn g)
    unfold Page.adjustFocus
    cases e.focus with
    | none => simp [p.firstEnabled_eq, a0]
    | some f => simp [p.firstEnabled_eq, a0, b0, show ∀ n, p.isEnabled n = false from fun n => Bool.eq_false_iff.2 (hn n)]
  refine ⟨rfl, ?_, ?_, fun h => hw _ (hnone h), ?_, ?_⟩
  · intro f hf g
    have hg : (if p.items.length < f then p.items.length else f) = g := by unfold g; split <;> omega
    have hadj : p.adjustFocus e.focus = match (if p.isEnabled g then some g else (p.enabledAbove g).or (p.enabledBelow g)) with | none => p.firstEnabled | some f => some f := by
      unfold Page.adjustFocus; rw [hf]; simp only [hg] <;> rfl
    refine ⟨?_, ?_, ?_⟩
    · intro h; apply hw; rw [hadj, if_pos h]
    · intro h a ha; apply hw; rw [hadj, if_neg h, (p.enabledAbove_iff g a).2 ha]; rfl
    · intro h hn b hb; apply hw; rw [hadj, if_neg h]
      have : p.enabledAbove g = none := by
        cases hx : p.enabledAbove g with
        | none => rfl
        | some c => exact absurd ((p.enabledAbove_iff g c).1 hx) (hn c)
      rw [this, p.enabledBelow_some g b hb]; rfl
  · intro hf a ha; apply hw
    unfold Page.adjustFocus; rw [hf]
    simp only [p.firstEnabled_eq, (p.enabledAbove_iff 0 a).2 ha]
  · intro h
    have : (p.adjust e).top = windowTop (p.adjust e).focus e.top := rfl
    rw [this, h]; rfl
  · intro f h
    have : (p.adjust e).top = windowTop (p.adjust e).focus e.top := rfl
    rw [this, h]; rfl

/-! ## Menus -/

theorem State.isOpen_of_stack (s : State) (i : Seat) (e : Entry) (rest : List Entry) (h : (s.ctx i).stack = e :: rest) :
    (s.ctx i).isOpen = true := by simp [MenuContext.isOpen, h]

theorem State.consumed_open (s : State) (i : Seat) (pattern : Nat) (h : (s.ctx i).isOpen = true) :
    (s.consumed i pattern).consumesFrom s i pattern := by
  unfold State.consumed State.consumesFrom
  rw [if_pos h]
  exact State.menuClick_clicks _ _ _

theorem State.consumed_closed (s : State) (i : Seat) (pattern : Nat) (h : (s.ctx i).isOpen = false) :
    (s.consumed i pattern).clicksFrom s i pattern := by
  unfold State.consumed
  rw [if_neg (by simp [h])]
  exact State.menuClick_clicks _ _ _

theorem State.closeMenu_closes (s : State) (i : Seat) (reason : CloseReason) (h : (s.ctx i).isOpen = true) :
    s.closeMenu i reason false = s.closesMenu s.timebase i reason := by
  unfold State.closeMenu
  rw [if_pos h]; rfl

theorem State.closesMenu_closed (s : State) (i : Seat) (t : Stamp) (reason : CloseReason) : ((s.closesMenu t i reason).ctx i).isOpen = false := by
  cases i <;> rfl

/-- R130: what a pop leaves. -/
theorem State.menuPop_pops (s : State) (i : Seat) (e : Entry) (rest : List Entry) (h : (s.ctx i).stack = e :: rest) :
    (s.menuPop i).popsFrom s i rest := by
  have ho := s.isOpen_of_stack i e rest h
  unfold State.popsFrom State.menuPop
  constructor
  · rintro rfl
    rw [h]
    simp only [State.closeMenu_closes _ _ _ ho]
    exact State.consumed_closed _ _ _ (State.closesMenu_closed _ _ _ _)
  · rintro below more page rfl hp
    rw [h]
    simp only [hp]
    refine ⟨page.adjust below, page.adjust_adjusts below, ?_⟩
    exact State.consumed_open _ _ _ (by simp [MenuContext.isOpen])

theorem State.setTop_withStack (s : State) (i : Seat) (e e' : Entry) (rest : List Entry) (h : (s.ctx i).stack = e :: rest) :
    s.setTop i e' = s.withStack i (e' :: rest) := by
  unfold State.setTop State.withStack; rw [h]; rfl

/-- R127: what UP leaves. -/
theorem State.menuMove_up (s : State) (i : Seat) (p : Page) (e : Entry) (rest : List Entry)
    (h : (s.ctx i).stack = e :: rest) : (s.menuMove i p e .up).movesFrom s i e rest p.nextBelow := by
  unfold State.movesFrom State.menuMove
  constructor
  · intro f g hf hn
    simp only [hf, p.enabledBelow_some f g hn]
    rw [s.setTop_withStack i e _ rest h]
    exact State.consumed_open _ _ _ (by simp [MenuContext.isOpen, State.withStack])
  · intro hn
    cases hf : e.focus with
    | none => rfl
    | some f =>
      cases hx : p.enabledBelow f with
      | none => simp only [hx]
      | some g => exact absurd (p.enabledBelow_of f g hx) (hn f hf g)

/-- R127: what DOWN leaves. -/
theorem State.menuMove_down (s : State) (i : Seat) (p : Page) (e : Entry) (rest : List Entry)
    (h : (s.ctx i).stack = e :: rest) : (s.menuMove i p e .down).movesFrom s i e rest p.nextAbove := by
  unfold State.movesFrom State.menuMove
  constructor
  · intro f g hf hn
    simp only [hf, (p.enabledAbove_iff f g).2 hn]
    rw [s.setTop_withStack i e _ rest h]
    exact State.consumed_open _ _ _ (by simp [MenuContext.isOpen, State.withStack])
  · intro hn
    cases hf : e.focus with
    | none => rfl
    | some f =>
      cases hx : p.enabledAbove f with
      | none => simp only [hx]
      | some g => exact absurd ((p.enabledAbove_iff f g).1 hx) (hn f hf g)

theorem State.ctx_post (s : State) (i : Seat) (n : Nat) (b : NoticeBody) : (s.post n b).ctx i = s.ctx i := by
  unfold State.ctx; simp

theorem State.withItem_ctx (s : State) (page n : Nat) (it : Item) (i : Seat) : (s.withItem page n it).ctx i = s.ctx i := rfl

/-- R128: what OK leaves. -/
theorem State.menuOk_acts (s : State) (i : Seat) (e : Entry) (rest : List Entry) (n : Nat) (it : Item)
    (h : (s.ctx i).stack = e :: rest) : (s.menuOk i e n it).okFrom s i e rest n it := by
  have ho := s.isOpen_of_stack i e rest h
  unfold State.okFrom State.menuOk
  cases hk : it.kind with
  | openPage target =>
    simp only
    constructor
    · intro page hp hl
      simp only [hp, h, List.length_cons]
      rw [if_pos (by simpa [Config.maxDepth] using hl)]
      exact State.consumed_open _ _ _ (by simp [MenuContext.isOpen])
    · intro hd
      cases hp : findPage s.mnu.store target with
      | none => simp only; exact State.consumed_open _ _ _ ho
      | some page =>
        simp only [h, List.length_cons]
        rw [if_neg (by rcases hd with hd | hd; · simp [hp] at hd
                       · simpa [Config.maxDepth] using hd)]
        exact State.consumed_open _ _ _ ho
  | report code => exact State.consumed_open _ _ _ (by unfold State.postChoice; rw [State.ctx_post]; exact ho)
  | toggle on => exact State.consumed_open _ _ _ (by unfold State.postChoice; rw [State.ctx_post]; exact ho)
  | back => exact s.menuPop_pops i e rest h
  | slider _ _ _ => rfl
  | volume => rfl
  | brightness => rfl

/-- R129: what LEFT and RIGHT leave. -/
theorem State.menuSide_acts (s : State) (i : Seat) (e : Entry) (rest : List Entry) (n : Nat) (it : Item) (dir : Dir)
    (h : (s.ctx i).stack = e :: rest) : (s.menuSide i e n it dir).sideFrom s i e n it dir := by
  have ho := s.isOpen_of_stack i e rest h
  unfold State.sideFrom State.menuSide
  cases hk : it.kind with
  | slider value top step =>
    have ho' : ∀ v, (((s.setStore (setItem s.mnu.store e.page n { it with kind := .slider v top step })).postChoice i e.page n
        .slider v).ctx i).isOpen = true := by intro v; unfold State.postChoice; rw [State.ctx_post]; exact ho
    cases dir
    · have hv : slid value top step .up = min top (value + step) := by simp only [slid]; split <;> omega
      refine ⟨fun he => ?_, fun he => ?_⟩
      · simp only [hv]; exact if_pos he
      · simp only [hv]; rw [if_neg he]; exact State.consumed_open _ _ _ (ho' _)
    · have hv : slid value top step .down = value - step := rfl
      refine ⟨fun he => ?_, fun he => ?_⟩
      · simp only [hv]; exact if_pos he
      · simp only [hv]; rw [if_neg he]; exact State.consumed_open _ _ _ (ho' _)
  | volume => exact ⟨_, s.volumePress_moves i dir, State.consumed_open _ _ _ (by unfold State.ctx; simpa [State.ctx] using ho)⟩
  | brightness => exact ⟨_, s.brightPress_moves i dir, State.consumed_open _ _ _ (by unfold State.ctx; simpa [State.ctx] using ho)⟩
  | openPage _ => rfl
  | report _ => rfl
  | toggle _ => rfl
  | back => rfl

/-- R127 to R130: what a key in an open menu leaves. -/
theorem State.menuKey_acts (s : State) (i : Seat) (e : Entry) (rest : List Entry) (k : Key)
    (h : (s.ctx i).stack = e :: rest) : (s.menuKey i k).menuFrom s i e rest k := by
  have ho := s.isOpen_of_stack i e rest h
  intro page hp
  have hm : ∀ n it, e.focus = some n → page.item n = some it → page.focused e = some (n, it) := by
    intro n it h1 h2; simp [Page.focused, h1, h2]
  have hn : e.focus = none → page.focused e = none := by intro h1; simp [Page.focused, h1]
  unfold State.menuKey
  rw [h]
  cases k <;> simp only [hp]
  · exact s.menuMove_up i page e rest h
  · exact s.menuMove_down i page e rest h
  · refine ⟨fun h1 => by simp only [hn h1], fun n it h1 h2 => ?_⟩
    simp only [hm n it h1 h2]; exact s.menuSide_acts i e rest n it .down h
  · refine ⟨fun h1 => by simp only [hn h1], fun n it h1 h2 => ?_⟩
    simp only [hm n it h1 h2]; exact s.menuSide_acts i e rest n it .up h
  · refine ⟨fun h1 => by simp only [hn h1], fun n it h1 h2 => ?_⟩
    simp only [hm n it h1 h2]; exact s.menuOk_acts i e rest n it h
  · exact s.menuPop_pops i e rest h
  · rw [State.closeMenu_closes _ _ _ ho]
    exact State.consumed_closed _ _ _ (State.closesMenu_closed _ _ _ _)

/-! ## Keys -/

/-- R141: what the dispatch of a press or repeat leaves. -/
theorem State.dispatchKey_dispatches (s : State) (i : Seat) (k : Key) (ev : KeyEvent) : (s.dispatchKey i k ev).dispatchesFrom s i k ev := by
  have nav : ∀ k, ((s.ctx i).stack = [] → (s.navigate i k ev).forwardsFrom s i k ev)
      ∧ ∀ e rest, (s.ctx i).stack = e :: rest → (s.navigate i k ev).menuFrom s i e rest k := by
    intro k
    unfold State.navigate
    constructor
    · intro h; rw [if_neg (by simp [MenuContext.isOpen, h])]; rfl
    · intro e rest h; rw [if_pos (s.isOpen_of_stack i e rest h)]; exact s.menuKey_acts i e rest k h
  cases k
  · exact nav .up
  · exact nav .down
  · exact nav .left
  · exact nav .right
  · exact nav .ok
  · exact nav .back
  · refine ⟨fun h => ?_, fun e rest h => ?_⟩
    · show (s.menuPress i ev).rootFrom s i ev
      unfold State.menuPress State.menuKeyOpen State.rootFrom
      rw [if_neg (by simp [MenuContext.isOpen, h])]
      constructor
      · intro page hp
        simp only [hp, Option.map_some]
        have := State.consumed_open (s.openMenu i page) i 0 (by unfold State.openMenu State.setMenuPlane State.setCtx State.ctx; simp [MenuContext.isOpen])
        unfold State.consumesFrom at this
        have e : (s.openMenu i page).setCtx i { (s.openMenu i page).ctx i with idle := (s.openMenu i page).idleAt } = { s with
            mnu := { s.mnu with ctx := s.mnu.ctx.set i ⟨[page.newEntry], s.idleAt⟩ }
            cmp := { s.cmp with menuPlane := s.cmp.menuPlane.set i true } } := by cases i <;> rfl
        rw [e] at this
        exact this
      · intro hp; simp only [hp, Option.map_none]; rfl
    · show (s.menuPress i ev).menuFrom s i e rest .menu
      unfold State.menuPress
      rw [if_pos (s.isOpen_of_stack i e rest h)]; exact s.menuKey_acts i e rest .menu h
  · exact s.volumePress_moves i .up
  · exact s.volumePress_moves i .down
  · exact s.brightPress_moves i .up
  · exact s.brightPress_moves i .down
  · rfl
  · rfl
  · rfl

theorem State.releaseKey_letsGo (s : State) (i : Seat) (k : Key) (h : (s.seat i).held = some k) : s.releaseKey i false = s.letsGo i k := by
  unfold State.releaseKey State.letsGo
  simp only [h, Bool.not_false, Bool.and_true]

/-- R138: what a pressed key's hold leaves. -/
theorem State.holdKey_takesHold (s : State) (i : Seat) (k : Key) : s.holdKey i k = s.takesHold i k := by
  unfold State.holdKey State.takesHold
  cases h : (s.seat i).held with
  | none =>
    rw [if_neg (by simp)]
    simp only [State.releaseKey, h]
  | some j =>
    by_cases hj : j = k
    · simp [hj]
    · rw [if_neg (by simpa using hj)]
      simp only [hj, if_false, State.releaseKey_letsGo s i j h]

/-- R85, R138: what one key event leaves. -/
theorem State.keyEvent_keyed (s : State) (i : Seat) (code event : Byte) : (s.keyEvent i code.toNat event.toNat).keyFrom s i code event := by
  unfold State.keyFrom State.keyEvent
  constructor
  · intro h; rw [h]
  · intro k h; simp only [h]
    have e1 : event = 1 ↔ event.toNat = 1 := ⟨fun h => by rw [h]; rfl, fun h => BitVec.eq_of_toNat_eq h⟩
    have e2 : event = 2 ↔ event.toNat = 2 := ⟨fun h => by rw [h]; rfl, fun h => BitVec.eq_of_toNat_eq h⟩
    refine ⟨fun he => ?_, fun he hh => ?_, fun he hh => ?_, fun h1 h2 => ?_⟩
    · rw [if_pos (e1.1 he)]
      refine ⟨_, State.dispatchKey_dispatches (s.takesHold i k) i k .press, ?_⟩
      unfold State.keyPress State.withRepeat
      rw [State.holdKey_takesHold]
      have t1 : (s.takesHold i k).timebase = s.timebase := by rw [← State.holdKey_takesHold]; simp
      have t2 : (s.takesHold i k).cal = s.cal := by rw [← State.holdKey_takesHold]; simp
      simp only [State.dispatchKey_timebase, State.image, State.dispatchKey_cal, t1, t2]
    · have : event.toNat = 2 := e2.1 he
      simp only [this]
      rw [if_neg (by omega), if_pos trivial]
      unfold State.keyRelease
      rw [if_pos hh]
      exact State.releaseKey_letsGo s i k hh
    · have : event.toNat = 2 := e2.1 he
      simp only [this]
      rw [if_neg (by omega), if_pos trivial]
      unfold State.keyRelease
      rw [if_neg hh]
    · rw [if_neg (mt e1.2 h1), if_neg (mt e2.2 h2)]

/-- R85: what the key events of a report leave. -/
theorem State.keyEvents_keyed (i : Seat) (body : List Byte) : ∀ (events : List (Byte × Byte)) (s : State) (k : Nat),
    body.drop k = events.flatMap (fun x => [x.1, x.2]) → (s.keyEvents i body events.length k).keysFrom s i events := by
  intro events
  induction events with
  | nil => intro s k _; rfl
  | cons x rest ih =>
    intro s k h
    have h0 : body[k]? = some x.1 := by
      have := congrArg (·[0]?) h; simpa using this
    have h1 : body[k+1]? = some x.2 := by
      have := congrArg (·[1]?) h; simpa using this
    have b0 : byteAt body k = x.1.toNat := by simp [byteAt, h0]
    have b1 : byteAt body (k+1) = x.2.toNat := by simp [byteAt, h1]
    refine ⟨_, s.keyEvent_keyed i x.1 x.2, ?_⟩
    have := ih (s.keyEvent i x.1.toNat x.2.toNat) (k + 2) (by
      have := congrArg (List.drop 2) h
      simpa [List.drop_drop, Nat.add_comm] using this)
    simpa [State.keyEvents, b0, b1] using this

end Sys2Proof.Machine
end

