-- ==== Sys2Proof/Laws/Notices.lean ====
section
/-! SUPPORT. What the shared operations post, said once each: the notices, in their order, as a list that `Cli.postAll` posts; and
what a change of the reverse view controller asks of the chime unit. -/

namespace Sys2Proof.Machine

/-! ## Posting -/

/-- An operation at one moment has changed the control link by posting these notices in this order. -/
def State.posted (s' s : State) (ns : List (Nat × NoticeBody)) : Prop :=
  s'.timebase = s.timebase ∧ s'.cli = s.cli.postAll s.timebase ns

theorem State.posted_nil {s' s : State} (ht : s'.timebase = s.timebase) (hc : s'.cli = s.cli) : s'.posted s [] := ⟨ht, hc⟩

theorem State.posted_one (s : State) (n : Nat) (b : NoticeBody) : (s.post n b).posted s [(n, b)] := ⟨rfl, rfl⟩

theorem State.posted_trans {s s1 s2 : State} {a b : List (Nat × NoticeBody)} (h1 : s1.posted s a) (h2 : s2.posted s1 b) :
    s2.posted s (a ++ b) := by
  refine ⟨h2.1.trans h1.1, ?_⟩
  rw [h2.2, h1.2, h1.1]; unfold Cli.postAll; rw [List.foldl_append]

/-- Where a later state has the same control link and moment, it has posted the same. -/
theorem State.posted_same {s s1 s2 : State} {a : List (Nat × NoticeBody)} (h1 : s1.posted s a) (ht : s2.timebase = s1.timebase)
    (hc : s2.cli = s1.cli) : s2.posted s a := ⟨ht.trans h1.1, hc.trans h1.2⟩

/-- What is posted from a state with the same control link and moment. -/
theorem State.posted_of {s s0 s1 : State} {a : List (Nat × NoticeBody)} (h1 : s1.posted s0 a) (ht : s0.timebase = s.timebase)
    (hc : s0.cli = s.cli) : s1.posted s a := ⟨h1.1.trans ht, by rw [h1.2, hc, ht]⟩

@[simp] theorem ofKind_nil (k : NoticeKind) : ofKind k [] = [] := rfl
@[simp] theorem ofKind_cons (k : NoticeKind) (n : Nat × NoticeBody) (ns : List (Nat × NoticeBody)) :
    ofKind k (n :: ns) = if n.2.kind = k then n :: ofKind k ns else ofKind k ns := by
  unfold ofKind; rw [List.filter_cons]; by_cases h : n.2.kind = k <;> simp [h]
@[simp] theorem ofKind_append (k : NoticeKind) (a b : List (Nat × NoticeBody)) : ofKind k (a ++ b) = ofKind k a ++ ofKind k b :=
  List.filter_append ..
@[simp] theorem ofMatter_nil (k : NoticeKind) (n : Nat) : ofMatter k n [] = [] := rfl
@[simp] theorem ofMatter_cons (k : NoticeKind) (m : Nat) (n : Nat × NoticeBody) (ns : List (Nat × NoticeBody)) :
    ofMatter k m (n :: ns) = if n.2.kind = k ∧ n.1 = m then n :: ofMatter k m ns else ofMatter k m ns := by
  unfold ofMatter; rw [ofKind_cons]; by_cases h : n.2.kind = k <;> simp [h, List.filter_cons]
@[simp] theorem ofMatter_append (k : NoticeKind) (n : Nat) (a b : List (Nat × NoticeBody)) :
    ofMatter k n (a ++ b) = ofMatter k n a ++ ofMatter k n b := by
  unfold ofMatter; rw [ofKind_append, List.filter_append]

/-- The notices are of the kinds that `p` admits. -/
abbrev ofKinds (ns : List (Nat × NoticeBody)) (p : NoticeKind → Prop) : Prop := ∀ n ∈ ns, p n.2.kind

theorem ofKind_none {ns : List (Nat × NoticeBody)} {p : NoticeKind → Prop} (h : ofKinds ns p) {k : NoticeKind} (hk : ¬ p k) :
    ofKind k ns = [] := by
  unfold ofKind; rw [List.filter_eq_nil_iff]; intro n hn; simp only [decide_eq_true_eq]; rintro rfl; exact hk (h n hn)

theorem ofMatter_none {ns : List (Nat × NoticeBody)} {p : NoticeKind → Prop} (h : ofKinds ns p) {k : NoticeKind} (hk : ¬ p k) (m : Nat) :
    ofMatter k m ns = [] := by unfold ofMatter; rw [ofKind_none h hk]; rfl

theorem ofKinds_append {a b : List (Nat × NoticeBody)} {p : NoticeKind → Prop} (h1 : ofKinds a p) (h2 : ofKinds b p) :
    ofKinds (a ++ b) p := by intro n hn; rcases List.mem_append.1 hn with h | h; exacts [h1 n h, h2 n h]

/-- An operation posts notices that `p` admits, and no others. -/
def State.postedOnly (s' s : State) (p : NoticeKind → Prop) : Prop := ∃ ns, s'.posted s ns ∧ ofKinds ns p

theorem State.postedOnly_trans {s s1 s2 : State} {p : NoticeKind → Prop} (h1 : s1.postedOnly s p) (h2 : s2.postedOnly s1 p) :
    s2.postedOnly s p := by
  obtain ⟨a, h1, k1⟩ := h1
  obtain ⟨b, h2, k2⟩ := h2
  exact ⟨a ++ b, State.posted_trans h1 h2, ofKinds_append k1 k2⟩

theorem State.postedOnly_nil {s' s : State} (p : NoticeKind → Prop) (ht : s'.timebase = s.timebase) (hc : s'.cli = s.cli) :
    s'.postedOnly s p := ⟨[], State.posted_nil ht hc, by intro n hn; cases hn⟩

theorem State.postedOnly_one (s : State) (n : Nat) (b : NoticeBody) (p : NoticeKind → Prop) (h : p b.kind) :
    (s.post n b).postedOnly s p := ⟨[(n, b)], ⟨rfl, rfl⟩, by simpa [ofKinds] using h⟩

theorem State.postedOnly_of {s s0 s1 : State} {p : NoticeKind → Prop} (h1 : s1.postedOnly s0 p) (ht : s0.timebase = s.timebase)
    (hc : s0.cli = s.cli) : s1.postedOnly s p := by obtain ⟨a, h, k⟩ := h1; exact ⟨a, State.posted_of h ht hc, k⟩

theorem State.postedOnly_same {s s1 s2 : State} {p : NoticeKind → Prop} (h1 : s1.postedOnly s p) (ht : s2.timebase = s1.timebase)
    (hc : s2.cli = s1.cli) : s2.postedOnly s p := by obtain ⟨a, h, k⟩ := h1; exact ⟨a, State.posted_same h ht hc, k⟩

/-! ## The chime unit posts CHIME notices alone -/

/-- The kind of the chime unit's notices. -/
abbrev chimeOnly (k : NoticeKind) : Prop := k = .chime

theorem State.endChime_posts (s : State) (ch : Chime) (o : ChimeOutcome) : (s.endChime ch o).postedOnly s chimeOnly := by
  unfold State.endChime
  cases ch.origin
  · exact State.postedOnly_one _ _ _ _ rfl
  all_goals exact State.postedOnly_nil _ rfl rfl

theorem State.joinQueue_posts (s : State) (ch : Chime) : (s.joinQueue ch).1.postedOnly s chimeOnly := by
  unfold State.joinQueue
  split
  · exact State.postedOnly_nil _ rfl rfl
  · split
    · exact State.postedOnly_nil _ rfl rfl
    · split
      · exact State.postedOnly_of (State.endChime_posts _ _ _) rfl rfl
      · exact State.postedOnly_nil _ rfl rfl

theorem State.preempted_posts (s : State) (w : Option Playing) : (s.preempted w).postedOnly s chimeOnly := by
  unfold State.preempted
  cases w with
  | none => exact State.postedOnly_nil _ rfl rfl
  | some p =>
    simp only []
    split
    · split
      · exact State.joinQueue_posts _ _
      · exact State.postedOnly_trans (State.joinQueue_posts _ _) (State.endChime_posts _ _ _)
    · exact State.endChime_posts _ _ _

theorem State.preempt_posts (s : State) (ch : Chime) : (s.preempt ch).postedOnly s chimeOnly := by
  unfold State.preempt
  simp only []
  generalize hx : ({ s with chu := _ } : State) = x
  generalize (if s.chu.blocks .v1 ch.zones then s.chu.voice1 else none) = a
  generalize (if s.chu.blocks .v2 ch.zones then s.chu.voice2 else none) = b
  refine State.postedOnly_same (s1 := (x.preempted a).preempted b)
    (State.postedOnly_of (State.postedOnly_trans (State.preempted_posts x a) (State.preempted_posts _ b)) ?_ ?_) (by simp) (by simp)
    <;> subst hx <;> rfl

theorem State.arrive_posts (s : State) (r : ChimeRequest) : (s.arrive r).1.postedOnly s chimeOnly := by
  unfold State.arrive
  simp only []
  split
  · exact State.postedOnly_nil _ (by simp) (by simp)
  · split
    · exact State.postedOnly_nil _ rfl rfl
    · split
      · exact State.postedOnly_of (State.preempt_posts _ _) rfl rfl
      · split
        · exact State.postedOnly_of (State.joinQueue_posts _ _) rfl rfl
        · exact State.postedOnly_nil _ rfl rfl

theorem State.judgePark_posts (s : State) : s.judgePark.postedOnly s chimeOnly := by
  unfold State.judgePark
  simp only []
  split
  · split
    · exact State.postedOnly_nil _ rfl rfl
    · exact State.postedOnly_of (State.arrive_posts _ _) rfl rfl
  · split
    · exact State.postedOnly_nil _ (by simp) (by simp [State.removeChime_cli])
    · exact State.postedOnly_nil _ rfl rfl

theorem State.reverseChime_posts (s : State) (a b : RvcState) : (s.reverseChime a b).postedOnly s chimeOnly := by
  unfold State.reverseChime
  split
  · unfold State.engageChime; split; exacts [State.arrive_posts _ _, State.postedOnly_nil _ rfl rfl]
  · unfold State.engageChime; split; exacts [State.arrive_posts _ _, State.postedOnly_nil _ rfl rfl]
  · exact State.postedOnly_same (State.arrive_posts _ _) rfl rfl
  · exact State.postedOnly_same (State.arrive_posts _ _) rfl rfl
  · exact State.postedOnly_nil _ rfl rfl

/-! ## The compositor posts a ROUTE notice for a row that changes -/

theorem State.judgeFront_posts (s : State) : s.judgeFront.posted s (s.judgeFront.cmp.front.routeTold s.cmp.front .fro) := by
  unfold State.judgeFront
  simp only []
  split
  · simp [Row.routeTold]; exact ⟨rfl, rfl⟩
  · rename_i h
    have e : (((s.setFront { s.cmp.front with
        effective := (frontSource s.rvcOff s.cmp.preview s.cmp.filmLock s.cmp.front.routed).1,
        cause := (frontSource s.rvcOff s.cmp.preview s.cmp.filmLock s.cmp.front.routed).2 }).post 1
          (.route (frontSource s.rvcOff s.cmp.preview s.cmp.filmLock s.cmp.front.routed).1
            (frontSource s.rvcOff s.cmp.preview s.cmp.filmLock s.cmp.front.routed).2)).judgeGuidePlane).cmp.front.routeTold
        s.cmp.front .fro = [(1, .route (frontSource s.rvcOff s.cmp.preview s.cmp.filmLock s.cmp.front.routed).1
            (frontSource s.rvcOff s.cmp.preview s.cmp.filmLock s.cmp.front.routed).2)] := by
      unfold Row.routeTold
      rw [if_neg]
      · rfl
      · rintro ⟨a, b⟩; exact h ⟨a.symm, b.symm⟩
    rw [e]; exact ⟨rfl, rfl⟩

/-- R102, R104: a rear row that is judged. -/
theorem State.judgeRear_posts (s : State) (i : Seat) :
    (s.judgeRear i).posted s (((s.judgeRear i).rearRow i).routeTold (s.rearRow i) (.ro i)) := by
  by_cases h : (s.rearRow i).effective = (s.rearRow i).routed ∧ (s.rearRow i).cause = .route
  · have e : s.judgeRear i = s := by unfold State.judgeRear; simp only []; rw [if_pos h]
    rw [e]; simp [Row.routeTold]; exact ⟨rfl, rfl⟩
  · have e : s.judgeRear i = ((s.setRearRow i { s.rearRow i with effective := (s.rearRow i).routed, cause := .route }).post
        (outputNo (.ro i)) (.route (s.rearRow i).routed .route)).judgeRearBanner i := by
      unfold State.judgeRear; simp only []; rw [if_neg h]
    have r : ((s.judgeRear i).rearRow i).effective = (s.rearRow i).routed ∧ ((s.judgeRear i).rearRow i).cause = .route := by
      rw [e]; cases i <;> exact ⟨rfl, rfl⟩
    unfold Row.routeTold
    rw [if_neg (by rw [r.1, r.2]; rintro ⟨a, b⟩; exact h ⟨a.symm, b.symm⟩), r.1, r.2, e]
    exact ⟨rfl, rfl⟩

theorem State.frontRouteTakesEffect_posts (s : State) :
    s.frontRouteTakesEffect.posted s (s.frontRouteTakesEffect.cmp.front.routeTold s.cmp.front .fro) := by
  have h := State.judgeFront_posts (s.setFront s.cmp.front.takePending)
  have r : ∀ x : Row, x.routeTold (s.setFront s.cmp.front.takePending).cmp.front .fro = x.routeTold s.cmp.front .fro := by
    intro x; unfold Row.routeTold Row.takePending State.setFront; cases s.cmp.front.pending <;> rfl
  rw [r] at h
  exact ⟨h.1, h.2⟩

theorem State.rearRouteTakesEffect_posts (s : State) (i : Seat) :
    (s.rearRouteTakesEffect i).posted s (((s.rearRouteTakesEffect i).rearRow i).routeTold (s.rearRow i) (.ro i)) := by
  have h := State.judgeRear_posts (s.setRearRow i (s.rearRow i).takePending) i
  have r : ∀ x : Row, x.routeTold ((s.setRearRow i (s.rearRow i).takePending).rearRow i) (.ro i) = x.routeTold (s.rearRow i) (.ro i) := by
    intro x; rw [State.rearRow_setRearRow_same]; unfold Row.routeTold Row.takePending; cases (s.rearRow i).pending <;> rfl
  rw [r] at h
  exact ⟨h.1, h.2⟩

theorem State.setFilmLock_posts (s : State) (e : Bool) :
    (s.setFilmLock e).posted s ((s.setFilmLock e).cmp.front.routeTold s.cmp.front .fro) := by
  unfold State.setFilmLock
  split
  · simp [Row.routeTold]; exact ⟨rfl, rfl⟩
  · exact State.judgeFront_posts _

theorem State.stopRear_posts (s : State) (i : Seat) :
    (s.stopRear i).posted s (((s.stopRear i).rearRow i).routeTold (s.rearRow i) (.ro i)) := by
  have h := State.rearRouteTakesEffect_posts (s.setRearRow i { s.rearRow i with frame := none, nextFrame := none }) i
  have r : ∀ x : Row, x.routeTold ((s.setRearRow i { s.rearRow i with frame := none, nextFrame := none }).rearRow i) (.ro i)
      = x.routeTold (s.rearRow i) (.ro i) := by
    intro x; rw [State.rearRow_setRearRow_same]; rfl
  have q : ∀ (x : State) (y : Row), ((x.judgeRearBanner i).rearRow i).routeTold y (.ro i) = (x.rearRow i).routeTold y (.ro i) := by
    intro x y; unfold State.judgeRearBanner; rw [State.rearRow_setRearRow_same]; rfl
  rw [r] at h
  unfold State.stopRear
  rw [q]
  exact ⟨h.1, h.2⟩

theorem State.rearFrame_posts (s : State) (i : Seat) :
    (s.rearFrame i).posted s (((s.rearFrame i).rearRow i).routeTold (s.rearRow i) (.ro i)) := by
  unfold State.rearFrame
  split
  · simp [Row.routeTold]; exact ⟨rfl, rfl⟩
  · have h := State.rearRouteTakesEffect_posts s i
    simp only [State.rearRow_setRearRow_same]
    exact ⟨h.1, h.2⟩

theorem State.startRear_posts (s : State) (i : Seat) :
    (s.startRear i).posted s (((s.startRear i).rearRow i).routeTold (s.rearRow i) (.ro i)) := by
  have h := State.rearFrame_posts (s.judgeRearBanner i) i
  have r : ∀ x : Row, x.routeTold ((s.judgeRearBanner i).rearRow i) (.ro i) = x.routeTold (s.rearRow i) (.ro i) := by
    intro x; unfold State.judgeRearBanner; rw [State.rearRow_setRearRow_same]; rfl
  rw [r] at h
  exact ⟨h.1, h.2⟩

theorem State.frontFrame_posts (s : State) :
    s.frontFrame.posted s (s.frontFrame.cmp.front.routeTold s.cmp.front .fro) := by
  have h := State.frontRouteTakesEffect_posts s
  exact ⟨h.1, h.2⟩

/-! ## The guide line engine, the feed ports and camera power -/

/-- The kinds that a new lock state brings besides its FEED notice. -/
theorem State.install_posts (s : State) : s.install.postedOnly s (· = .guide) := by
  unfold State.install
  split
  · exact State.postedOnly_nil _ rfl rfl
  · simp only []
    split
    · exact State.postedOnly_same (State.postedOnly_of (State.postedOnly_one _ _ _ _ rfl) rfl rfl) rfl rfl
    · exact State.postedOnly_nil _ rfl rfl

theorem State.lockToGuide_posts (s : State) (b : Bool) : (s.lockToGuide b).postedOnly s (· = .guide) := by
  unfold State.lockToGuide
  simp only []
  split
  · exact State.postedOnly_nil _ rfl rfl
  · exact State.postedOnly_of (State.install_posts _) rfl rfl

theorem State.frameToGuide_posts (s : State) (l : Lock) : (s.frameToGuide l).postedOnly s (· = .guide) := by
  unfold State.frameToGuide
  split
  · exact State.install_posts _
  · exact State.postedOnly_nil _ rfl rfl

/-- R22: the FEED notice of a new lock state stands first; for CAM a GUIDE notice may follow. -/
theorem State.lockChanged_posts (s : State) (f : Feed) (l : Lock) :
    ∃ rest, (s.lockChanged f l).posted s ((feedNo f, .feed l s.timebase) :: rest) ∧ ofKinds rest (· = .guide) ∧ (f ≠ .cam → rest = []) := by
  unfold State.lockChanged
  have h : ((s.post (feedNo f) (.feed l s.timebase)).lockToCompositor f).posted s [(feedNo f, .feed l s.timebase)] :=
    State.posted_same (State.posted_one _ _ _) (by simp) (by simp)
  simp only []
  split
  · obtain ⟨rest, hr, hk⟩ := State.lockToGuide_posts ((s.post (feedNo f) (.feed l s.timebase)).lockToCompositor f) (l = .locked)
    exact ⟨rest, State.posted_trans h hr, hk, fun hf => absurd ‹f = .cam› hf⟩
  · exact ⟨[], h, (fun n hn => by cases hn), fun _ => rfl⟩

/-- R23: a port that goes to NO_SIGNAL posts what follows from its lock state; the rows keep their sources. -/
theorem State.install_front (s : State) : s.install.cmp.front = s.cmp.front := by
  unfold State.install; split
  · rfl
  · simp only []; split <;> rfl

theorem State.lockToGuide_front (s : State) (b : Bool) : (s.lockToGuide b).cmp.front = s.cmp.front := by
  unfold State.lockToGuide; simp only []; split
  · rfl
  · exact State.install_front _

theorem State.lockToCompositor_front (s : State) (f : Feed) : (s.lockToCompositor f).cmp.front = s.cmp.front := by
  unfold State.lockToCompositor; simp only []; (repeat' split) <;> rfl

theorem State.lockChanged_front (s : State) (f : Feed) (l : Lock) : (s.lockChanged f l).cmp.front = s.cmp.front := by
  unfold State.lockChanged; simp only []; split
  · rw [State.lockToGuide_front, State.lockToCompositor_front]; rfl
  · rw [State.lockToCompositor_front]; rfl

theorem State.lockChanged_port (s : State) (f g : Feed) (l : Lock) : (s.lockChanged f l).port g = s.port g := by
  unfold State.port; rw [State.lockChanged_fdp]

theorem State.clearPort_front (s : State) (f : Feed) (e : Bool) : (s.clearPort f e).cmp.front = s.cmp.front := by
  unfold State.clearPort; simp only []; split
  · rfl
  · rw [State.lockChanged_front]; rfl

theorem State.judgeCameraPower_front (s : State) : s.judgeCameraPower.cmp.front = s.cmp.front := by
  unfold State.judgeCameraPower; simp only []; split
  · rfl
  · split
    · rfl
    · exact State.clearPort_front _ _ _

/-- R23: a port that goes to NO_SIGNAL posts its FEED notice when its lock state changes. -/
theorem State.clearPort_posts (s : State) (f : Feed) (e : Bool) :
    ∃ rest, (s.clearPort f e).posted s ((s.clearPort f e).feedTold s s.timebase f ++ rest) ∧ ofKinds rest (· = .guide)
      ∧ (f ≠ .cam → rest = []) := by
  have hl : ((s.clearPort f e).port f).lock = .noSignal := by
    unfold State.clearPort; simp only []; split <;> simp [Port.cleared, State.lockChanged_port]
  unfold State.feedTold
  rw [hl]
  by_cases h : (s.port f).lock = .noSignal
  · refine ⟨[], ?_, (fun n hn => by cases hn), fun _ => rfl⟩
    unfold State.clearPort; simp only []; rw [if_pos h, if_pos h.symm]
    exact State.posted_nil (by simp) (by simp)
  · obtain ⟨rest, h1, h2, h3⟩ := State.lockChanged_posts (s.setPort f { (s.port f).cleared with enabled := e }) f .noSignal
    refine ⟨rest, ?_, h2, h3⟩
    unfold State.clearPort; simp only []; rw [if_neg h, if_neg (fun k => h k.symm)]
    exact State.posted_of h1 (by simp) (by simp)

/-- The kinds of the notices that a change of camera power brings. -/
abbrev powerKinds (k : NoticeKind) : Prop := k = .feed ∨ k = .guide

theorem State.judgeCameraPower_posts (s : State) : s.judgeCameraPower.postedOnly s powerKinds := by
  unfold State.judgeCameraPower
  simp only []
  split
  · exact State.postedOnly_nil _ rfl rfl
  · split
    · exact State.postedOnly_nil _ (by simp) (by simp)
    · obtain ⟨rest, h1, h2, -⟩ := State.clearPort_posts ({ s with fdp := { s.fdp with camPower := !s.rvcOff || s.cmp.preview } } : State) .cam false
      refine ⟨_, State.posted_of h1 rfl rfl, ofKinds_append ?_ (fun n hn => .inr (h2 n hn))⟩
      intro n hn
      unfold State.feedTold at hn
      split at hn
      · cases hn
      · rw [List.mem_singleton] at hn; subst hn; exact .inl rfl

/-! ## A change of the reverse view controller (R36) -/

theorem State.reverseToCompositor_posts (s : State) (crossed : Bool) :
    (s.reverseToCompositor crossed).posted s ((s.reverseToCompositor crossed).cmp.front.routeTold s.cmp.front .fro) := by
  unfold State.reverseToCompositor
  cases crossed
  · have e : ∀ x : State, x.judgeFrontBanner.judgeGuidePlane.cmp.front.routeTold x.cmp.front .fro = [] := by
      intro x; simp [Row.routeTold, State.judgeFrontBanner, State.judgeGuidePlane, State.setFront]
    simp only [Bool.false_eq_true, if_false]
    generalize hx : ({ s with cmp := _ } : State) = x
    have hf : x.cmp.front = s.cmp.front := by subst hx; rfl
    rw [← hf, e x]
    subst hx; exact ⟨rfl, rfl⟩
  · simp only [if_true]
    generalize hx : ({ s with cmp := _ } : State) = x
    have h := State.judgeFront_posts x
    have ht : x.timebase = s.timebase := by subst hx; rfl
    have hc : x.cli = s.cli := by subst hx; rfl
    have hf : x.cmp.front = s.cmp.front := by subst hx; rfl
    rw [hf] at h
    exact State.posted_of h ht hc

/-- The kinds of the notices that stand behind the REVERSE notice of a change and the ROUTE notice of the front row. -/
abbrev answerKinds (k : NoticeKind) : Prop := k = .feed ∨ k = .guide ∨ k = .chime

theorem State.changeRvc_posts (s : State) (c : RvcChange) :
    ∃ rest, (s.changeRvc c).posted s ((0, .reverse c.state c.reason c.heldView s.rvc.edgeStamp) ::
        ((s.changeRvc c).cmp.front.routeTold s.cmp.front .fro ++ rest)) ∧ ofKinds rest answerKinds := by
  unfold State.changeRvc
  simp only []
  generalize hcr : (!decide (decide (s.rvc.state = .off) = decide (c.state = .off))) = crossed
  generalize hx : (if s.rvc.state = .fault then ({ s with rvc := s.rvc.changed c } : State).cancelFaultChime
    else { s with rvc := s.rvc.changed c }) = x
  have xt : x.timebase = s.timebase := by subst hx; split <;> simp
  have xc : x.cli = s.cli := by subst hx; split <;> simp
  have xm : x.cmp = s.cmp := by subst hx; split <;> simp
  have xn : x.rvc.notice = .reverse c.state c.reason c.heldView s.rvc.edgeStamp := by
    subst hx; split
    · unfold State.cancelFaultChime
      split
      · rfl
      · unfold Rvc.notice Rvc.edgeStamp Rvc.changed; simp [State.removeChime_rvc]
    · rfl
  rw [xn]
  generalize hp : x.post 0 (.reverse c.state c.reason c.heldView s.rvc.edgeStamp) = p
  have hpp : p.posted s [(0, .reverse c.state c.reason c.heldView s.rvc.edgeStamp)] := by
    subst hp; exact State.posted_of (State.posted_one _ _ _) xt xc
  have pm : p.cmp = s.cmp := by subst hp; exact xm
  have h1 := State.reverseToCompositor_posts p crossed
  generalize hq : p.reverseToCompositor crossed = q at h1
  obtain ⟨n2, h2, k2⟩ := State.judgeCameraPower_posts q
  have f2 : q.judgeCameraPower.cmp.front = q.cmp.front := State.judgeCameraPower_front q
  generalize q.judgeCameraPower = w at h2 f2
  have h3 : (w.reverseToGuide crossed).posted w [] := State.posted_nil (by simp) (by simp)
  have f3 : (w.reverseToGuide crossed).cmp.front = w.cmp.front := by simp
  generalize w.reverseToGuide crossed = y at h3 f3
  have h4 : (if crossed = true then y.judgePark else y).postedOnly y chimeOnly := by
    split; exacts [State.judgePark_posts _, State.postedOnly_nil _ rfl rfl]
  have f4 : (if crossed = true then y.judgePark else y).cmp.front = y.cmp.front := by split <;> simp
  generalize (if crossed = true then y.judgePark else y) = z at h4 f4
  obtain ⟨n4, h4, k4⟩ := h4
  obtain ⟨n5, h5, k5⟩ := State.reverseChime_posts z s.rvc.state c.state
  have f5 : (z.reverseChime s.rvc.state c.state).cmp.front = z.cmp.front := by simp
  refine ⟨n2 ++ (n4 ++ n5), ?_, ofKinds_append (fun n hn => ?_) (ofKinds_append (fun n hn => .inr (.inr (k4 n hn))) (fun n hn => .inr (.inr (k5 n hn))))⟩
  · rw [f5, f4, f3, f2]
    rw [pm] at h1
    have := State.posted_trans hpp (State.posted_trans h1 (State.posted_trans h2 (State.posted_trans h3 (State.posted_trans h4 h5))))
    simpa using this
  · rcases k2 n hn with h | h
    · exact .inl h
    · exact .inr (.inl h)

/-! ## What the chime unit leaves of the controller -/

/-- The controller's record but for the fault chime it holds. -/
abbrev Rvc.keeps (a b : Rvc) : Prop := a = { b with faultChime := a.faultChime }

theorem Rvc.keeps_trans {a b c : Rvc} (h1 : a.keeps b) (h2 : b.keeps c) : a.keeps c := by
  unfold Rvc.keeps at *; rw [h1, h2]

theorem State.endChime_keeps (s : State) (ch : Chime) (o : ChimeOutcome) : (s.endChime ch o).rvc.keeps s.rvc := by
  unfold State.endChime
  cases ch.origin
  all_goals first | rfl | skip
  show (s.rvc.chimeEnded ch.handle).keeps s.rvc
  unfold Rvc.chimeEnded; split <;> rfl

theorem State.joinQueue_keeps (s : State) (ch : Chime) : (s.joinQueue ch).1.rvc.keeps s.rvc := by
  unfold State.joinQueue
  split
  · rfl
  · split
    · rfl
    · split
      · exact State.endChime_keeps _ _ _
      · rfl

theorem State.preempted_keeps (s : State) (w : Option Playing) : (s.preempted w).rvc.keeps s.rvc := by
  unfold State.preempted
  cases w with
  | none => rfl
  | some p =>
    simp only []
    split
    · split
      · exact State.joinQueue_keeps _ _
      · exact Rvc.keeps_trans (State.endChime_keeps _ _ _) (State.joinQueue_keeps _ _)
    · exact State.endChime_keeps _ _ _

theorem State.preempt_keeps (s : State) (ch : Chime) : (s.preempt ch).rvc.keeps s.rvc := by
  unfold State.preempt
  simp only [State.fill_rvc, State.place_rvc]
  exact Rvc.keeps_trans (State.preempted_keeps _ _) (State.preempted_keeps _ _)

theorem State.arrive_keeps (s : State) (r : ChimeRequest) : (s.arrive r).1.rvc.keeps s.rvc := by
  unfold State.arrive
  simp only []
  split
  · rw [State.place_rvc]
  · split
    · rfl
    · split
      · exact State.preempt_keeps _ _
      · split
        · exact State.joinQueue_keeps _ _
        · rfl

theorem State.removeChime_keeps (s : State) (p : Chime → Bool) : (s.removeChime p).rvc = s.rvc := by
  unfold State.removeChime; (repeat' split) <;> simp

theorem State.cancelFaultChime_keeps (s : State) : s.cancelFaultChime.rvc.keeps s.rvc := by
  unfold State.cancelFaultChime; split
  · rfl
  · rw [State.removeChime_keeps]

theorem State.judgePark_keeps (s : State) : s.judgePark.rvc.keeps s.rvc := by
  unfold State.judgePark
  simp only []
  split
  · split
    · rfl
    · exact State.arrive_keeps _ _
  · split
    · rw [State.removeChime_keeps]
    · rfl

theorem State.reverseChime_keeps (s : State) (a b : RvcState) : (s.reverseChime a b).rvc.keeps s.rvc := by
  have he : s.engageChime.rvc.keeps s.rvc := by unfold State.engageChime; split; exacts [State.arrive_keeps _ _, rfl]
  have hf : s.faultChime.rvc.keeps s.rvc := by
    unfold State.faultChime
    have := State.arrive_keeps s ⟨3, ZoneSet.frontOnly, 7, .repeat, .reverse⟩
    exact Rvc.keeps_trans (b := (s.arrive ⟨3, ZoneSet.frontOnly, 7, .repeat, .reverse⟩).1.rvc) rfl this
  unfold State.reverseChime
  split <;> first | exact he | exact hf | rfl

/-! ## What a removal, a cancel and the park beep leave -/

theorem State.removeChime_removes (s : State) (which : Chime → Bool) : (s.removeChime which).removesFrom s which := by
  unfold State.removeChime
  have no : ∀ (v : Voice), (∀ q, s.chu.voice v = some q → which q.chime = false) → voiceHas (s.chu.voice v) which = false := by
    intro v h
    unfold voiceHas
    cases hw : s.chu.voice v with
    | none => rfl
    | some q => exact h q hw
  refine ⟨fun v p hv hp hu => ?_, fun h => ?_⟩
  · cases v
    · have h1 : voiceHas s.chu.voice1 which = true := by rw [show s.chu.voice1 = some p from hv]; exact hp
      rw [if_pos h1]; rfl
    · have h1 : voiceHas s.chu.voice1 which = false := no .v1 (fun q hq => by
        rw [Bool.eq_false_iff]; intro hw; exact absurd (hu .v1 q hq hw) (by decide))
      have h2 : voiceHas s.chu.voice2 which = true := by rw [show s.chu.voice2 = some p from hv]; exact hp
      rw [if_neg (by rw [h1]; decide), if_pos h2]; rfl
  · have h1 : voiceHas s.chu.voice1 which = false := no .v1 (h .v1)
    have h2 : voiceHas s.chu.voice2 which = false := no .v2 (h .v2)
    rw [if_neg (by rw [h1]; decide), if_neg (by rw [h2]; decide)]

theorem State.cancelFaultChime_hushes (s : State) : s.cancelFaultChime.hushesFrom s := by
  unfold State.cancelFaultChime
  refine ⟨fun h => by rw [h], fun h hh => ?_⟩
  rw [hh]
  exact State.removeChime_removes _ _

theorem Chu.hasPark_iff (c : Chu) : c.hasPark = true ↔ ∃ ch ∈ c.records, ch.origin = .park := by
  unfold Chu.hasPark Chu.records voiceHas isPark
  cases c.voice1 <;> cases c.voice2 <;> simp [voiceChimes, List.any_eq_true, or_assoc]

theorem State.parkActive_iff (s : State) : s.parkActive = true ↔ s.rvc.state ≠ .off ∧ s.vin.obstacleWatch ≠ none
    ∧ ∃ d ∈ s.vin.obstacle, d < calFarLimit s.cal.working := by
  unfold State.parkActive Sys2Proof.Machine.parkActive State.rvcOff State.obstacleFresh State.image
  cases s.vin.obstacle <;> cases s.vin.obstacleWatch <;> simp

theorem State.judgePark_parks (s : State) : s.judgePark.parksFrom s := by
  unfold State.judgePark
  simp only []
  have hp : ∀ b, ({ s with chu := { s.chu with parkJudged := b } } : State).chu.hasPark = s.chu.hasPark := fun _ => rfl
  simp only [hp]
  refine ⟨fun ha hr => ?_, fun ha hr => ?_, fun ha hr => ?_, fun ha hr => ?_⟩
  · rw [(State.parkActive_iff s).2 ha, (Chu.hasPark_iff _).2 hr]; rfl
  · rw [(State.parkActive_iff s).2 ha, Bool.eq_false_iff.2 (fun h => hr ((Chu.hasPark_iff _).1 h))]
    exact ⟨_, State.arrive_arrives _ _⟩
  · rw [Bool.eq_false_iff.2 (fun h => ha ((State.parkActive_iff s).1 h)), Bool.eq_false_iff.2 (fun h => hr ((Chu.hasPark_iff _).1 h))]
    rfl
  · rw [Bool.eq_false_iff.2 (fun h => ha ((State.parkActive_iff s).1 h)), (Chu.hasPark_iff _).2 hr]
    exact State.removeChime_removes _ _

/-! ## A change of the controller, whole -/

/-- R36: what `changeRvc` leaves of the controller's record. -/
theorem State.changeRvc_keeps (s : State) (c : RvcChange) : (s.changeRvc c).rvc.keeps (s.rvc.changed c) := by
  unfold State.changeRvc
  simp only []
  generalize (!decide (decide (s.rvc.state = .off) = decide (c.state = .off))) = crossed
  refine Rvc.keeps_trans (State.reverseChime_keeps _ _ _) ?_
  refine Rvc.keeps_trans (b := ((if s.rvc.state = .fault then ({ s with rvc := s.rvc.changed c } : State).cancelFaultChime
    else { s with rvc := s.rvc.changed c }) : State).rvc) ?_ ?_
  · split
    · refine Rvc.keeps_trans (State.judgePark_keeps _) ?_; simp
    · simp
  · split
    · exact State.cancelFaultChime_keeps _
    · rfl

/-- R49: the stamp a REVERSE notice carries is that of the latest edge. -/
theorem Rvc.edgeStamp_latest (r : Rvc) (e : Stamp) (h : r.latestAt e) : r.edgeStamp = e := by
  unfold Rvc.edgeStamp
  rcases h with ⟨h1, h2⟩ | ⟨h1, h2⟩ <;> simp [h1, h2]

/-- R36, R49, R104: what a change of the controller tells the host. -/
theorem State.changeRvc_tells (s : State) (c : RvcChange) (hc : c.state ≠ s.rvc.state) :
    ∃ ns, (s.changeRvc c).posted s ns ∧ (s.changeRvc c).rvc.tells s.rvc ns
      ∧ ofMatter .route 1 ns = (s.changeRvc c).cmp.front.routeTold s.cmp.front .fro
      ∧ ofKinds ns (fun k => k = .reverse ∨ k = .route ∨ answerKinds k) := by
  obtain ⟨rest, h, k⟩ := State.changeRvc_posts s c
  have hk := State.changeRvc_keeps s c
  have hr : ofKinds ((s.changeRvc c).cmp.front.routeTold s.cmp.front .fro) (· = .route) := by
    intro n hn; unfold Row.routeTold at hn; split at hn
    · cases hn
    · rw [List.mem_singleton] at hn; subst hn; rfl
  have hm : ofMatter .route 1 ((s.changeRvc c).cmp.front.routeTold s.cmp.front .fro) = (s.changeRvc c).cmp.front.routeTold s.cmp.front .fro := by
    unfold Row.routeTold; split
    · rfl
    · rfl
  refine ⟨_, h, ⟨fun he => ?_, fun _ => ⟨[], (s.changeRvc c).cmp.front.routeTold s.cmp.front .fro ++ rest, s.rvc.edgeStamp, ?_, fun e he => ?_, (fun n hn => by cases hn), ?_⟩⟩, ?_, ?_⟩
  · rw [hk] at he; exact absurd he hc
  · have e1 : (s.changeRvc c).rvc.state = c.state := by rw [hk]; rfl
    have e2 : (s.changeRvc c).rvc.reason = c.reason := by rw [hk]; rfl
    have e3 : (s.changeRvc c).rvc.heldView = c.heldView := by rw [hk]; rfl
    rw [e1, e2, e3]; rfl
  · have : s.rvc.latestAt e := by rw [hk] at he; exact he
    exact Rvc.edgeStamp_latest _ _ this
  · rw [ofKind_append, ofKind_none hr (by decide), ofKind_none k (by decide)]; rfl
  · rw [ofMatter_cons, if_neg (by rintro ⟨h, -⟩; cases h), ofMatter_append, ofMatter_none k (by decide), hm, List.append_nil]
  · intro n hn
    rcases List.mem_cons.1 hn with h | h
    · subst h; exact .inl rfl
    · rcases List.mem_append.1 h with h | h
      · exact .inr (.inl (hr n h))
      · exact .inr (.inr (k n h))

/-- R42, R158: what a change of the controller asks of the chime unit. -/
theorem State.changeRvc_sounds (s : State) (c : RvcChange) (hc : c.state ≠ s.rvc.state)
    (hf : c.state = .fault → s.rvc.state = .cueing ∨ s.rvc.state = .live) : (s.changeRvc c).soundsFrom s := by
  have hk := State.changeRvc_keeps s c
  have es : (s.changeRvc c).rvc.state = c.state := by rw [hk]; rfl
  refine ⟨fun h => absurd (es ▸ h) hc, fun _ => ?_⟩
  rw [es]
  have ht : (s.changeRvc c).timebase = s.timebase := by simp
  have hv : (s.changeRvc c).vin = s.vin := by simp
  have hl : (s.changeRvc c).cal = s.cal := by simp
  have hear : ∀ x : State, x.timebase = s.timebase → x.vin = s.vin → x.cal = s.cal → x.rvc.state = c.state → x.hearsAs (s.changeRvc c) :=
    fun x a b d e => ⟨a.trans ht.symm, b.trans hv.symm, d.trans hl.symm, e.trans es.symm⟩
  let a : State := { s with rvc := s.rvc.changed c }
  let b := if s.rvc.state = .fault then a.cancelFaultChime else a
  let crossed := !decide (decide (s.rvc.state = .off) = decide (c.state = .off))
  let w := (((b.post 0 b.rvc.notice).reverseToCompositor crossed).judgeCameraPower).reverseToGuide crossed
  let d := if crossed then w.judgePark else w
  have e : s.changeRvc c = d.reverseChime s.rvc.state c.state := rfl
  have bk : b.rvc.keeps a.rvc ∧ b.timebase = s.timebase ∧ b.vin = s.vin ∧ b.cal = s.cal := by
    unfold b; split
    · exact ⟨State.cancelFaultChime_keeps _, by simp [a], by simp [a], by simp [a]⟩
    · exact ⟨rfl, rfl, rfl, rfl⟩
  have hcr : (crossed = true ↔ (s.rvc.state = .off ∨ c.state = .off)) := by
    unfold crossed; by_cases h1 : s.rvc.state = .off <;> by_cases h2 : c.state = .off <;> simp [h1, h2]
    exact hc (h2.trans h1.symm)
  have wr : w.rvc = b.rvc := by unfold w; simp
  refine ⟨a, b, w, d, s.changeRvc c, ⟨rfl, rfl, hear _ rfl rfl rfl rfl⟩, fun h => ?_, fun h => ?_, ⟨?_, wr, hear _ ?_ ?_ ?_ ?_⟩, fun h => ?_, fun h1 h2 => ?_, ⟨?_, ?_, ?_⟩, rfl, rfl⟩
  · unfold b; rw [if_pos h]; exact State.cancelFaultChime_hushes a
  · unfold b; rw [if_neg h]
  · unfold w; simp
  · unfold w; simp [bk.2.1]
  · unfold w; simp [bk.2.2.1]
  · unfold w; simp [bk.2.2.2]
  · rw [wr, bk.1]; rfl
  · unfold d; rw [if_pos (hcr.2 h)]; exact State.judgePark_parks w
  · unfold d; rw [if_neg]; intro h; rcases hcr.1 h with h | h; exacts [h1 h, h2 h]
  · rintro ⟨h1, h2⟩ he
    have dc : d.cal = s.cal := by unfold d; split <;> (unfold w; simp [bk.2.2.2])
    have : s.changeRvc c = (d.arrive ⟨2, ZoneSet.frontOnly, 5, .once, .reverse⟩).1 := by
      have he' : calEngageChime d.image = true := by unfold State.image; rw [dc]; exact he
      rw [e, h1]; rcases h2 with h2 | h2 <;> rw [h2] <;> (show d.engageChime = _) <;> unfold State.engageChime <;> rw [if_pos he']
    rw [this]; exact ⟨_, State.arrive_arrives _ _⟩
  · intro h
    refine ⟨(d.arrive ⟨3, ZoneSet.frontOnly, 7, .repeat, .reverse⟩).1, _, State.arrive_arrives _ _, ?_⟩
    have : s.changeRvc c = d.faultChime := by rw [e, h]; rcases hf h with h2 | h2 <;> rw [h2] <;> rfl
    rw [this]; unfold State.faultChime
    generalize d.arrive ⟨3, ZoneSet.frontOnly, 7, .repeat, .reverse⟩ = a
    obtain ⟨x, k⟩ := a
    cases k <;> rfl
  · intro h1 h2
    have dc : d.cal = s.cal := by unfold d; split <;> (unfold w; simp [bk.2.2.2])
    rw [e]
    unfold State.reverseChime
    have off : ∀ k, s.rvc.state = k → c.state = .live → (k = .off ∨ k = .cueing) → d.engageChime = d := by
      intro k hk hl ho
      have := h1 ⟨hl, by rw [hk]; exact ho⟩
      unfold State.engageChime State.image; rw [dc, this]; rfl
    split
    · exact off .off (by assumption) (by assumption) (.inl rfl)
    · exact off .cueing (by assumption) (by assumption) (.inr rfl)
    · exact absurd (by assumption) h2
    · exact absurd (by assumption) h2
    · rfl

/-! ## The exit of a link (R75) -/

/-- R132: what a close tells. -/
theorem State.closeMenu_posts (s : State) (i : Seat) (reason : CloseReason) :
    (s.closeMenu i reason false).posted s (if (s.ctx i).stack = [] then [] else [(seatNo i, .menuClosed reason)]) := by
  unfold State.closeMenu MenuContext.isOpen
  cases h : (s.ctx i).stack with
  | nil => exact ⟨rfl, rfl⟩
  | cons e rest => exact ⟨rfl, rfl⟩

/-- R140: what a release tells. -/
theorem State.releaseKey_posts (s : State) (i : Seat) :
    (s.releaseKey i false).posted s (match (s.seat i).held with
      | some k => if (s.seat i).forwarded = true then [(seatNo i, .key k .release)] else []
      | none => []) := by
  unfold State.releaseKey
  simp only []
  cases h : (s.seat i).held with
  | none => exact ⟨rfl, rfl⟩
  | some k => cases hf : (s.seat i).forwarded <;> exact ⟨rfl, rfl⟩

theorem SeatRec.handed_held (r : SeatRec) (v : Nat) (h : Handing) : (r.handed v h).held = r.held ∧ (r.handed v h).forwarded = r.forwarded := by
  cases h <;> exact ⟨rfl, rfl⟩

theorem State.takeAmbient_held (s : State) (i : Seat) (l : Option Nat) :
    ((s.takeAmbient i l).seat i).held = (s.seat i).held ∧ ((s.takeAmbient i l).seat i).forwarded = (s.seat i).forwarded := by
  unfold State.takeAmbient State.recomputeTarget
  simp only []
  split
  · unfold State.handBacklight
    simp only [State.seat_setSeat_same]
    exact SeatRec.handed_held _ _ _
  · simp

theorem State.fellBack_posts (s : State) (i : Seat) (before : Link) :
    (s.fellBack i before false).posted s ((if before.state = .streaming then
        ((s.fellBack i before false).rearRow i).routeTold (s.rearRow i) (.ro i)
        ++ (if (s.ctx i).stack = [] then [] else [(seatNo i, .menuClosed (if s.cli.mode = .run then .screenLost else .standby))])
      else [])
      ++ (match (s.seat i).held with
        | some k => if (s.seat i).forwarded = true then [(seatNo i, .key k .release)] else []
        | none => [])) := by
  unfold State.fellBack State.linkFellBack
  simp only []
  generalize ha : (if before.ambient.isSome = true then s.takeAmbient i none else s) = a
  have h1 : a.timebase = s.timebase ∧ a.cli = s.cli ∧ a.cmp = s.cmp ∧ a.mnu = s.mnu ∧ (a.seat i).held = (s.seat i).held
      ∧ (a.seat i).forwarded = (s.seat i).forwarded := by
    subst ha; split
    · exact ⟨by simp, by simp, by simp, by simp, (State.takeAmbient_held _ _ _).1, (State.takeAmbient_held _ _ _).2⟩
    · exact ⟨rfl, rfl, rfl, rfl, rfl, rfl⟩
  clear ha
  obtain ⟨at', ac, am, an, ah, af⟩ := h1
  have ar : a.rearRow i = s.rearRow i := by unfold State.rearRow; rw [am]
  have ax : a.ctx i = s.ctx i := by unfold State.ctx; rw [an]
  by_cases hs : before.state = .streaming
  · simp only [if_pos hs]
    have h1 := State.stopRear_posts a i
    have h2 := State.closeMenu_posts (a.stopRear i) i (if (a.stopRear i).inRun then .screenLost else .standby)
    have h3 := State.releaseKey_posts ((a.stopRear i).screenLost i false) i
    have e1 : ((a.stopRear i).screenLost i false).seat i = a.seat i := by simp [State.seat]
    have e2 : (a.stopRear i).ctx i = a.ctx i := by simp [State.ctx]
    have e3 : (a.stopRear i).inRun = decide (s.cli.mode = .run) := by unfold State.inRun; simp [ac]
    have e4 : ∀ x : SeatRec, (((((a.stopRear i).screenLost i false).releaseKey i false).setSeat i x).rearRow i) = (a.stopRear i).rearRow i := by
      intro x; unfold State.screenLost State.closeMenu; split <;> simp [State.rearRow, State.emptyMenu, State.setMenuPlane]
    rw [e1, ah, af] at h3
    rw [e2, ax] at h2
    rw [ar] at h1
    rw [e4]
    have h2 : ((a.stopRear i).screenLost i false).posted (a.stopRear i) _ := h2
    simp only [e3, decide_eq_true_eq] at h2
    have := State.posted_of (State.posted_trans h1 (State.posted_trans h2 h3)) at' ac
    refine State.posted_same (s1 := ((a.stopRear i).screenLost i false).releaseKey i false) ?_ rfl rfl
    simpa using this
  · simp only [if_neg hs, List.nil_append]
    have h3 := State.releaseKey_posts a i
    rw [ah, af] at h3
    exact State.posted_same (s1 := a.releaseKey i false) (State.posted_of h3 at' ac) rfl rfl

/-- R75: the notices of an exit: the LINK notice, then the neighbours'. -/
theorem State.exit_posts (s : State) (i : Seat) (l : Link) :
    let s' := ((s.setLink i l).postLink i).fellBack i (s.link i) false
    s'.posted s ((seatNo i, .link l.state l.reason) :: s'.exitTold s i) := by
  intro s'
  have h1 : ((s.setLink i l).postLink i).posted s [(seatNo i, .link l.state l.reason)] := by
    unfold State.postLink; rw [State.link_setLink_same]; exact ⟨rfl, rfl⟩
  have h2 := State.fellBack_posts ((s.setLink i l).postLink i) i (s.link i)
  have e1 : ((s.setLink i l).postLink i).rearRow i = s.rearRow i := rfl
  have e2 : ((s.setLink i l).postLink i).ctx i = s.ctx i := rfl
  have e3 : ((s.setLink i l).postLink i).seat i = s.seat i := rfl
  have e4 : ((s.setLink i l).postLink i).cli.mode = s.cli.mode := by simp
  rw [e1, e2, e3, e4] at h2
  exact State.posted_trans h1 h2

/-! ## Changes of the part mode and the restarts -/

theorem State.link_post (s : State) (n : Nat) (b : NoticeBody) (i : Seat) : (s.post n b).link i = s.link i := rfl

/-- R76: a link that is judged tells its entry to HAILING. -/
theorem State.judgeHailing_posts (s : State) (i : Seat) :
    (s.judgeHailing i).posted s ((s.judgeHailing i).linkTold s i) ∧ (∀ j, j ≠ i → (s.judgeHailing i).link j = s.link j) := by
  by_cases h : (s.link i).state = .detached ∧ s.inRun = true ∧ (s.link i).present = true ∧ (s.link i).settleTimer.isNone = true
  · have e : s.judgeHailing i = s.enterHailing i := by unfold State.judgeHailing; simp only []; rw [if_pos h]
    have el : (s.enterHailing i).link i = (s.link i).hailing s.timebase := by
      unfold State.enterHailing State.postLink; rw [State.link_post, State.link_setLink_same]
    refine ⟨?_, fun j hj => ?_⟩
    · unfold State.linkTold
      rw [e, el, if_neg (by rw [h.1]; simp [Link.hailing])]
      unfold State.enterHailing State.postLink
      rw [State.link_setLink_same]; exact ⟨rfl, rfl⟩
    · rw [e]; unfold State.enterHailing State.postLink
      rw [State.link_post, State.link_setLink_other _ hj]
  · have e : s.judgeHailing i = s := by unfold State.judgeHailing; simp only []; rw [if_neg h]
    rw [e]; unfold State.linkTold; rw [if_pos rfl]; exact ⟨⟨rfl, rfl⟩, fun _ _ => rfl⟩

/-- R7: the notices of the blocks on entry to RUN: those of the links, the first first (log entry 13). -/
theorem State.runEffects_posts (s : State) :
    s.runEffects.posted s (s.runEffects.linkTold s .s1 ++ s.runEffects.linkTold s .s2) := by
  unfold State.runEffects
  have h0 : s.enableFeeds.posted s [] := State.posted_nil (by simp) (by simp)
  have l0 : ∀ i, s.enableFeeds.link i = s.link i := by intro i; simp [State.link]
  obtain ⟨h1, k1⟩ := State.judgeHailing_posts s.enableFeeds .s1
  obtain ⟨h2, k2⟩ := State.judgeHailing_posts (s.enableFeeds.judgeHailing .s1) .s2
  have e1 : (((s.enableFeeds.judgeHailing .s1).judgeHailing .s2).startFrontFrames.linkTold s .s1)
      = (s.enableFeeds.judgeHailing .s1).linkTold s.enableFeeds .s1 := by
    have k : ((s.enableFeeds.judgeHailing .s1).judgeHailing .s2).startFrontFrames.link .s1
      = (s.enableFeeds.judgeHailing .s1).link .s1 := k2 .s1 (by decide)
    unfold State.linkTold; rw [k, l0]
  have e2 : (((s.enableFeeds.judgeHailing .s1).judgeHailing .s2).startFrontFrames.linkTold s .s2)
      = ((s.enableFeeds.judgeHailing .s1).judgeHailing .s2).linkTold (s.enableFeeds.judgeHailing .s1) .s2 := by
    unfold State.linkTold; rw [k1 .s2 (by decide), l0]; rfl
  rw [e1, e2]
  exact State.posted_same (s1 := (s.enableFeeds.judgeHailing .s1).judgeHailing .s2) (State.posted_of (State.posted_trans h1 h2) h0.1 h0.2) rfl rfl

theorem State.enterRun_posts (s : State) (cause : ModeCause) :
    (s.enterRun cause).posted (s.setMode .run)
      ((s.enterRun cause).linkTold s .s1 ++ (s.enterRun cause).linkTold s .s2 ++ [(0, .mode .run cause)]) := by
  have h := State.runEffects_posts (s.setMode .run)
  have e : ∀ i, (s.enterRun cause).linkTold s i = (s.setMode .run).runEffects.linkTold (s.setMode .run) i := by
    intro i; unfold State.linkTold State.enterRun State.postMode; rw [State.link_post]; rfl
  have m : (s.setMode .run).runEffects.cli.mode = .run := by simp [State.setMode]
  rw [e, e]
  unfold State.enterRun State.postMode
  rw [m]
  exact State.posted_trans h (State.posted_one _ _ _)

end Sys2Proof.Machine
end

