-- ==== Sys2Proof/Tests/Slice0.lean ====
section
/-! SUPPORT. Tests: the checks of WellFormed, worked examples of the manual, and for every obligation with hypotheses a witness:
a concrete state and operands that meet the hypotheses of each of its clauses, at a boundary value where a clause has a range. -/

namespace Sys2Proof.Tests

open Sys2Proof.Machine

set_option maxRecDepth 20000

/-! ## Small states -/

/-- A running part in RUN with the built-in calibration, every block as after a cold start. -/
def base : State :=
  { State.reset with phase := .running, cli := { State.reset.cli with mode := .run, lineMap := List.replicate 4 ⟨0, false⟩ } }

def inStandby (s : State) : State := { s with cli := { s.cli with mode := .standby } }

/-- The state with one request that waits. -/
def asking (code : Byte) (payload : List Byte) (s : State) : State :=
  { s with cli := { s.cli with queue := [⟨7, code, payload, none⟩] } }

/-- The state whose transmitter sends, so that the end of an event begins no frame. -/
def busy (s : State) : State := { s with cli := { s.cli with tx := some ⟨.refusal, [], 0⟩ } }

def withRvc (r : Rvc) (s : State) : State := { s with rvc := r }

def inState (st : RvcState) (s : State) : State := { s with rvc := { s.rvc with state := st } }

def withImage (im : List Int) (s : State) : State := { s with cal := { s.cal with working := im } }

/-- Link 1 replaced. -/
def linked (l : Link) : State := { base with rsl := ⟨l, base.rsl.two⟩ }

def linkIn (st : LinkState) : Link := { base.rsl.one with state := st, present := true }

def withPort (f : Feed) (p : Port) (s : State) : State := { s with fdp := s.fdp.setPort f p }

/-- What a step leaves, for a command that answers a next state. -/
def after (c : Instr) (s : State) : State :=
  match exec c s with
  | .next s' => s'
  | .fault _ => s
  | .refused _ => s

/-! ## WellFormed refuses what cannot arise -/

theorem test_offers_too_short : (Instr.offers 0 .s1 [1]).wellFormed = false := by decide

theorem test_status_without_its_events : (Instr.status 0 .s2 [0, 50, 1]).wellFormed = false := by decide

theorem test_status_with_five_events :
    (Instr.status 0 .s1 ([0, 50, 5] ++ List.replicate 10 1)).wellFormed = false := by decide

theorem test_bad_message_that_passes : (Instr.badLinkMessage 0 .s1 (message 0x82 [])).wellFormed = false := by decide

theorem test_faulty_image_of_wrong_length : (Instr.programmingComplete 0 (some ⟨[0], 0⟩)).wellFormed = false := by decide

theorem test_faulty_value_out_of_range :
    (Instr.programmingComplete 0 (some ⟨2147483648 :: builtinImage.tail, 0⟩)).wellFormed = false := by decide

theorem test_wellFormed_commands :
    (Instr.offers 0 .s1 [0, 0]).wellFormed = true ∧ (Instr.status 0 .s2 [0, 255, 0]).wellFormed = true
    ∧ (Instr.badLinkMessage 0 .s1 [0x81]).wellFormed = true ∧ (Instr.programmingComplete 0 none).wellFormed = true := by decide

/-! ## Witnesses: the machine, reset and the start mode -/

theorem witness_StepRunsTheFrontCommand :
    ({ State.reset with pending := [.identify 0] } : State).pending = .identify 0 :: [] ∧ State.reset.pending = [] := by decide

theorem witness_BlocksWaitForTheStartMode :
    State.reset.phase ≠ .running ∧ ({ State.reset with phase := .held } : State).phase = .held := by decide

def oneGoodSlot : Cal := { State.reset.cal with slot2 := ⟨.written [] (imageCheck []), .good⟩ }

def oneGood : State := { base with cal := oneGoodSlot }

theorem witness_ColdStartEmptiesEveryBlock :
    ({ base with resetN := false } : State).resetN = false ∧ base.resetN = true
    ∧ oneGoodSlot.loadable .g2 [] ∧ (∀ m im, SlotNo.number .g2 < SlotNo.number m → ¬ oneGoodSlot.loadable m im)
    ∧ (∀ n image, ¬ base.cal.loadable n image) := by
  refine ⟨by decide, by decide, ⟨by decide, rfl⟩, ?_, ?_⟩
  · intro m im h
    cases m with
    | g1 => exact absurd h (by decide)
    | g2 => exact absurd h (by decide)
    | g3 => exact fun hl => nomatch hl.2
  · intro n image hl
    cases n <;> exact nomatch hl.2

def standbyImage : List Int := setField builtinImage 1 0 1

theorem witness_StartModeBegins :
    State.reset.phase = .loading ∧ State.reset.cli.selection.getD 0 false = true ∧ State.reset.cli.board = []
    ∧ calStartMode State.reset.cal.working = .run ∧ (State.reset.link .s1).state = .detached
    ∧ (State.reset.link .s1).settleTimer = none
    ∧ (withImage standbyImage State.reset).phase = .loading
    ∧ calStartMode (withImage standbyImage State.reset).cal.working = .standby := by decide

/-! ## Witnesses: the control link -/

def assembling : State := { base with cli := { base.cli with receiver := .assembling [0xA5] 5000 } }

theorem witness_ReceiverHuntsAndAssembles :
    base.phase = .running ∧ base.cli.receiver = .hunting
    ∧ assembling.phase = .running ∧ assembling.cli.receiver = .assembling [0xA5] 5000 ∧ reached 5000 5000 = true
    ∧ reached 4999 5000 = false := by decide

/-- The length byte: 240 is taken, 241 is not. -/
theorem witness_ReceiverHuntsAndAssembles_length :
    (after (.receiveByte 9 240 true) assembling).cli.receiver = .assembling [0xA5, 240] 2009
    ∧ (after (.receiveByte 9 241 true) assembling).cli.receiver = .hunting := by decide

theorem witness_CheckedRequestJoinsTheQueue :
    let s : State := { base with cli := { base.cli with complete := [frame 0x01 1 0x01 []] } }
    s.phase = .running ∧ s.cli.complete = frame 0x01 1 0x01 [] :: [] ∧ framePasses (frame 0x01 1 0x01 []) = true
    ∧ byteAt (frame 0x01 1 0x01 []) 2 = 1 ∧ s.cli.queue.length < 4 := by
  refine ⟨rfl, rfl, by decide, rfl, by decide⟩

theorem witness_FramesAndMessagesReadBack :
    (List.replicate 240 (0 : Byte)).length ≤ 240 ∧ (List.replicate 255 (0 : Byte)).length ≤ 255 := by decide

theorem witness_UnknownCodeLengthAndModeAreChecked :
    (asking 0x06 [] base).asks 0x06 [] ∧ knownCode 0x06 = false
    ∧ (requestRow (.modeSet 0)).isSome = true
    ∧ (asking 0x02 [] base).asks 0x02 [] ∧ (∀ row ∈ requestRow (.modeSet 0), row.code = 0x02 ∧ row.lengthOk [] = false)
    ∧ (asking 0x54 [1, 63] (inStandby base)).asks 0x54 [1, 63] ∧ (asking 0x54 [1, 63] (inStandby base)).cli.mode = .standby
    ∧ (∀ row ∈ requestRow (.seatRootSet 0), row.code = 0x54 ∧ row.lengthOk [1, 63] = true ∧ row.inStandby = false) := by decide

/-- The code 0x06 stands in no row of Table 1-3. -/
theorem witness_UnknownCodeLengthAndModeAreChecked_none : ∀ c row, requestRow c = some row → row.code ≠ 0x06 := by
  intro c row h
  cases c <;> cases h <;> decide

theorem witness_RefusedRequestChangesNothing :
    (asking 0x02 [2] base).asks 0x02 [2] ∧ (∀ row ∈ requestRow (.modeSet 0), row.code = 0x02)
    ∧ ((asking 0x02 [2] base).judge (lengthIs 1) true ownModeSet [2]).2.result = .badValue
    ∧ (∃ q ∈ (asking 0x02 [2] base).cli.queue.head?, q.reply = none)
    ∧ (asking 0xFF [] base).asks 0xFF [] ∧ knownCode 0xFF = false := by decide

def notice : BoardEntry := ⟨0, .start .powerOn, 0, false⟩

theorem witness_TransmitterTakesRefusalsThenAlternates :
    (busy base).cli.tx ≠ none
    ∧ base.cli.tx = none ∧ ({ base.cli with refusals := [⟨3, .queueFull⟩] } : Cli).refusals = ⟨3, .queueFull⟩ :: []
    ∧ base.cli.refusals = [] ∧ ({ base.cli with queue := [⟨7, 1, [], some (ok [])⟩] } : Cli).queue = ⟨7, 1, [], some (ok [])⟩ :: []
    ∧ base.cli.prevSort = .notice ∧ ({ base.cli with board := [notice] } : Cli).board = notice :: []
    ∧ base.cli.readyReply = none ∧ base.cli.board = [] := by decide

def sending (what : Sending) (s : State) : State := { s with cli := { s.cli with tx := some ⟨what, [], 35⟩ } }

def answered (code : Byte) : State := { base with cli := { base.cli with queue := [⟨7, code, [], some (ok [])⟩] } }

theorem witness_SentFrameFreesTheTransmitter :
    (sending .notice base).phase = .running ∧ (sending .notice base).cli.tx = some ⟨.notice, [], 35⟩ ∧ reached 35 35 = true
    ∧ (sending .reply (answered 1)).cli.tx = some ⟨.reply, [], 35⟩
    ∧ (sending .reply (answered 1)).cli.queue = ⟨7, 1, [], some (ok [])⟩ :: []
    ∧ (sending .reply (answered 1)).cli.warmPending = false := by decide

def warmPending : State := { sending .reply (answered 3) with cli := { (sending .reply (answered 3)).cli with warmPending := true } }

/-- While a warm restart is pending, the reply to an older IDENTIFY, one to a RESTART that was refused, and one whose entry has left
the queue. -/
theorem witness_SentFrameFreesTheTransmitter_older :
    let older := fun (queue : List Request) => { warmPending with cli := { warmPending.cli with queue := queue } }
    warmPending.phase = .running ∧ warmPending.cli.tx = some ⟨.reply, [], 35⟩ ∧ reached 35 35 = true
    ∧ (older [⟨7, 1, [], some ⟨.ok, []⟩⟩]).cli.queue = ⟨7, 1, [], some ⟨.ok, []⟩⟩ :: []
    ∧ (older [⟨7, 1, [], some ⟨.ok, []⟩⟩]).cli.warmPending = true ∧ (1 : Byte) ≠ 0x03
    ∧ (older [⟨7, 3, [], some ⟨.badLength, []⟩⟩]).cli.queue = ⟨7, 3, [], some ⟨.badLength, []⟩⟩ :: []
    ∧ (some ⟨.badLength, []⟩ : Option Reply) ≠ some ⟨.ok, []⟩ ∧ (older []).cli.queue = [] := by decide

/-- Link 1 hails a present partner, link 2 is DETACHED. -/
theorem witness_RestartLeadsToAWarmRestart_links :
    let s : State := { warmPending with rsl := ⟨linkIn .hailing, base.rsl.two⟩ }
    s.phase = .running ∧ s.cli.warmPending = true ∧ s.cli.tx = some ⟨.reply, [], 35⟩ ∧ s.cli.queue = ⟨7, 3, [], some ⟨.ok, []⟩⟩ :: []
    ∧ (s.link .s1).state ≠ .detached ∧ (s.link .s1).present = true ∧ (s.link .s2).state = .detached
    ∧ (s.link .s2).present ≠ true := by decide

theorem witness_RestartLeadsToAWarmRestart :
    (asking 0x03 [] base).asks 0x03 [] ∧ warmPending.cli.warmPending = true ∧ warmPending.phase = .running
    ∧ warmPending.cli.tx = some ⟨.reply, [], 35⟩ ∧ reached 35 35 = true
    ∧ warmPending.cli.queue = ⟨7, 3, [], some ⟨.ok, []⟩⟩ :: [] := by decide

def boardOf (n : Nat) : List BoardEntry := (List.range n).map (fun k => ⟨k, .chime .ended, 0, false⟩)

def withBoard (b : List BoardEntry) : State := { base with cli := { base.cli with board := b } }

theorem witness_PostMergesJoinsOrDrops :
    ({ base.cli with selection := [false] } : Cli).selection.getD (NoticeBody.start .warm).kind.index false = false
    ∧ base.cli.selection.getD (NoticeBody.start .warm).kind.index false = true
    ∧ (withBoard [notice]).cli.board = [] ++ notice :: [] ∧ notice.body.kind = (NoticeBody.start .warm).kind ∧ notice.source = 0
    ∧ (∀ e ∈ (withBoard (boardOf 23)).cli.board, ¬ (e.body.kind = (NoticeBody.chime .dropped).kind ∧ e.source = 99))
    ∧ (withBoard (boardOf 23)).cli.board.length < 24
    ∧ (∀ e ∈ (withBoard (boardOf 24)).cli.board, ¬ (e.body.kind = (NoticeBody.chime .dropped).kind ∧ e.source = 99))
    ∧ 24 ≤ (withBoard (boardOf 24)).cli.board.length
    ∧ ((withBoard (boardOf 24)).cli.board.map (fun e => (e.body.kind, e.source))).Nodup := by decide

theorem witness_NoticeSelectReplacesTheSelection :
    (asking 0x04 [] base).asks 0x04 [] ∧ ([] : List Byte).length ≠ 13
    ∧ (asking 0x04 (2 :: List.replicate 12 1) base).asks 0x04 (2 :: List.replicate 12 1)
    ∧ (2 :: List.replicate 12 (1 : Byte)).length = 13 ∧ (∃ b ∈ 2 :: List.replicate 12 (1 : Byte), 1 < b.toNat)
    ∧ (asking 0x04 (List.replicate 13 1) base).asks 0x04 (List.replicate 13 1)
    ∧ (List.replicate 13 (1 : Byte)).length = 13 ∧ (∀ b ∈ List.replicate 13 (1 : Byte), b.toNat ≤ 1)
    ∧ ({ base.cli with selection := [] } : Cli).selection.getD (NoticeBody.start .warm).kind.index false = false
    ∧ base.resetN = true := by decide

theorem witness_StatusLineMapSetsOneLine :
    (asking 0x05 [1, 2] base).asks 0x05 [1, 2] ∧ ([1, 2] : List Byte).length ≠ 3
    ∧ (asking 0x05 [4, 7, 1] base).asks 0x05 [4, 7, 1] ∧ 3 < (4 : Byte).toNat
    ∧ (asking 0x05 [3, 8, 1] base).asks 0x05 [3, 8, 1] ∧ 7 < (8 : Byte).toNat
    ∧ (asking 0x05 [3, 7, 2] base).asks 0x05 [3, 7, 2] ∧ 1 < (2 : Byte).toNat
    ∧ (asking 0x05 [3, 7, 1] base).asks 0x05 [3, 7, 1] ∧ (3 : Byte).toNat ≤ 3 ∧ (7 : Byte).toNat ≤ 7 ∧ (1 : Byte).toNat ≤ 1
    ∧ (asking 0x05 [3, 7, 1] base).cli.lineMap.length = 4 ∧ State.reset.phase = .loading := by decide

/-- The hypothesis of R17's last clause: a CALIBRATION WRITE answers a next state. -/
theorem witness_StatusLineMapSetsOneLine_write : ∃ s', exec (.calibrationWrite 0) base = .next s' := ⟨_, rfl⟩

theorem witness_StatusLinesFollowTheirConditions :
    State.reset.cli.lineMap = [] ∧ base.cli.lineMap[3]? = some ⟨0, false⟩ ∧ base.resetN = true
    ∧ (∃ e ∈ (withBoard [notice]).cli.board, e.body.kind = (NoticeBody.start .warm).kind ∧ e.source = 0)
    ∧ (inStandby base).standbyLaw ∧ ((inStandby base).phase ≠ .running → (inStandby base).cli.mode = .standby)
    ∧ (inStandby base).cli.mode = .standby ∧ step (inStandby base) = .next (inStandby base).tick := by
  refine ⟨rfl, rfl, rfl, ?_, ?_, ?_, rfl, rfl⟩ <;> decide

theorem witness_StatusRequestsOnlyReply :
    (asking 0x01 [] base).asks 0x01 [] ∧ (asking 0x20 [] base).asks 0x20 []
    ∧ (asking 0x34 [2] base).asks 0x34 [2] ∧ (asking 0x34 [2] base).cli.mode = .run ∧ (2 : Byte).toNat = seatNo .s2
    ∧ (asking 0x57 [1] base).asks 0x57 [1] ∧ (asking 0x57 [1] base).cli.mode = .run ∧ (1 : Byte).toNat = seatNo .s1
    ∧ (asking 0x73 [] base).asks 0x73 [] ∧ (asking 0x73 [] base).cli.mode = .run
    ∧ (asking 0x80 [46, 25] base).asks 0x80 [46, 25] ∧ fieldOffset (46 : Byte).toNat (25 : Byte).toNat = some 354
    ∧ (asking 0x80 [46, 26] base).asks 0x80 [46, 26] ∧ fieldOffset (46 : Byte).toNat (26 : Byte).toNat = none
    ∧ (asking 0x82 [] base).asks 0x82 []
    ∧ (asking 0x28 [5, 0] base).asks 0x28 [5, 0] ∧ (5 : Byte).toNat ≤ 5 ∧ (0 : Byte).getLsbD 0 = false := by decide

/-! ## Witnesses: part mode, feed ports -/

theorem witness_ModeSetChangesThePartMode :
    (asking 0x02 [2] base).asks 0x02 [2] ∧ 1 < (2 : Byte).toNat
    ∧ (asking 0x02 [0] base).asks 0x02 [0] ∧ (0 : Byte).toNat = (asking 0x02 [0] base).cli.mode.code
    ∧ (asking 0x02 [1] (inState .held base)).asks 0x02 [1] ∧ (inState .held base).cli.mode = .run
    ∧ (inState .held base).rvc.state ≠ .off
    ∧ (asking 0x02 [0] (inStandby base)).asks 0x02 [0] ∧ (asking 0x02 [0] (inStandby base)).cli.mode = .standby
    ∧ (asking 0x02 [1] base).asks 0x02 [1] ∧ (asking 0x02 [1] base).cli.mode = .run
    ∧ (asking 0x02 [1] base).rvc.state = .off := by decide

def camPort (lock : Lock) (good bad : Nat) : Port := ⟨true, lock, some ⟨1280, 720, 30⟩, some 0, good, bad, some 99999⟩

def camUp (p : Port) : State := { withPort .cam p base with fdp := { (withPort .cam p base).fdp with camPower := true } }

/-- The nominal period at 30 frames a second is 33333: 36666 is good, 36667 is bad. -/
theorem witness_FrameStartsDriveTheLock :
    base.phase = .running ∧ (base.port .cam).enabled = false
    ∧ (camUp (camPort .acquiring 3 0)).phase = .running ∧ ((camUp (camPort .acquiring 3 0)).port .cam).enabled = true
    ∧ (camUp (camPort .acquiring 3 0)).fdp.camPower = true
    ∧ ((camUp (camPort .acquiring 3 0)).port .cam).lastStamp = some 0
    ∧ 10 * (((36666#32 - 0#32).toNat : Int) - (nominalPeriod (camPort .acquiring 3 0).format : Int)).natAbs
        ≤ nominalPeriod (camPort .acquiring 3 0).format
    ∧ ¬ 10 * (((36667#32 - 0#32).toNat : Int) - (nominalPeriod (camPort .locked 4 2).format : Int)).natAbs
        ≤ nominalPeriod (camPort .locked 4 2).format
    ∧ (camPort .locked 4 2).lock = .locked ∧ 2 ≤ (camPort .locked 4 2).bad ∧ (camPort .locked 4 1).bad < 2
    ∧ (camPort .acquiring 2 0).good < 3 ∧ 3 ≤ (camPort .acquiring 3 0).good
    ∧ ((camUp (camPort .locked 4 0)).port .cam).watch = some 99999 ∧ reached 99999 99999 = true
    ∧ ((withPort .ff1 (camPort .locked 4 0) base).port .ff1).enabled = true ∧ Feed.ff1 ≠ .cam
    ∧ ((withPort .ff1 (camPort .locked 4 0) base).port .ff1).watch = some 99999 := by decide

def format (w h : Nat) (r : Byte) : List Byte := [2] ++ u16 w ++ u16 h ++ [r]

theorem witness_FeedFormatSetsThePort :
    (asking 0x11 (format 1920 1080 60) base).asks 0x11 (format 1920 1080 60) ∧ (format 1920 1080 60).length = 6
    ∧ base.cli.mode = .run ∧ byteAt (format 1920 1080 60) 0 = feedNo .ff1
    ∧ u16At (format 320 240 24) 1 = 320 ∧ u16At (format 320 240 24) 3 = 240 ∧ byteAt (format 320 240 24) 5 = 24
    ∧ u16At (format 1920 1080 60) 1 ≤ 1920 ∧ u16At (format 1920 1080 60) 3 ≤ 1080 ∧ byteAt (format 1920 1080 60) 5 ≤ 60
    ∧ u16At (format 319 240 24) 1 < 320 ∧ 1920 < u16At (format 1921 240 24) 1 ∧ u16At (format 320 239 24) 3 < 240
    ∧ 1080 < u16At (format 320 1081 24) 3 ∧ byteAt (format 320 240 23) 5 < 24 ∧ 60 < byteAt (format 320 240 61) 5 := by decide

/-! ## Witnesses: the gear line, the reverse view, vehicle values, the guide line engine -/

def gearAt (high : Bool) (gear : Gear) (c : Option GearCandidate) (s : State) : State :=
  { s with vin := { s.vin with gearRaw := high, gear := gear, candidate := c } }

def toReverse : State := gearAt true .notReverse (some ⟨.reverse, 10, 50010⟩) base

def fromReverse (st : RvcState) : State := inState st (gearAt false .reverse (some ⟨.notReverse, 10, 50010⟩) base)

def moving (s : State) : State := { s with vin := { s.vin with speed := 100, speedWatch := some 90000 } }

theorem witness_GearEdgesAndConfirmedGear :
    toReverse.phase = .running ∧ toReverse.vin.gearRaw = true ∧ toReverse.vin.gearRaw ≠ false ∧ toReverse.vin.candidate ≠ none
    ∧ base.vin.gearRaw ≠ true ∧ base.vin.candidate = none ∧ base.vin.gear = levelOf (!true)
    ∧ toReverse.vin.candidate = some ⟨.reverse, 10, 50010⟩ ∧ reached 50010 50010 = true
    ∧ toReverse.rvc.state = .off ∧ (toReverse.port .cam).lock ≠ .locked
    ∧ ((withPort .cam (camPort .locked 4 0) (inState .held toReverse)).port .cam).lock = .locked
    ∧ (inState .held toReverse).rvc.state = .held ∧ (inState .live toReverse).rvc.state = .live
    ∧ (fromReverse .cueing).vin.candidate = some ⟨.notReverse, 10, 50010⟩ ∧ (fromReverse .cueing).rvc.state = .cueing
    ∧ (fromReverse .live).rvc.state = .live ∧ (fromReverse .fault).rvc.state = .fault
    ∧ calHoldTime (setField builtinImage 8 0 0) = 0 ∧ calHoldTime base.cal.working ≠ 0
    ∧ (moving (fromReverse .live)).speedFresh = true
    ∧ calExitSpeed base.cal.working ≤ (moving (fromReverse .live)).vin.speed
    ∧ (fromReverse .live).speedFresh = false ∧ (fromReverse .held).rvc.state = .held := by decide

def cueing (e : Stamp) : State := withRvc { base.rvc with state := .cueing, cueDeadline := some e } base

def held (e : Stamp) : State := withRvc { base.rvc with state := .held, heldView := .camera, holdTimer := some e } base

theorem witness_CameraLockTimersAndDismissDriveTheController :
    (∀ st ∈ [RvcState.cueing, .fault, .off, .held],
      let s := inState st (camUp (camPort .acquiring 3 0))
      s.phase = .running ∧ (s.port .cam).enabled = true ∧ s.fdp.camPower = true ∧ (s.port .cam).lock = .acquiring
      ∧ (s.port .cam).good = 3 ∧ (s.port .cam).lastStamp = some 0
      ∧ 10 * (((30000#32 - 0#32).toNat : Int) - (nominalPeriod (s.port .cam).format : Int)).natAbs
          ≤ nominalPeriod (s.port .cam).format ∧ s.rvc.state = st)
    ∧ (∀ st ∈ [RvcState.live, .off, .held, .fault],
      let s := inState st (camUp (camPort .locked 4 2))
      s.phase = .running ∧ (s.port .cam).enabled = true ∧ s.fdp.camPower = true ∧ (s.port .cam).lock = .locked
      ∧ (s.port .cam).bad = 2 ∧ (s.port .cam).lastStamp = some 0 ∧ (s.port .cam).watch = some 99999 ∧ reached 99999 99999 = true
      ∧ ¬ 10 * (((29999#32 - 0#32).toNat : Int) - (nominalPeriod (s.port .cam).format : Int)).natAbs
          ≤ nominalPeriod (s.port .cam).format ∧ s.rvc.state = st)
    ∧ (cueing 2000).phase = .running ∧ (cueing 2000).rvc.state = .cueing ∧ (cueing 2000).rvc.cueDeadline = some 2000
    ∧ reached 2000 2000 = true
    ∧ (held 3000).phase = .running ∧ (held 3000).rvc.state = .held ∧ (held 3000).rvc.holdTimer = some 3000 ∧ reached 3000 3000 = true
    ∧ (asking 0x21 [] (held 3000)).asks 0x21 [] ∧ (asking 0x21 [] (held 3000)).cli.mode = .run
    ∧ (asking 0x21 [] (held 3000)).rvc.state = .held
    ∧ (asking 0x21 [] base).asks 0x21 [] ∧ (asking 0x21 [] base).rvc.state ≠ .held := by decide

/-- The cue deadline: the controller changes, and a latest edge has its stamp; the hold of a fault chime ends at a lock. -/
theorem witness_CameraLockTimersAndDismissDriveTheController_told :
    let s := withRvc { (cueing 2000).rvc with latestEdge := some .reverse, reverseStamp := some 90 } (cueing 2000)
    (after (.cueDeadlineExpiry 2000) s).rvc.state ≠ s.rvc.state ∧ (after (.cueDeadlineExpiry 2000) s).rvc.latestAt 90
    ∧ (after (.frameStart 33333 .cam) (camUp (camPort .locked 4 0))).rvc.state = (camUp (camPort .locked 4 0)).rvc.state
    ∧ s.fdp.camPower ≠ true ∧ ({ held 3000 with fdp := { base.fdp with camPower := true } } : State).fdp.camPower = true := by
  refine ⟨by decide, Or.inl ⟨by decide, by decide⟩, by decide, by decide, by decide⟩

/-- A report of speed 100, which is the exit speed, and every other field at its upper bound. -/
def report : List Byte := [0x0F] ++ u16 100 ++ i16 7800 ++ [100] ++ u16 5000

def tracking (s : State) : State := { s with gle := { s.gle with mode := .tracking } }

/-- A target of 100 under the report below, with a last sent level this far under it. -/
def lastSentUnder (n : Nat) : State :=
  { base with sct := { base.sct with seat := ⟨{ base.sct.seat.one with lastSent := some (100 - n) }, base.sct.seat.two⟩ } }

theorem witness_VehicleReportTakesThePresentFields :
    (asking 0x10 report (held 3000)).asks 0x10 report ∧ report.length = 8
    ∧ (held 3000).rvc.state = .held ∧ bitAt report 0 0 = true ∧ bitAt report 0 1 = true ∧ bitAt report 0 2 = true
    ∧ calExitSpeed (held 3000).cal.working ≤ min (u16At report 1) 3000
    ∧ (asking 0x10 report base).asks 0x10 report ∧ base.rvc.state ≠ .held
    ∧ ({ base.gle with mode := .tracking, inFlight := some base.guideInput } : Gle).mode = .tracking
    ∧ ({ base.gle with mode := .tracking, inFlight := some base.guideInput } : Gle).inFlight ≠ none
    ∧ (asking 0x10 report (tracking base)).asks 0x10 report ∧ (tracking base).gle.mode = .tracking
    ∧ (tracking base).gle.inFlight = none ∧ (tracking base).rvc.state ≠ .held
    ∧ (base.seat .s1).next.or (base.seat .s1).lastSent = none
    ∧ (let r := (lastSentUnder 2).seat .s1
       r.next.or r.lastSent = some 98 ∧ 2 ≤ ((backlightTarget r.policy r.threshold 100 r.ambient r.offset : Int) - (98 : Nat)).natAbs)
    ∧ (let r := (lastSentUnder 1).seat .s1
       r.next.or r.lastSent = some 99 ∧ ¬ 2 ≤ ((backlightTarget r.policy r.threshold 100 r.ambient r.offset : Int) - (99 : Nat)).natAbs)
    ∧ (asking 0x10 (List.replicate 8 0) base).asks 0x10 (List.replicate 8 0) ∧ (List.replicate 8 (0 : Byte)).length = 8
    ∧ bitAt (List.replicate 8 (0 : Byte)) 0 2 = false := by decide

/-- The source law holds in HELD with CAM shown, and in OFF. -/
theorem witness_VehicleReportTakesThePresentFields_law :
    let row := { base.cmp.front with effective := .cam, cause := .reverse }
    let s := asking 0x10 report { held 3000 with cmp := { base.cmp with front := row } }
    s.asks 0x10 report ∧ s.sourceLaw ∧ s.rvc.state = .held ∧ base.sourceLaw ∧ bitAt report 0 3 = true
    ∧ bitAt (List.replicate 8 (0 : Byte)) 0 3 = false := by decide

def watched : State :=
  { base with vin := { base.vin with speedWatch := some 500, steeringWatch := some 500, obstacleWatch := some 500 } }

theorem witness_VehicleWatchMakesAValueStale :
    watched.phase = .running ∧ reached 500 500 = true ∧ watched.vin.speedWatch = some 500 ∧ watched.vin.steeringWatch = some 500
    ∧ watched.vin.obstacleWatch = some 500 := by decide

def computing (locked : Bool) : State := { base with gle := { base.gle with inFlight := some base.guideInput, camLocked := locked } }

def emptyInput : GuideInput := ⟨none, [], 0, 0, [], [], [], 0, 0⟩

def emptySet : GuideSet := ⟨emptyInput, 0, [], [], [], [], []⟩

def pendingSet : State := { camUp (camPort .locked 4 1) with gle := { base.gle with camLocked := true, pending := some emptySet } }

theorem witness_ComputationsBecomePendingThenInstalled :
    (computing true).phase = .running ∧ (computing true).gle.inFlight = some base.guideInput ∧ (computing true).gle.camLocked = true
    ∧ (computing false).gle.camLocked = false
    ∧ pendingSet.phase = .running ∧ (pendingSet.port .cam).enabled = true ∧ (pendingSet.port .cam).lock = .locked
    ∧ (pendingSet.port .cam).bad ≤ 1 ∧ pendingSet.gle.pending = some emptySet
    ∧ (asking 0x28 [5, 1] base).asks 0x28 [5, 1] ∧ (5 : Byte).toNat ≤ 5 ∧ (1 : Byte).getLsbD 0 = true ∧ base.gle.inFlight = none
    ∧ (asking 0x28 [5, 1] (computing true)).asks 0x28 [5, 1]
    ∧ (asking 0x28 [6, 1] base).asks 0x28 [6, 1] ∧ 5 < (6 : Byte).toNat := by decide

/-! ## Witnesses: rear screen links -/

def hailing (count : Nat) : Link := { linkIn .hailing with hailCount := count, hailTimer := some 20000 }

theorem witness_LinkHailsAPresentPartner :
    base.phase = .running ∧ base.cli.mode = .run ∧ (base.link .s1).state = .detached ∧ (base.link .s1).settleTimer = none
    ∧ (inStandby base).phase = .running ∧ (inStandby base).cli.mode = .standby
    ∧ ((linked (linkIn .hailing)).link .s1).state ≠ .detached
    ∧ ((linked { linkIn .detached with settleTimer := some 200 }).link .s1).settleTimer ≠ none
    ∧ ((linked { linkIn .detached with settleTimer := some 200 }).link .s1).state = .detached
    ∧ ((linked { linkIn .detached with settleTimer := some 200 }).link .s1).present = true
    ∧ ((linked { linkIn .detached with settleTimer := some 200 }).link .s1).settleTimer = some 200 ∧ reached 200 200 = true
    ∧ ({ linkIn .detached with present := false } : Link).present = false
    ∧ ((linked { linkIn .recovery with holdOffTimer := some 200 }).link .s1).state = .recovery
    ∧ ((linked { linkIn .recovery with holdOffTimer := some 200 }).link .s1).holdOffTimer = some 200
    ∧ ((linked (hailing 4)).link .s1).state = .hailing ∧ ((linked (hailing 4)).link .s1).hailTimer = some 20000
    ∧ reached 20000 20000 = true ∧ ((linked (hailing 4)).link .s1).hailCount < 5 := by decide

def offer : Offer := ⟨1280, 720, 60, true, false⟩

/-- One offer of 1280 by 720 at 60, with audio, and a descriptor of four bytes. -/
def offersBody : List Byte := [1] ++ u16 1280 ++ u16 720 ++ [60, 1, 4, 1, 2, 3, 4]

def claiming : Link := { linkIn .claiming with offers := [offer], claimed := some 1, claimTimer := some 100 }

theorem witness_SelectionClaimsTheLargestRate :
    (linked (hailing 1)).phase = .running ∧ ((linked (hailing 1)).link .s1).state = .hailing ∧ offersSuits offersBody = true
    ∧ parseOffers offersBody = some ([offer], [1, 2, 3, 4])
    ∧ (linked claiming).phase = .running ∧ ((linked claiming).link .s1).state = .claiming
    ∧ ((linked claiming).link .s1).claimed = some 1 ∧ 1 ≤ 1
    ∧ 1 ≤ (List.replicate 6 offer).length ∧ (List.replicate 6 offer).length ≤ 6 ∧ (List.replicate 128 (0 : Byte)).length ≤ 128
    ∧ ∀ o ∈ List.replicate 6 (⟨3840, 2160, 60, false, false⟩ : Offer), 160 ≤ o.width ∧ o.width ≤ 3840 ∧ 120 ≤ o.height
      ∧ o.height ≤ 2160 ∧ 24 ≤ o.refresh ∧ o.refresh ≤ 60 ∧ o.rejected = false := by
  and_intros <;> decide

theorem witness_AcceptStartsStreaming :
    (linked claiming).phase = .running ∧ ((linked claiming).link .s1).state = .claiming
    ∧ ((linked claiming).link .s1).claimed = some 1 ∧ ((linked claiming).link .s1).offers[1 - 1]? = some offer
    ∧ ((linked claiming).link .s1).queue = [] ∧ ((linked claiming).link .s1).commandToggle = false := by
  and_intros <;> decide

def panelOn (tries : Nat) : Command := ⟨.panelPower true, true, tries⟩

def streaming (queue : List Command) (misses : Nat) : Link :=
  { linkIn .streaming with offers := [offer], agreement := some ⟨1, 1280, 720, 60, true, 0⟩, queue := queue, misses := misses,
                           pollTimer := some 10000 }

theorem witness_LinkFallsBackWithItsReason :
    ((linked (hailing 5)).link .s1).state = .hailing ∧ offersSuits [0, 0] = true ∧ parseOffers [0, 0] = none
    ∧ ((linked claiming).link .s1).state = .claiming ∧ ((linked claiming).link .s1).claimTimer = some 100 ∧ reached 100 100 = true
    ∧ ((linked (hailing 5)).link .s1).hailTimer = some 20000 ∧ reached 20000 20000 = true
    ∧ 5 ≤ ((linked (hailing 5)).link .s1).hailCount
    ∧ ((linked (streaming [] 2)).link .s1).state = .streaming ∧ ((linked (streaming [] 2)).link .s1).pollTimer = some 10000
    ∧ reached 10000 10000 = true ∧ ((linked (streaming [] 2)).link .s1).statusSincePoll = false
    ∧ ((linked (streaming [] 2)).link .s1).misses = 2
    ∧ ((linked (streaming [panelOn 4] 1)).link .s1).misses ≤ 1
    ∧ ((linked (streaming [panelOn 4] 1)).link .s1).queue = panelOn 4 :: []
    ∧ calTryLimit (linked (streaming [panelOn 4] 1)).cal.working ≤ (panelOn 4).tries
    ∧ ((linked (streaming [] 0)).link .s1).state ≠ .detached ∧ ((linked (streaming [] 0)).link .s1).state ≠ .recovery
    ∧ (asking 0x32 [1] (linked (streaming [] 0))).asks 0x32 [1] ∧ (linked (streaming [] 0)).cli.mode = .run
    ∧ (1 : Byte).toNat = seatNo .s1
    ∧ (asking 0x32 [2] base).asks 0x32 [2] ∧ (2 : Byte).toNat = seatNo .s2 ∧ (base.link .s2).state = .detached
    ∧ (linked (streaming [] 0)).phase = .running := by
  and_intros <;> decide

theorem witness_PollsAndStatusKeepALinkAlive :
    (linked (streaming [panelOn 3] 1)).phase = .running ∧ ((linked (streaming [panelOn 3] 1)).link .s1).state = .streaming
    ∧ ((linked (streaming [panelOn 3] 1)).link .s1).pollTimer = some 10000 ∧ reached 10000 10000 = true
    ∧ ((linked (streaming [panelOn 3] 1)).link .s1).misses ≤ 1
    ∧ ({ streaming [] 2 with statusSincePoll := true } : Link).statusSincePoll = true ∧ (streaming [] 2).misses ≤ 2
    ∧ (∀ c ∈ ((linked (streaming [panelOn 3] 1)).link .s1).queue.head?, c.tries < calTryLimit base.cal.working)
    ∧ statusSuits [7, 101, 0] = true
    ∧ ((linked (streaming [panelOn 1] 0)).link .s1).queue = panelOn 1 :: [] ∧ 0 < (panelOn 1).tries
    ∧ ((linked (streaming [panelOn 1] 0)).seat .s1).next = none ∧ ((linked (streaming [panelOn 1] 0)).link .s1).keyAck = false
    ∧ ((linked (streaming [panelOn 1] 0)).link .s1).ambient = none := by
  and_intros <;> decide

/-- A head command already sent whose toggle fits, with and without a next backlight; one whose toggle does not fit, one not sent; a
report toggle that is new and one that is held; no events and four. -/
theorem witness_PollsAndStatusKeepALinkAlive_acknowledged :
    let sent := linked (streaming [panelOn 1] 0)
    let next := { sent with sct := { sent.sct with seat := ⟨{ sent.sct.seat.one with next := some 5 }, sent.sct.seat.two⟩ } }
    sent.phase = .running ∧ (sent.link .s1).state = .streaming
    ∧ (sent.link .s1).queue = panelOn 1 :: [] ∧ 0 < (panelOn 1).tries ∧ (panelOn 1).toggle = (0x01 : Byte).getLsbD 0
    ∧ (sent.seat .s1).next = none ∧ (next.seat .s1).next = some 5
    ∧ (panelOn 1).toggle ≠ (0x06 : Byte).getLsbD 0 ∧ (panelOn 0).tries = 0
    ∧ (0x05 : Byte).getLsbD 2 ≠ (sent.link .s1).keyAck ∧ (0x01 : Byte).getLsbD 2 = (sent.link .s1).keyAck
    ∧ (sent.link .s1).ambient = (if (255 : Byte).toNat = 255 then none else some (min (255 : Byte).toNat 100))
    ∧ (sent.link .s1).ambient ≠ (if (101 : Byte).toNat = 255 then none else some (min (101 : Byte).toNat 100))
    ∧ ([] : List (Byte × Byte)).length ≤ 4 ∧ (List.replicate 4 ((8, 1) : Byte × Byte)).length ≤ 4 := by
  and_intros <;> decide

theorem witness_OtherMessagesAreDiscarded :
    base.phase = .running ∧ messagePasses [0x81] = false ∧ openMessage [0x81] = none ∧ (List.replicate 255 (0 : Byte)).length ≤ 255
    ∧ (base.link .s1).state ≠ .hailing ∧ (base.link .s1).state ≠ .claiming ∧ (base.link .s1).state ≠ .streaming
    ∧ (base.link .s1).state = .detached := by decide

def policy (w h : Nat) (r : Byte) : List Byte := [1] ++ u16 w ++ u16 h ++ [r]

theorem witness_LinkRequestsActOnTheLink :
    (asking 0x30 (policy 3840 2160 60) base).asks 0x30 (policy 3840 2160 60) ∧ (policy 3840 2160 60).length = 6
    ∧ base.cli.mode = .run ∧ byteAt (policy 3840 2160 60) 0 = seatNo .s1
    ∧ u16At (policy 160 120 24) 1 = 160 ∧ u16At (policy 160 120 24) 3 = 120 ∧ byteAt (policy 160 120 24) 5 = 24
    ∧ u16At (policy 3840 2160 60) 1 ≤ 3840 ∧ u16At (policy 3840 2160 60) 3 ≤ 2160 ∧ byteAt (policy 3840 2160 60) 5 ≤ 60
    ∧ u16At (policy 159 120 24) 1 < 160 ∧ 3840 < u16At (policy 3841 120 24) 1
    ∧ (asking 0x33 [1, 3, 0xFE, 0, 0] (linked (streaming [panelOn 1, panelOn 0, panelOn 0] 0))).asks 0x33 [1, 3, 0xFE, 0, 0]
    ∧ byteAt [1, 3, 0xFE, 0, 0] 1 = 3 ∧ 0x80 ≤ byteAt [1, 3, 0xFE, 0, 0] 2 ∧ byteAt [1, 3, 0xFE, 0, 0] 2 ≤ 0xFE
    ∧ (asking 0x33 [1, 2, 1, 0, 0] (linked (streaming [] 0))).asks 0x33 [1, 2, 1, 0, 0] ∧ byteAt [1, 2, 1, 0, 0] 2 ≤ 1
    ∧ ((linked (streaming [panelOn 1, panelOn 0, panelOn 0] 0)).link .s1).state = .streaming
    ∧ ((linked (streaming [panelOn 1, panelOn 0, panelOn 0] 0)).link .s1).queue.length < 4
    ∧ 4 ≤ ((linked (streaming (List.replicate 4 (panelOn 0)) 0)).link .s1).queue.length
    ∧ (base.link .s1).state ≠ .streaming
    ∧ (asking 0x31 [1] (linked claiming)).asks 0x31 [1] ∧ ((linked claiming).link .s1).state = .claiming
    ∧ (asking 0x31 [1] base).asks 0x31 [1] ∧ (base.link .s1).state = .detached ∧ (1 : Byte).toNat = seatNo .s1
    ∧ ((linked { streaming [] 0 with descriptor := some (List.replicate 33 9), readPos := 32 }).link .s1).descriptor
        = some (List.replicate 33 9)
    ∧ ((linked { streaming [] 0 with descriptor := some (List.replicate 33 9), readPos := 32 }).link .s1).readPos = 32
    ∧ (asking 0x35 [1] (linked (streaming [] 0))).asks 0x35 [1] ∧ (asking 0x36 [1] (linked (streaming [] 0))).asks 0x36 [1]
    ∧ ((linked (streaming [] 0)).link .s1).descriptor = none := by
  and_intros <;> decide

/-! ## Witnesses: compositor, menus, seats -/

def drawing : State := { base with cmp := { base.cmp with front := { base.cmp.front with nextFrame := some 16666 } } }

def rearDrawing : State :=
  { linked (streaming [] 0) with cmp := { base.cmp with rear := ⟨{ base.cmp.rear.one with nextFrame := some 16666 }, base.cmp.rear.two⟩ } }

/-- Film feed 2 waits for the rear row's next frame. -/
def rearRouted : State :=
  { rearDrawing with cmp := { rearDrawing.cmp with rear := ⟨{ rearDrawing.cmp.rear.one with pending := some .ff2 }, base.cmp.rear.two⟩ } }

theorem witness_OutputFrameTakesItsRoute :
    drawing.phase = .running ∧ drawing.cmp.front.nextFrame = some 16666 ∧ reached 16666 16666 = true
    ∧ rearDrawing.phase = .running ∧ (rearDrawing.rearRow .s1).nextFrame = some 16666
    ∧ (rearDrawing.link .s1).agreement = some ⟨1, 1280, 720, 60, true, 0⟩ ∧ (rearDrawing.ctx .s1).stack = []
    ∧ (rearDrawing.rearRow .s1).effective = (rearDrawing.rearRow .s1).routed ∧ (rearDrawing.rearRow .s1).cause = .route
    ∧ (rearRouted.rearRow .s1).nextFrame = some 16666 ∧ (rearRouted.link .s1).state = .streaming
    ∧ (rearRouted.rearRow .s1).effective ≠ (rearRouted.rearRow .s1).pending.getD (rearRouted.rearRow .s1).routed := by
  and_intros <;> decide

theorem witness_GeometryFillsOneSideAndFits :
    1920 * 1080 ≤ 1920 * 1080 ∧ 1279 * 720 < 1280 * 720 ∧ 0 < 1280 ∧ 0 < 720 := by decide

/-- A set of one drawn segment, which is no STATIC set. -/
def oneStroke : GuideSet :=
  { emptySet with input := { emptyInput with angle := some 0, imageWidth := 1280, imageHeight := 720 },
                  leftSegments := [⟨.red, some ⟨0, 700, 100, 600, .none⟩⟩, ⟨.green, none⟩] }

def content : FrameContent := ⟨⟨1280, 480, 60⟩, ⟨214, 0, 852, 480⟩, some .cam, some oneStroke, none, some [67, 65, 77]⟩

/-- The banner strip of 480 rows is 48 high: row 431 lies above it and row 432 in it, with its text from 616 on. -/
theorem witness_GeometryFillsOneSideAndFits_planes :
    content.banner = some [67, 65, 77] ∧ 431 < content.size.height - content.size.height / 10
    ∧ content.size.height - content.size.height / 10 ≤ 432
    ∧ 2 * (604 : Int) ≤ (content.size.width : Int) - 8 * (3 : Nat) * 3 ∧ (content.size.width : Int) - 8 * (3 : Nat) * 3 < 2 * 604 + 2
    ∧ ({ content with banner := none } : FrameContent).banner = none
    ∧ content.bannerPixel 0 431 = none ∧ content.bannerPixel 0 432 = some ⟨0, 0, 0⟩
    ∧ content.menu.bind (fun m => m.pixel 0 431) = none ∧ content.guidePixel 213 431 = none ∧ content.picture = some .cam
    ∧ content.guidePixel 640 100 = none
    ∧ content.geometry.left ≤ 640 ∧ 640 < content.geometry.left + content.geometry.width
    ∧ content.geometry.top ≤ 100 ∧ 100 < content.geometry.top + content.geometry.height
    ∧ ¬ content.geometry.left ≤ 213
    ∧ ({ content with guides := none } : FrameContent).guides = none ∧ content.guides = some oneStroke := by
  and_intros <;> decide

/-- Both cases of the line rule, the end of an image, and a pixel that a segment covers. -/
theorem witness_GeometryFillsOneSideAndFits_guides :
    (1279 < 1280 ∧ 719 < 720 ∧ 0 < content.geometry.width ∧ 0 < content.geometry.height)
    ∧ ((0, 0) : Int × Int) ≠ (5, 5) ∧ ((5 : Int) - 0).natAbs ≤ ((5 : Int) - 0).natAbs ∧ ((4 : Int) - 0).natAbs < ((5 : Int) - 0).natAbs
    ∧ (⟨0, 700, 100, 600, .none⟩ : Drawn).covers .dynamic content.geometry 1280 720 214 466 = true
    ∧ content.guidePixel 214 420 ≠ some ⟨255, 0, 0⟩ ∧ content.guidePixel 214 466 = some ⟨255, 0, 0⟩ := by
  and_intros <;> decide

theorem witness_CompositorRequestsSetTheRows :
    (asking 0x40 [1, 3] base).asks 0x40 [1, 3] ∧ base.cli.mode = .run ∧ 1 ≤ (3 : Byte).toNat ∧ (3 : Byte).toNat ≤ 3
    ∧ (asking 0x40 [2, 3] (linked (streaming [] 0))).asks 0x40 [2, 3] ∧ (2 : Byte).toNat = outputNo (.ro .s1)
    ∧ ((linked (streaming [] 0)).link .s1).state = .streaming
    ∧ (asking 0x40 [3, 0] base).asks 0x40 [3, 0] ∧ (3 : Byte).toNat = outputNo (.ro .s2) ∧ (0 : Byte).toNat ≤ 3
    ∧ (base.link .s2).state ≠ .streaming
    ∧ (asking 0x40 [1, 0] base).asks 0x40 [1, 0] ∧ (1 : Byte).toNat = 1 ∧ (0 : Byte).toNat = 0
    ∧ (asking 0x12 [2] base).asks 0x12 [2] ∧ 1 < (2 : Byte).toNat
    ∧ (asking 0x12 [1] (held 9)).asks 0x12 [1] ∧ (1 : Byte).toNat ≤ 1 ∧ (held 9).rvc.state ≠ .off
    ∧ (asking 0x12 [1] base).asks 0x12 [1] ∧ base.rvc.state = .off ∧ base.fdp.camPower = false
    ∧ (camUp (camPort .locked 4 0)).fdp.camPower = true
    ∧ (asking 0x12 [0] (camUp (camPort .locked 4 0))).asks 0x12 [0]
    ∧ (asking 0x41 [1, 3] base).asks 0x41 [1, 3] ∧ (3 : Byte).toNat ≠ 0 ∧ (3 : Byte).toNat ≠ 4
    ∧ (asking 0x41 [1, 4] (held 9)).asks 0x41 [1, 4] ∧ (4 : Byte).toNat = 4
    ∧ (asking 0x41 [1, 4] base).asks 0x41 [1, 4] ∧ base.cmp.frontView = .none
    ∧ (asking 0x41 [3, 0] base).asks 0x41 [3, 0] := by
  and_intros <;> decide

/-- A page of one enabled REPORT item. -/
def record (id : Byte) : List Byte := [id, 1, 65, 1, 2, 1, 0, 9, 0, 0, 1, 66]

def page (id : Nat) : Page := ⟨id, [65], [⟨.report 9, [66], true, none⟩]⟩

def twoItems (kind : ItemKind) : Page := ⟨5, [65], [⟨kind, [66], true, none⟩, ⟨.report 9, [67], true, none⟩]⟩

def stored (pages : List Page) (s : State) : State := { s with mnu := { s.mnu with store := pages } }

def showing (e : Entry) (s : State) : State :=
  { s with mnu := { s.mnu with ctx := ⟨⟨[e], some 10000⟩, s.mnu.ctx.two⟩ }, cmp := { s.cmp with menuPlane := ⟨true, false⟩ } }

def raw (id : Nat) : RawPage := ⟨id, [65], [⟨2, 1, 0, 9, 0, 0, [66]⟩]⟩

/-- The menu of a driven rear row: its plane, its page and what the frame draws of it. -/
theorem witness_OutputFrameTakesItsRoute_menu :
    let s := showing ⟨63, some 1, 1⟩ (stored [page 63] rearDrawing)
    s.phase = .running ∧ (s.rearRow .s1).nextFrame = some 16666 ∧ (s.link .s1).agreement = some ⟨1, 1280, 720, 60, true, 0⟩
    ∧ (s.ctx .s1).stack = ⟨63, some 1, 1⟩ :: [] ∧ s.cmp.menuPlane.get .s1 = true
    ∧ findPage s.mnu.store 63 = some (page 63) := by
  and_intros <;> decide

theorem witness_PagesEnterAndLeaveTheStore :
    (asking 0x50 (record 63) base).asks 0x50 (record 63) ∧ base.cli.mode = .run ∧ walkPage (record 63) = some (raw 63)
    ∧ (raw 63).check = some (page 63) ∧ hasSpace base.mnu.store (page 63) = true
    ∧ (showing ⟨63, some 1, 1⟩ (stored [page 63] (linked (streaming [] 0)))).ctx .s1 = ⟨⟨63, some 1, 1⟩ :: [], some 10000⟩
    ∧ findPage (stored [page 63] base).mnu.store (page 63).id ≠ none ∧ (∀ e ∈ (base.ctx .s1).stack.head?, e.page ≠ 63)
    ∧ (asking 0x50 (record 64) base).asks 0x50 (record 64) ∧ walkPage (record 64) = some (raw 64) ∧ (raw 64).check = none
    ∧ hasSpace ((List.range 32).map page) (page 63) = false
    ∧ (asking 0x51 [63] (stored [page 63] base)).asks 0x51 [63] ∧ 1 ≤ (63 : Byte).toNat ∧ (63 : Byte).toNat ≤ 63
    ∧ findPage (stored [page 63] base).mnu.store (63 : Byte).toNat = some (page 63)
    ∧ (∃ e ∈ ((showing ⟨63, some 1, 1⟩ base).ctx .s1).stack, e.page = (63 : Byte).toNat)
    ∧ (∀ e ∈ ((showing ⟨63, some 1, 1⟩ base).ctx .s2).stack, e.page ≠ (63 : Byte).toNat)
    ∧ (asking 0x51 [64] base).asks 0x51 [64] ∧ 63 < (64 : Byte).toNat
    ∧ (asking 0x51 [1] base).asks 0x51 [1] ∧ 1 ≤ (1 : Byte).toNat ∧ findPage base.mnu.store (1 : Byte).toNat = none
    ∧ (asking 0x52 [] base).asks 0x52 [] := by
  and_intros <;> decide

def slider : Page := twoItems (.slider 0 10 1)

theorem witness_ItemSetChangesOneItem :
    (asking 0x53 [5, 1, 2, 0] base).asks 0x53 [5, 1, 2, 0] ∧ base.cli.mode = .run ∧ 1 < (2 : Byte).toNat
    ∧ (asking 0x53 [5, 1, 1, 0] base).asks 0x53 [5, 1, 1, 0] ∧ (1 : Byte).toNat ≤ 1
    ∧ findPage base.mnu.store (5 : Byte).toNat = none
    ∧ findPage (stored [slider] base).mnu.store (5 : Byte).toNat = some slider ∧ slider.item (3 : Byte).toNat = none
    ∧ (twoItems (.toggle false)).item (1 : Byte).toNat = some ⟨.toggle false, [66], true, none⟩ ∧ 1 < (2 : Byte).toNat
    ∧ (asking 0x53 [5, 1, 1, 11] (stored [slider] base)).asks 0x53 [5, 1, 1, 11]
    ∧ slider.item (1 : Byte).toNat = some ⟨.slider 0 10 1, [66], true, none⟩
    ∧ ItemKind.slider 10 10 1 = .slider (min (11 : Byte).toNat 10) 10 1 ∧ true = decide ((1 : Byte).toNat = 1)
    ∧ true ≠ decide ((0 : Byte).toNat = 1) ∧ (asking 0x53 [5, 1, 0, 11] (showing ⟨5, some 1, 1⟩ (stored [slider] base))).asks 0x53 [5, 1, 0, 11]
    ∧ ((showing ⟨5, some 1, 1⟩ (stored [slider] base)).ctx .s1).stack = ⟨5, some 1, 1⟩ :: []
    ∧ (∀ e ∈ ((showing ⟨5, some 1, 1⟩ (stored [slider] base)).ctx .s2).stack.head?, e.page ≠ (5 : Byte).toNat) := by
  and_intros <;> decide

theorem witness_SeatRootTakesTheId :
    (asking 0x54 [1] base).asks 0x54 [1] ∧ ([1] : List Byte).length ≠ 2
    ∧ (asking 0x54 [1, 63] (inStandby base)).asks 0x54 [1, 63] ∧ ([1, 63] : List Byte).length = 2
    ∧ (inStandby base).cli.mode = .standby
    ∧ (asking 0x54 [2, 64] base).asks 0x54 [2, 64] ∧ base.cli.mode = .run ∧ 63 < (64 : Byte).toNat
    ∧ (asking 0x54 [3, 63] base).asks 0x54 [3, 63] ∧ 2 < (3 : Byte).toNat
    ∧ (asking 0x54 [2, 63] base).asks 0x54 [2, 63] ∧ (2 : Byte).toNat = seatNo .s2 ∧ (63 : Byte).toNat ≤ 63
    ∧ base.resetN = true := by
  and_intros <;> decide

theorem witness_SeatRootTakesTheId_remove : ∃ s', exec (.pageRemove 0) base = .next s' := ⟨_, rfl⟩

def rooted : State :=
  { stored [page 63] (linked (streaming [] 0)) with mnu := { (stored [page 63] base).mnu with root := ⟨63, 0⟩ } }

def opened : State := showing ⟨63, some 1, 1⟩ rooted

theorem witness_MenusOpenAndClose :
    (asking 0x55 [1, 0] rooted).asks 0x55 [1, 0] ∧ rooted.cli.mode = .run ∧ (1 : Byte).toNat = seatNo .s1 ∧ (0 : Byte).toNat ≤ 63
    ∧ (rooted.link .s1).state = .streaming ∧ (0 : Byte).toNat = 0 ∧ rooted.mnu.root.get .s1 ≠ 0
    ∧ findPage rooted.mnu.store (rooted.mnu.root.get .s1) = some (page 63)
    ∧ (asking 0x55 [1, 63] rooted).asks 0x55 [1, 63] ∧ (63 : Byte).toNat ≠ 0
    ∧ findPage rooted.mnu.store (63 : Byte).toNat = some (page 63)
    ∧ (asking 0x55 [2, 63] rooted).asks 0x55 [2, 63] ∧ (2 : Byte).toNat = seatNo .s2 ∧ (rooted.link .s2).state ≠ .streaming
    ∧ (asking 0x55 [1, 62] rooted).asks 0x55 [1, 62] ∧ rooted.namedPage .s1 (62 : Byte).toNat = none
    ∧ (asking 0x56 [1] opened).asks 0x56 [1] ∧ opened.cli.mode = .run ∧ (opened.ctx .s1).stack ≠ []
    ∧ (asking 0x56 [2] opened).asks 0x56 [2] ∧ (opened.ctx .s2).stack = []
    ∧ opened.phase = .running ∧ (opened.ctx .s1).idle = some 10000 ∧ reached 10000 10000 = true := by
  and_intros <;> decide

def holding (k : Key) (s : State) : State :=
  { s with sct := { s.sct with seat := ⟨{ s.sct.seat.one with held := some k, repeatTimer := some 400000 }, s.sct.seat.two⟩ } }

def volumeAt (volume step : Nat) (dir : Option Dir) (s : State) : State :=
  { s with sct := { s.sct with seat := ⟨{ s.sct.seat.one with volume := volume, step := step, lastDir := dir,
                                                              lastStamp := some 250000 }, s.sct.seat.two⟩ } }

/-- A report of four key events, and the toggle that is new or the one held. -/
theorem witness_HeldKeyRepeats_report :
    let s := linked (streaming [] 0)
    let events : List (Byte × Byte) := [(1, 1), (14, 2), (15, 1), (8, 3)]
    s.phase = .running ∧ (s.link .s1).state = .streaming ∧ events.length ≤ 4
    ∧ (4 : Byte).getLsbD 2 ≠ (s.link .s1).keyAck ∧ (0 : Byte).getLsbD 2 = (s.link .s1).keyAck := by
  and_intros <;> decide

/-- The hypotheses of each outcome of one key event. -/
theorem witness_HeldKeyRepeats_events :
    keyOf 0 = none ∧ keyOf 15 = none ∧ keyOf 1 = some .up ∧ keyOf 14 = some .previous
    ∧ ((holding .up base).seat .s1).held = some .up ∧ ((holding .ok base).seat .s1).held ≠ some .up
    ∧ (base.seat .s1).held = none := by
  and_intros <;> decide

theorem witness_HeldKeyRepeats :
    (∀ k ∈ [Key.volUp, .volDown, .brightUp, .brightDown, .up, .down, .left, .right],
      (holding k base).phase = .running ∧ ((holding k base).seat .s1).repeatTimer = some 400000
      ∧ reached 400000 400000 = true ∧ ((holding k base).seat .s1).held = some k)
    ∧ ((volumeAt 59 6 (some .up) base).seat .s1).lastDir = some .up
    ∧ ((volumeAt 59 6 (some .up) base).seat .s1).lastStamp = some 250000
    ∧ (400000#32 - 250000#32).toNat ≤ 1000 * calWindow base.cal.working
    ∧ ((volumeAt 59 6 none base).seat .s1).lastDir ≠ some .up
    ∧ calBaseStep base.cal.working ≤ calStepCap base.cal.working ∧ calStepCap base.cal.working ≤ 6
    ∧ calStepCap (setField builtinImage 33 0 2) < calBaseStep (setField (setField builtinImage 33 0 2) 32 0 4)
    ∧ -10 ≤ (base.seat .s1).offset ∧ (base.seat .s1).offset ≤ 10 ∧ (base.ctx .s1).stack = []
    ∧ ((showing ⟨5, some 1, 1⟩ (stored [slider] base)).ctx .s1).stack = ⟨5, some 1, 1⟩ :: []
    ∧ findPage (stored [slider] base).mnu.store 5 = some slider ∧ slider.enabledAbove 1 = some 2
    ∧ slider.enabledBelow 2 = some 1 := by
  and_intros <;> decide

theorem witness_SeatRequestsSetLevelAndPolicy :
    (asking 0x60 [1, 61] (volumeAt 60 1 none base)).asks 0x60 [1, 61] ∧ base.cli.mode = .run ∧ (1 : Byte).toNat = seatNo .s1
    ∧ min (61 : Byte).toNat 60 = ((volumeAt 60 1 none base).seat .s1).volume
    ∧ (asking 0x60 [1, 60] base).asks 0x60 [1, 60] ∧ min (60 : Byte).toNat 60 ≠ (base.seat .s1).volume
    ∧ (asking 0x60 [3, 60] base).asks 0x60 [3, 60] ∧ 2 < (3 : Byte).toNat
    ∧ (asking 0x61 [2, 2, 100] base).asks 0x61 [2, 2, 100] ∧ (2 : Byte).toNat = seatNo .s2 ∧ (2 : Byte).toNat ≤ 2
    ∧ (100 : Byte).toNat ≤ 100
    ∧ (asking 0x61 [2, 2, 101] base).asks 0x61 [2, 2, 101] ∧ 100 < (101 : Byte).toNat := by
  and_intros <;> decide

def level (tries : Nat) : Command := ⟨.backlight 50, true, tries⟩

theorem witness_BacklightHandingHasFiveOutcomes :
    (base.link .s1).state ≠ .streaming ∧ ((linked (streaming [level 0] 0)).link .s1).state = .streaming
    ∧ ((linked (streaming [level 0] 0)).link .s1).queue = [] ++ level 0 :: [] ∧ (level 0).isBacklight = true ∧ (level 0).tries = 0
    ∧ ((linked (streaming [level 1] 0)).link .s1).queue = [] ++ level 1 :: [] ∧ (level 1).tries ≠ 0
    ∧ (∀ x ∈ ((linked (streaming (List.replicate 3 (panelOn 0)) 0)).link .s1).queue, x.isBacklight = false)
    ∧ ((linked (streaming (List.replicate 3 (panelOn 0)) 0)).link .s1).queue.length < 4
    ∧ (∀ x ∈ ((linked (streaming (List.replicate 4 (panelOn 0)) 0)).link .s1).queue, x.isBacklight = false)
    ∧ 4 ≤ ((linked (streaming (List.replicate 4 (panelOn 0)) 0)).link .s1).queue.length := by
  and_intros <;> decide

/-! ## Witnesses: chimes and calibration -/

def pattern (n : Nat) : List Byte := [15, BitVec.ofNat 8 n, 15] ++ (List.replicate n (u16 4000 ++ u16 2000 ++ [15])).flatten

def hostChime (handle priority : Nat) : Chime := ⟨handle, 15, ⟨true, false, false⟩, priority, .once, .host, handle⟩

def playing (ch : Chime) : Playing := ⟨ch, 0, 1, 100, 100⟩

def playOn (p q : Option Playing) (queue : List Chime) : State :=
  { base with chu := { base.chu with voice1 := p, voice2 := q, queue := queue, lastHandle := 20, nextOrder := 20 } }

theorem witness_PatternAndFrontLevelAreStored :
    (asking 0x70 (pattern 8) base).asks 0x70 (pattern 8) ∧ (pattern 8).length = 3 + 5 * byteAt (pattern 8) 1 ∧ base.cli.mode = .run
    ∧ (byteAt (pattern 8) 0 ≤ 15 ∧ 1 ≤ byteAt (pattern 8) 1 ∧ byteAt (pattern 8) 1 ≤ 8 ∧ byteAt (pattern 8) 2 ≤ 15)
    ∧ (∀ k < byteAt (pattern 8) 1,
        (u16At (pattern 8) (3 + 5 * k) = 0 ∨ 200 ≤ u16At (pattern 8) (3 + 5 * k) ∧ u16At (pattern 8) (3 + 5 * k) ≤ 4000)
        ∧ 10 ≤ u16At (pattern 8) (5 + 5 * k) ∧ u16At (pattern 8) (5 + 5 * k) ≤ 2000 ∧ byteAt (pattern 8) (7 + 5 * k) ≤ 15)
    ∧ (asking 0x70 (pattern 0) base).asks 0x70 (pattern 0) ∧ ¬ 1 ≤ byteAt (pattern 0) 1
    ∧ (∃ ch ∈ (playOn (some (playing (hostChime 1 5))) none []).chu.records, ch.pattern = byteAt (pattern 8) 0)
    ∧ (∀ ch ∈ base.chu.records, ch.pattern ≠ byteAt (pattern 8) 0)
    ∧ (asking 0x74 [60] base).asks 0x74 [60] ∧ (60 : Byte).toNat ≤ 60
    ∧ (asking 0x74 [61] base).asks 0x74 [61] ∧ 60 < (61 : Byte).toNat := by
  and_intros <;> decide

/-- Voice 1 plays in FRONT and voice 2 in REAR1 alone; row 2 shows a LOCKED film feed; the front level is 40, or 0. -/
theorem witness_PatternAndFrontLevelAreStored_mixes :
    let p := playing { hostChime 1 5 with pattern := 0 }
    let q := playing { hostChime 2 5 with pattern := 0, zones := ⟨false, true, false⟩ }
    let s : State := { playOn (some p) (some q) [] with fdp := (withPort .ff1 (camPort .locked 4 0) base).fdp }
    zonesMeet s.chu.voice1 s.chu.voice2 = false ∧ s.chu.frontLevel ≠ 0
    ∧ s.chu.voice .v1 = some p ∧ p.chime.zones.front = true ∧ s.chu.voice .v2 = some q ∧ q.chime.zones.hasRear .s1 = true
    ∧ ((s.chu.pattern 0).stepAt 0).freq ≠ 0 ∧ p.chime.origin ≠ .park
    ∧ (s.seat .s1).volume ≠ 0 ∧ (s.rearRow .s1).effective.feed = some .ff1 ∧ (s.port .ff1).lock = .locked
    ∧ ({ s with chu := { s.chu with frontLevel := 0 } } : State).chu.frontLevel = 0
    ∧ zonesMeet (some p) (some p) = true
    ∧ ((linked (streaming [] 0)).link .s1).state = .streaming
    ∧ (∃ a, ((linked (streaming [] 0)).link .s1).agreement = some a ∧ a.audio = true) := by
  and_intros <;> decide

/-- A product that is a whole number, and one that is none at any k: 1 at -20 dB lies between 0 and 1. -/
theorem witness_PatternAndFrontLevelAreStored_gains :
    2 ^ 20 * 10 ^ (-(-20 : Int)).toNat = (20 : Int).natAbs ^ 20 * 10 ^ (-20 : Int).toNat
    ∧ ∀ k : Nat, k ^ 20 * 10 ^ (-(-20 : Int)).toNat ≠ (1 : Int).natAbs ^ 20 * 10 ^ (-20 : Int).toNat := by
  refine ⟨by decide, fun k h => ?_⟩
  have e : k ^ 20 * 10 ^ 20 = 1 := h
  omega

theorem witness_ChimesArePlayedAndCancelled :
    (asking 0x71 [15, 1, 7, 2] base).asks 0x71 [15, 1, 7, 2] ∧ base.cli.mode = .run ∧ (15 : Byte).toNat ≤ 15
    ∧ zonesOf 1 = some ⟨true, false, false⟩ ∧ 2 ≤ (7 : Byte).toNat ∧ (7 : Byte).toNat ≤ 7 ∧ (2 : Byte).toNat = 2
    ∧ base.chu.voice1 = none ∧ clear base.chu.voice2 ⟨true, false, false⟩
    ∧ zonesOf 6 = some ⟨false, true, true⟩ ∧ (playOn (some (playing (hostChime 1 2))) none []).chu.voice1 ≠ none
    ∧ clear (playOn (some (playing (hostChime 1 2))) none []).chu.voice1 ⟨false, true, true⟩
    ∧ (2 : Byte).toNat ≤ (playing (hostChime 1 2)).chime.priority
    ∧ (playOn (some (playing (hostChime 1 2))) none ((List.range 7).map (fun k => hostChime (k + 2) 2))).chu.queue.length < 8
    ∧ 8 ≤ (playOn (some (playing (hostChime 1 2))) none ((List.range 8).map (fun k => hostChime (k + 2) 2))).chu.queue.length
    ∧ ((List.range 8).map (fun k => hostChime (k + 2) 2)).getLast? = some (hostChime 9 2)
    ∧ (asking 0x71 [15, 8, 7, 2] base).asks 0x71 [15, 8, 7, 2] ∧ 7 < (8 : Byte).toNat
    ∧ (asking 0x71 [16, 1, 7, 2] base).asks 0x71 [16, 1, 7, 2] ∧ 15 < (16 : Byte).toNat
    ∧ (asking 0x71 [15, 1, 1, 2] base).asks 0x71 [15, 1, 1, 2] ∧ (1 : Byte).toNat < 2
    ∧ (asking 0x72 [0] base).asks 0x72 [0] ∧ (0 : Byte).toNat = 0
    ∧ (asking 0x72 [255] base).asks 0x72 [255] ∧ (255 : Byte).toNat ≠ 0
    ∧ (∀ ch ∈ base.chu.records, ¬ (ch.handle = (255 : Byte).toNat ∧ ch.origin = .host))
    ∧ (asking 0x72 [2] (playOn none none [hostChime 2 5])).asks 0x72 [2]
    ∧ hostChime 2 5 ∈ (playOn none none [hostChime 2 5]).chu.queue ∧ (hostChime 2 5).handle = (2 : Byte).toNat
    ∧ (hostChime 2 5).origin = .host ∧ ((playOn none none [hostChime 2 5]).chu.records.map (·.handle)).Nodup := by
  and_intros <;> decide

/-- A priority of 7 outranks what blocks it, on voice 2 with voice 1 free and on both voices; a priority of 2 does not. -/
theorem witness_ChimesArePlayedAndCancelled_blocked :
    let z : ZoneSet := ⟨true, false, false⟩
    let one := playOn none (some (playing (hostChime 1 2))) []
    let far : Playing := playing { hostChime 2 3 with zones := ⟨false, true, false⟩, cls := .repeat }
    let both := playOn (some (playing (hostChime 1 2))) (some far) []
    one.chu.blocked .v2 z (playing (hostChime 1 2)) ∧ (∀ p ∈ one.chu.voice2, p.chime.priority < (7 : Byte).toNat)
    ∧ one.chu.voice1 = none ∧ (2 : Byte).toNat ≤ (playing (hostChime 1 2)).chime.priority
    ∧ both.chu.blocked .v1 z (playing (hostChime 1 2)) ∧ both.chu.blocked .v2 z far ∧ far.chime.zones.meets z = false
    ∧ (∀ v ∈ [Voice.v1, .v2], ∀ p ∈ both.chu.voice v, p.chime.priority < (4 : Byte).toNat) ∧ far.chime.cls = .repeat
    ∧ (playing (hostChime 1 2)).chime.cls ≠ .repeat := by
  and_intros <;> decide

/-- A full queue whose last entry has a lower priority, or the same; and a HOST chime that plays on either voice. -/
theorem witness_ChimesArePlayedAndCancelled_full :
    let eight := (List.range 8).map (fun k => hostChime (k + 2) 3)
    let s := playOn (some (playing (hostChime 1 7))) (some (playing { hostChime 10 5 with zones := ⟨false, true, true⟩ })) eight
    8 ≤ s.chu.queue.length ∧ s.chu.queue.getLast? = some (hostChime 9 3) ∧ (hostChime 9 3).priority < (4 : Byte).toNat
    ∧ (3 : Byte).toNat ≤ (hostChime 9 3).priority ∧ s.chu.blocked .v1 ⟨true, false, false⟩ (playing (hostChime 1 7))
    ∧ (playOn none none []).chu.queue.length < 8
    ∧ (asking 0x72 [1] s).asks 0x72 [1] ∧ s.chu.voice .v1 = some (playing (hostChime 1 7)) ∧ (hostChime 1 7).handle = (1 : Byte).toNat
    ∧ (hostChime 1 7).origin = .host ∧ (∃ p ∈ s.chu.voice .v2, p.chime.handle = (10 : Byte).toNat ∧ p.chime.origin = .host)
    ∧ (s.chu.records.map (·.handle)).Nodup := by
  and_intros <;> decide

/-- The last handle is 255 and 1 is held: 2 is the next. -/
theorem witness_ChimesArePlayedAndCancelled_handle :
    let c : Chu := { (playOn (some (playing (hostChime 1 2))) none []).chu with lastHandle := 255 }
    (∃ h, 1 ≤ h ∧ h ≤ 255 ∧ ∀ ch ∈ c.records, ch.handle ≠ h) ∧ c.nextHandle = 2 :=
  ⟨⟨2, by decide⟩, by decide⟩

/-- The origins of a chime that ends. -/
theorem witness_ChimesArePlayedAndCancelled_origins :
    (hostChime 1 2).origin = .host ∧ ({ hostChime 1 2 with origin := .reverse } : Chime).origin = .reverse
    ∧ ({ hostChime 1 2 with origin := .menu } : Chime).origin = .menu := by decide

def parkChime : Chime := ⟨1, 4, ⟨true, false, false⟩, 6, .repeat, .park, 0⟩

def playingPattern (pat stepIndex left : Nat) : Playing := ⟨{ hostChime 1 5 with pattern := pat }, stepIndex, left, 100, 100⟩

theorem witness_StepsBeepsAndDucksGoOn :
    (playOn (some (playingPattern 2 1 1)) none []).phase = .running
    ∧ (playOn (some (playingPattern 2 1 1)) none []).chu.voice .v1 = some (playingPattern 2 1 1)
    ∧ (playingPattern 2 1 1).chime.origin ≠ .park ∧ reached 100 100 = true
    ∧ (playingPattern 2 1 1).stepIndex + 1 < (base.chu.pattern 2).steps.length
    ∧ (base.chu.pattern 2).steps.length ≤ (playingPattern 2 2 1).stepIndex + 1 ∧ (base.chu.pattern 2).repeatCount ≠ 0
    ∧ (base.chu.pattern 3).steps.length ≤ (playingPattern 3 1 0).stepIndex + 1 ∧ (base.chu.pattern 3).repeatCount = 0
    ∧ 2 ≤ (playingPattern 2 2 2).repeatsLeft ∧ (playingPattern 2 2 1).repeatsLeft ≤ 1
    ∧ (playOn (some (playingPattern 2 2 1)) none []).chu.queue = [] ∧ (playingPattern 2 2 1).chime.origin = .host
    ∧ (playOn (some (playing parkChime)) none []).chu.voice1 = some (playing parkChime)
    ∧ (playing parkChime).chime.origin = .park ∧ reached 100 (playing parkChime).ends = true
    ∧ ({ base.vin with obstacle := some 301 } : Vin).obstacle = some 301
    ∧ (({ base.chu with duck := ⟨⟨true, -17, some 9⟩, ⟨false, -1, some 9⟩⟩ } : Chu).duck.get .s1).timer = some 9
    ∧ reached 9 9 = true := by
  and_intros <;> decide

/-- The park beep plays on voice 2, alone of its origin, and at a distance of 300. -/
theorem witness_StepsBeepsAndDucksGoOn_beep :
    let s : State := { playOn (some (playing { hostChime 2 7 with zones := ⟨false, true, false⟩ })) (some (playing parkChime)) [] with
                       vin := { base.vin with obstacle := some 300 } }
    s.phase = .running ∧ s.chu.voice .v2 = some (playing parkChime) ∧ (playing parkChime).chime.origin = .park
    ∧ reached 100 (playing parkChime).ends = true ∧ s.vin.obstacle = some 300
    ∧ (∀ q ∈ s.chu.voice .v1, q.chime.origin ≠ .park) := by
  and_intros <;> decide

/-- Filling: no voice free; one free, with a queue that clashes and one with a later entry that does not; both free. -/
theorem witness_StepsBeepsAndDucksGoOn_fill :
    let p := playing (hostChime 1 5)
    let apart : Chime := { hostChime 4 2 with zones := ⟨false, true, false⟩ }
    let one := playOn (some p) none [hostChime 2 5, hostChime 3 3]
    let later := playOn (some p) none [hostChime 2 5, apart]
    (playOn (some p) (some (playing apart)) []).chu.voice1 ≠ none ∧ (playOn (some p) (some (playing apart)) []).chu.voice2 ≠ none
    ∧ Voice.v2 ≠ .v1 ∧ one.chu.voice .v2 = none ∧ one.chu.voice .v1 = some p
    ∧ (∀ x ∈ one.chu.queue, p.chime.zones.meets x.zones = true)
    ∧ later.chu.queue = [hostChime 2 5] ++ apart :: [] ∧ p.chime.zones.meets (hostChime 2 5).zones = true
    ∧ p.chime.zones.meets apart.zones = false
    ∧ base.chu.voice1 = none ∧ base.chu.voice2 = none ∧ base.chu.queue = []
    ∧ (playOn none none [apart]).chu.queue = apart :: [] := by
  and_intros <;> decide

def write (no index : Byte) (v : Int) : List Byte := [no, index] ++ i32 v

def programming : Programming := ⟨.g1, [], 0, 60000⟩

def inFlight : State :=
  { base with cal := { base.cal with slot1 := ⟨.writing, .programming⟩, flight := some programming } }

/-- The try limit takes 8 and not 9; a guide field in TRACKING with a computation in flight. -/
theorem witness_CalibrationWriteStoresAnAdmittedValue :
    (asking 0x81 (write 26 0 8) base).asks 0x81 (write 26 0 8) ∧ (write 26 0 8).length = 6
    ∧ base.cal.flight = none ∧ fieldOffset (byteAt (write 26 0 8) 0) (byteAt (write 26 0 8) 1) = some 184
    ∧ storedValue base.cal.working 26 0 (i32At (write 26 0 8) 2) = some 8
    ∧ (asking 0x81 (write 26 0 9) base).asks 0x81 (write 26 0 9) ∧ storedValue base.cal.working 26 0 (i32At (write 26 0 9) 2) = none
    ∧ (asking 0x81 (write 47 0 1) base).asks 0x81 (write 47 0 1) ∧ fieldOffset 47 0 = none
    ∧ (asking 0x81 (write 26 0 8) inFlight).asks 0x81 (write 26 0 8) ∧ inFlight.cal.flight ≠ none
    ∧ (asking 0x81 (write 16 8 (-1)) base).asks 0x81 (write 16 8 (-1)) ∧ 11 ≤ byteAt (write 16 8 (-1)) 0
    ∧ byteAt (write 16 8 (-1)) 0 ≤ 16 ∧ storedValue base.cal.working 16 8 (i32At (write 16 8 (-1)) 2) = some (-1)
    ∧ ({ base.gle with mode := .tracking, inFlight := some emptyInput } : Gle).mode = .tracking
    ∧ ({ base.gle with mode := .tracking, inFlight := some emptyInput } : Gle).inFlight ≠ none
    ∧ (asking 0x81 (write 16 8 (-1)) (tracking base)).asks 0x81 (write 16 8 (-1)) ∧ (tracking base).gle.mode = .tracking
    ∧ (tracking base).gle.inFlight = none ∧ base.gle.mode ≠ .tracking := by
  and_intros <;> decide

/-- Field 37 written to -15 and to -30, while one zone ducks at the old level and the other at -15. -/
theorem witness_CalibrationWriteStoresAnAdmittedValue_ducks :
    let s : State := { base with chu := { base.chu with duck := ⟨⟨true, -18, none⟩, ⟨true, -15, some 9⟩⟩ } }
    (asking 0x81 (write 37 0 (-15)) s).asks 0x81 (write 37 0 (-15)) ∧ s.cal.flight = none
    ∧ (∃ k ∈ fieldOffset 37 0, k < s.cal.working.length) ∧ storedValue s.cal.working 37 0 (i32At (write 37 0 (-15)) 2) = some (-15)
    ∧ storedValue s.cal.working 37 0 (i32At (write 37 0 (-30)) 2) = some (-30)
    ∧ calDuckLevel s.cal.working = -18 ∧ (s.chu.duck.get .s1).gain = -18 ∧ (s.chu.duck.get .s2).gain = -15
    ∧ (s.chu.duck.get .s1).ducking ≠ false ∧ (base.chu.duck.get .s1).ducking = false := by
  and_intros <;> decide

def full : State :=
  { base with cal := { base.cal with slot1 := ⟨.partly, .bad⟩, slot2 := ⟨.partly, .bad⟩, slot3 := ⟨.partly, .bad⟩ } }

theorem witness_ProgrammingFillsTheLowestBlankSlot :
    (asking 0x83 [] (held 9)).asks 0x83 [] ∧ (held 9).rvc.state ≠ .off
    ∧ (asking 0x83 [] inFlight).asks 0x83 [] ∧ inFlight.rvc.state = .off ∧ inFlight.cal.flight ≠ none
    ∧ (asking 0x83 [] full).asks 0x83 [] ∧ full.rvc.state = .off ∧ full.cal.flight = none
    ∧ (∀ n, (full.cal.slot n).judged ≠ .blank)
    ∧ (asking 0x83 [] base).asks 0x83 [] ∧ base.rvc.state = .off ∧ base.cal.flight = none ∧ (base.cal.slot .g1).judged = .blank
    ∧ (∀ m, SlotNo.number m < SlotNo.number .g1 → (base.cal.slot m).judged ≠ .blank)
    ∧ inFlight.phase = .running ∧ inFlight.cal.flight = some programming ∧ reached 60000 programming.ends = true
    ∧ ¬ ((some ⟨[], 1⟩ : Option FaultyCells) = none ∨ (some ⟨[], 1⟩ : Option FaultyCells) = some ⟨programming.image, programming.check⟩) := by
  and_intros
  all_goals first | decide | (intro n; cases n <;> decide)

/-! ## Witnesses: the laws -/

/-- A part in RUN with its three feed ports enabled. -/
def ready : State :=
  { base with fdp := { base.fdp with uif := { base.fdp.uif with enabled := true }, ff1 := { base.fdp.ff1 with enabled := true },
                                     ff2 := { base.fdp.ff2 with enabled := true } } }

theorem witness_ControlLinkLawsAreKept :
    (withBoard (boardOf 24)).controlLaw
    ∧ step (withBoard (boardOf 24)) = .next (withBoard (boardOf 24)).tick := by
  refine ⟨?_, rfl⟩
  decide

/-- Link 1 streams, with its rear row driven. -/
def streamingPart : State := rearDrawing

set_option synthInstance.maxSize 2000 in
set_option synthInstance.maxHeartbeats 400000 in
theorem witness_LinkLawsAreKept : streamingPart.linkLaw ∧ step streamingPart = .next streamingPart.tick := by
  refine ⟨?_, rfl⟩
  decide

theorem witness_EffectiveSourceFollowsItsRule :
    base.sourceLaw ∧ base.filmLaw ∧ step base = .next base.tick ∧ base.rvc.state = .off ∧ base.cmp.preview = false
    ∧ base.cmp.filmLock = true
    ∧ (let s : State := { base with cmp := { base.cmp with front := { base.cmp.front with routed := .ff2, effective := .uif, cause := .filmLock } } }
       s.sourceLaw ∧ s.cmp.front.routed = .ff2)
    ∧ (let s : State := { base with cmp := { base.cmp with preview := true, front := { base.cmp.front with effective := .cam, cause := .preview } } }
       s.sourceLaw ∧ s.cmp.preview = true)
    ∧ (let s : State := inState .held { base with cmp := { base.cmp with front := { base.cmp.front with effective := .cam, cause := .reverse } } }
       s.sourceLaw ∧ s.rvc.state ≠ .off)
    ∧ drawing.phase = .running ∧ drawing.cmp.front.nextFrame = some 16666 ∧ reached 16666 16666 = true := by
  refine ⟨?_, ?_, rfl, ?_⟩
  all_goals decide

/-- The reverse view is HELD, CAM is LOCKED and shown, and a front frame is about to start. -/
def heldLocked : State :=
  inState .held { drawing with fdp := (camUp (camPort .locked 4 0)).fdp,
                               cmp := { drawing.cmp with front := { drawing.cmp.front with effective := .cam, cause := .reverse } } }

theorem witness_EffectiveSourceFollowsItsRule_picture :
    heldLocked.phase = .running ∧ heldLocked.cmp.front.nextFrame = some 16666 ∧ reached 16666 16666 = true
    ∧ heldLocked.cmp.frontView ≠ .fault ∧ heldLocked.sourceLocked heldLocked.cmp.front.effective = true
    ∧ drawing.sourceLocked drawing.cmp.front.effective = false := by decide

theorem witness_EffectiveSourceFollowsItsRule_frame :
    exec (.outputFrameStart 16666 .fro) drawing = .next (after (.outputFrameStart 16666 .fro) drawing)
    ∧ (after (.outputFrameStart 16666 .fro) drawing).cmp.front.frame ≠ drawing.cmp.front.frame := by
  refine ⟨rfl, ?_⟩
  intro h
  exact nomatch h

/-- The reverse view is LIVE: CAM is LOCKED and shown, and a guide set waits for the next frame start of the camera. -/
def live : State :=
  { ready with
    fdp := { ready.fdp with cam := camPort .locked 4 0, camPower := true }
    vin := { ready.vin with gearRaw := true, gear := .reverse }
    rvc := { ready.rvc with state := .live, reason := .pictureUp, latestEdge := some .reverse, reverseStamp := some 0 }
    gle := { ready.gle with mode := .tracking, camLocked := true, pending := some emptySet }
    cmp := { ready.cmp with frontView := .picture, front := { ready.cmp.front with effective := .cam, cause := .reverse } } }

set_option synthInstance.maxSize 2000 in
set_option synthInstance.maxHeartbeats 400000 in
theorem live_reverseLaw : live.reverseLaw := by
  and_intros <;> decide

theorem witness_ReverseViewLawsAreKept : live.reverseLaw ∧ live.shownLaw ∧ step live = .next live.tick := by
  refine ⟨live_reverseLaw, ?_, rfl⟩
  and_intros <;> decide

theorem witness_LockedGuideSetChangesOnlyAtACameraFrame :
    live.reverseLaw ∧ exec (.frameStart 33333 .cam) live = .next (after (.frameStart 33333 .cam) live)
    ∧ (live.port .cam).lock = .locked ∧ ((after (.frameStart 33333 .cam) live).port .cam).lock = .locked
    ∧ (after (.frameStart 33333 .cam) live).gle.installed ≠ live.gle.installed := by
  refine ⟨live_reverseLaw, rfl, rfl, ?_, ?_⟩ <;> decide

set_option synthInstance.maxSize 2000 in
set_option synthInstance.maxHeartbeats 400000 in
theorem witness_MenuAndKeyLawsAreKept : opened.seatLaw ∧ step opened = .next opened.tick := by
  refine ⟨?_, rfl⟩
  decide

set_option synthInstance.maxSize 2000 in
set_option synthInstance.maxHeartbeats 400000 in
theorem witness_ChimeLawsAreKept :
    (playOn (some (playing (hostChime 1 2))) none ((List.range 8).map (fun k => hostChime (k + 2) 2))).chimeLaw
    ∧ step (playOn none none []) = .next (playOn none none []).tick ∧ (playOn none none []).chimeLaw := by
  refine ⟨?_, rfl, ?_⟩ <;> and_intros <;> decide

theorem witness_LevelsStayWithinTheirRanges : base.levelsLaw ∧ step base = .next base.tick := by
  refine ⟨⟨⟨?_, ?_, ?_⟩, ?_, ?_⟩, rfl⟩ <;> decide

theorem witness_ConsumedSlotsStayConsumed :
    full.cal.slotsLaw ∧ step full = .next full.tick ∧ (full.cal.slot .g3).judged ≠ .blank
    ∧ inFlight.cal.slotsLaw := by
  refine ⟨?_, rfl, ?_, ?_⟩ <;> decide

theorem witness_WorkingCopyChangesOnlyByWriteAndColdStart :
    exec (.calibrationWrite 5) (asking 0x81 (write 26 0 8) base) = .next (after (.calibrationWrite 5) (asking 0x81 (write 26 0 8) base))
    ∧ (after (.calibrationWrite 5) (asking 0x81 (write 26 0 8) base)).cal.working ≠ base.cal.working
    ∧ exec (.powerOn 0 true) oneGood = .next (after (.powerOn 0 true) oneGood)
    ∧ (after (.powerOn 0 true) oneGood).cal.loadedGen ≠ oneGood.cal.loadedGen := by
  refine ⟨rfl, ?_, rfl, ?_⟩ <;> decide

/-! ## Worked examples of the manual. Every expected value stands in the section named. -/

/-- Section 4.7: the built-in guide fields, an angle of +3900 and a camera image of 1280 by 720. -/
def workedInput (angle : Option Int) : GuideInput :=
  { State.reset.guideInput with angle := angle, imageWidth := 1280, imageHeight := 720 }

theorem test_guide_curvature_and_points :
    (workedInput (some 3900)).curvatureK = 15450 ∧ (workedInput (some 3900)).pointCount = 13
    ∧ (workedInput (some 3900)).point 15450 900 4 = some ⟨152, 440, false⟩
    ∧ (workedInput (some 3900)).point 15450 (-900) 12 = some ⟨691, 300, false⟩
    ∧ (workedInput none).point 0 900 4 = some ⟨190, 440, false⟩ := by decide

theorem test_guide_segments_and_crossbars :
    let g := (workedInput (some 3900)).compute
    g.leftSegments[0]? = some ⟨.red, none⟩
    ∧ g.leftSegments[1]? = some ⟨.red, some ⟨0, 551, 27, 533, .first⟩⟩
    ∧ g.rightSegments[1]? = some ⟨.red, some ⟨1279, 563, 1227, 533, .first⟩⟩
    ∧ g.crossbars[3]? = some ⟨3000, .green, some ⟨241, 300, 691, 300, .none⟩⟩ := by decide

/-- Table 6-5: the guide case on a panel of 1280 by 480. -/
theorem test_mapped_guide_ends :
    let g := geometryOf (some (1280, 720)) 1280 480
    g = ⟨214, 0, 852, 480⟩ ∧ mapPoint g 1280 720 0 551 = (214, 367) ∧ mapPoint g 1280 720 1227 533 = (1030, 355)
    ∧ mapPoint g 1280 720 241 300 = (374, 200) := by decide

/-- Table 8-3. -/
theorem test_backlight_targets :
    backlightTarget .adaptive 30 60 (some 20) 2 = 40 ∧ backlightTarget .screen 30 60 none 2 = 70
    ∧ backlightTarget .vehicle 30 30 (some 90) (-10) = 5 ∧ backlightTarget .vehicle 30 100 (some 100) 10 = 100 := by decide

/-- Table 9-5. -/
theorem test_park_gaps :
    parkGapOf 300 80 = 0 ∧ parkGapOf 301 80 = 70 ∧ parkGapOf 900 80 = 395 ∧ parkGapOf 1499 80 = 719 := by decide

/-- Section 2.1: the camera comes up. -/
theorem test_camera_locks :
    (after (.frameStart 1358300 .cam) (camUp { camPort .acquiring 3 0 with lastStamp := some 1325000 })).fdp.cam
      = { camPort .locked 4 0 with lastStamp := some 1358300, watch := some 1458299 } := by decide

theorem test_camera_bad_period :
    (after (.frameStart 1225000 .cam) (camUp { camPort .acquiring 2 0 with lastStamp := some 1186700 })).fdp.cam.good = 0 := by decide

/-- Section 2.2: a bouncing gear lever. -/
theorem test_gear_candidate :
    (after (.gearEdge 5006000 true) base).vin.candidate = some ⟨.reverse, 5006000, 5056000⟩
    ∧ (after (.gearEdge 5004000 false) (gearAt true .notReverse (some ⟨.reverse, 5000000, 5050000⟩) base)).vin.candidate = none := by
  decide

/-- Section 2.3: a report out of range. -/
def workedReport : List Byte := [3] ++ u16 3250 ++ i16 (-8000) ++ [40, 0, 0]

theorem test_report_out_of_range :
    let s := after (.vehicleReport 8000000) (busy (asking 0x10 workedReport base))
    s.vin.speed = 3000 ∧ s.vin.steering = -7800 ∧ s.vin.dimmer = 100 ∧ s.vin.speedWatch = some 8500000
    ∧ s.vin.steeringWatch = some 8300000 ∧ s.cli.queue.map (·.reply) = [some (ok [3])] := by decide

/-- Section 5.10: bring-up with one refusal. -/
def workedOffers : List Byte :=
  [2] ++ u16 1920 ++ u16 1080 ++ [60, 1] ++ u16 1280 ++ u16 720 ++ [60, 1] ++ [20, 0x5A, 0x11, 0x00, 0x07] ++ List.replicate 16 0

def twoOffers (rejected : Bool) : List Offer := [⟨1920, 1080, 60, true, rejected⟩, ⟨1280, 720, 60, true, false⟩]

theorem test_offers_claim_the_larger :
    let l := (after (.offers 60004000 .s1 workedOffers) (linked (hailing 1))).rsl.one
    l.state = .claiming ∧ l.offers = twoOffers false ∧ l.claimed = some 1 ∧ l.claimTimer = some 60104000 := by decide

def workedClaim (n : Nat) : Link :=
  { linkIn .claiming with offers := twoOffers (n = 2), claimed := some n, descriptor := some ([0x5A, 0x11, 0x00, 0x07] ++ List.replicate 16 0) }

theorem test_reject_claims_the_other :
    let l := (after (.reject 60006000 .s1) (linked (workedClaim 1))).rsl.one
    l.state = .claiming ∧ l.offers = twoOffers true ∧ l.claimed = some 2 ∧ l.claimTimer = some 60106000 := by decide

theorem test_accept_streams :
    let l := (after (.accept 60008000 .s1) (linked (workedClaim 2))).rsl.one
    l.agreement = some ⟨2, 1280, 720, 60, true, 0x5A110007⟩ ∧ l.pollTimer = some 60018000
    ∧ l.queue = [⟨.panelPower true, true, 1⟩, ⟨.backlight 100, false, 0⟩] ∧ l.commandToggle = false := by decide

/-- Section 5.10, the STATUS at 60,009,000 with command-ack 1 and ambient 40. -/
theorem test_status_acknowledges_and_replaces :
    let queue : List Command := [⟨.panelPower true, true, 1⟩, ⟨.backlight 100, false, 0⟩]
    let s := { linked (streaming queue 0) with sct := { base.sct with seat := ⟨{ base.sct.seat.one with lastSent := some 100 }, base.sct.seat.two⟩ } }
    (after (.status 60009000 .s1 [1, 40, 0]) s).rsl.one.queue = [⟨.backlight 70, false, 0⟩] := by decide

/-- Section 7.7: page 2, whose item 2 is disabled. -/
def films (seven : Bool) : Page :=
  ⟨2, [], (List.range 7).map (fun k => ⟨.report (k + 11), [65], k ≠ 1 && (seven || k ≠ 6), none⟩) ++ [⟨.back, [66], true, none⟩]⟩

def atFilms (focus : Nat) : State := showing ⟨2, some focus, 1⟩ (stored [films true] (linked (streaming [] 0)))

theorem test_down_moves_the_window :
    ((after (.repeatTimerExpiry 400000 .s1) (holding .down (atFilms 6))).ctx .s1).stack = [⟨2, some 7, 2⟩]
    ∧ ((after (.repeatTimerExpiry 400000 .s1) (holding .down (atFilms 1))).ctx .s1).stack = [⟨2, some 3, 1⟩] := by decide

theorem test_item_set_adjusts_the_focus :
    let s := showing ⟨2, some 7, 2⟩ (stored [films true] (linked (streaming [] 0)))
    let s' := after (.itemSet 0) (busy (asking 0x53 [2, 7, 0, 0] s))
    (s'.ctx .s1).stack = [⟨2, some 8, 3⟩] ∧ s'.mnu.store = [films false] := by decide

/-- Section 8.9: the repeats at 5,500 and 5,650 ms after a press at 5,000. -/
theorem test_volume_runs_on :
    let s := { holding .volUp base with sct := { base.sct with seat := ⟨{ (holding .volUp base).sct.seat.one with
                 volume := 47, step := 2, lastDir := some .up, lastStamp := some 5500000, repeatTimer := some 5650000 }, base.sct.seat.two⟩ } }
    let r := (after (.repeatTimerExpiry 5650000 .s1) s).sct.seat.one
    r.volume = 49 ∧ r.step = 3 ∧ r.repeatTimer = some 5800000 := by decide

theorem test_volume_starts_anew :
    let s := { holding .volUp base with sct := { base.sct with seat := ⟨{ (holding .volUp base).sct.seat.one with
                 volume := 46, step := 2, lastDir := some .up, lastStamp := some 5000000, repeatTimer := some 5500000 }, base.sct.seat.two⟩ } }
    let r := (after (.repeatTimerExpiry 5500000 .s1) s).sct.seat.one
    r.volume = 47 ∧ r.step = 2 := by decide

/-- Section 9.8: a host chime of priority 7 over the park beep. -/
def beeping : State :=
  playOn (some ⟨⟨20, 4, ⟨true, false, false⟩, 6, .repeat, .park, 0⟩, 0, 0, 100, 80⟩) none []

theorem test_warning_preempts_the_park_beep :
    let s := after (.chimePlay 0) (busy (asking 0x71 [7, 3, 7, 1] beeping))
    s.chu.voice1.map (·.chime.handle) = some 21 ∧ s.chu.voice2 = none ∧ s.chu.queue.map (·.handle) = [20]
    ∧ s.cli.queue.map (·.reply) = [some (ok [21, 1])] := by decide

/-- Section 1.2: the fifth request finds four entries. -/
theorem test_fifth_request_is_refused :
    let four := (List.range 4).map (fun k => (⟨BitVec.ofNat 8 (0x20 + k), 0x01, [], some (ok [])⟩ : Request))
    let s := busy { base with cli := { base.cli with queue := four, complete := [frame 0x01 0x24 0x01 []] } }
    let s' := after (.candidateFrameComplete 0) s
    s'.cli.queue = four ∧ s'.cli.refusals = [⟨0x24, .queueFull⟩] := by decide

/-- Section 3.3: a fresh speed of 120 ends HELD. -/
theorem test_speed_exit :
    let s := after (.vehicleReport 46200000) (busy (asking 0x10 ([1] ++ u16 120 ++ [0, 0, 0, 0, 0]) (held 48000000)))
    s.rvc.state = .off ∧ s.rvc.reason = .speedExit ∧ s.rvc.heldView = .none ∧ s.rvc.holdTimer = none := by decide

/-- Section 3.5: a confirmed REVERSE wakes the part from STANDBY. -/
theorem test_reverse_wakes :
    let s := after (.gearDebounceExpiry 20050000) (busy (inStandby (gearAt true .notReverse (some ⟨.reverse, 20000000, 20050000⟩) base)))
    s.cli.mode = .run ∧ s.rvc.state = .cueing ∧ s.rvc.cueDeadline = some 22050000 ∧ s.fdp.camPower = true
    ∧ s.cli.board.take 2 = [⟨0, .mode .run .reverseWake, 20050000, false⟩, ⟨0, .reverse .cueing .gearReverse .none 20000000, 20050000, false⟩] := by
  decide

/-- The first bytes of the page record that a PAGE LOAD of two bytes cannot hold. -/
theorem test_page_walk_must_end_at_the_last_byte : walkPage (record 63 ++ [0]) = none ∧ walkPage [1] = none := by decide

/-- R136: on an output of 120 rows h is 12 and f is 1, so a glyph's top stands (12 - 16) div 2, rounded down to -2, from its row. -/
theorem test_glyph_top_of_a_low_row : glyphTop 12 1 0 = 10 ∧ glyphTop 72 4 0 = 76 := by decide

/-- Section 8.9: the VOL_UP press at 300, handed on by a STATUS with a new report toggle, and the release after it; R141: a
media key is forwarded. -/
theorem test_status_hands_on_a_press :
    let s := { linked (streaming [] 0) with sct := (volumeAt 31 2 (some .up) base).sct }
    let r := (after (.status 550000 .s1 [4, 50, 1, 8, 1]) s).sct.seat.one
    r.volume = 33 ∧ r.step = 3 ∧ r.held = some .volUp ∧ r.repeatTimer = some 1050000
    ∧ ((after (.status 550000 .s1 [0, 50, 1, 8, 1]) s).sct.seat.one).volume = 31
    ∧ ((after (.status 550000 .s1 [4, 50, 2, 8, 1, 8, 2]) s).sct.seat.one).held = none
    ∧ (after (.status 0 .s1 [4, 50, 1, 12, 1]) (busy s)).cli.board = [⟨1, .key .playPause .press, 0, false⟩] := by
  and_intros <;> decide

/-- Section 9.8, at 520 and 600: chime 23 ends and leaves voice 2 free; chime 21 ends and the park beep returns with a gap of 395. -/
theorem test_ends_fill_the_voices :
    let park : Chime := ⟨20, 4, ⟨true, false, false⟩, 6, .repeat, .park, 0⟩
    let s0 : State := playOn (some ⟨⟨21, 2, ⟨true, true, false⟩, 7, .once, .host, 1⟩, 2, 1, 600000, 600000⟩)
      (some ⟨⟨23, 0, ⟨false, false, true⟩, 3, .once, .host, 3⟩, 0, 1, 520000, 520000⟩) [park]
    let s := busy { s0 with vin := { s0.vin with obstacle := some 900 } }
    let s1 := after (.stepEnd 520000 .v2) s
    let s2 := after (.stepEnd 600000 .v1) s1
    s1.chu.voice2 = none ∧ s1.chu.queue = [park] ∧ s1.cli.board.map (fun e => (e.source, e.body)) = [(23, .chime .ended)]
    ∧ s2.chu.voice1.map (·.chime) = some park ∧ s2.chu.parkGap = 395 ∧ s2.chu.voice2 = none ∧ s2.chu.queue = [] := by
  and_intros <;> decide

/-- R160: a zone ducks at -15 with its step timer running. A duck level of -15 is its goal and stops the timer; a further write, of
-30, finds the gain at rest, and its next step falls 10 ms after that write. -/
theorem test_duck_level_met :
    let s : State := { base with chu := { (playOn (some (playing { hostChime 1 5 with zones := ⟨false, true, false⟩ })) none []).chu with
                                          duck := ⟨⟨true, -15, some 9000⟩, ⟨false, 0, none⟩⟩ } }
    let s1 := after (.calibrationWrite 2000) (busy (asking 0x81 (write 37 0 (-15)) s))
    let s2 := after (.calibrationWrite 5000) (busy (asking 0x81 (write 37 0 (-30)) s1))
    s1.chu.duck = ⟨⟨true, -15, none⟩, ⟨false, 0, none⟩⟩ ∧ s2.chu.duck = ⟨⟨true, -15, some 15000⟩, ⟨false, 0, none⟩⟩ := by
  and_intros <;> decide

/-- R36, R42, R49: the cue deadline posts one REVERSE notice with the latest edge stamp and plays the fault chime, pattern 3 with
priority 7; its handle is kept. -/
theorem test_fault_is_told_and_sounds :
    let s := withRvc { (cueing 2000).rvc with latestEdge := some .reverse, reverseStamp := some 90 } (cueing 2000)
    let s1 := after (.cueDeadlineExpiry 2000) (busy s)
    ofKind .reverse (s1.cli.board.map (fun e => (e.source, e.body))) = [(0, .reverse .fault .noPicture .none 90)]
    ∧ s1.chu.voice1.map (·.chime) = some ⟨1, 3, ⟨true, false, false⟩, 7, .repeat, .reverse, 0⟩ ∧ s1.rvc.faultChime = some 1 := by
  and_intros <;> decide

/-- Section 3.3, 41,500,000: HELD with held view FAULT goes on showing black with banner 2 although CAM is LOCKED again; with held
view CAMERA the picture is drawn. -/
theorem test_held_fault_stays_black :
    let s := fun (v : FrontView) => { heldLocked with cmp := { heldLocked.cmp with frontView := v, front := { heldLocked.cmp.front with shown := frontBanner v false false } } }
    let drawn := fun (v : FrontView) => (after (.outputFrameStart 16666 .fro) (s v)).cmp.front.frame.map (fun c => (c.picture, c.banner.isSome))
    drawn .fault = some (none, true) ∧ drawn .picture = some (some .cam, false) := by decide

/-- R161: 0 dB keeps a sample, -20 dB divides it by ten, and a product that is no whole number becomes a neighbour: 7 at -6 dB is
3.51. -/
theorem test_gain_of_a_sample :
    atGain 0 (-9) true = -9 ∧ atGain (-20) 20 true = 2 ∧ atGain (-6) (-7) false = -3 ∧ atGain (-6) (-7) true = -4 := by decide

end Sys2Proof.Tests
end

section
/-! # Proofs: the notice board (R13) -/

namespace Sys2Proof.Machine

theorem BoardEntry.sameMatter_iff (e : BoardEntry) (source : Nat) (body : NoticeBody) :
    e.sameMatter source body = true ↔ e.body.kind = body.kind ∧ e.source = source := by
  simp [BoardEntry.sameMatter, and_comm]

theorem Cli.board_has_matter_iff (c : Cli) (source : Nat) (body : NoticeBody) :
    c.board.any (·.sameMatter source body) = true ↔ ∃ e ∈ c.board, e.body.kind = body.kind ∧ e.source = source := by
  simp only [List.any_eq_true, BoardEntry.sameMatter_iff]

theorem Cli.board_lacks_matter {c : Cli} {source : Nat} {body : NoticeBody}
    (h : ∀ e ∈ c.board, ¬ (e.body.kind = body.kind ∧ e.source = source)) :
    c.board.any (·.sameMatter source body) = false := by
  rw [Bool.eq_false_iff, Ne, Cli.board_has_matter_iff]
  rintro ⟨e, he, hm⟩
  exact h e he hm

/-- R13: what a notice makes of an entry of the board when it merges. -/
def BoardEntry.mergedWith (e : BoardEntry) (now : Stamp) (source : Nat) (body : NoticeBody) : BoardEntry :=
  if e.sameMatter source body then ⟨source, body, now, true⟩ else e

theorem BoardEntry.mergedWith_same {e : BoardEntry} {source : Nat} {body : NoticeBody} (now : Stamp)
    (h : e.body.kind = body.kind ∧ e.source = source) : e.mergedWith now source body = ⟨source, body, now, true⟩ :=
  if_pos ((e.sameMatter_iff source body).2 h)

theorem BoardEntry.mergedWith_other {e : BoardEntry} {source : Nat} {body : NoticeBody} (now : Stamp)
    (h : ¬ (e.body.kind = body.kind ∧ e.source = source)) : e.mergedWith now source body = e :=
  if_neg (fun hm => h ((e.sameMatter_iff source body).1 hm))

/-- A merge keeps the kind and the source of every entry. -/
theorem BoardEntry.mergedWith_matter (e : BoardEntry) (now : Stamp) (source : Nat) (body : NoticeBody) :
    ((e.mergedWith now source body).body.kind, (e.mergedWith now source body).source) = (e.body.kind, e.source) := by
  by_cases h : e.body.kind = body.kind ∧ e.source = source
  · rw [BoardEntry.mergedWith_same now h, h.1, h.2]
  · rw [BoardEntry.mergedWith_other now h]

theorem Cli.post_mergedWith {c : Cli} {body : NoticeBody} {source : Nat} (now : Stamp)
    (h : c.selection.getD body.kind.index false = true) (hm : ∃ e ∈ c.board, e.body.kind = body.kind ∧ e.source = source) :
    c.post now source body = { c with board := c.board.map (·.mergedWith now source body) } :=
  Cli.post_merges now h ((c.board_has_matter_iff source body).2 hm)

/-- A board with one entry of a matter keeps every other entry as it is and in its place when that one is overwritten. -/
theorem map_mergedWith_split {before after : List BoardEntry} {e : BoardEntry} {source : Nat} {body : NoticeBody} (now : Stamp)
    (he : e.body.kind = body.kind ∧ e.source = source)
    (hx : ∀ x ∈ before ++ after, ¬ (x.body.kind = body.kind ∧ x.source = source)) :
    (before ++ e :: after).map (·.mergedWith now source body) = before ++ ⟨source, body, now, true⟩ :: after := by
  have keep : ∀ l : List BoardEntry, (∀ x ∈ l, x ∈ before ++ after) → l.map (·.mergedWith now source body) = l := by
    intro l hl
    exact (List.map_congr_left (fun x hm => BoardEntry.mergedWith_other now (hx x (hl x hm)))).trans l.map_id
  rw [List.map_append, List.map_cons, BoardEntry.mergedWith_same now he,
    keep before (fun x hm => List.mem_append_left _ hm), keep after (fun x hm => List.mem_append_right _ hm)]

/-- The kinds and sources on the board after a post: those before it, and the notice's own when it joins. -/
theorem Cli.post_matters (c : Cli) (now : Stamp) (source : Nat) (body : NoticeBody) :
    (c.post now source body).board.map (fun e => (e.body.kind, e.source)) = c.board.map (fun e => (e.body.kind, e.source))
    ∨ (∀ e ∈ c.board, ¬ (e.body.kind = body.kind ∧ e.source = source))
      ∧ (c.post now source body).board.map (fun e => (e.body.kind, e.source))
          = c.board.map (fun e => (e.body.kind, e.source)) ++ [(body.kind, source)] := by
  cases hs : c.selection.getD body.kind.index false with
  | false => left; rw [Cli.post_disabled now source hs]
  | true =>
    by_cases hm : ∃ e ∈ c.board, e.body.kind = body.kind ∧ e.source = source
    · left
      rw [Cli.post_mergedWith now hs hm, List.map_map]
      exact List.map_congr_left (fun e _ => e.mergedWith_matter now source body)
    · have hn : ∀ e ∈ c.board, ¬ (e.body.kind = body.kind ∧ e.source = source) := fun e he h => hm ⟨e, he, h⟩
      by_cases hr : c.board.length < 24
      · right
        rw [Cli.post_joins now hs (Cli.board_lacks_matter hn) hr, List.map_append]
        exact ⟨hn, rfl⟩
      · left; rw [Cli.post_drops now hs (Cli.board_lacks_matter hn) hr]

/-- R13: a post keeps the board free of two entries of one kind and source. -/
theorem Cli.post_nodup {c : Cli} (now : Stamp) (source : Nat) (body : NoticeBody)
    (h : (c.board.map (fun e => (e.body.kind, e.source))).Nodup) :
    ((c.post now source body).board.map (fun e => (e.body.kind, e.source))).Nodup := by
  rcases c.post_matters now source body with he | ⟨hn, he⟩
  · rwa [he]
  · rw [he, List.nodup_append_comm, List.singleton_append, List.nodup_cons]
    refine ⟨fun hm => ?_, h⟩
    obtain ⟨e, hb, hk⟩ := List.mem_map.1 hm
    exact hn e hb ⟨congrArg Prod.fst hk, congrArg Prod.snd hk⟩

end Sys2Proof.Machine

open Sys2Proof Sys2Proof.Machine

/-- Settles O15, by the cases of a post: disabled, merged, joined, dropped. -/
theorem postMergesJoinsOrDrops : Obligations.PostMergesJoinsOrDrops := by
  unfold Obligations.PostMergesJoinsOrDrops
  intro s source body
  have post_eq : ∀ c, s.cli.post s.timebase source body = c → s.post source body = { s with cli := c } := by
    rintro c rfl; rfl
  refine ⟨fun hs => post_eq _ (Cli.post_disabled _ _ hs), fun hs => ⟨?merged, ?joined, ?dropped⟩, Cli.post_nodup _ _ _⟩
  case merged =>
    intro before e after hb hk hsrc hx
    apply post_eq
    rw [Cli.post_mergedWith _ hs ⟨e, by simp [hb], hk, hsrc⟩, hb, map_mergedWith_split _ ⟨hk, hsrc⟩ hx]
  case joined =>
    intro hn hr
    exact post_eq _ (Cli.post_joins _ hs (Cli.board_lacks_matter hn) hr)
  case dropped =>
    intro hn hr
    exact post_eq _ (Cli.post_drops _ hs (Cli.board_lacks_matter hn) (Nat.not_lt.2 hr))

end

section
/-! # Proofs: what the owners of the requests answer (R4, R5) -/

namespace Sys2Proof.Machine

/-- R5: what a request's owner may answer from `s`: a refusal that leaves `s` as it is, or OK or STARTED with a state that
`keeps` of `s` what it must. -/
inductive Answers (keeps : State → State → Prop) (s : State) : State × Reply → Prop
  | refused (r : Result) : Answers keeps s (s, refuse r)
  | acted {s' : State} (payload : List Byte) (h : keeps s' s) : Answers keeps s (s', ok payload)
  | started {s' : State} (payload : List Byte) (h : keeps s' s) : Answers keeps s (s', ⟨.started, payload⟩)

theorem Answers.mono {keeps keeps' : State → State → Prop} {s : State} {a : State × Reply} (h : Answers keeps s a)
    (hk : ∀ s', keeps s' s → keeps' s' s) : Answers keeps' s a := by
  cases h with
  | refused r => exact .refused r
  | acted p h => exact .acted p (hk _ h)
  | started p h => exact .started p (hk _ h)

/-- What `keeps` says of the state after every answer, when it holds of a state that is left as it is. -/
theorem Answers.kept {keeps : State → State → Prop} {s : State} {a : State × Reply} (h : Answers keeps s a)
    (hs : keeps s s) : keeps a.1 s := by
  cases h with
  | refused r => exact hs
  | acted p h => exact h
  | started p h => exact h

/-- R5: an answer with another result than OK and STARTED has an empty payload and changes nothing. -/
theorem Answers.unchanged {keeps : State → State → Prop} {s : State} {a : State × Reply} (h : Answers keeps s a)
    (hok : a.2.result ≠ .ok) (hst : a.2.result ≠ .started) : a.2.payload = [] ∧ a.1 = s := by
  cases h with
  | refused r => exact ⟨rfl, rfl⟩
  | acted p h => exact absurd rfl hok
  | started p h => exact absurd rfl hst

/-- The request queue is as it was. -/
abbrev keepsQueue (s' s : State) : Prop := s'.cli.queue = s.cli.queue

/-- The request queue and the part mode are as they were. -/
abbrev keepsQueueAndMode (s' s : State) : Prop := s'.cli.queue = s.cli.queue ∧ s'.cli.mode = s.cli.mode

/-- The whole control link is as it was. -/
abbrev keepsCli (s' s : State) : Prop := s'.cli = s.cli

theorem keepsQueueAndMode_of_cli {s' s : State} (h : s'.cli = s.cli) : keepsQueueAndMode s' s := by
  rw [keepsQueueAndMode, h]; exact ⟨rfl, rfl⟩

variable (p : List Byte) (s : State)

/-! ## Control link interface, part mode, vehicle intake and feed ports -/

theorem ownIdentify_answers : Answers keepsQueueAndMode s (ownIdentify p s) := .acted _ ⟨rfl, rfl⟩

/-- MODE SET alone changes the part mode. -/
theorem ownModeSet_answers : Answers keepsQueue s (ownModeSet p s) := by
  unfold ownModeSet
  split
  · exact .refused _
  split
  · exact .acted _ rfl
  split
  · exact .acted _ (by simp [keepsQueue])
  split
  · exact .acted _ (by simp [keepsQueue])
  · exact .refused _

theorem ownRestart_answers : Answers keepsQueueAndMode s (ownRestart p s) := .acted _ ⟨rfl, rfl⟩

theorem ownNoticeSelect_answers : Answers keepsQueueAndMode s (ownNoticeSelect p s) := by
  unfold ownNoticeSelect
  split
  · exact .refused _
  · exact .acted _ ⟨rfl, rfl⟩

theorem ownStatusLineMap_answers : Answers keepsQueueAndMode s (ownStatusLineMap p s) := by
  unfold ownStatusLineMap
  split
  · exact .refused _
  · exact .acted _ ⟨rfl, rfl⟩

theorem ownVehicleReport_answers : Answers keepsQueueAndMode s (ownVehicleReport p s) :=
  .acted _ ⟨by simp, by simp⟩

theorem ownFeedFormat_answers : Answers keepsQueueAndMode s (ownFeedFormat p s) := by
  unfold ownFeedFormat
  split
  · exact .refused _
  simp only []
  split
  · exact .refused _
  split
  · exact .refused _
  split
  · exact .refused _
  · exact .acted _ ⟨by simp, by simp⟩

/-! ## Reverse view, guide lines and compositor -/

theorem ownReverseDismiss_answers : Answers keepsQueueAndMode s (ownReverseDismiss p s) := by
  unfold ownReverseDismiss
  split
  · exact .acted _ ⟨by simp, by simp⟩
  · exact .refused _

theorem ownReverseStatus_answers : Answers keepsQueueAndMode s (ownReverseStatus p s) := .acted _ ⟨rfl, rfl⟩

theorem ownGuideQuery_answers : Answers keepsQueueAndMode s (ownGuideQuery p s) := by
  unfold ownGuideQuery
  split
  · exact .refused _
  split
  · exact .acted _ (keepsQueueAndMode_of_cli (by simp))
  · exact .acted _ ⟨rfl, rfl⟩

theorem ownRouteSet_answers : Answers keepsQueueAndMode s (ownRouteSet p s) := by
  unfold ownRouteSet
  split
  · exact .refused _
  split
  · exact .acted _ ⟨by simp, by simp⟩
  · exact .refused _

theorem ownCameraPreview_answers : Answers keepsQueueAndMode s (ownCameraPreview p s) := by
  unfold ownCameraPreview
  split
  · exact .refused _
  split
  · exact .refused _
  · exact .acted _ ⟨by simp, by simp⟩

theorem ownBannerSet_answers : Answers keepsQueueAndMode s (ownBannerSet p s) := by
  unfold ownBannerSet
  split
  · exact .refused _
  split
  · exact .refused _
  split
  · exact .refused _
  · exact .acted _ (keepsQueueAndMode_of_cli (by simp))

/-! ## Rear screen links -/

theorem ownLinkPolicySet_answers : Answers keepsQueueAndMode s (ownLinkPolicySet p s) := by
  unfold ownLinkPolicySet
  split
  · exact .refused _
  simp only []
  split
  · exact .refused _
  split
  · exact .refused _
  split
  · exact .refused _
  · exact .acted _ ⟨rfl, rfl⟩

theorem ownLinkReoffer_answers : Answers keepsQueueAndMode s (ownLinkReoffer p s) := by
  unfold ownLinkReoffer
  split
  · exact .refused _
  split
  · exact .acted _ ⟨by simp, by simp⟩
  · exact .refused _

theorem ownLinkRestart_answers : Answers keepsQueueAndMode s (ownLinkRestart p s) := by
  unfold ownLinkRestart
  split
  · exact .refused _
  split
  · exact .acted _ ⟨by simp, by simp⟩
  · exact .refused _

theorem ownLinkCommand_answers : Answers keepsQueueAndMode s (ownLinkCommand p s) := by
  unfold ownLinkCommand
  split
  · exact .refused _
  split
  · exact .refused _
  simp only []
  split
  · exact .refused _
  split
  · exact .refused _
  · exact .acted _ ⟨rfl, rfl⟩

theorem ownLinkStatus_answers : Answers keepsQueueAndMode s (ownLinkStatus p s) := by
  unfold ownLinkStatus
  split
  · exact .refused _
  · exact .acted _ ⟨rfl, rfl⟩

theorem State.readDescriptor_answers (i : Seat) (start : Nat) :
    Answers keepsQueueAndMode s (s.readDescriptor i start) := by
  unfold State.readDescriptor
  split
  · exact .refused _
  · exact .acted _ ⟨rfl, rfl⟩

theorem ownDescriptorReadStart_answers : Answers keepsQueueAndMode s (ownDescriptorReadStart p s) := by
  unfold ownDescriptorReadStart
  split
  · exact .refused _
  · exact s.readDescriptor_answers _ _

theorem ownDescriptorReadContinue_answers : Answers keepsQueueAndMode s (ownDescriptorReadContinue p s) := by
  unfold ownDescriptorReadContinue
  split
  · exact .refused _
  · exact s.readDescriptor_answers _ _

/-! ## Menu engine -/

theorem ownPageLoad_answers : Answers keepsQueueAndMode s (ownPageLoad p s) := by
  unfold ownPageLoad
  split
  · exact .refused _
  split
  · exact .acted _ (keepsQueueAndMode_of_cli (by split <;> simp))
  · exact .refused _

theorem ownPageRemove_answers : Answers keepsQueueAndMode s (ownPageRemove p s) := by
  unfold ownPageRemove
  simp only []
  split
  · exact .refused _
  split
  · exact .refused _
  · exact .acted _ ⟨by simp, by simp⟩

theorem ownPageClear_answers : Answers keepsQueueAndMode s (ownPageClear p s) :=
  .acted _ ⟨by simp, by simp⟩

theorem ownItemSet_answers : Answers keepsQueueAndMode s (ownItemSet p s) := by
  unfold ownItemSet
  split
  · exact .refused _
  split
  · exact .refused _
  split
  · exact .refused _
  split
  · exact .refused _
  · exact .acted _ (keepsQueueAndMode_of_cli (by simp))

theorem ownSeatRootSet_answers : Answers keepsQueueAndMode s (ownSeatRootSet p s) := by
  unfold ownSeatRootSet
  split
  · exact .refused _
  split
  · exact .refused _
  · exact .acted _ ⟨rfl, rfl⟩

theorem ownMenuOpen_answers : Answers keepsQueueAndMode s (ownMenuOpen p s) := by
  unfold ownMenuOpen
  split
  · exact .refused _
  split
  · exact .refused _
  split
  · exact .refused _
  split
  · exact .refused _
  · exact .acted _ ⟨rfl, rfl⟩

theorem ownMenuClose_answers : Answers keepsQueueAndMode s (ownMenuClose p s) := by
  unfold ownMenuClose
  split
  · exact .refused _
  split
  · exact .acted _ ⟨by simp, by simp⟩
  · exact .refused _

theorem ownMenuState_answers : Answers keepsQueueAndMode s (ownMenuState p s) := by
  unfold ownMenuState
  split
  · exact .refused _
  · exact .acted _ ⟨rfl, rfl⟩

/-! ## Seat control -/

theorem ownZoneLevelSet_answers : Answers keepsQueueAndMode s (ownZoneLevelSet p s) := by
  unfold ownZoneLevelSet
  split
  · exact .refused _
  · simp only []
    generalize (if 60 < byteAt p 1 then 60 else byteAt p 1) = v
    refine .acted _ ?_
    split
    · exact ⟨rfl, rfl⟩
    · exact ⟨by simp, by simp⟩

theorem ownBacklightPolicySet_answers : Answers keepsQueueAndMode s (ownBacklightPolicySet p s) := by
  unfold ownBacklightPolicySet
  split
  · exact .refused _
  split
  · exact .refused _
  split
  · exact .refused _
  · exact .acted _ (keepsQueueAndMode_of_cli (by simp))

/-! ## Chime unit -/

/-- R153: an arrival is taken, playing or waiting, or it takes no record, handle or order and is answered QUEUE_FULL. -/
theorem State.arrive_taken_or_unchanged (r : ChimeRequest) :
    (∃ payload, arrivalReply (s.arrive r).2 = ok payload)
    ∨ ((s.arrive r).1 = s ∧ arrivalReply (s.arrive r).2 = refuse .queueFull) := by
  unfold State.arrive
  simp only []
  split
  · exact .inl ⟨_, rfl⟩
  split
  · exact .inr ⟨rfl, rfl⟩
  split
  · exact .inl ⟨_, rfl⟩
  split
  · exact .inl ⟨_, rfl⟩
  · exact .inr ⟨rfl, rfl⟩

theorem State.arrive_answers (r : ChimeRequest) :
    Answers keepsQueueAndMode s ((s.arrive r).1, arrivalReply (s.arrive r).2) := by
  rcases s.arrive_taken_or_unchanged r with ⟨payload, h⟩ | ⟨hs, h⟩
  · rw [h]; exact .acted _ ⟨by simp, by simp⟩
  · rw [hs, h]; exact .refused _

theorem ownChimePatternLoad_answers : Answers keepsQueueAndMode s (ownChimePatternLoad p s) := by
  unfold ownChimePatternLoad
  split
  · exact .refused _
  split
  · exact .refused _
  split
  · exact .refused _
  · exact .acted _ ⟨rfl, rfl⟩

theorem ownChimePlay_answers : Answers keepsQueueAndMode s (ownChimePlay p s) := by
  unfold ownChimePlay
  split
  · exact .refused _
  · exact s.arrive_answers _

theorem ownChimeCancel_answers : Answers keepsQueueAndMode s (ownChimeCancel p s) := by
  unfold ownChimeCancel
  simp only []
  split
  · exact .refused _
  split
  · exact .refused _
  · exact .acted _ ⟨by simp, by simp⟩

theorem ownChimeStatus_answers : Answers keepsQueueAndMode s (ownChimeStatus p s) := .acted _ ⟨rfl, rfl⟩

theorem ownFrontLevelSet_answers : Answers keepsQueueAndMode s (ownFrontLevelSet p s) := by
  unfold ownFrontLevelSet
  split
  · exact .refused _
  · exact .acted _ ⟨rfl, rfl⟩

/-! ## Calibration store -/

theorem ownCalibrationRead_answers : Answers keepsQueueAndMode s (ownCalibrationRead p s) := by
  unfold ownCalibrationRead
  split
  · exact .refused _
  · exact .acted _ ⟨rfl, rfl⟩

theorem ownCalibrationWrite_answers_keeping_cli : Answers keepsCli s (ownCalibrationWrite p s) := by
  unfold ownCalibrationWrite
  simp only []
  split
  · exact .refused _
  split
  · exact .refused _
  split
  · exact .refused _
  · exact .acted _ (s.writeField_cli _ _ _)

theorem ownCalibrationWrite_answers : Answers keepsQueueAndMode s (ownCalibrationWrite p s) :=
  (ownCalibrationWrite_answers_keeping_cli p s).mono (fun _ h => keepsQueueAndMode_of_cli h)

theorem ownCalibrationCheck_answers : Answers keepsQueueAndMode s (ownCalibrationCheck p s) := .acted _ ⟨rfl, rfl⟩

theorem ownCalibrationProgram_answers : Answers keepsQueueAndMode s (ownCalibrationProgram p s) := by
  unfold ownCalibrationProgram
  split
  · exact .refused _
  split
  · exact .refused _
  split
  · exact .refused _
  · exact .started _ ⟨rfl, rfl⟩

end Sys2Proof.Machine
end

section
/-! # Proofs: the requests of Table 1-3 (R4, R5) -/

namespace Sys2Proof.Machine

/-- The owner of a request, for the commands that are requests; `exec_request` ties it to the model. -/
def ownerOf (c : Instr) : Owner :=
  match c with
  | .identify _ => ownIdentify
  | .modeSet _ => ownModeSet
  | .restart _ => ownRestart
  | .noticeSelect _ => ownNoticeSelect
  | .statusLineMap _ => ownStatusLineMap
  | .vehicleReport _ => ownVehicleReport
  | .feedFormat _ => ownFeedFormat
  | .reverseDismiss _ => ownReverseDismiss
  | .reverseStatus _ => ownReverseStatus
  | .guideQuery _ => ownGuideQuery
  | .linkPolicySet _ => ownLinkPolicySet
  | .linkReoffer _ => ownLinkReoffer
  | .linkRestart _ => ownLinkRestart
  | .linkCommand _ => ownLinkCommand
  | .linkStatus _ => ownLinkStatus
  | .descriptorReadStart _ => ownDescriptorReadStart
  | .descriptorReadContinue _ => ownDescriptorReadContinue
  | .routeSet _ => ownRouteSet
  | .cameraPreview _ => ownCameraPreview
  | .bannerSet _ => ownBannerSet
  | .pageLoad _ => ownPageLoad
  | .pageRemove _ => ownPageRemove
  | .pageClear _ => ownPageClear
  | .itemSet _ => ownItemSet
  | .seatRootSet _ => ownSeatRootSet
  | .menuOpen _ => ownMenuOpen
  | .menuClose _ => ownMenuClose
  | .menuState _ => ownMenuState
  | .zoneLevelSet _ => ownZoneLevelSet
  | .backlightPolicySet _ => ownBacklightPolicySet
  | .chimePatternLoad _ => ownChimePatternLoad
  | .chimePlay _ => ownChimePlay
  | .chimeCancel _ => ownChimeCancel
  | .chimeStatus _ => ownChimeStatus
  | .frontLevelSet _ => ownFrontLevelSet
  | .calibrationRead _ => ownCalibrationRead
  | .calibrationWrite _ => ownCalibrationWrite
  | .calibrationCheck _ => ownCalibrationCheck
  | .calibrationProgram _ => ownCalibrationProgram
  | _ => fun _ s => (s, refuse .unknownRequest)

/-- A request's command is the dispatch of its code, under the checks of its row of Table 1-3, to its owner. -/
theorem exec_request {c : Instr} {row : RequestRow} (h : requestRow c = some row) (s : State) :
    exec c s = s.request (stampOf c) row.code row.lengthOk row.inStandby (ownerOf c) := by
  cases c <;> cases h <;> rfl

/-- Every request but MODE SET leaves the part mode. -/
theorem ownerOf_answers_keeping_mode {c : Instr} (hc : ∀ t, c ≠ .modeSet t) (p : List Byte) (s : State) :
    Answers keepsQueueAndMode s (ownerOf c p s) := by
  cases c with
  | modeSet t => exact absurd rfl (hc t)
  | identify _ => exact ownIdentify_answers p s
  | restart _ => exact ownRestart_answers p s
  | noticeSelect _ => exact ownNoticeSelect_answers p s
  | statusLineMap _ => exact ownStatusLineMap_answers p s
  | vehicleReport _ => exact ownVehicleReport_answers p s
  | feedFormat _ => exact ownFeedFormat_answers p s
  | reverseDismiss _ => exact ownReverseDismiss_answers p s
  | reverseStatus _ => exact ownReverseStatus_answers p s
  | guideQuery _ => exact ownGuideQuery_answers p s
  | linkPolicySet _ => exact ownLinkPolicySet_answers p s
  | linkReoffer _ => exact ownLinkReoffer_answers p s
  | linkRestart _ => exact ownLinkRestart_answers p s
  | linkCommand _ => exact ownLinkCommand_answers p s
  | linkStatus _ => exact ownLinkStatus_answers p s
  | descriptorReadStart _ => exact ownDescriptorReadStart_answers p s
  | descriptorReadContinue _ => exact ownDescriptorReadContinue_answers p s
  | routeSet _ => exact ownRouteSet_answers p s
  | cameraPreview _ => exact ownCameraPreview_answers p s
  | bannerSet _ => exact ownBannerSet_answers p s
  | pageLoad _ => exact ownPageLoad_answers p s
  | pageRemove _ => exact ownPageRemove_answers p s
  | pageClear _ => exact ownPageClear_answers p s
  | itemSet _ => exact ownItemSet_answers p s
  | seatRootSet _ => exact ownSeatRootSet_answers p s
  | menuOpen _ => exact ownMenuOpen_answers p s
  | menuClose _ => exact ownMenuClose_answers p s
  | menuState _ => exact ownMenuState_answers p s
  | zoneLevelSet _ => exact ownZoneLevelSet_answers p s
  | backlightPolicySet _ => exact ownBacklightPolicySet_answers p s
  | chimePatternLoad _ => exact ownChimePatternLoad_answers p s
  | chimePlay _ => exact ownChimePlay_answers p s
  | chimeCancel _ => exact ownChimeCancel_answers p s
  | chimeStatus _ => exact ownChimeStatus_answers p s
  | frontLevelSet _ => exact ownFrontLevelSet_answers p s
  | calibrationRead _ => exact ownCalibrationRead_answers p s
  | calibrationWrite _ => exact ownCalibrationWrite_answers p s
  | calibrationCheck _ => exact ownCalibrationCheck_answers p s
  | calibrationProgram _ => exact ownCalibrationProgram_answers p s
  | _ => exact .refused _

theorem ownerOf_answers (c : Instr) (p : List Byte) (s : State) : Answers keepsQueue s (ownerOf c p s) := by
  by_cases hc : ∃ t, c = .modeSet t
  · obtain ⟨t, rfl⟩ := hc
    exact ownModeSet_answers p s
  · exact (ownerOf_answers_keeping_mode (fun t ht => hc ⟨t, ht⟩) p s).mono (fun _ h => h.1)

/-- The checks of R4 refuse, and otherwise the owner answers. -/
theorem State.judge_answers {keeps : State → State → Prop} {owner : Owner} {p : List Byte} {s : State}
    (h : Answers keeps s (owner p s)) (lengthOk : List Byte → Bool) (inStandby : Bool) :
    Answers keeps s (s.judge lengthOk inStandby owner p) := by
  unfold State.judge
  split
  · exact .refused _
  split
  · exact .refused _
  · exact h

/-- R4: the reply goes to the oldest entry that is WAITING. -/
theorem answerOldest_append {before : List Request} {q : Request} (after : List Request) (r : Reply)
    (hb : ∀ x ∈ before, x.reply ≠ none) (hq : q.reply = none) :
    answerOldest (before ++ q :: after) r = before ++ { q with reply := some r } :: after := by
  induction before with
  | nil => simp [answerOldest, hq]
  | cons x rest ih =>
    obtain ⟨y, hy⟩ := Option.ne_none_iff_exists'.1 (hb x List.mem_cons_self)
    simp [answerOldest, hy, ih (fun z hz => hb z (List.mem_cons_of_mem _ hz))]

/-- R4: a request whose code stands in no row of Table 1-3 is answered UNKNOWN_REQUEST. -/
theorem exec_unknownRequest {s : State} {code : Byte} {p : List Byte} (t : Stamp) (h : s.asks code p)
    (hk : knownCode code = false) : exec (.unknownRequest t) s = .next (s.onlyReplies t (refuse .unknownRequest)) := by
  obtain ⟨q, hq, rfl, rfl⟩ := State.asks_request h
  show s.happens t State.dispatchUnknown = _
  rw [State.happens_running h.1, State.dispatchUnknown]
  simp only [State.atTime_cli, hq, hk]
  rfl

end Sys2Proof.Machine

open Sys2Proof Sys2Proof.Machine

/-- Settles O11: the checks of R4 and every owner either refuse and leave the state, or answer OK or STARTED. -/
theorem refusedRequestChangesNothing : Obligations.RefusedRequestChangesNothing := by
  unfold Obligations.RefusedRequestChangesNothing
  refine ⟨?requests, ?answered, fun _ _ _ _ => rfl, fun t s code p h hk => exec_unknownRequest t h hk, fun _ _ _ _ => rfl, rfl⟩
  case requests =>
    intro c row s p hrow hask
    have h := State.judge_answers (ownerOf_answers c p (s.atTime (stampOf c))) row.lengthOk row.inStandby
    refine ⟨_, _, ?_, h.kept rfl, h.unchanged⟩
    rw [exec_request hrow, State.request_eq hask]
  case answered =>
    intro s r before q after hs hb hq
    show answerOldest s.cli.queue r = _
    rw [hs, answerOldest_append after r hb hq]

end

section
/-! # Proofs: the selection of notices and the map of the status lines (R12, R15, R17) -/

namespace Sys2Proof.Machine

/-! ## What leaves the selection and the map -/

/-- The selection of R15 and the map of R17 are as they were. -/
def State.keepsSetup (s' s : State) : Prop := s'.cli.selection = s.cli.selection ∧ s'.cli.lineMap = s.cli.lineMap

theorem State.keepsSetup_trans {s s1 s2 : State} (h2 : s2.keepsSetup s1) (h1 : s1.keepsSetup s) : s2.keepsSetup s :=
  ⟨h2.1.trans h1.1, h2.2.trans h1.2⟩

theorem State.keepsSetup_of_cli {s' s : State} (h : s'.cli = s.cli) : s'.keepsSetup s := by
  rw [State.keepsSetup, h]; exact ⟨rfl, rfl⟩

theorem State.post_keepsSetup (s : State) (source : Nat) (body : NoticeBody) : (s.post source body).keepsSetup s := by
  obtain ⟨_, _, h⟩ := s.cli.post_keeps s.timebase source body
  rw [State.keepsSetup, State.post, h]; exact ⟨rfl, rfl⟩

theorem Cli.postAll_keeps (c : Cli) (t : Stamp) (ns : List (Nat × NoticeBody)) :
    ∃ board overflow, c.postAll t ns = { c with board := board, overflow := overflow } := by
  induction ns generalizing c with
  | nil => exact ⟨_, _, rfl⟩
  | cons n rest ih =>
    obtain ⟨_, _, hp⟩ := c.post_keeps t n.1 n.2
    obtain ⟨board, overflow, h⟩ := ih (c.post t n.1 n.2)
    exact ⟨board, overflow, h.trans (by rw [hp])⟩

/-- An operation that only posts notices leaves the selection and the map. -/
theorem State.keepsSetup_of_posted {s' s : State} {ns : List (Nat × NoticeBody)} (h : s'.posted s ns) : s'.keepsSetup s := by
  obtain ⟨_, _, hk⟩ := s.cli.postAll_keeps s.timebase ns
  rw [State.keepsSetup, h.2, hk]; exact ⟨rfl, rfl⟩

/-! ## The warm restart (R12) -/

/-- R135: a close that is part of a warm restart posts no notice. -/
theorem State.closeMenu_quiet_cli (s : State) (i : Seat) (reason : CloseReason) : (s.closeMenu i reason true).cli = s.cli := by
  unfold State.closeMenu
  split <;> rfl

theorem State.menusWarm_cli (s : State) : s.menusWarm.cli = s.cli := by
  show ((s.closeMenu .s1 .request true).closeMenu .s2 .request true).cli = s.cli
  rw [State.closeMenu_quiet_cli, State.closeMenu_quiet_cli]

/-- R140: a release that is part of a warm restart posts no notice. -/
theorem State.releaseKey_quiet_cli (s : State) (i : Seat) : (s.releaseKey i true).cli = s.cli := by
  unfold State.releaseKey
  simp only [Bool.not_true, Bool.and_false, Bool.false_eq_true, if_false]
  split <;> rfl

theorem State.seatWarm_cli (s : State) (i : Seat) : (s.seatWarm i).cli = s.cli := s.releaseKey_quiet_cli i

theorem State.compositorWarm_keepsSetup (s : State) : s.compositorWarm.keepsSetup s := by
  have front (x : State) : x.judgeFront.judgeFrontBanner.keepsSetup x := State.keepsSetup_of_posted x.judgeFront_posts
  have rear (x : State) (i : Seat) : ((x.judgeRear i).judgeRearBanner i).keepsSetup x :=
    State.keepsSetup_of_posted (x.judgeRear_posts i)
  exact State.keepsSetup_trans (rear _ .s2) (State.keepsSetup_trans (rear _ .s1) (front _))

theorem State.clearPort_keepsSetup (s : State) (f : Feed) (enabled : Bool) : (s.clearPort f enabled).keepsSetup s := by
  obtain ⟨_, h, -⟩ := s.clearPort_posts f enabled
  exact State.keepsSetup_of_posted h

theorem State.feedsWarm_keepsSetup (s : State) : s.feedsWarm.keepsSetup s :=
  State.keepsSetup_trans (State.clearPort_keepsSetup _ .ff2 _)
    (State.keepsSetup_trans (State.clearPort_keepsSetup _ .ff1 _) (State.clearPort_keepsSetup _ .uif _))

/-- R75: what a link that falls back in a warm restart hands to its neighbours posts at most the ROUTE notice of its row. -/
theorem State.fellBack_quiet_keepsSetup (s : State) (i : Seat) (before : Link) : (s.fellBack i before true).keepsSetup s := by
  have ambient : (if before.ambient.isSome then s.takeAmbient i none else s).keepsSetup s := by
    split
    · exact State.keepsSetup_of_cli (by simp)
    · exact ⟨rfl, rfl⟩
  have screen (x : State) : (if before.state = .streaming then (x.stopRear i).screenLost i true else x).keepsSetup x := by
    split
    · exact State.keepsSetup_trans (State.keepsSetup_of_cli (State.closeMenu_quiet_cli _ _ _))
        (State.keepsSetup_of_posted (x.stopRear_posts i))
    · exact ⟨rfl, rfl⟩
  exact State.keepsSetup_trans (State.keepsSetup_of_cli (State.releaseKey_quiet_cli _ i))
    (State.keepsSetup_trans (screen _) ambient)

theorem State.linkWarm_keepsSetup (s : State) (i : Seat) : (s.linkWarm i).keepsSetup s := by
  have detach (x : State) : (x.detach i .hostRequest true).keepsSetup x := by
    unfold State.detach
    simp only []
    split
    · exact ⟨rfl, rfl⟩
    · exact State.keepsSetup_trans (State.fellBack_quiet_keepsSetup _ i _) (State.post_keepsSetup _ _ _)
  exact detach _

theorem State.warmRestart_keepsSetup (s : State) : s.warmRestart.keepsSetup s := by
  have menus (x : State) : x.menusWarm.keepsSetup x := State.keepsSetup_of_cli x.menusWarm_cli
  have seats (x : State) : ((x.seatWarm .s1).seatWarm .s2).keepsSetup x :=
    State.keepsSetup_of_cli ((State.seatWarm_cli _ _).trans (State.seatWarm_cli _ _))
  have links (x : State) : ((x.linkWarm .s1).linkWarm .s2).keepsSetup x :=
    State.keepsSetup_trans (State.linkWarm_keepsSetup _ _) (State.linkWarm_keepsSetup _ _)
  have targets (x : State) : ((x.recomputeTarget .s1).recomputeTarget .s2).chimesWarm.keepsSetup x :=
    State.keepsSetup_of_cli (by simp)
  unfold State.warmRestart
  refine State.keepsSetup_trans (State.post_keepsSetup _ _ _) (State.keepsSetup_trans (targets _)
    (State.keepsSetup_trans (links _) (State.keepsSetup_trans (State.feedsWarm_keepsSetup _)
      (State.keepsSetup_trans (State.compositorWarm_keepsSetup _) (State.keepsSetup_trans (seats _) (menus _))))))

/-! ## The end of a request's event -/

@[simp] theorem State.replied_lineMap (s : State) (r : Reply) : (s.replied r).cli.lineMap = s.cli.lineMap :=
  Cli.sendNext_lineMap _ _

@[simp] theorem State.replied_mode (s : State) (r : Reply) : (s.replied r).cli.mode = s.cli.mode := Cli.sendNext_mode _ _

/-- A request's command leaves the timebase set, with the end of the event when the part runs, or the answer to the request
whose dispatch it is (R4, R5). -/
theorem State.request_outcomes (s : State) (t : Stamp) (code : Byte) (lengthOk : List Byte → Bool) (inStandby : Bool)
    (owner : Owner) : ∃ s', s.request t code lengthOk inStandby owner = .next s'
      ∧ (s' = s.atTime t ∨ s' = (s.atTime t).settle
        ∨ ∃ p, s' = ((s.atTime t).judge lengthOk inStandby owner p).1.replied
                      ((s.atTime t).judge lengthOk inStandby owner p).2) := by
  refine ⟨_, rfl, ?_⟩
  by_cases hr : s.phase = .running
  · rw [State.event_running hr]
    unfold State.dispatch
    split
    · exact .inr (.inl rfl)
    split
    · exact .inr (.inr ⟨_, rfl⟩)
    · exact .inr (.inl rfl)
  · exact .inl (State.event_quiet hr _ _)

/-! ## STATUS LINE MAP (R16, R17) -/

/-- R16: the level of a line that the map names, by the polarity of its setting. -/
theorem State.statusLine_mapped {s : State} {line : Nat} {m : LineSetting} (h : s.cli.lineMap[line]? = some m) :
    s.statusLine line = xor m.activeLow (s.condition m.condition) := by
  simp only [State.statusLine, h]
  cases m.activeLow <;> simp

theorem State.statusLine_unmapped {s : State} (h : s.cli.lineMap = []) (line : Nat) : s.statusLine line = false := by
  simp [State.statusLine, h]

/-- R17: the setting that a payload within the ranges names. -/
theorem readLine_of_ranges {line condition polarity : Byte} (hl : line.toNat ≤ 3) (hc : condition.toNat ≤ 7)
    (hp : polarity.toNat ≤ 1) :
    readLine [line, condition, polarity] = some (line.toNat, ⟨condition.toNat, decide (polarity.toNat = 1)⟩) :=
  if_pos ⟨hl, hc, hp⟩

theorem readLine_out_of_range {line condition polarity : Byte}
    (h : 3 < line.toNat ∨ 7 < condition.toNat ∨ 1 < polarity.toNat) : readLine [line, condition, polarity] = none := by
  refine if_neg ?_
  rintro ⟨hl, hc, hp⟩
  have hl : line.toNat ≤ 3 := hl
  have hc : condition.toNat ≤ 7 := hc
  have hp : polarity.toNat ≤ 1 := hp
  omega

theorem ownStatusLineMap_sets {p : List Byte} {line : Nat} {m : LineSetting} (h : readLine p = some (line, m)) (s : State) :
    ownStatusLineMap p s = ({ s with cli := { s.cli with lineMap := s.cli.lineMap.set line m } }, ok []) := by
  simp only [ownStatusLineMap, h]

theorem ownStatusLineMap_refuses {p : List Byte} (h : readLine p = none) (s : State) :
    ownStatusLineMap p s = (s, refuse .badValue) := by
  simp only [ownStatusLineMap, h]

/-- R166: CALIBRATION WRITE leaves the map of the status lines, whatever it is answered. -/
theorem exec_calibrationWrite_lineMap {t : Stamp} {s s' : State} (h : exec (.calibrationWrite t) s = .next s') :
    s'.cli.lineMap = s.cli.lineMap := by
  obtain ⟨x, hx, hcases⟩ := s.request_outcomes t 0x81 (lengthIs 6) true ownCalibrationWrite
  rw [show exec (.calibrationWrite t) s = .next x from hx] at h
  injection h with h
  subst h
  rcases hcases with rfl | rfl | ⟨p, rfl⟩
  · rfl
  · exact Cli.sendNext_lineMap _ _
  · have hcli := (State.judge_answers (ownCalibrationWrite_answers_keeping_cli p (s.atTime t)) (lengthIs 6) true).kept rfl
    rw [State.replied_lineMap, hcli, State.atTime_cli]

/-! ## NOTICE SELECT (R15) -/

theorem readSelection_of_flags {p : List Byte} (h : ∀ b ∈ p, b.toNat ≤ 1) :
    readSelection p = some (p.map (fun b => decide (b = 1))) :=
  if_pos (by simpa using h)

theorem readSelection_of_other {p : List Byte} (h : ∃ b ∈ p, 1 < b.toNat) : readSelection p = none := by
  obtain ⟨b, hb, hv⟩ := h
  refine if_neg (fun hall => ?_)
  exact absurd (of_decide_eq_true (List.all_eq_true.1 hall b hb)) (Nat.not_le.2 hv)

theorem ownNoticeSelect_sets {p : List Byte} {sel : List Bool} (h : readSelection p = some sel) (s : State) :
    ownNoticeSelect p s = ({ s with cli := { s.cli with selection := sel } }, ok []) := by
  simp only [ownNoticeSelect, h]

theorem ownNoticeSelect_refuses {p : List Byte} (h : readSelection p = none) (s : State) :
    ownNoticeSelect p s = (s, refuse .badValue) := by
  simp only [ownNoticeSelect, h]

theorem lengthIs_false {n : Nat} {p : List Byte} (h : p.length ≠ n) : lengthIs n p = false := decide_eq_false h

theorem lengthIs_true {n : Nat} {p : List Byte} (h : p.length = n) : lengthIs n p = true := decide_eq_true h

/-! ## The cold starts (R18, R170) -/

/-- R18: a power-on leaves the control link at its cold-start value, whether the sequence runs or is held. -/
theorem State.powerOn_cli (s : State) (high : Bool) : (s.powerOn high).cli = coldCli .powerOn := by
  cases high <;> rfl

theorem State.resetFalls_of_high {s : State} (h : s.resetN = true) : s.resetFalls = s.hold .resetLine := if_pos h

theorem exec_resetNFall_cli {s : State} (t : Stamp) (h : s.resetN = true) :
    ∃ s', exec (.resetNFall t) s = .next s' ∧ s'.cli = coldCli .resetLine := by
  refine ⟨_, rfl, ?_⟩
  rw [State.resetFalls_of_high (s := s.atTime t) h]
  rfl

/-- R170: the start mode loads the map of the working calibration. -/
theorem State.startMode_lineMap (s : State) : s.startMode.cli.lineMap = calLineMap s.image := by
  have effects (x : State) : (if x.inRun then x.runEffects else x).keepsSetup x := by
    split
    · exact State.keepsSetup_of_posted x.runEffects_posts
    · exact ⟨rfl, rfl⟩
  exact (effects _).2.trans (State.post_keepsSetup _ 0 _).2

end Sys2Proof.Machine

open Sys2Proof Sys2Proof.Machine

/-- Settles O16: by the checks of NOTICE SELECT; the other operations leave the selection, but for the cold starts. -/
theorem noticeSelectReplacesTheSelection : Obligations.NoticeSelectReplacesTheSelection := by
  unfold Obligations.NoticeSelectReplacesTheSelection
  refine ⟨?badLength, ?badValue, ?replaced, ?disabled, ?powerOn, ?resetLine, fun s => s.warmRestart_keepsSetup.1⟩
  case badLength =>
    intro t s p h hl
    exact State.request_badLength h (lengthIs_false hl) t true ownNoticeSelect
  case badValue =>
    intro t s p h hl hb
    refine (State.request_ok h (lengthIs_true hl) (.inr rfl) t ownNoticeSelect).trans ?_
    rw [ownNoticeSelect_refuses (readSelection_of_other hb)]
    rfl
  case replaced =>
    intro t s p h hl hb
    refine (State.request_ok h (lengthIs_true hl) (.inr rfl) t ownNoticeSelect).trans ?_
    rw [ownNoticeSelect_sets (readSelection_of_flags hb)]
    rfl
  case disabled =>
    intro s source body hs
    rw [State.post, Cli.post_disabled _ _ hs]
  case powerOn =>
    intro t high s
    exact ⟨_, rfl, by rw [State.powerOn_cli]; rfl⟩
  case resetLine =>
    intro t s h
    obtain ⟨s', hs', hc⟩ := exec_resetNFall_cli t h
    exact ⟨s', hs', by rw [hc]; rfl⟩

/-- Settles O17: by the ranges of STATUS LINE MAP and what the other operations leave of the map. -/
theorem statusLineMapSetsOneLine : Obligations.StatusLineMapSetsOneLine := by
  unfold Obligations.StatusLineMapSetsOneLine
  refine ⟨?badLength, ?badValue, ?mapped, ?loaded, fun s => s.warmRestart_keepsSetup.2,
    fun t s s' h => exec_calibrationWrite_lineMap h⟩
  case badLength =>
    intro t s p h hl
    exact State.request_badLength h (lengthIs_false hl) t true ownStatusLineMap
  case badValue =>
    intro t s line condition polarity h hr
    refine (State.request_ok h rfl (.inr rfl) t ownStatusLineMap).trans ?_
    rw [ownStatusLineMap_refuses (readLine_out_of_range hr)]
    rfl
  case mapped =>
    intro t s line condition polarity h hl hc hp hlen setting
    have hexec : exec (.statusLineMap t) s = .next
        ({ s with timebase := t, cli := { s.cli with lineMap := s.cli.lineMap.set line.toNat setting } }.replied ⟨.ok, []⟩) := by
      refine (State.request_ok h rfl (.inr rfl) t ownStatusLineMap).trans ?_
      rw [ownStatusLineMap_sets (readLine_of_ranges hl hc hp)]
      rfl
    refine ⟨hexec, fun s' hs' => ?_⟩
    have hm : s'.cli.lineMap[line.toNat]? = some setting := by
      rw [hexec] at hs'
      injection hs' with hs'
      rw [← hs', State.replied_lineMap, List.getElem?_set_self (by omega)]
    rw [State.statusLine_mapped hm]
    by_cases h1 : polarity.toNat = 1 <;> simp [setting, h1]
  case loaded =>
    intro t s h
    refine ⟨_, if_pos h, ?_⟩
    rw [State.settle_cli, Cli.sendNext_lineMap, State.startMode_lineMap]
    rfl

end

section
/-! # Proofs: in STANDBY the links are DETACHED and the controller is OFF (R7, R16, R49) -/

namespace Sys2Proof.Machine

/-! ## The law and the states that meet it -/

/-- Both links are DETACHED and the reverse view controller is OFF. -/
def State.asleep (s : State) : Prop := (∀ i, (s.link i).state = .detached) ∧ s.rvc.state = .off

theorem State.standbyLaw_iff (s : State) : s.standbyLaw ↔ (s.cli.mode = .standby → s.asleep) := by
  refine ⟨fun h hm => ?_, fun h hm => ?_⟩
  · obtain ⟨h1, h2, hv⟩ := h hm
    exact ⟨fun i => by cases i <;> assumption, hv⟩
  · obtain ⟨hl, hv⟩ := h hm
    exact ⟨hl .s1, hl .s2, hv⟩

theorem State.standbyLaw_of_asleep {s : State} (h : s.asleep) : s.standbyLaw := s.standbyLaw_iff.2 (fun _ => h)

theorem State.standbyLaw_of_run {s : State} (h : s.cli.mode = .run) : s.standbyLaw := by
  intro hm; rw [h] at hm; cases hm

theorem PartMode.eq_run {m : PartMode} (h : m ≠ .standby) : m = .run := by
  cases m with
  | run => rfl
  | standby => exact absurd rfl h

theorem State.asleep_of_states {s' s : State} (hl : ∀ i, (s'.link i).state = (s.link i).state)
    (hv : s'.rvc.state = s.rvc.state) (h : s.asleep) : s'.asleep :=
  ⟨fun i => (hl i).trans (h.1 i), hv.trans h.2⟩

theorem State.asleep_of_rsl {s' s : State} (hl : s'.rsl = s.rsl) (hv : s'.rvc.state = s.rvc.state) (h : s.asleep) : s'.asleep :=
  State.asleep_of_states (fun i => by rw [State.link, State.link, hl]) hv h

theorem State.setLink_asleep {s : State} (i : Seat) {l : Link} (hl : l.state = .detached) (h : s.asleep) :
    (s.setLink i l).asleep := by
  refine ⟨fun j => ?_, h.2⟩
  by_cases hj : j = i
  · rw [hj, State.link_setLink_same, hl]
  · rw [State.link_setLink_other _ hj, h.1 j]

/-- An operation keeps the law of STANDBY. -/
def keepsStandbyLaw (act : State → State) : Prop := ∀ s, s.standbyLaw → (act s).standbyLaw

/-- An operation that leaves the part mode and keeps a sleeping part asleep in STANDBY. -/
theorem keepsStandbyLaw_of_asleep {act : State → State} (hm : ∀ s, (act s).cli.mode = s.cli.mode)
    (hk : ∀ s, s.cli.mode = .standby → s.asleep → (act s).asleep) : keepsStandbyLaw act := by
  intro s h
  rw [State.standbyLaw_iff] at h ⊢
  intro hs
  rw [hm] at hs
  exact hk s hs (h hs)

/-- An operation that leaves the part mode, the links and the controller's state. -/
theorem keepsStandbyLaw_of_rsl {act : State → State} (hm : ∀ s, (act s).cli.mode = s.cli.mode) (hl : ∀ s, (act s).rsl = s.rsl)
    (hv : ∀ s, (act s).rvc.state = s.rvc.state) : keepsStandbyLaw act :=
  keepsStandbyLaw_of_asleep hm (fun s _ h => State.asleep_of_rsl (hl s) (hv s) h)

theorem State.settle_standbyLaw {s : State} (h : s.standbyLaw) : s.settle.standbyLaw :=
  fun hm => h ((Cli.sendNext_mode _ _).symm.trans hm)

theorem State.event_standbyLaw {s : State} {act : State → State} (hact : keepsStandbyLaw act) (t : Stamp) (h : s.standbyLaw) :
    (s.event t act).standbyLaw := by
  by_cases hr : s.phase = .running
  · rw [State.event_running hr]
    exact State.settle_standbyLaw (hact (s.atTime t) h)
  · rw [State.event_quiet hr]; exact h

/-! ## Operations that leave the states of the links -/

theorem Link.takeBacklight_state (l : Link) (v : Nat) : (l.takeBacklight v).1.state = l.state := by
  unfold Link.takeBacklight
  split
  · rfl
  split
  · split <;> rfl
  · split <;> rfl

theorem State.setLink_link_state {s : State} {i : Seat} {l : Link} (h : l.state = (s.rsl.get i).state) (j : Seat) :
    ((s.setLink i l).rsl.get j).state = (s.rsl.get j).state := by
  show ((s.rsl.set i l).get j).state = _
  rw [Two.get_set]
  split
  · next hj => rw [hj, h]
  · rfl

@[simp] theorem State.handBacklight_link_state (s : State) (i : Seat) (v : Nat) (j : Seat) :
    ((s.handBacklight i v).rsl.get j).state = (s.rsl.get j).state :=
  State.setLink_link_state (Link.takeBacklight_state _ v) j

@[simp] theorem State.recomputeTarget_link_state (s : State) (i j : Seat) :
    ((s.recomputeTarget i).rsl.get j).state = (s.rsl.get j).state := by
  unfold State.recomputeTarget
  simp only []
  split
  · exact State.handBacklight_link_state _ _ _ j
  · rfl

@[simp] theorem State.takeAmbient_link_state (s : State) (i : Seat) (level : Option Nat) (j : Seat) :
    ((s.takeAmbient i level).rsl.get j).state = (s.rsl.get j).state :=
  State.recomputeTarget_link_state _ i j

@[simp] theorem State.takeDimmer_link_state (s : State) (level : Nat) (j : Seat) :
    ((s.takeDimmer level).rsl.get j).state = (s.rsl.get j).state :=
  (State.recomputeTarget_link_state _ .s2 j).trans (State.recomputeTarget_link_state _ .s1 j)

@[simp] theorem State.brightPress_link_state (s : State) (i : Seat) (d : Dir) (j : Seat) :
    ((s.brightPress i d).rsl.get j).state = (s.rsl.get j).state := by
  unfold State.brightPress
  simp only []
  split
  · rfl
  · exact State.recomputeTarget_link_state _ i j

@[simp] theorem State.menuSide_link_state (s : State) (i : Seat) (e : Entry) (n : Nat) (it : Item) (d : Dir) (j : Seat) :
    ((s.menuSide i e n it d).rsl.get j).state = (s.rsl.get j).state := by
  unfold State.menuSide
  cases it.kind with
  | slider value max step => simp only []; split <;> simp
  | brightness => simp
  | volume => simp
  | openPage target => rfl
  | report code => rfl
  | toggle on => rfl
  | back => rfl

@[simp] theorem State.menuKey_link_state (s : State) (i : Seat) (k : Key) (j : Seat) :
    ((s.menuKey i k).rsl.get j).state = (s.rsl.get j).state := by
  unfold State.menuKey
  (repeat' split) <;> simp

@[simp] theorem State.navigate_link_state (s : State) (i : Seat) (k : Key) (ev : KeyEvent) (j : Seat) :
    ((s.navigate i k ev).rsl.get j).state = (s.rsl.get j).state := by
  unfold State.navigate
  split <;> simp

@[simp] theorem State.menuPress_link_state (s : State) (i : Seat) (ev : KeyEvent) (j : Seat) :
    ((s.menuPress i ev).rsl.get j).state = (s.rsl.get j).state := by
  unfold State.menuPress State.menuKeyOpen
  split
  · exact s.menuKey_link_state i .menu j
  · cases s.rootPage i <;> simp

@[simp] theorem State.dispatchKey_link_state (s : State) (i : Seat) (k : Key) (ev : KeyEvent) (j : Seat) :
    ((s.dispatchKey i k ev).rsl.get j).state = (s.rsl.get j).state := by
  cases k <;> simp [State.dispatchKey]

theorem State.keyRepeat_link_state (s : State) (i j : Seat) :
    ((s.keyRepeat i).rsl.get j).state = (s.rsl.get j).state := by
  unfold State.keyRepeat
  split
  · split
    · rfl
    · exact s.dispatchKey_link_state i _ .repeat j
  · rfl

/-- R75, R89: what a link that falls back hands to its neighbours leaves the states of the links. -/
theorem State.fellBack_link_state (s : State) (i : Seat) (before : Link) (quiet : Bool) (j : Seat) :
    ((s.fellBack i before quiet).rsl.get j).state = (s.rsl.get j).state := by
  unfold State.fellBack
  simp only [State.linkFellBack_rsl]
  split <;> split <;> simp

/-! ## The links of a sleeping part -/

theorem State.detach_of_detached {s : State} {i : Seat} (h : (s.link i).state = .detached) (reason : LinkReason) (quiet : Bool) :
    s.detach i reason quiet = s := if_pos h

/-- R91: the link that is told to detach is DETACHED, and the other link keeps its state. -/
theorem State.detach_link_state (s : State) (i : Seat) (reason : LinkReason) (quiet : Bool) (j : Seat) :
    ((s.detach i reason quiet).link j).state = if j = i then .detached else (s.link j).state := by
  by_cases h : (s.link i).state = .detached
  · rw [State.detach_of_detached h]
    split
    · next hj => rw [hj, h]
    · rfl
  · have he : s.detach i reason quiet
        = ((s.setLink i ((s.link i).detached reason)).postLink i).fellBack i (s.link i) quiet := if_neg h
    rw [he, State.link, State.fellBack_link_state, State.postLink_rsl]
    show ((s.setLink i ((s.link i).detached reason)).link j).state = _
    split
    · next hj => rw [hj, State.link_setLink_same]; rfl
    · next hj => rw [State.link_setLink_other _ hj]

/-- R76: in STANDBY no link leaves DETACHED. -/
theorem State.judgeHailing_of_standby {s : State} (h : s.cli.mode = .standby) (i : Seat) : s.judgeHailing i = s := by
  refine if_neg ?_
  rintro ⟨-, hr, -⟩
  simp [State.inRun, h] at hr

section
variable {s : State} {i : Seat} (h : (s.link i).state = .detached)
include h

theorem State.takeOffers_of_detached (body : List Byte) : s.takeOffers i body = s := by simp [State.takeOffers, h]

theorem State.takeAccept_of_detached : s.takeAccept i = s := by simp [State.takeAccept, h]

theorem State.takeReject_of_detached : s.takeReject i = s := by simp [State.takeReject, h]

theorem State.takeStatus_of_detached (body : List Byte) : s.takeStatus i body = s := by simp [State.takeStatus, h]

theorem State.takeReset_of_detached (reason : LinkReason) : s.takeReset i reason = s := by
  simp [State.takeReset, LinkState.takesReset, h]

theorem State.takeMessage_of_detached (m : List Byte) : s.takeMessage i m = s := by
  unfold State.takeMessage
  simp only [State.takeOffers_of_detached h, State.takeAccept_of_detached h, State.takeReject_of_detached h,
    State.takeStatus_of_detached h, State.takeReset_of_detached h, ite_self]
  split
  · split <;> rfl
  · rfl

theorem State.hailExpired_of_detached : s.hailExpired i = s := by simp [State.hailExpired, h]

theorem State.claimExpired_of_detached : s.claimExpired i = s := by simp [State.claimExpired, h]

theorem State.pollExpired_of_detached : s.pollExpired i = s := by simp [State.pollExpired, h]

theorem State.holdOffExpired_of_detached : s.holdOffExpired i = s := by simp [State.holdOffExpired, h]

end

/-- An operation on a link that does nothing to a DETACHED one. -/
theorem keepsStandbyLaw_of_detached {act : State → State} (i : Seat) (hm : ∀ s, (act s).cli.mode = s.cli.mode)
    (hd : ∀ s, (s.link i).state = .detached → act s = s) : keepsStandbyLaw act :=
  keepsStandbyLaw_of_asleep hm (fun s _ h => by rw [hd s (h.1 i)]; exact h)

theorem settleExpired_standbyLaw (i : Seat) : keepsStandbyLaw (·.settleExpired i) := by
  refine keepsStandbyLaw_of_asleep (fun s => s.settleExpired_cli_mode i) (fun s hs h => ?_)
  simp only [State.settleExpired]
  split
  · rw [State.judgeHailing_of_standby (by simpa using hs)]
    exact State.setLink_asleep i (h.1 i) h
  · exact h

theorem setPresent_standbyLaw (i : Seat) (present : Bool) : keepsStandbyLaw (·.setPresent i present) :=
  keepsStandbyLaw_of_asleep (fun _ => rfl) (fun s _ h => State.setLink_asleep (l := { s.link i with present := present }) i (h.1 i) h)

theorem presenceGained_standbyLaw (i : Seat) : keepsStandbyLaw (·.presenceGained i) := by
  refine keepsStandbyLaw_of_asleep (fun s => s.presenceGained_cli_mode i) (fun s hs h => ?_)
  simp only [State.presenceGained]
  rw [State.judgeHailing_of_standby (by simpa using hs)]
  exact State.setLink_asleep i (h.1 i) h

theorem presenceLost_standbyLaw (i : Seat) : keepsStandbyLaw (·.presenceLost i) := by
  refine keepsStandbyLaw_of_asleep (fun s => s.presenceLost_cli_mode i) (fun s _ h => ?_)
  have present : (s.setPresent i false).asleep := State.setLink_asleep i (h.1 i) h
  simp only [State.presenceLost]
  rw [State.detach_of_detached (present.1 i)]
  exact present

theorem keyRepeat_standbyLaw (i : Seat) : keepsStandbyLaw (·.keyRepeat i) :=
  keepsStandbyLaw_of_asleep (fun s => s.keyRepeat_cli_mode i)
    (fun s _ h => State.asleep_of_states (s.keyRepeat_link_state i) (s.keyRepeat_rvc_state i) h)

/-! ## The controller of a sleeping part -/

section
variable {s : State} (h : s.rvc.state = .off)
include h

theorem State.camLocked_of_off : s.camLocked = s := by simp [State.camLocked, h]

theorem State.camLeft_of_off : s.camLeft = s := by simp [State.camLeft, h]

theorem State.cueExpired_of_off : s.cueExpired = s := by simp [State.cueExpired, h]

theorem State.holdExpired_of_off : s.holdExpired = s := by simp [State.holdExpired, h]

theorem State.freshSpeed_of_off : s.freshSpeed = s := by simp [State.freshSpeed, h]

theorem State.confirmedNotReverse_of_off : s.confirmedNotReverse = s := by simp [State.confirmedNotReverse, h]

end

/-- An operation of the controller that does nothing while it is OFF. -/
theorem keepsStandbyLaw_of_off {act : State → State} (hm : ∀ s, (act s).cli.mode = s.cli.mode)
    (ho : ∀ s, s.rvc.state = .off → act s = s) : keepsStandbyLaw act :=
  keepsStandbyLaw_of_asleep hm (fun s _ h => by rw [ho s h.2]; exact h)

/-- R22: a new lock state changes no link, and the controller does not act on it while it is OFF. -/
theorem State.handLock_asleep {s : State} (h : s.asleep) (f : Feed) (before after : Lock) : (s.handLock f before after).asleep := by
  have told : (s.lockChanged f after).asleep := State.asleep_of_rsl (by simp) (by simp) h
  unfold State.handLock
  split
  · exact h
  simp only [State.camLocked_of_off told.2, State.camLeft_of_off told.2, ite_self]
  exact told

theorem frameStart_standbyLaw (f : Feed) : keepsStandbyLaw (·.frameStart f) := by
  refine keepsStandbyLaw_of_asleep (fun s => s.frameStart_cli_mode f) (fun s _ h => ?_)
  have locked := State.handLock_asleep (s := s.setPort f ((s.port f).framed s.timebase)) h f (s.port f).lock
    ((s.port f).framed s.timebase).lock
  simp only [State.frameStart]
  split
  · split
    · exact State.asleep_of_rsl (by simp) (by simp) locked
    · exact locked
  · exact h

theorem frameWatchExpired_standbyLaw (f : Feed) : keepsStandbyLaw (·.frameWatchExpired f) := by
  refine keepsStandbyLaw_of_asleep (fun s => s.frameWatchExpired_cli_mode f) (fun s _ h => ?_)
  simp only [State.frameWatchExpired]
  split
  · refine State.handLock_asleep ?_ f _ _
    exact h
  · exact h

/-- R32: the delivery of a report to the blocks leaves the states of the links, and an OFF controller takes no speed. -/
theorem State.deliver_asleep {s : State} (h : s.asleep) (r : Report) : (s.deliver r).asleep := by
  have speed : (if r.speed.isSome then s.speedToCompositor.freshSpeed else s).asleep := by
    split
    · rw [State.freshSpeed_of_off (by simpa using h.2)]
      exact State.asleep_of_rsl (by simp) (by simp) h
    · exact h
  have steering (x : State) (hx : x.asleep) : (if r.steering.isSome then x.trackingTrigger else x).asleep := by
    split
    · exact State.asleep_of_rsl (by simp) (by simp) hx
    · exact hx
  have dimmer (x : State) (hx : x.asleep) : (match r.dimmer with | some d => x.takeDimmer d | none => x).asleep := by
    cases r.dimmer with
    | none => exact hx
    | some d => exact State.asleep_of_states (x.takeDimmer_link_state d) (by simp) hx
  have obstacle (x : State) (hx : x.asleep) : (if r.obstacle.isSome then x.judgePark else x).asleep := by
    split
    · exact State.asleep_of_rsl (by simp) (by simp) hx
    · exact hx
  exact obstacle _ (dimmer _ (steering _ speed))

/-! ## Changes of the part mode -/

@[simp] theorem State.enterRun_mode (s : State) (cause : ModeCause) : (s.enterRun cause).cli.mode = .run := by
  simp [State.enterRun, State.setMode]

/-- R7: entry to STANDBY detaches both links; the controller keeps its state. -/
theorem State.enterStandby_asleep {s : State} (h : s.rvc.state = .off) : s.enterStandby.asleep := by
  refine ⟨fun i => ?_, by simpa using h⟩
  have links : s.enterStandby.rsl
      = (((s.setMode .standby).detach .s1 .detached false).detach .s2 .detached false).rsl := by simp [State.enterStandby]
  rw [State.link, links]
  show ((((s.setMode .standby).detach .s1 .detached false).detach .s2 .detached false).link i).state = _
  rw [State.detach_link_state, State.detach_link_state]
  cases i <;> rfl

theorem ownModeSet_standbyLaw (p : List Byte) {s : State} (h : s.standbyLaw) : (ownModeSet p s).1.standbyLaw := by
  unfold ownModeSet
  split
  · exact h
  split
  · exact h
  split
  · exact State.standbyLaw_of_run (s.enterRun_mode .request)
  split
  · next hoff => exact State.standbyLaw_of_asleep (State.enterStandby_asleep (of_decide_eq_true hoff))
  · exact h

/-- R9, R29: a confirmed REVERSE in STANDBY puts the part into RUN; a confirmed NOT_REVERSE leaves an OFF controller. -/
theorem debounceExpired_standbyLaw : keepsStandbyLaw State.debounceExpired := by
  intro s h
  unfold State.debounceExpired
  split
  · exact h
  next c _ =>
  split
  case isFalse => exact h
  generalize hx : s.setGear s.vin.gearRaw c.level none = x
  have hl : x.standbyLaw := by subst hx; exact h
  by_cases hm : x.cli.mode = .standby
  · cases hc : c.level with
    | reverse =>
      have wake : x.reverseWake .reverse = x.enterRun .reverseWake := if_pos ⟨rfl, hm⟩
      rw [wake]
      exact State.standbyLaw_of_run (by simp)
    | notReverse =>
      have wake : x.reverseWake .notReverse = x := if_neg (fun hw => by cases hw.1)
      obtain ⟨links, off⟩ := x.standbyLaw_iff.1 hl hm
      have told : ({ x with rvc := x.rvc.record .notReverse c.edge } : State).asleep := ⟨links, off⟩
      rw [wake, State.takeLevel]
      simp only [State.confirmedNotReverse_of_off told.2]
      exact State.standbyLaw_of_asleep told
  · have wake : x.reverseWake c.level = x := if_neg (fun hw => hm hw.2)
    rw [wake]
    exact State.standbyLaw_of_run (by simpa using PartMode.eq_run hm)

/-- R170: the part enters its start mode; in STANDBY the links and the controller stay as they were. -/
theorem State.startMode_standbyLaw {s : State} (h : s.asleep) : s.startMode.standbyLaw := by
  unfold State.startMode
  simp only []
  generalize hx : State.watchGear _ = x
  have asleep : x.asleep := by subst hx; exact h
  split
  · next hr => exact State.standbyLaw_of_run (by simpa using of_decide_eq_true hr)
  · exact State.standbyLaw_of_asleep asleep

/-! ## The warm restart and the end of a frame -/

theorem State.warmRestart_mode (s : State) : s.warmRestart.cli.mode = s.cli.mode := by
  simp [State.warmRestart, Cli.warm]

theorem State.linkWarm_asleep {s : State} (h : s.asleep) (i : Seat) : (s.linkWarm i).asleep := by
  unfold State.linkWarm
  simp only []
  generalize hl : (if (s.link i).present then (s.link i).send msgReset else s.link i) = l
  have state : l.state = .detached := by
    subst hl
    split <;> exact h.1 i
  have set : (s.setLink i { l with staged := none, settleTimer := some (afterMs s.timebase 200) }).asleep :=
    State.setLink_asleep i state h
  rw [State.detach_of_detached (set.1 i)]
  exact set

/-- R12, R96: a warm restart leaves DETACHED links DETACHED. -/
theorem State.warmRestart_asleep {s : State} (h : s.asleep) : s.warmRestart.asleep := by
  have before (x : State) (hx : x.asleep) : ((x.menusWarm.seatWarm .s1).seatWarm .s2).compositorWarm.feedsWarm.asleep :=
    State.asleep_of_rsl (by simp) (by simp) hx
  have after (x : State) (hx : x.asleep) : ((x.recomputeTarget .s1).recomputeTarget .s2).chimesWarm.asleep :=
    State.asleep_of_states (fun i => by simp [State.link]) (by simp) hx
  have told (x : State) (hx : x.asleep) : (x.post 0 (.start .warm)).asleep := hx
  have warmed : ({ s with cli := s.cli.warm } : State).asleep := h
  unfold State.warmRestart
  exact told _ (after _ (State.linkWarm_asleep (State.linkWarm_asleep (before _ warmed) .s1) .s2))

theorem replySent_standbyLaw : keepsStandbyLaw State.replySent := by
  intro s h
  unfold State.replySent
  split
  · exact h
  simp only []
  split
  · exact keepsStandbyLaw_of_asleep State.warmRestart_mode (fun x _ hx => State.warmRestart_asleep hx) _ h
  · exact h

theorem frameEnded_standbyLaw : keepsStandbyLaw State.frameEnded := by
  intro s h
  unfold State.frameEnded
  split
  · exact h
  split
  · simp only []
    split
    · exact replySent_standbyLaw _ h
    · exact h
    · exact h
  · exact h

/-! ## The receiver and the frame check -/

theorem receiveByte_standbyLaw (b : Byte) (stopHigh : Bool) : keepsStandbyLaw (·.receiveByte b stopHigh) := by
  have assemble (c : Cli) (now : Stamp) (candidate : List Byte) : (c.assemble now candidate).mode = c.mode := by
    unfold Cli.assemble
    split
    · rfl
    · split <;> rfl
  refine keepsStandbyLaw_of_rsl (fun s => ?_) (fun _ => rfl) (fun _ => rfl)
  simp only [State.receiveByte, Cli.receive]
  split
  · split <;> rfl
  · split
    · exact assemble _ _ _
    · rfl

theorem byteWatchExpired_standbyLaw : keepsStandbyLaw State.byteWatchExpired := by
  refine keepsStandbyLaw_of_rsl (fun s => ?_) (by simp) (by simp)
  unfold State.byteWatchExpired
  split
  · rfl
  · split <;> rfl

theorem checkFrame_standbyLaw : keepsStandbyLaw State.checkFrame := by
  refine keepsStandbyLaw_of_rsl (fun s => ?_) (by simp) (by simp)
  unfold State.checkFrame Cli.joinRequest
  split
  · rfl
  · simp only []
    split
    · split <;> rfl
    · rfl

theorem dispatchUnknown_standbyLaw : keepsStandbyLaw State.dispatchUnknown := by
  refine keepsStandbyLaw_of_rsl (fun s => ?_) (by simp) (by simp)
  unfold State.dispatchUnknown
  split
  · rfl
  · split <;> rfl

/-! ## The cold starts -/

theorem State.coldBlocks_asleep (s : State) (cause : StartCause) (cal : Cal) : (s.coldBlocks cause cal).asleep :=
  ⟨fun i => by cases i <;> rfl, rfl⟩

theorem State.powerOn_asleep (s : State) (high : Bool) : (s.powerOn high).asleep := by
  cases high with
  | true => exact s.coldBlocks_asleep .powerOn s.cal.load
  | false => exact s.coldBlocks_asleep .powerOn s.cal.unloaded

theorem resetFalls_standbyLaw : keepsStandbyLaw State.resetFalls := by
  intro s h
  unfold State.resetFalls
  split
  · exact State.standbyLaw_of_asleep (s.coldBlocks_asleep .resetLine s.cal.unloaded)
  · exact h

theorem resetRises_standbyLaw : keepsStandbyLaw State.resetRises := by
  intro s h
  unfold State.resetRises
  split
  · exact h
  · exact State.standbyLaw_of_asleep (s.coldBlocks_asleep s.cli.startCause s.cal.load)

/-! ## The requests -/

theorem ownVehicleReport_asleep (p : List Byte) {s : State} (h : s.asleep) : (ownVehicleReport p s).1.asleep :=
  State.deliver_asleep (s := { s with vin := s.vin.take (readReport p) s.timebase }) h _

/-- What the requests that are taken in STANDBY leave there. -/
theorem ownerOf_asleep {c : Instr} {row : RequestRow} (hrow : requestRow c = some row) (hs : row.inStandby = true)
    (hc : ∀ t, c ≠ .modeSet t) (p : List Byte) {s : State} (h : s.asleep) : (ownerOf c p s).1.asleep := by
  cases c with
  | modeSet t => exact absurd rfl (hc t)
  | identify t => exact h
  | restart t => exact h
  | noticeSelect t =>
    show (ownNoticeSelect p s).1.asleep
    unfold ownNoticeSelect; split <;> exact h
  | statusLineMap t =>
    show (ownStatusLineMap p s).1.asleep
    unfold ownStatusLineMap; split <;> exact h
  | vehicleReport t => exact ownVehicleReport_asleep p h
  | reverseStatus t => exact h
  | guideQuery t =>
    show (ownGuideQuery p s).1.asleep
    unfold ownGuideQuery
    split
    · exact h
    · split
      · exact State.asleep_of_rsl (by simp) (by simp) h
      · exact h
  | calibrationRead t =>
    show (ownCalibrationRead p s).1.asleep
    unfold ownCalibrationRead; split <;> exact h
  | calibrationWrite t =>
    show (ownCalibrationWrite p s).1.asleep
    unfold ownCalibrationWrite
    simp only []
    split
    · exact h
    split
    · exact h
    split
    · exact h
    · exact State.asleep_of_rsl (by simp) (by simp) h
  | calibrationCheck t => exact h
  | calibrationProgram t =>
    show (ownCalibrationProgram p s).1.asleep
    unfold ownCalibrationProgram
    split
    · exact h
    split
    · exact h
    split <;> exact h
  | _ => cases hrow <;> cases hs

/-- A request's owner keeps the law: MODE SET by its entries, the others as they leave the part mode and, where they are taken in
STANDBY, a sleeping part. -/
theorem ownerOf_standbyLaw {c : Instr} {row : RequestRow} (hrow : requestRow c = some row) (p : List Byte) {s : State}
    (htaken : s.cli.mode = .run ∨ row.inStandby = true) (h : s.standbyLaw) : (ownerOf c p s).1.standbyLaw := by
  by_cases hc : ∃ t, c = .modeSet t
  · obtain ⟨t, rfl⟩ := hc
    exact ownModeSet_standbyLaw p h
  have hc : ∀ t, c ≠ .modeSet t := fun t ht => hc ⟨t, ht⟩
  by_cases hm : s.cli.mode = .standby
  · have hs := htaken.resolve_left (by rw [hm]; decide)
    exact State.standbyLaw_of_asleep (ownerOf_asleep hrow hs hc p (s.standbyLaw_iff.1 h hm))
  · have mode := (Answers.kept (ownerOf_answers_keeping_mode hc p s) ⟨rfl, rfl⟩).2
    exact State.standbyLaw_of_run (mode.trans (PartMode.eq_run hm))

theorem State.judge_standbyLaw {s : State} {owner : Owner} {p : List Byte} {lengthOk : List Byte → Bool} {inStandby : Bool}
    (ho : s.cli.mode = .run ∨ inStandby = true → (owner p s).1.standbyLaw) (h : s.standbyLaw) :
    (s.judge lengthOk inStandby owner p).1.standbyLaw := by
  unfold State.judge
  split
  · exact h
  split
  · exact h
  · next hm =>
    apply ho
    by_cases hs : s.cli.mode = .standby
    · right; simpa [hs] using hm
    · exact .inl (PartMode.eq_run hs)

theorem State.replied_standbyLaw {s : State} (r : Reply) (h : s.standbyLaw) : (s.replied r).standbyLaw := by
  intro hm
  rw [State.replied_mode] at hm
  exact h hm

theorem exec_request_standbyLaw {c : Instr} {row : RequestRow} (hrow : requestRow c = some row) {s s' : State}
    (h : s.standbyLaw) (hex : exec c s = .next s') : s'.standbyLaw := by
  obtain ⟨x, hx, hcases⟩ := s.request_outcomes (stampOf c) row.code row.lengthOk row.inStandby (ownerOf c)
  rw [exec_request hrow, hx] at hex
  injection hex with hex
  subst hex
  rcases hcases with rfl | rfl | ⟨p, rfl⟩
  · exact h
  · exact State.settle_standbyLaw (s := s.atTime (stampOf c)) h
  · exact State.replied_standbyLaw _ (State.judge_standbyLaw (fun ht => ownerOf_standbyLaw hrow p ht h) h)

end Sys2Proof.Machine
end

section
/-! # Proofs: the status lines (R16) -/

namespace Sys2Proof.Machine

/-! ## Every command keeps the law of STANDBY -/

theorem happens_standbyLaw {s s' : State} {t : Stamp} {act : State → State} (hact : keepsStandbyLaw act) (h : s.standbyLaw)
    (hex : s.happens t act = .next s') : s'.standbyLaw := by
  injection hex with hex
  subst hex
  exact State.event_standbyLaw hact t h

/-- A pin that is read at all times: the level is recorded before the part runs, and the blocks act on it after that. -/
theorem pinEvent_standbyLaw {s s' : State} {t : Stamp} {record act : State → State} (hrec : keepsStandbyLaw record)
    (hact : keepsStandbyLaw act) (h : s.standbyLaw) (hex : s.pinEvent t record act = .next s') : s'.standbyLaw := by
  unfold State.pinEvent at hex
  split at hex
  · exact happens_standbyLaw hact h hex
  · injection hex with hex
    subst hex
    exact hrec (s.atTime t) h

theorem gearLevel_standbyLaw (high : Bool) : keepsStandbyLaw (fun s => { s with vin := { s.vin with gearRaw := high } }) :=
  fun _ h => h

/-- R170: the part enters its start mode from a load, in which the part mode is STANDBY. -/
theorem startModeEntry_standbyLaw {s s' : State} {t : Stamp} (h : s.standbyLaw)
    (hwait : s.phase ≠ .running → s.cli.mode = .standby) (hex : exec (.startModeEntry t) s = .next s') : s'.standbyLaw := by
  have hex : execStartModeEntry t s = .next s' := hex
  unfold execStartModeEntry at hex
  split at hex <;> injection hex with hex <;> subst hex
  · next hp =>
    have asleep : (s.atTime t).asleep := s.standbyLaw_iff.1 h (hwait (by rw [hp]; decide))
    exact State.settle_standbyLaw (State.startMode_standbyLaw asleep)
  · exact h

/-- R16, R49: every command keeps both links DETACHED and the controller OFF in STANDBY, where a part that does not run stands. -/
theorem exec_standbyLaw {c : Instr} {s s' : State} (h : s.standbyLaw) (hwait : s.phase ≠ .running → s.cli.mode = .standby)
    (hex : exec c s = .next s') : s'.standbyLaw := by
  cases c with
  | receiveByte t b stopHigh => exact happens_standbyLaw (receiveByte_standbyLaw b stopHigh) h hex
  | interByteWatchExpiry t => exact happens_standbyLaw byteWatchExpired_standbyLaw h hex
  | candidateFrameComplete t => exact happens_standbyLaw checkFrame_standbyLaw h hex
  | unknownRequest t => exact happens_standbyLaw dispatchUnknown_standbyLaw h hex
  | transmitFrameEnd t => exact happens_standbyLaw frameEnded_standbyLaw h hex
  | powerOn t high =>
    injection hex with hex
    subst hex
    exact State.standbyLaw_of_asleep (State.powerOn_asleep _ high)
  | resetNFall t =>
    injection hex with hex
    subst hex
    exact resetFalls_standbyLaw (s.atTime t) h
  | resetNRise t =>
    injection hex with hex
    subst hex
    exact resetRises_standbyLaw (s.atTime t) h
  | startModeEntry t => exact startModeEntry_standbyLaw h hwait hex
  | vehicleWatchExpiry t value => exact happens_standbyLaw (keepsStandbyLaw_of_rsl (by simp) (by simp) (by simp)) h hex
  | frameStart t feed => exact happens_standbyLaw (frameStart_standbyLaw feed) h hex
  | frameWatchExpiry t feed => exact happens_standbyLaw (frameWatchExpired_standbyLaw feed) h hex
  | gearEdge t high =>
    exact pinEvent_standbyLaw (gearLevel_standbyLaw high)
      (act := (·.gearEdge high)) (keepsStandbyLaw_of_rsl (by simp) (by simp) (by simp)) h hex
  | gearDebounceExpiry t => exact happens_standbyLaw debounceExpired_standbyLaw h hex
  | cueDeadlineExpiry t =>
    exact happens_standbyLaw (keepsStandbyLaw_of_off (by simp) (fun _ => State.cueExpired_of_off)) h hex
  | holdTimerExpiry t =>
    exact happens_standbyLaw (keepsStandbyLaw_of_off (by simp) (fun _ => State.holdExpired_of_off)) h hex
  | computationComplete t => exact happens_standbyLaw (keepsStandbyLaw_of_rsl (by simp) (by simp) (by simp)) h hex
  | badLinkMessage t link message =>
    exact happens_standbyLaw
      (keepsStandbyLaw_of_detached link (by simp) (fun _ hd => State.takeMessage_of_detached hd message)) h hex
  | presenceGained t link => exact pinEvent_standbyLaw (setPresent_standbyLaw link true) (presenceGained_standbyLaw link) h hex
  | presenceLost t link => exact pinEvent_standbyLaw (setPresent_standbyLaw link false) (presenceLost_standbyLaw link) h hex
  | hailTimerExpiry t link =>
    exact happens_standbyLaw (keepsStandbyLaw_of_detached link (by simp) (fun _ => State.hailExpired_of_detached)) h hex
  | offers t link body =>
    exact happens_standbyLaw
      (keepsStandbyLaw_of_detached link (by simp) (fun _ hd => State.takeOffers_of_detached hd body)) h hex
  | accept t link =>
    exact happens_standbyLaw (keepsStandbyLaw_of_detached link (by simp) (fun _ => State.takeAccept_of_detached)) h hex
  | reject t link =>
    exact happens_standbyLaw (keepsStandbyLaw_of_detached link (by simp) (fun _ => State.takeReject_of_detached)) h hex
  | claimTimerExpiry t link =>
    exact happens_standbyLaw (keepsStandbyLaw_of_detached link (by simp) (fun _ => State.claimExpired_of_detached)) h hex
  | pollTimerExpiry t link =>
    exact happens_standbyLaw (keepsStandbyLaw_of_detached link (by simp) (fun _ => State.pollExpired_of_detached)) h hex
  | status t link body =>
    exact happens_standbyLaw
      (keepsStandbyLaw_of_detached link (by simp) (fun _ hd => State.takeStatus_of_detached hd body)) h hex
  | partnerReset t link =>
    exact happens_standbyLaw
      (keepsStandbyLaw_of_detached link (by simp) (fun _ hd => State.takeReset_of_detached hd .partnerRequest)) h hex
  | holdOffTimerExpiry t link =>
    exact happens_standbyLaw (keepsStandbyLaw_of_detached link (by simp) (fun _ => State.holdOffExpired_of_detached)) h hex
  | settleTimerExpiry t link => exact happens_standbyLaw (settleExpired_standbyLaw link) h hex
  | outputFrameStart t output => exact happens_standbyLaw (keepsStandbyLaw_of_rsl (by simp) (by simp) (by simp)) h hex
  | idleTimerExpiry t seat => exact happens_standbyLaw (keepsStandbyLaw_of_rsl (by simp) (by simp) (by simp)) h hex
  | repeatTimerExpiry t seat => exact happens_standbyLaw (keyRepeat_standbyLaw seat) h hex
  | stepEnd t voice => exact happens_standbyLaw (keepsStandbyLaw_of_rsl (by simp) (by simp) (by simp)) h hex
  | beepStart t => exact happens_standbyLaw (keepsStandbyLaw_of_rsl (by simp) (by simp) (by simp)) h hex
  | duckStep t seat => exact happens_standbyLaw (keepsStandbyLaw_of_rsl (by simp) (by simp) (by simp)) h hex
  | programmingComplete t fault => exact happens_standbyLaw (keepsStandbyLaw_of_rsl (by simp) (by simp) (by simp)) h hex
  | _ => exact exec_request_standbyLaw rfl h hex

theorem step_standbyLaw {s s' : State} (h : s.standbyLaw) (hwait : s.phase ≠ .running → s.cli.mode = .standby)
    (hstep : step s = .next s') : s'.standbyLaw := by
  unfold step at hstep
  split at hstep
  · injection hstep with hstep
    subst hstep
    exact h
  · next rest _ => exact exec_standbyLaw (s := { s with pending := rest }) h hwait hstep

/-! ## The conditions of the lines -/

theorem State.condition_board (s : State) : s.condition 1 = decide (s.cli.board ≠ []) := by
  show (!s.cli.board.isEmpty) = _
  cases s.cli.board <;> rfl

theorem State.condition_reverse (s : State) : s.condition 2 = decide (s.rvc.state ≠ .off) := by
  show (!decide (s.rvc.state = .off)) = _
  rw [decide_not]

theorem voiceHoldsFront_eq (voice : Option Playing) : voiceHoldsFront voice = voice.any (·.chime.zones.front) := by
  cases voice <;> rfl

theorem State.condition_front (s : State) :
    s.condition 4 = (s.chu.voice1.any (·.chime.zones.front) || s.chu.voice2.any (·.chime.zones.front)) := by
  show (voiceHoldsFront s.chu.voice1 || voiceHoldsFront s.chu.voice2) = _
  rw [voiceHoldsFront_eq, voiceHoldsFront_eq]

/-- Where the map is the same and the board is empty or not as before, no line changes when nothing but the link has. -/
theorem State.statusLine_of_cli {s : State} {c : Cli} (hm : c.lineMap = s.cli.lineMap) (hb : c.board.isEmpty = s.cli.board.isEmpty)
    (line : Nat) : ({ s with cli := c } : State).statusLine line = s.statusLine line := by
  have conditions : ∀ n, ({ s with cli := c } : State).condition n = s.condition n := by
    intro n
    unfold State.condition
    split
    · simp only [hb]
    all_goals rfl
  simp only [State.statusLine, hm, conditions]

/-- R16: a merge changes no line. -/
theorem State.post_merge_statusLine {s : State} {source : Nat} {body : NoticeBody}
    (h : ∃ e ∈ s.cli.board, e.body.kind = body.kind ∧ e.source = source) (line : Nat) :
    (s.post source body).statusLine line = s.statusLine line := by
  unfold State.post
  cases hs : s.cli.selection.getD body.kind.index false with
  | false => rw [Cli.post_disabled _ _ hs]
  | true =>
    rw [Cli.post_mergedWith _ hs h]
    refine State.statusLine_of_cli ?_ ?_ line
    · rfl
    · exact List.isEmpty_map

end Sys2Proof.Machine

open Sys2Proof Sys2Proof.Machine

/-- Settles O18: the level by the condition and the polarity; the lines after a cold start and a merge; and the law of STANDBY,
which every command keeps. -/
theorem statusLinesFollowTheirConditions : Obligations.StatusLinesFollowTheirConditions := by
  unfold Obligations.StatusLinesFollowTheirConditions
  intro s line
  refine ⟨fun h => State.statusLine_unmapped h line, ?mapped, ?powerOn, ?resetLine,
    fun source body h => State.post_merge_statusLine h line, ?standby, fun s' h hwait hstep => step_standbyLaw h hwait hstep⟩
  case mapped =>
    intro m hm
    rw [State.statusLine_mapped hm]
    congr 1
    rcases m.condition with _ | _ | _ | _ | _ | _ | _ | _ | n
    · rfl
    · exact s.condition_board
    · exact s.condition_reverse
    · rfl
    · exact s.condition_front
    · rfl
    · rfl
    · rfl
    · rfl
  case powerOn =>
    intro t high
    exact ⟨_, rfl, State.statusLine_unmapped (by rw [State.powerOn_cli]; rfl) line⟩
  case resetLine =>
    intro t h
    obtain ⟨s', hs', hc⟩ := exec_resetNFall_cli t h
    exact ⟨s', hs', State.statusLine_unmapped (by rw [hc]; rfl) line⟩
  case standby =>
    intro h hm
    obtain ⟨h1, h2, hv⟩ := h hm
    refine ⟨?_, ?_, ?_⟩
    · rw [State.condition_reverse, hv]; rfl
    · show decide ((s.link .s1).state = .streaming) = false
      rw [h1]; rfl
    · show decide ((s.link .s2).state = .streaming) = false
      rw [h2]; rfl

end

section
/-! # Proofs: what R100 and R102 read, and what leaves it -/

namespace Sys2Proof.Machine

/-! ## The decision of R102 for every row -/

/-- What R102 speaks of in a row: its routed source, its effective source and the cause. -/
structure Routing where
  routed : Source
  effective : Source
  cause : RouteCause

def Row.routing (r : Row) : Routing := ⟨r.routed, r.effective, r.cause⟩

/-- R102: what a rear row shows: its routed source, with cause ROUTE. -/
def Routing.plain (r : Routing) : Routing := ⟨r.routed, r.routed, .route⟩

/-- What R100 and R102 read and decide, and the frame drawn on the front output; `State.sourceLaw_iff` and `State.filmLaw_iff` tie it
to the laws. -/
structure SourceView where
  off : Bool
  preview : Bool
  filmLock : Bool
  speedFresh : Bool
  front : Routing
  frame : Option FrameContent
  rear : Two Routing

def State.sourceView (s : State) : SourceView where
  off := s.rvcOff
  preview := s.cmp.preview
  filmLock := s.cmp.filmLock
  speedFresh := s.speedFresh
  front := s.cmp.front.routing
  frame := s.cmp.front.frame
  rear := s.cmp.rear.map Row.routing

/-- R102: what the rule decides for the front row. -/
def SourceView.decided (v : SourceView) : Routing :=
  let d := frontSource v.off v.preview v.filmLock v.front.routed
  ⟨v.front.routed, d.1, d.2⟩

/-- The front row is judged (R102). -/
def SourceView.judged (v : SourceView) : SourceView := { v with front := v.decided }

def SourceView.sourceLaw (v : SourceView) : Prop := v.front = v.decided ∧ ∀ i, v.rear.get i = (v.rear.get i).plain

def SourceView.filmLaw (v : SourceView) : Prop := v.filmLock = false → v.speedFresh = true

theorem Row.routing_plain_iff (r : Row) : r.routing = r.routing.plain ↔ r.effective = r.routed ∧ r.cause = .route := by
  simp [Row.routing, Routing.plain]

theorem State.sourceView_rear (s : State) (i : Seat) : s.sourceView.rear.get i = (s.rearRow i).routing := Two.get_map _ _ i

theorem State.front_decided_iff (s : State) : s.sourceView.front = s.sourceView.decided
    ↔ (s.cmp.front.effective, s.cmp.front.cause) = frontSource s.rvcOff s.cmp.preview s.cmp.filmLock s.cmp.front.routed := by
  simp [State.sourceView, SourceView.decided, Row.routing, Prod.ext_iff]

theorem State.sourceLaw_iff (s : State) : s.sourceLaw ↔ s.sourceView.sourceLaw := by
  rw [SourceView.sourceLaw, State.front_decided_iff]
  refine and_congr Iff.rfl ⟨fun h i => ?_, fun h i _ => ?_⟩
  · rw [State.sourceView_rear, Row.routing_plain_iff]
    exact h i (by cases i <;> simp)
  · rw [← Row.routing_plain_iff, ← State.sourceView_rear]
    exact h i

theorem State.filmLaw_iff (s : State) : s.filmLaw ↔ s.sourceView.filmLaw := Iff.rfl

/-! ## What a part of a step may do -/

/-- R100 and R102 still hold where they held. -/
structure SourceView.keepsLaws (v' v : SourceView) : Prop where
  source : v.sourceLaw → v'.sourceLaw
  film : v.filmLaw → v'.filmLaw

/-- R100 and R102 still hold, and the front output's frame is as it was, or the output has stopped. -/
structure SourceView.keeps (v' v : SourceView) : Prop extends v'.keepsLaws v where
  frame : v'.frame = v.frame ∨ v'.frame = none

theorem SourceView.keeps_refl (v : SourceView) : v.keeps v := ⟨⟨id, id⟩, .inl rfl⟩

theorem SourceView.keeps_trans {v v1 v2 : SourceView} (h2 : v2.keeps v1) (h1 : v1.keeps v) : v2.keeps v where
  source := h2.source ∘ h1.source
  film := h2.film ∘ h1.film
  frame := by
    rcases h2.frame with h | h
    · rw [h]; exact h1.frame
    · exact .inr h

/-- A judgement of the front row makes R102 hold there, whatever changed before it. -/
theorem SourceView.judged_keeps {v' v : SourceView} (hr : v'.rear = v.rear) (hf : v.filmLaw → v'.filmLaw)
    (hp : v'.frame = v.frame ∨ v'.frame = none) : v'.judged.keeps v where
  source := fun h => ⟨rfl, by simpa [SourceView.judged, hr] using h.2⟩
  film := hf
  frame := hp

/-- A rear row that shows its routed source keeps R102. -/
theorem SourceView.setRear_keeps (v : SourceView) (i : Seat) (r : Routing) :
    ({ v with rear := v.rear.set i r.plain } : SourceView).keeps v where
  source := fun h => by
    refine ⟨h.1, fun j => ?_⟩
    by_cases hj : j = i
    · subst hj; simp [Routing.plain]
    · simpa [hj] using h.2 j
  film := id
  frame := .inl rfl

/-- What a part of a step may do to the effective sources, the film lock and the front output's frame. -/
def State.keepsSources (s' s : State) : Prop := s'.sourceView.keeps s.sourceView

theorem State.keepsSources_refl (s : State) : s.keepsSources s := SourceView.keeps_refl _

theorem State.keepsSources_trans {s s1 s2 : State} (h2 : s2.keepsSources s1) (h1 : s1.keepsSources s) : s2.keepsSources s :=
  SourceView.keeps_trans h2 h1

theorem State.keepsSources_of_view {s' s : State} (h : s'.sourceView = s.sourceView) : s'.keepsSources s := by
  rw [State.keepsSources, h]; exact SourceView.keeps_refl _

/-- What R102 reads stands in the compositor, the controller's state and the watch of the speed. -/
theorem State.sourceView_of_cmp {s' s : State} (hc : s'.cmp = s.cmp) (hr : s'.rvc.state = s.rvc.state)
    (hv : s'.vin.speedWatch = s.vin.speedWatch) : s'.sourceView = s.sourceView := by
  simp only [State.sourceView, State.rvcOff, State.speedFresh, hc, hr, hv]

theorem State.keepsSources_of_cmp {s' s : State} (hc : s'.cmp = s.cmp) (hr : s'.rvc.state = s.rvc.state)
    (hv : s'.vin.speedWatch = s.vin.speedWatch) : s'.keepsSources s :=
  State.keepsSources_of_view (State.sourceView_of_cmp hc hr hv)

/-! ## The rows -/

theorem Two.set_get {α : Type} (p : Two α) (i : Seat) : p.set i (p.get i) = p := by cases i <;> rfl

theorem Two.map_set {α β : Type} (f : α → β) (p : Two α) (i : Seat) (a : α) : (p.set i a).map f = (p.map f).set i (f a) := by
  cases i <;> rfl

theorem State.setFront_view (s : State) (r : Row) :
    (s.setFront r).sourceView = { s.sourceView with front := r.routing, frame := r.frame } := rfl

theorem State.setRearRow_view (s : State) (i : Seat) (r : Row) :
    (s.setRearRow i r).sourceView = { s.sourceView with rear := s.sourceView.rear.set i r.routing } := by
  show { s.sourceView with rear := (s.cmp.rear.set i r).map Row.routing } = _
  rw [Two.map_set]; rfl

/-- A rear row may change in all that R102 does not speak of. -/
theorem State.setRearRow_view_same {s : State} {i : Seat} {r : Row} (h : r.routing = (s.rearRow i).routing) :
    (s.setRearRow i r).sourceView = s.sourceView := by
  rw [State.setRearRow_view, h, ← State.sourceView_rear, Two.set_get]

/-! ## Operations of the compositor and the feed ports that leave what R102 reads -/

@[simp] theorem State.judgeGuidePlane_view (s : State) : s.judgeGuidePlane.sourceView = s.sourceView := rfl

@[simp] theorem State.judgeFrontBanner_view (s : State) : s.judgeFrontBanner.sourceView = s.sourceView := rfl

@[simp] theorem State.judgeRearBanner_view (s : State) (i : Seat) : (s.judgeRearBanner i).sourceView = s.sourceView :=
  State.setRearRow_view_same rfl

@[simp] theorem State.startFrontFrames_view (s : State) : s.startFrontFrames.sourceView = s.sourceView := rfl

@[simp] theorem State.post_view (s : State) (source : Nat) (body : NoticeBody) : (s.post source body).sourceView = s.sourceView := rfl

@[simp] theorem State.setPort_view (s : State) (f : Feed) (p : Port) : (s.setPort f p).sourceView = s.sourceView := rfl

theorem State.setBanner_view (s : State) (o : Output) (on : Bool) : (s.setBanner o on).sourceView = s.sourceView := by
  cases o with
  | fro => rfl
  | ro i => exact (State.judgeRearBanner_view _ i).trans (State.setRearRow_view_same rfl)

@[simp] theorem State.lockToCompositor_view (s : State) (f : Feed) : (s.lockToCompositor f).sourceView = s.sourceView := by
  have banner (x : State) (i : Seat) :
      (if (x.rearRow i).effective.feed = some f then x.judgeRearBanner i else x).sourceView = x.sourceView := by
    split
    · exact x.judgeRearBanner_view i
    · rfl
  have banners := (banner _ .s2).trans (banner s .s1)
  unfold State.lockToCompositor
  simp only []
  split
  · exact banners
  · exact banners

@[simp] theorem State.install_view (s : State) : s.install.sourceView = s.sourceView := by
  unfold State.install
  split
  · rfl
  · simp only []
    split <;> rfl

@[simp] theorem State.lockToGuide_view (s : State) (locked : Bool) : (s.lockToGuide locked).sourceView = s.sourceView := by
  unfold State.lockToGuide
  simp only []
  split
  · rfl
  · exact State.install_view _

@[simp] theorem State.frameToGuide_view (s : State) (lock : Lock) : (s.frameToGuide lock).sourceView = s.sourceView := by
  unfold State.frameToGuide
  split
  · exact s.install_view
  · rfl

theorem State.computationDone_view (s : State) : s.computationDone.sourceView = s.sourceView := by
  unfold State.computationDone
  split
  · rfl
  · simp only []
    split
    · rfl
    · exact State.install_view _

@[simp] theorem State.lockChanged_view (s : State) (f : Feed) (lock : Lock) : (s.lockChanged f lock).sourceView = s.sourceView := by
  unfold State.lockChanged
  simp only []
  split <;> simp

@[simp] theorem State.clearPort_view (s : State) (f : Feed) (enabled : Bool) : (s.clearPort f enabled).sourceView = s.sourceView := by
  unfold State.clearPort
  simp only []
  split <;> simp

@[simp] theorem State.judgeCameraPower_view (s : State) : s.judgeCameraPower.sourceView = s.sourceView := by
  unfold State.judgeCameraPower
  simp only []
  split
  · rfl
  split
  · rfl
  · exact State.clearPort_view _ .cam false

@[simp] theorem State.disableFeeds_view (s : State) : s.disableFeeds.sourceView = s.sourceView := by
  simp [State.disableFeeds, State.disablePort]

@[simp] theorem State.feedsWarm_view (s : State) : s.feedsWarm.sourceView = s.sourceView := by
  simp [State.feedsWarm]

/-! ## Operations of the menu engine and the keys that leave what R102 reads -/

@[simp] theorem State.openMenu_view (s : State) (i : Seat) (p : Page) : (s.openMenu i p).sourceView = s.sourceView := rfl

@[simp] theorem State.closeMenu_view (s : State) (i : Seat) (reason : CloseReason) (quiet : Bool) :
    (s.closeMenu i reason quiet).sourceView = s.sourceView := by
  unfold State.closeMenu
  split
  · simp only []
    split <;> rfl
  · rfl

theorem State.closeIfHolds_view (s : State) (id : Nat) (i : Seat) : (s.closeIfHolds id i).sourceView = s.sourceView := by
  unfold State.closeIfHolds
  split
  · exact s.closeMenu_view i _ _
  · rfl

theorem State.idleExpired_view (s : State) (i : Seat) : (s.idleExpired i).sourceView = s.sourceView := by
  unfold State.idleExpired
  split
  · exact s.closeMenu_view i _ _
  · rfl

theorem State.menusWarm_view (s : State) : s.menusWarm.sourceView = s.sourceView :=
  (State.closeMenu_view _ .s2 _ _).trans (s.closeMenu_view .s1 _ _)

@[simp] theorem State.consumed_view (s : State) (i : Seat) (pattern : Nat) : (s.consumed i pattern).sourceView = s.sourceView :=
  State.sourceView_of_cmp (by simp) (by simp) (by simp)

@[simp] theorem State.menuPop_view (s : State) (i : Seat) : (s.menuPop i).sourceView = s.sourceView := by
  unfold State.menuPop
  split
  · rfl
  · rw [State.consumed_view, State.closeMenu_view]
  · rw [State.consumed_view]; rfl

theorem State.menuOk_view (s : State) (i : Seat) (e : Entry) (n : Nat) (it : Item) : (s.menuOk i e n it).sourceView = s.sourceView := by
  unfold State.menuOk
  split
  · split
    · split
      · rw [State.consumed_view]; rfl
      · exact s.consumed_view i 1
    · exact s.consumed_view i 1
  · rw [State.consumed_view]; rfl
  · rw [State.consumed_view]; rfl
  · exact s.menuPop_view i
  all_goals rfl

theorem State.menuMove_view (s : State) (i : Seat) (p : Page) (e : Entry) (d : Dir) : (s.menuMove i p e d).sourceView = s.sourceView :=
  State.sourceView_of_cmp (by simp) (by simp) (by simp)

theorem State.menuSide_view (s : State) (i : Seat) (e : Entry) (n : Nat) (it : Item) (d : Dir) :
    (s.menuSide i e n it d).sourceView = s.sourceView :=
  State.sourceView_of_cmp (by simp) (by simp) (by simp)

@[simp] theorem State.menuKey_view (s : State) (i : Seat) (k : Key) : (s.menuKey i k).sourceView = s.sourceView := by
  unfold State.menuKey
  (repeat' split) <;> simp [State.menuOk_view, State.menuMove_view, State.menuSide_view]

theorem State.navigate_view (s : State) (i : Seat) (k : Key) (ev : KeyEvent) : (s.navigate i k ev).sourceView = s.sourceView := by
  unfold State.navigate
  split
  · exact s.menuKey_view i k
  · rfl

theorem State.menuPress_view (s : State) (i : Seat) (ev : KeyEvent) : (s.menuPress i ev).sourceView = s.sourceView := by
  unfold State.menuPress State.menuKeyOpen
  split
  · exact s.menuKey_view i .menu
  · cases s.rootPage i with
    | none => rfl
    | some p => exact (State.consumed_view _ i 0).trans (s.openMenu_view i p)

theorem State.volumePress_view (s : State) (i : Seat) (d : Dir) : (s.volumePress i d).sourceView = s.sourceView :=
  State.sourceView_of_cmp (by simp) (by simp) (by simp)

theorem State.brightPress_view (s : State) (i : Seat) (d : Dir) : (s.brightPress i d).sourceView = s.sourceView :=
  State.sourceView_of_cmp (by simp) (by simp) (by simp)

theorem State.dispatchKey_view (s : State) (i : Seat) (k : Key) (ev : KeyEvent) : (s.dispatchKey i k ev).sourceView = s.sourceView := by
  cases k with
  | up | down | left | right | ok | back => exact s.navigate_view i _ ev
  | menu => exact s.menuPress_view i ev
  | volUp | volDown => exact s.volumePress_view i _
  | brightUp | brightDown => exact s.brightPress_view i _
  | playPause | next | previous => rfl

theorem State.keyPress_view (s : State) (i : Seat) (k : Key) : (s.keyPress i k).sourceView = s.sourceView :=
  (State.dispatchKey_view (s.holdKey i k) i k .press).trans (State.sourceView_of_cmp (by simp) (by simp) (by simp))

theorem State.keyRepeat_view (s : State) (i : Seat) : (s.keyRepeat i).sourceView = s.sourceView := by
  unfold State.keyRepeat
  split
  · split
    · rfl
    · exact s.dispatchKey_view i _ .repeat
  · rfl

theorem State.keyEvent_view (s : State) (i : Seat) (key event : Nat) : (s.keyEvent i key event).sourceView = s.sourceView := by
  unfold State.keyEvent
  split
  · rfl
  split
  · exact s.keyPress_view i _
  split
  · exact State.sourceView_of_cmp (by simp) (by simp) (by simp)
  · rfl

theorem State.keyEvents_view (s : State) (i : Seat) (body : List Byte) (e k : Nat) :
    (s.keyEvents i body e k).sourceView = s.sourceView := by
  induction e generalizing s k with
  | zero => rfl
  | succ e ih => exact (ih _ _).trans (s.keyEvent_view i _ _)

theorem State.takeReport_view (s : State) (i : Seat) (body : List Byte) : (s.takeReport i body).sourceView = s.sourceView := by
  unfold State.takeReport
  simp only []
  split
  · rfl
  · exact State.keyEvents_view _ i body _ _

theorem State.takeStatus_view (s : State) (i : Seat) (body : List Byte) : (s.takeStatus i body).sourceView = s.sourceView := by
  unfold State.takeStatus
  split
  · rw [State.takeReport_view]
    exact State.sourceView_of_cmp (by simp) (by simp) (by simp)
  · rfl

/-! ## The start of RUN -/

theorem State.runEffects_view (s : State) : s.runEffects.sourceView = s.sourceView := by
  rw [State.runEffects, State.startFrontFrames_view]
  exact State.sourceView_of_cmp (by simp) (by simp) (by simp)

theorem State.enterRun_view (s : State) (cause : ModeCause) : (s.enterRun cause).sourceView = s.sourceView :=
  State.runEffects_view (s.setMode .run)

theorem State.reverseWake_view (s : State) (level : Gear) : (s.reverseWake level).sourceView = s.sourceView := by
  unfold State.reverseWake
  split
  · exact s.enterRun_view .reverseWake
  · rfl

theorem State.startMode_view (s : State) : s.startMode.sourceView = s.sourceView := by
  unfold State.startMode
  simp only []
  split
  · exact State.runEffects_view _
  · rfl

theorem State.gearEdge_view (s : State) (raw : Bool) : (s.gearEdge raw).sourceView = s.sourceView := by
  unfold State.gearEdge
  split
  · rfl
  · split <;> rfl

end Sys2Proof.Machine
end

section
/-! # Proofs: every command leaves what R102 decides (R99 to R102, R113, R114) -/

namespace Sys2Proof.Machine

/-! ## Judgements of the front row -/

/-- R102: the judgement of the front row, seen on what it reads. -/
theorem State.judgeFront_view (s : State) : s.judgeFront.sourceView = s.sourceView.judged := by
  unfold State.judgeFront
  simp only []
  split
  · next h =>
    have decided : s.sourceView.front = s.sourceView.decided := s.front_decided_iff.2 (Prod.ext h.1 h.2)
    rw [SourceView.judged, ← decided]
  · rfl

/-- R100: a change of the film lock that the freshness of the speed admits, judged at once. -/
theorem State.setFilmLock_keepsSources {s0 s : State} {engaged : Bool} (hc : s0.cmp = s.cmp) (hr : s0.rvc.state = s.rvc.state)
    (hv : engaged = false → s0.speedFresh = true) : (s0.setFilmLock engaged).keepsSources s := by
  have view : s0.sourceView = { s.sourceView with speedFresh := s0.speedFresh } := by
    simp only [State.sourceView, State.rvcOff, hc, hr]
  unfold State.setFilmLock
  split
  · next h =>
    refine ⟨⟨?_, fun _ hl => hv (h ▸ hl)⟩, .inl (by rw [view])⟩
    rw [view]; exact id
  · rw [State.keepsSources, State.judgeFront_view]
    exact SourceView.judged_keeps (by rw [State.sourceView, hc]; rfl) (fun _ => hv) (.inl (by rw [State.sourceView, hc]; rfl))

/-- R99: the route that a row holds once its pending route has come into effect. -/
theorem State.frontRouteTakesEffect_view (s : State) :
    s.frontRouteTakesEffect.sourceView
      = ({ s.sourceView with front := s.cmp.front.takePending.routing, frame := s.cmp.front.takePending.frame } : SourceView).judged :=
  State.judgeFront_view _

theorem Row.takePending_frame (r : Row) : r.takePending.frame = r.frame := by
  unfold Row.takePending
  split <;> rfl

theorem State.frontRouteTakesEffect_keepsSources (s : State) : s.frontRouteTakesEffect.keepsSources s := by
  rw [State.keepsSources, State.frontRouteTakesEffect_view]
  exact SourceView.judged_keeps rfl id (.inl s.cmp.front.takePending_frame)

/-- R101: a change of preview, judged at once. -/
theorem State.setPreview_keepsSources (s : State) (on : Bool) : (s.setPreview on).keepsSources s := by
  rw [State.keepsSources, State.setPreview, State.judgeCameraPower_view, State.judgeFront_view]
  exact SourceView.judged_keeps rfl id (.inl rfl)

/-- R114: entry to STANDBY turns preview off, judges the front row and stops its output. -/
theorem State.compositorStandby_keepsSources (s : State) : s.compositorStandby.keepsSources s := by
  have view : s.compositorStandby.sourceView
      = ({ s.sourceView with preview := false, front := s.cmp.front.takePending.routing, frame := none } : SourceView).judged := by
    rw [State.compositorStandby, State.setFront_view]
    exact congrArg (fun v : SourceView => { v with frame := none }) (State.frontRouteTakesEffect_view _)
  rw [State.keepsSources, view]
  exact SourceView.judged_keeps rfl id (.inr rfl)

/-! ## Judgements of a rear row -/

theorem State.judgeRear_view (s : State) (i : Seat) :
    (s.judgeRear i).sourceView = { s.sourceView with rear := s.sourceView.rear.set i (s.rearRow i).routing.plain } := by
  unfold State.judgeRear
  simp only []
  split
  · next h => rw [← (s.rearRow i).routing_plain_iff.2 h, ← State.sourceView_rear, Two.set_get]
  · rw [State.judgeRearBanner_view, State.post_view, State.setRearRow_view]; rfl

theorem State.rearRouteTakesEffect_keepsSources (s : State) (i : Seat) : (s.rearRouteTakesEffect i).keepsSources s := by
  have view : (s.rearRouteTakesEffect i).sourceView
      = { s.sourceView with rear := s.sourceView.rear.set i (s.rearRow i).takePending.routing.plain } := by
    rw [State.rearRouteTakesEffect, State.judgeRear_view, State.setRearRow_view, State.rearRow_setRearRow_same, Two.set_set]
  rw [State.keepsSources, view]
  exact SourceView.setRear_keeps _ i _

theorem State.rearFrame_keepsSources (s : State) (i : Seat) : (s.rearFrame i).keepsSources s := by
  unfold State.rearFrame
  split
  · exact s.keepsSources_refl
  · refine State.keepsSources_trans (State.keepsSources_of_view ?_) (s.rearRouteTakesEffect_keepsSources i)
    refine (State.setRearRow_view_same ?_).trans (State.setRearRow_view_same ?_)
    · rfl
    · rfl

theorem State.outputFrame_rear_keepsSources (s : State) (i : Seat) : (s.outputFrame (.ro i)).keepsSources s := by
  simp only [State.outputFrame]
  split
  · exact s.rearFrame_keepsSources i
  · exact s.keepsSources_refl

theorem State.startRear_keepsSources (s : State) (i : Seat) : (s.startRear i).keepsSources s :=
  State.keepsSources_trans (State.rearFrame_keepsSources _ i) (State.keepsSources_of_view (s.judgeRearBanner_view i))

theorem State.stopRear_keepsSources (s : State) (i : Seat) : (s.stopRear i).keepsSources s :=
  State.keepsSources_trans (State.keepsSources_of_view (State.judgeRearBanner_view _ i))
    (State.keepsSources_trans (State.rearRouteTakesEffect_keepsSources _ i)
      (State.keepsSources_of_view (State.setRearRow_view_same rfl)))

theorem State.setPending_keepsSources (s : State) (o : Output) (src : Source) : (s.setPending o src).keepsSources s := by
  cases o with
  | fro => exact s.keepsSources_refl
  | ro i =>
    have pending (r : Row) (h : r.routing = (s.rearRow i).routing) : (s.setRearRow i r).keepsSources s :=
      State.keepsSources_of_view (State.setRearRow_view_same h)
    unfold State.setPending
    simp only []
    split
    · exact pending _ rfl
    · exact State.keepsSources_trans (State.rearRouteTakesEffect_keepsSources _ i) (pending _ rfl)

/-- R114: a warm restart gives every row its default route and judges each. -/
theorem State.compositorWarm_keepsSources (s : State) : s.compositorWarm.keepsSources s := by
  have view : s.compositorWarm.sourceView
      = { ({ s.sourceView with front := (s.cmp.front.warm (calRoute s.image 1)).routing } : SourceView).judged with
          rear := ⟨((s.rearRow .s1).warm (calRoute s.image 2)).routing.plain,
                   ((s.rearRow .s2).warm (calRoute s.image 3)).routing.plain⟩ } := by
    simp only [State.compositorWarm, State.judgeRearBanner_view, State.judgeRear_view, State.judgeFrontBanner_view,
      State.judgeFront_view, State.setRearRow_view, State.setFront_view, ← State.sourceView_rear]
    rfl
  rw [State.keepsSources, view]
  exact ⟨⟨fun _ => ⟨rfl, fun i => by cases i <;> rfl⟩, id⟩, .inl rfl⟩

/-! ## The reverse view controller (R36) -/

/-- R36, R102: what the compositor does with a change of the controller, seen on what R102 reads. -/
def SourceView.handed (v : SourceView) (crossed : Bool) : SourceView :=
  if crossed then ({ v with preview := v.preview && v.off } : SourceView).judged else v

theorem State.reverseToCompositor_view (s : State) (crossed : Bool) :
    (s.reverseToCompositor crossed).sourceView = s.sourceView.handed crossed := by
  cases crossed with
  | false =>
    simp only [State.reverseToCompositor, Bool.false_eq_true, if_false, State.judgeGuidePlane_view, State.judgeFrontBanner_view]
    simp [State.sourceView, SourceView.handed, State.rvcOff, State.speedFresh]
  | true =>
    simp only [State.reverseToCompositor, if_true, State.judgeGuidePlane_view, State.judgeFrontBanner_view, State.judgeFront_view]
    rfl

theorem State.changeRvc_view (s : State) (c : RvcChange) :
    (s.changeRvc c).sourceView = ({ s.sourceView with off := decide (c.state = .off) } : SourceView).handed
      (!decide (decide (s.rvc.state = .off) = decide (c.state = .off))) := by
  have hushed (x : State) : (if s.rvc.state = .fault then x.cancelFaultChime else x).sourceView = x.sourceView := by
    split
    · exact State.sourceView_of_cmp (by simp) (by simp) (by simp)
    · rfl
  have parked (x : State) (crossed : Bool) : (if crossed then x.judgePark else x).sourceView = x.sourceView := by
    split
    · exact State.sourceView_of_cmp (by simp) (by simp) (by simp)
    · rfl
  have guided (x : State) (crossed : Bool) : (x.reverseToGuide crossed).sourceView = x.sourceView :=
    State.sourceView_of_cmp (by simp) (by simp) (by simp)
  have sounded (x : State) : (x.reverseChime s.rvc.state c.state).sourceView = x.sourceView :=
    State.sourceView_of_cmp (by simp) (by simp) (by simp)
  simp only [State.changeRvc, sounded, parked, guided, State.judgeCameraPower_view, State.reverseToCompositor_view,
    State.post_view, hushed]
  rfl

/-- R36, R102: a change of the controller between OFF and not OFF judges the front row; another leaves what R102 reads. -/
theorem State.changeRvc_keepsSources (s : State) (c : RvcChange) : (s.changeRvc c).keepsSources s := by
  rw [State.keepsSources, State.changeRvc_view]
  by_cases h : decide (s.rvc.state = .off) = decide (c.state = .off)
  · rw [decide_eq_true h, ← h]; exact s.keepsSources_refl
  · rw [decide_eq_false h]; exact SourceView.judged_keeps rfl id (.inl rfl)

theorem State.enterLive_keepsSources (s : State) (reason : RvcReason) : (s.enterLive reason).keepsSources s :=
  s.changeRvc_keepsSources _

theorem State.enterOff_keepsSources (s : State) (reason : RvcReason) : (s.enterOff reason).keepsSources s :=
  s.changeRvc_keepsSources _

theorem State.enterFault_keepsSources (s : State) (reason : RvcReason) : (s.enterFault reason).keepsSources s :=
  s.changeRvc_keepsSources _

theorem State.release_keepsSources (s : State) (heldView : HeldView) : (s.release heldView).keepsSources s := by
  unfold State.release
  split
  · exact s.enterOff_keepsSources _
  split
  · exact s.enterOff_keepsSources _
  · exact s.changeRvc_keepsSources _

theorem State.confirmedReverse_keepsSources (s : State) : s.confirmedReverse.keepsSources s := by
  have engage : (if (s.port .cam).lock = .locked then s.enterLive .gearReverse else s.enterCueing).keepsSources s := by
    split
    · exact s.enterLive_keepsSources _
    · exact s.changeRvc_keepsSources _
  unfold State.confirmedReverse
  simp only []
  split
  · exact engage
  · exact engage
  all_goals exact s.keepsSources_refl

theorem State.confirmedNotReverse_keepsSources (s : State) : s.confirmedNotReverse.keepsSources s := by
  unfold State.confirmedNotReverse
  split
  · exact s.enterOff_keepsSources _
  · exact s.release_keepsSources _
  · exact s.release_keepsSources _
  all_goals exact s.keepsSources_refl

theorem State.takeLevel_keepsSources (s : State) (level : Gear) (edge : Stamp) : (s.takeLevel level edge).keepsSources s := by
  have recorded : ({ s with rvc := s.rvc.record level edge } : State).keepsSources s :=
    State.keepsSources_of_cmp rfl (by cases level <;> rfl) rfl
  unfold State.takeLevel
  cases level with
  | reverse => exact State.keepsSources_trans (State.confirmedReverse_keepsSources _) recorded
  | notReverse => exact State.keepsSources_trans (State.confirmedNotReverse_keepsSources _) recorded

/-- R9, R29: a confirmed level, which may put the part into RUN first. -/
theorem State.debounceExpired_keepsSources (s : State) : s.debounceExpired.keepsSources s := by
  unfold State.debounceExpired
  split
  · exact s.keepsSources_refl
  split
  · exact State.keepsSources_trans (State.takeLevel_keepsSources _ _ _)
      (State.keepsSources_of_view (State.reverseWake_view (s.setGear _ _ _) _))
  · exact s.keepsSources_refl

theorem State.cueExpired_keepsSources (s : State) : s.cueExpired.keepsSources s := by
  unfold State.cueExpired
  split
  · exact s.enterFault_keepsSources _
  · exact s.keepsSources_refl

theorem State.holdExpired_keepsSources (s : State) : s.holdExpired.keepsSources s := by
  unfold State.holdExpired
  split
  · exact s.enterOff_keepsSources _
  · exact s.keepsSources_refl

theorem State.freshSpeed_keepsSources (s : State) : s.freshSpeed.keepsSources s := by
  unfold State.freshSpeed
  split
  · exact s.enterOff_keepsSources _
  · exact s.keepsSources_refl

/-! ## The feed ports (R22) -/

theorem State.handLock_keepsSources (s : State) (f : Feed) (before after : Lock) : (s.handLock f before after).keepsSources s := by
  have told : (s.lockChanged f after).keepsSources s := State.keepsSources_of_view (s.lockChanged_view f after)
  have locked (x : State) : x.camLocked.keepsSources x := by
    unfold State.camLocked
    split
    · exact x.enterLive_keepsSources _
    · exact x.enterLive_keepsSources _
    all_goals exact x.keepsSources_refl
  have left (x : State) : x.camLeft.keepsSources x := by
    unfold State.camLeft
    split
    · exact x.enterFault_keepsSources _
    · exact x.keepsSources_refl
  unfold State.handLock
  split
  · exact s.keepsSources_refl
  simp only []
  split
  · exact told
  split
  · exact State.keepsSources_trans (locked _) told
  split
  · exact State.keepsSources_trans (left _) told
  · exact told

theorem State.frameStart_keepsSources (s : State) (f : Feed) : (s.frameStart f).keepsSources s := by
  have handed := State.handLock_keepsSources (s.setPort f ((s.port f).framed s.timebase)) f (s.port f).lock
    ((s.port f).framed s.timebase).lock
  unfold State.frameStart
  simp only []
  split
  · split
    · exact State.keepsSources_trans (State.keepsSources_of_view (State.frameToGuide_view _ _)) handed
    · exact handed
  · exact s.keepsSources_refl

theorem State.frameWatchExpired_keepsSources (s : State) (f : Feed) : (s.frameWatchExpired f).keepsSources s := by
  unfold State.frameWatchExpired
  simp only []
  split
  · exact State.handLock_keepsSources (s.setPort f _) f _ _
  · exact s.keepsSources_refl

/-! ## The vehicle intake (R32, R33, R100) -/

/-- R32, R100: the delivery of a report, after which the speed is fresh when the report holds one. -/
theorem State.deliver_keepsSources {s : State} {r : Report} (h : r.speed.isSome → s.speedFresh = true) :
    (s.deliver r).keepsSources s := by
  have speed : (if r.speed.isSome then s.speedToCompositor.freshSpeed else s).keepsSources s := by
    split
    · next hs =>
      exact State.keepsSources_trans (State.freshSpeed_keepsSources _) (State.setFilmLock_keepsSources rfl rfl (fun _ => h hs))
    · exact s.keepsSources_refl
  have steering (x : State) : (if r.steering.isSome then x.trackingTrigger else x).keepsSources x := by
    split
    · exact State.keepsSources_of_cmp (by simp) (by simp) (by simp)
    · exact x.keepsSources_refl
  have dimmer (x : State) : (match r.dimmer with | some d => x.takeDimmer d | none => x).keepsSources x := by
    cases r.dimmer with
    | none => exact x.keepsSources_refl
    | some d => exact State.keepsSources_of_cmp (by simp) (by simp) (by simp)
  have obstacle (x : State) : (if r.obstacle.isSome then x.judgePark else x).keepsSources x := by
    split
    · exact State.keepsSources_of_cmp (by simp) (by simp) (by simp)
    · exact x.keepsSources_refl
  exact State.keepsSources_trans (obstacle _) (State.keepsSources_trans (dimmer _) (State.keepsSources_trans (steering _) speed))

/-- R33, R100: a stale speed engages the film lock. -/
theorem State.watchExpired_keepsSources (s : State) (value : Watched) : (s.watchExpired value).keepsSources s := by
  unfold State.watchExpired
  split
  · cases value with
    | speed => exact State.setFilmLock_keepsSources rfl rfl (fun h => by cases h)
    | steering => exact State.keepsSources_of_cmp (by simp [State.deliverStale]) (by simp) (by simp [State.deliverStale, Vin.stale])
    | obstacle => exact State.keepsSources_of_cmp (by simp [State.deliverStale]) (by simp) (by simp [State.deliverStale, Vin.stale])
  · exact s.keepsSources_refl

/-! ## The rear screen links (R75, R81, R89, R91) -/

theorem State.fellBack_keepsSources (s : State) (i : Seat) (before : Link) (quiet : Bool) :
    (s.fellBack i before quiet).keepsSources s := by
  have ambient : (if before.ambient.isSome then s.takeAmbient i none else s).keepsSources s := by
    split
    · exact State.keepsSources_of_cmp (by simp) (by simp) (by simp)
    · exact s.keepsSources_refl
  have screen (x : State) : (if before.state = .streaming then (x.stopRear i).screenLost i quiet else x).keepsSources x := by
    split
    · exact State.keepsSources_trans (State.keepsSources_of_view (State.closeMenu_view _ i _ quiet)) (x.stopRear_keepsSources i)
    · exact x.keepsSources_refl
  have released (x : State) : (x.linkFellBack i quiet).keepsSources x := State.keepsSources_of_cmp (by simp) (by simp) (by simp)
  exact State.keepsSources_trans (released _) (State.keepsSources_trans (screen _) ambient)

theorem State.enterRecovery_keepsSources (s : State) (i : Seat) (reason : LinkReason) : (s.enterRecovery i reason).keepsSources s :=
  State.fellBack_keepsSources ((s.setLink i _).postLink i) i (s.link i) false

theorem State.detach_keepsSources (s : State) (i : Seat) (reason : LinkReason) (quiet : Bool) :
    (s.detach i reason quiet).keepsSources s := by
  unfold State.detach
  simp only []
  split
  · exact s.keepsSources_refl
  · exact State.fellBack_keepsSources ((s.setLink i _).postLink i) i (s.link i) quiet

theorem State.reoffer_keepsSources (s : State) (i : Seat) : (s.reoffer i).keepsSources s :=
  State.fellBack_keepsSources ((s.setLink i _).postLink i) i (s.link i) false

theorem State.takeOffers_keepsSources (s : State) (i : Seat) (body : List Byte) : (s.takeOffers i body).keepsSources s := by
  unfold State.takeOffers
  split
  · split
    · exact s.enterRecovery_keepsSources i _
    · exact State.keepsSources_of_cmp (by simp) (by simp) (by simp)
  · exact s.keepsSources_refl

theorem State.takeAccept_keepsSources (s : State) (i : Seat) : (s.takeAccept i).keepsSources s := by
  unfold State.takeAccept
  split
  · split
    · exact s.keepsSources_refl
    · unfold State.enterStreaming
      exact State.keepsSources_trans (State.startRear_keepsSources _ i) (State.keepsSources_of_cmp rfl rfl rfl)
  · exact s.keepsSources_refl

theorem State.takeReject_keepsSources (s : State) (i : Seat) : (s.takeReject i).keepsSources s :=
  State.keepsSources_of_cmp (by simp) (by simp) (by simp)

theorem State.takeReset_keepsSources (s : State) (i : Seat) (reason : LinkReason) : (s.takeReset i reason).keepsSources s := by
  unfold State.takeReset
  split
  · exact s.enterRecovery_keepsSources i reason
  · exact s.keepsSources_refl

theorem State.takeMessage_keepsSources (s : State) (i : Seat) (m : List Byte) : (s.takeMessage i m).keepsSources s := by
  unfold State.takeMessage
  split
  · split
    · exact s.keepsSources_refl
    split
    · exact s.takeOffers_keepsSources i _
    split
    · exact s.takeAccept_keepsSources i
    split
    · exact s.takeReject_keepsSources i
    split
    · exact State.keepsSources_of_view (s.takeStatus_view i _)
    · exact s.takeReset_keepsSources i _
  · exact s.keepsSources_refl

theorem State.hailExpired_keepsSources (s : State) (i : Seat) : (s.hailExpired i).keepsSources s := by
  unfold State.hailExpired
  simp only []
  split
  · split
    · exact State.keepsSources_of_cmp rfl rfl rfl
    · exact s.enterRecovery_keepsSources i _
  · exact s.keepsSources_refl

theorem State.claimExpired_keepsSources (s : State) (i : Seat) : (s.claimExpired i).keepsSources s := by
  unfold State.claimExpired
  simp only []
  split
  · exact s.enterRecovery_keepsSources i _
  · exact s.keepsSources_refl

theorem State.pollExpired_keepsSources (s : State) (i : Seat) : (s.pollExpired i).keepsSources s := by
  unfold State.pollExpired
  simp only []
  split
  · generalize (if (s.link i).statusSincePoll then (s.link i).misses else (s.link i).misses + 1) = misses
    split
    · exact State.enterRecovery_keepsSources (s.setLink i _) i _
    split
    · exact State.enterRecovery_keepsSources (s.setLink i _) i _
    · exact State.keepsSources_of_cmp rfl rfl rfl
  · exact s.keepsSources_refl

theorem State.presenceLost_keepsSources (s : State) (i : Seat) : (s.presenceLost i).keepsSources s :=
  State.detach_keepsSources (s.setPresent i false) i _ _

theorem State.linkWarm_keepsSources (s : State) (i : Seat) : (s.linkWarm i).keepsSources s := by
  unfold State.linkWarm
  exact State.keepsSources_trans (State.detach_keepsSources _ i _ _) (State.keepsSources_of_cmp rfl rfl rfl)

/-! ## STANDBY and the restarts (R7, R12, R114) -/

theorem State.enterStandby_keepsSources (s : State) : s.enterStandby.keepsSources s := by
  have links (x : State) : ((x.detach .s1 .detached false).detach .s2 .detached false).keepsSources x :=
    State.keepsSources_trans (State.detach_keepsSources _ .s2 _ _) (x.detach_keepsSources .s1 _ _)
  have menus (x : State) : ((x.closeMenu .s1 .standby false).closeMenu .s2 .standby false).keepsSources x :=
    State.keepsSources_of_view (by simp)
  have seats (x : State) : ((x.releaseKey .s1 false).releaseKey .s2 false).chimesStandby.keepsSources x :=
    State.keepsSources_of_cmp (by simp) (by simp) (by simp)
  have feeds (x : State) : (x.judgeCameraPower.disableFeeds.postMode .request).keepsSources x :=
    State.keepsSources_of_view (by simp [State.postMode])
  have mode : (s.setMode .standby).keepsSources s := s.keepsSources_refl
  unfold State.enterStandby
  exact State.keepsSources_trans (feeds _) (State.keepsSources_trans (State.compositorStandby_keepsSources _)
    (State.keepsSources_trans (seats _) (State.keepsSources_trans (menus _) (State.keepsSources_trans (links _) mode))))

theorem State.warmRestart_keepsSources (s : State) : s.warmRestart.keepsSources s := by
  have menus (x : State) : ((x.menusWarm.seatWarm .s1).seatWarm .s2).keepsSources x :=
    State.keepsSources_trans (State.keepsSources_of_cmp (by simp) (by simp) (by simp)) (State.keepsSources_of_view x.menusWarm_view)
  have links (x : State) : ((x.linkWarm .s1).linkWarm .s2).keepsSources x :=
    State.keepsSources_trans (State.linkWarm_keepsSources _ .s2) (x.linkWarm_keepsSources .s1)
  have chimes (x : State) : (((x.recomputeTarget .s1).recomputeTarget .s2).chimesWarm.post 0 (.start .warm)).keepsSources x :=
    State.keepsSources_of_cmp (by simp) (by simp) (by simp)
  unfold State.warmRestart
  exact State.keepsSources_trans (chimes _) (State.keepsSources_trans (links _)
    (State.keepsSources_trans (State.keepsSources_of_view (State.feedsWarm_view _))
      (State.keepsSources_trans (State.compositorWarm_keepsSources _) (menus { s with cli := s.cli.warm }))))

theorem State.frameEnded_keepsSources (s : State) : s.frameEnded.keepsSources s := by
  have sent (x : State) : x.replySent.keepsSources x := by
    unfold State.replySent
    split
    · exact x.keepsSources_refl
    · next rest _ =>
      simp only []
      split
      · exact State.warmRestart_keepsSources { x with cli := { x.cli with queue := rest } }
      · exact x.keepsSources_refl
  unfold State.frameEnded
  split
  · exact s.keepsSources_refl
  split
  · simp only []
    split
    · exact sent { s with cli := { s.cli with tx := none } }
    all_goals exact s.keepsSources_refl
  · exact s.keepsSources_refl

/-- R114: at a cold start every row shows what R102 decides, the film lock is engaged, and no frame is drawn. -/
theorem State.coldBlocks_keepsSources (s : State) (cause : StartCause) (cal : Cal) : (s.coldBlocks cause cal).keepsSources s :=
  ⟨⟨fun _ => ⟨rfl, fun i => by cases i <;> rfl⟩, fun _ h => by cases h⟩, .inr rfl⟩

end Sys2Proof.Machine
end

section
/-! # Proofs: the owners of the requests leave what R102 decides -/

namespace Sys2Proof.Machine

variable (p : List Byte) (s : State)

/-! ## Part mode, vehicle intake and feed ports -/

theorem ownModeSet_keepsSources : Answers State.keepsSources s (ownModeSet p s) := by
  unfold ownModeSet
  split
  · exact .refused _
  split
  · exact .acted _ s.keepsSources_refl
  split
  · exact .acted _ (State.keepsSources_of_view (s.enterRun_view .request))
  split
  · exact .acted _ s.enterStandby_keepsSources
  · exact .refused _

theorem ownNoticeSelect_keepsSources : Answers State.keepsSources s (ownNoticeSelect p s) := by
  unfold ownNoticeSelect
  split
  · exact .refused _
  · exact .acted _ s.keepsSources_refl

theorem ownStatusLineMap_keepsSources : Answers State.keepsSources s (ownStatusLineMap p s) := by
  unfold ownStatusLineMap
  split
  · exact .refused _
  · exact .acted _ s.keepsSources_refl

theorem ownFeedFormat_keepsSources : Answers State.keepsSources s (ownFeedFormat p s) := by
  unfold ownFeedFormat
  split
  · exact .refused _
  simp only []
  split
  · exact .refused _
  split
  · exact .refused _
  split
  · exact .refused _
  · exact .acted _ (State.handLock_keepsSources (s.setPort _ _) _ _ _)

/-- R32: a report that holds a speed makes it fresh; one without leaves its watch. -/
theorem Vin.take_speedWatch (v : Vin) (r : Report) (now : Stamp) :
    (v.take r now).speedWatch = if r.speed.isSome then some (afterMs now 500) else v.speedWatch := rfl

theorem ownVehicleReport_keepsSources : Answers State.keepsSources s (ownVehicleReport p s) := by
  refine .acted _ ?_
  generalize hr : readReport p = r
  have fresh : r.speed.isSome → ({ s with vin := s.vin.take r s.timebase } : State).speedFresh = true := by
    intro h
    rw [State.speedFresh, Vin.take_speedWatch, if_pos h]; rfl
  have taken : ({ s with vin := s.vin.take r s.timebase } : State).keepsSources s := by
    by_cases h : r.speed.isSome
    · exact ⟨⟨id, fun _ _ => fresh h⟩, .inl rfl⟩
    · exact State.keepsSources_of_cmp rfl rfl (by rw [Vin.take_speedWatch, if_neg h])
  exact State.keepsSources_trans (State.deliver_keepsSources fresh) taken

/-! ## Reverse view, guide lines and compositor -/

theorem ownReverseDismiss_keepsSources : Answers State.keepsSources s (ownReverseDismiss p s) := by
  unfold ownReverseDismiss
  split
  · exact .acted _ (s.enterOff_keepsSources _)
  · exact .refused _

theorem ownGuideQuery_keepsSources : Answers State.keepsSources s (ownGuideQuery p s) := by
  unfold ownGuideQuery
  split
  · exact .refused _
  split
  · exact .acted _ (State.keepsSources_of_cmp (by simp) (by simp) (by simp))
  · exact .acted _ s.keepsSources_refl

theorem ownRouteSet_keepsSources : Answers State.keepsSources s (ownRouteSet p s) := by
  unfold ownRouteSet
  split
  · exact .refused _
  split
  · exact .acted _ (s.setPending_keepsSources _ _)
  · exact .refused _

theorem ownCameraPreview_keepsSources : Answers State.keepsSources s (ownCameraPreview p s) := by
  unfold ownCameraPreview
  split
  · exact .refused _
  split
  · exact .refused _
  · exact .acted _ (s.setPreview_keepsSources _)

theorem ownBannerSet_keepsSources : Answers State.keepsSources s (ownBannerSet p s) := by
  unfold ownBannerSet
  split
  · exact .refused _
  split
  · exact .refused _
  split
  · exact .refused _
  · exact .acted _ (State.keepsSources_of_view (s.setBanner_view _ _))

/-! ## Rear screen links -/

theorem ownLinkPolicySet_keepsSources : Answers State.keepsSources s (ownLinkPolicySet p s) := by
  unfold ownLinkPolicySet
  split
  · exact .refused _
  simp only []
  split
  · exact .refused _
  split
  · exact .refused _
  split
  · exact .refused _
  · exact .acted _ s.keepsSources_refl

theorem ownLinkReoffer_keepsSources : Answers State.keepsSources s (ownLinkReoffer p s) := by
  unfold ownLinkReoffer
  split
  · exact .refused _
  split
  · exact .acted _ (s.reoffer_keepsSources _)
  · exact .refused _

theorem ownLinkRestart_keepsSources : Answers State.keepsSources s (ownLinkRestart p s) := by
  unfold ownLinkRestart
  split
  · exact .refused _
  split
  · exact .acted _ (s.enterRecovery_keepsSources _ _)
  · exact .refused _

theorem ownLinkCommand_keepsSources : Answers State.keepsSources s (ownLinkCommand p s) := by
  unfold ownLinkCommand
  split
  · exact .refused _
  split
  · exact .refused _
  simp only []
  split
  · exact .refused _
  split
  · exact .refused _
  · exact .acted _ s.keepsSources_refl

theorem ownLinkStatus_keepsSources : Answers State.keepsSources s (ownLinkStatus p s) := by
  unfold ownLinkStatus
  split
  · exact .refused _
  · exact .acted _ s.keepsSources_refl

theorem State.readDescriptor_keepsSources (i : Seat) (start : Nat) : Answers State.keepsSources s (s.readDescriptor i start) := by
  unfold State.readDescriptor
  split
  · exact .refused _
  · exact .acted _ s.keepsSources_refl

theorem ownDescriptorReadStart_keepsSources : Answers State.keepsSources s (ownDescriptorReadStart p s) := by
  unfold ownDescriptorReadStart
  split
  · exact .refused _
  · exact s.readDescriptor_keepsSources _ _

theorem ownDescriptorReadContinue_keepsSources : Answers State.keepsSources s (ownDescriptorReadContinue p s) := by
  unfold ownDescriptorReadContinue
  split
  · exact .refused _
  · exact s.readDescriptor_keepsSources _ _

/-! ## Menu engine -/

theorem ownPageLoad_keepsSources : Answers State.keepsSources s (ownPageLoad p s) := by
  unfold ownPageLoad
  split
  · exact .refused _
  split
  · refine .acted _ ?_
    split
    · exact State.keepsSources_of_cmp (by simp) (by simp) (by simp)
    · exact s.keepsSources_refl
  · exact .refused _

theorem ownPageRemove_keepsSources : Answers State.keepsSources s (ownPageRemove p s) := by
  unfold ownPageRemove
  simp only []
  split
  · exact .refused _
  split
  · exact .refused _
  · exact .acted _ (State.keepsSources_of_view ((State.closeIfHolds_view _ _ .s2).trans (State.closeIfHolds_view _ _ .s1)))

theorem ownPageClear_keepsSources : Answers State.keepsSources s (ownPageClear p s) :=
  .acted _ (State.keepsSources_of_view ((State.closeMenu_view _ .s2 _ _).trans (State.closeMenu_view _ .s1 _ _)))

theorem ownItemSet_keepsSources : Answers State.keepsSources s (ownItemSet p s) := by
  unfold ownItemSet
  split
  · exact .refused _
  split
  · exact .refused _
  split
  · exact .refused _
  split
  · exact .refused _
  · exact .acted _ (State.keepsSources_of_cmp (by simp) (by simp) (by simp))

theorem ownSeatRootSet_keepsSources : Answers State.keepsSources s (ownSeatRootSet p s) := by
  unfold ownSeatRootSet
  split
  · exact .refused _
  split
  · exact .refused _
  · exact .acted _ s.keepsSources_refl

theorem ownMenuOpen_keepsSources : Answers State.keepsSources s (ownMenuOpen p s) := by
  unfold ownMenuOpen
  split
  · exact .refused _
  split
  · exact .refused _
  split
  · exact .refused _
  split
  · exact .refused _
  · exact .acted _ (State.keepsSources_of_view (s.openMenu_view _ _))

theorem ownMenuClose_keepsSources : Answers State.keepsSources s (ownMenuClose p s) := by
  unfold ownMenuClose
  split
  · exact .refused _
  split
  · exact .acted _ (State.keepsSources_of_view (s.closeMenu_view _ _ _))
  · exact .refused _

theorem ownMenuState_keepsSources : Answers State.keepsSources s (ownMenuState p s) := by
  unfold ownMenuState
  split
  · exact .refused _
  · exact .acted _ s.keepsSources_refl

/-! ## Seat control and chime unit -/

theorem ownZoneLevelSet_keepsSources : Answers State.keepsSources s (ownZoneLevelSet p s) := by
  unfold ownZoneLevelSet
  split
  · exact .refused _
  simp only []
  generalize (if 60 < byteAt p 1 then 60 else byteAt p 1) = v
  refine .acted _ ?_
  split
  · exact s.keepsSources_refl
  · exact s.keepsSources_refl

theorem ownBacklightPolicySet_keepsSources : Answers State.keepsSources s (ownBacklightPolicySet p s) := by
  unfold ownBacklightPolicySet
  split
  · exact .refused _
  split
  · exact .refused _
  split
  · exact .refused _
  · exact .acted _ (State.keepsSources_of_cmp (by simp) (by simp) (by simp))

theorem ownChimePatternLoad_keepsSources : Answers State.keepsSources s (ownChimePatternLoad p s) := by
  unfold ownChimePatternLoad
  split
  · exact .refused _
  split
  · exact .refused _
  split
  · exact .refused _
  · exact .acted _ s.keepsSources_refl

theorem State.arrive_keepsSources (r : ChimeRequest) :
    Answers State.keepsSources s ((s.arrive r).1, arrivalReply (s.arrive r).2) := by
  rcases s.arrive_taken_or_unchanged r with ⟨payload, h⟩ | ⟨hs, h⟩
  · rw [h]; exact .acted _ (State.keepsSources_of_cmp (by simp) (by simp) (by simp))
  · rw [hs, h]; exact .refused _

theorem ownChimePlay_keepsSources : Answers State.keepsSources s (ownChimePlay p s) := by
  unfold ownChimePlay
  split
  · exact .refused _
  · exact s.arrive_keepsSources _

theorem ownChimeCancel_keepsSources : Answers State.keepsSources s (ownChimeCancel p s) := by
  unfold ownChimeCancel
  simp only []
  split
  · exact .refused _
  split
  · exact .refused _
  · exact .acted _ (State.keepsSources_of_cmp (by simp) (by simp) (by simp))

theorem ownFrontLevelSet_keepsSources : Answers State.keepsSources s (ownFrontLevelSet p s) := by
  unfold ownFrontLevelSet
  split
  · exact .refused _
  · exact .acted _ s.keepsSources_refl

/-! ## Calibration store -/

theorem ownCalibrationRead_keepsSources : Answers State.keepsSources s (ownCalibrationRead p s) := by
  unfold ownCalibrationRead
  split
  · exact .refused _
  · exact .acted _ s.keepsSources_refl

theorem ownCalibrationWrite_keepsSources : Answers State.keepsSources s (ownCalibrationWrite p s) := by
  unfold ownCalibrationWrite
  simp only []
  split
  · exact .refused _
  split
  · exact .refused _
  split
  · exact .refused _
  · exact .acted _ (State.keepsSources_of_cmp (by simp) (by simp) (by simp))

theorem ownCalibrationProgram_keepsSources : Answers State.keepsSources s (ownCalibrationProgram p s) := by
  unfold ownCalibrationProgram
  split
  · exact .refused _
  split
  · exact .refused _
  split
  · exact .refused _
  · exact .started _ s.keepsSources_refl

/-! ## All requests -/

/-- Every request leaves the sources as R102 decides them, the film lock as R100 does, and the front output's frame. -/
theorem ownerOf_keepsSources (c : Instr) (p : List Byte) (s : State) : Answers State.keepsSources s (ownerOf c p s) := by
  cases c with
  | identify _ | restart _ | reverseStatus _ | chimeStatus _ | calibrationCheck _ => exact .acted _ s.keepsSources_refl
  | modeSet _ => exact ownModeSet_keepsSources p s
  | noticeSelect _ => exact ownNoticeSelect_keepsSources p s
  | statusLineMap _ => exact ownStatusLineMap_keepsSources p s
  | vehicleReport _ => exact ownVehicleReport_keepsSources p s
  | feedFormat _ => exact ownFeedFormat_keepsSources p s
  | reverseDismiss _ => exact ownReverseDismiss_keepsSources p s
  | guideQuery _ => exact ownGuideQuery_keepsSources p s
  | linkPolicySet _ => exact ownLinkPolicySet_keepsSources p s
  | linkReoffer _ => exact ownLinkReoffer_keepsSources p s
  | linkRestart _ => exact ownLinkRestart_keepsSources p s
  | linkCommand _ => exact ownLinkCommand_keepsSources p s
  | linkStatus _ => exact ownLinkStatus_keepsSources p s
  | descriptorReadStart _ => exact ownDescriptorReadStart_keepsSources p s
  | descriptorReadContinue _ => exact ownDescriptorReadContinue_keepsSources p s
  | routeSet _ => exact ownRouteSet_keepsSources p s
  | cameraPreview _ => exact ownCameraPreview_keepsSources p s
  | bannerSet _ => exact ownBannerSet_keepsSources p s
  | pageLoad _ => exact ownPageLoad_keepsSources p s
  | pageRemove _ => exact ownPageRemove_keepsSources p s
  | pageClear _ => exact ownPageClear_keepsSources p s
  | itemSet _ => exact ownItemSet_keepsSources p s
  | seatRootSet _ => exact ownSeatRootSet_keepsSources p s
  | menuOpen _ => exact ownMenuOpen_keepsSources p s
  | menuClose _ => exact ownMenuClose_keepsSources p s
  | menuState _ => exact ownMenuState_keepsSources p s
  | zoneLevelSet _ => exact ownZoneLevelSet_keepsSources p s
  | backlightPolicySet _ => exact ownBacklightPolicySet_keepsSources p s
  | chimePatternLoad _ => exact ownChimePatternLoad_keepsSources p s
  | chimePlay _ => exact ownChimePlay_keepsSources p s
  | chimeCancel _ => exact ownChimeCancel_keepsSources p s
  | frontLevelSet _ => exact ownFrontLevelSet_keepsSources p s
  | calibrationRead _ => exact ownCalibrationRead_keepsSources p s
  | calibrationWrite _ => exact ownCalibrationWrite_keepsSources p s
  | calibrationProgram _ => exact ownCalibrationProgram_keepsSources p s
  | _ => exact .refused _

end Sys2Proof.Machine
end

section
/-! # Proofs: the effective sources of every step (R100, R102, R103) -/

namespace Sys2Proof.Machine

/-! ## Events -/

theorem happens_keepsSources {s s' : State} {t : Stamp} {act : State → State} (hact : ∀ x : State, (act x).keepsSources x)
    (hex : s.happens t act = .next s') : s'.keepsSources s := by
  injection hex with hex
  subst hex
  by_cases hr : s.phase = .running
  · rw [State.event_running hr]; exact hact (s.atTime t)
  · rw [State.event_quiet hr]; exact s.keepsSources_refl

/-- An event that leaves all that R102 reads. -/
theorem happens_keepsSources_of_cmp {s s' : State} {t : Stamp} {act : State → State} (hc : ∀ x : State, (act x).cmp = x.cmp)
    (hr : ∀ x : State, (act x).rvc.state = x.rvc.state) (hv : ∀ x : State, (act x).vin = x.vin)
    (hex : s.happens t act = .next s') : s'.keepsSources s :=
  happens_keepsSources (fun x => State.keepsSources_of_cmp (hc x) (hr x) (by rw [hv])) hex

theorem pinEvent_keepsSources {s s' : State} {t : Stamp} {record act : State → State} (hrec : ∀ x : State, (record x).keepsSources x)
    (hact : ∀ x : State, (act x).keepsSources x) (hex : s.pinEvent t record act = .next s') : s'.keepsSources s := by
  unfold State.pinEvent at hex
  split at hex
  · exact happens_keepsSources hact hex
  · injection hex with hex
    subst hex
    exact hrec (s.atTime t)

theorem gearLevel_keepsSources (high : Bool) (s : State) :
    ({ s with vin := { s.vin with gearRaw := high } } : State).keepsSources s := s.keepsSources_refl

theorem State.setPresent_keepsSources (i : Seat) (present : Bool) (s : State) : (s.setPresent i present).keepsSources s :=
  s.keepsSources_refl

theorem State.presenceGained_keepsSources (s : State) (i : Seat) : (s.presenceGained i).keepsSources s :=
  State.keepsSources_of_cmp (by simp) (by simp) (by simp)

theorem exec_request_keepsSources {c : Instr} {row : RequestRow} (hrow : requestRow c = some row) {s s' : State}
    (hex : exec c s = .next s') : s'.keepsSources s := by
  obtain ⟨x, hx, hcases⟩ := s.request_outcomes (stampOf c) row.code row.lengthOk row.inStandby (ownerOf c)
  rw [exec_request hrow, hx] at hex
  injection hex with hex
  subst hex
  rcases hcases with rfl | rfl | ⟨p, rfl⟩
  · exact s.keepsSources_refl
  · exact s.keepsSources_refl
  · exact (State.judge_answers (ownerOf_keepsSources c p (s.atTime (stampOf c))) row.lengthOk row.inStandby).kept
      (State.keepsSources_refl _)

/-! ## The cold starts and the start mode (R170) -/

theorem State.powerOn_keepsSources (s : State) (high : Bool) : (s.powerOn high).keepsSources s := by
  cases high with
  | true => exact s.coldBlocks_keepsSources .powerOn s.cal.load
  | false => exact s.coldBlocks_keepsSources .powerOn s.cal.unloaded

theorem State.resetFalls_keepsSources (s : State) : s.resetFalls.keepsSources s := by
  unfold State.resetFalls
  split
  · exact s.coldBlocks_keepsSources .resetLine s.cal.unloaded
  · exact s.keepsSources_refl

theorem State.resetRises_keepsSources (s : State) : s.resetRises.keepsSources s := by
  unfold State.resetRises
  split
  · exact s.keepsSources_refl
  · exact s.coldBlocks_keepsSources s.cli.startCause s.cal.load

theorem startModeEntry_keepsSources {s s' : State} {t : Stamp} (hex : exec (.startModeEntry t) s = .next s') :
    s'.keepsSources s := by
  have hex : execStartModeEntry t s = .next s' := hex
  unfold execStartModeEntry at hex
  split at hex <;> injection hex with hex <;> subst hex
  · exact State.keepsSources_of_view (State.startMode_view (s.atTime t))
  · exact s.keepsSources_refl

/-! ## The start of a front output frame (R97, R103) -/

/-- R103: the picture of a front frame is that of the effective source, but where its feed is not LOCKED or the view is FAULT. -/
theorem State.frontPicture_unlocked {s : State} (h : s.sourceLocked s.cmp.front.effective = false) : s.frontPicture = none := by
  simp [State.frontPicture, State.pictureOf, h]

theorem State.frontPicture_locked {s : State} (hv : s.cmp.frontView ≠ .fault) (h : s.sourceLocked s.cmp.front.effective = true) :
    s.frontPicture = s.cmp.front.effective.feed := by
  simp [State.frontPicture, State.pictureOf, h, hv]

/-- R97: a front frame that starts is drawn from the row as the frame start leaves it. -/
theorem State.frontFrame_draws (s : State) :
    ∃ frame, s.frontFrame.cmp.front.frame = some frame ∧ frame.picture = s.frontFrame.frontPicture :=
  ⟨_, rfl, rfl⟩

theorem State.frontFrame_view (s : State) :
    s.frontFrame.sourceView = { s.frontRouteTakesEffect.sourceView with frame := s.frontFrame.cmp.front.frame } := rfl

theorem State.frontFrame_keepsLaws (s : State) : s.frontFrame.sourceView.keepsLaws s.sourceView := by
  have route := s.frontRouteTakesEffect_keepsSources
  rw [State.frontFrame_view]
  exact ⟨route.source, route.film⟩

theorem State.outputFrame_front_keepsLaws (s : State) : (s.outputFrame .fro).sourceView.keepsLaws s.sourceView := by
  simp only [State.outputFrame]
  split
  · exact s.frontFrame_keepsLaws
  · exact s.keepsSources_refl.tokeepsLaws

theorem exec_frontFrameStart {t e : Stamp} {s : State} (hr : s.phase = .running) (hn : s.cmp.front.nextFrame = some e)
    (he : reached t e = true) : exec (.outputFrameStart t .fro) s = .next (s.atTime t).frontFrame.settle := by
  have due : expired (s.atTime t).timebase (s.atTime t).cmp.front.nextFrame = true := by
    show expired t s.cmp.front.nextFrame = true
    rw [hn]; exact he
  show s.happens t (·.outputFrame .fro) = _
  rw [State.happens_running hr, State.outputFrame, if_pos due]

/-! ## All commands -/

/-- Every command but the start of a front output frame leaves that output's frame, or the output stops; and it keeps R100 and R102. -/
theorem exec_keepsSources {c : Instr} {s s' : State} (hc : ∀ t, c ≠ .outputFrameStart t .fro) (hex : exec c s = .next s') :
    s'.keepsSources s := by
  cases c with
  | receiveByte t b stopHigh => exact happens_keepsSources_of_cmp (by simp) (by simp) (by simp) hex
  | interByteWatchExpiry t => exact happens_keepsSources_of_cmp (by simp) (by simp) (by simp) hex
  | candidateFrameComplete t => exact happens_keepsSources_of_cmp (by simp) (by simp) (by simp) hex
  | unknownRequest t => exact happens_keepsSources_of_cmp (by simp) (by simp) (by simp) hex
  | transmitFrameEnd t => exact happens_keepsSources State.frameEnded_keepsSources hex
  | powerOn t high =>
    injection hex with hex
    subst hex
    exact State.powerOn_keepsSources (s.atTime t) high
  | resetNFall t =>
    injection hex with hex
    subst hex
    exact State.resetFalls_keepsSources (s.atTime t)
  | resetNRise t =>
    injection hex with hex
    subst hex
    exact State.resetRises_keepsSources (s.atTime t)
  | startModeEntry t => exact startModeEntry_keepsSources hex
  | vehicleWatchExpiry t value => exact happens_keepsSources (fun x => x.watchExpired_keepsSources value) hex
  | frameStart t feed => exact happens_keepsSources (fun x => x.frameStart_keepsSources feed) hex
  | frameWatchExpiry t feed => exact happens_keepsSources (fun x => x.frameWatchExpired_keepsSources feed) hex
  | gearEdge t high =>
    exact pinEvent_keepsSources (gearLevel_keepsSources high) (fun x => State.keepsSources_of_view (x.gearEdge_view high)) hex
  | gearDebounceExpiry t => exact happens_keepsSources State.debounceExpired_keepsSources hex
  | cueDeadlineExpiry t => exact happens_keepsSources State.cueExpired_keepsSources hex
  | holdTimerExpiry t => exact happens_keepsSources State.holdExpired_keepsSources hex
  | computationComplete t => exact happens_keepsSources (fun x => State.keepsSources_of_view x.computationDone_view) hex
  | badLinkMessage t link message => exact happens_keepsSources (fun x => x.takeMessage_keepsSources link message) hex
  | presenceGained t link =>
    exact pinEvent_keepsSources (State.setPresent_keepsSources link true) (fun x => x.presenceGained_keepsSources link) hex
  | presenceLost t link =>
    exact pinEvent_keepsSources (State.setPresent_keepsSources link false) (fun x => x.presenceLost_keepsSources link) hex
  | hailTimerExpiry t link => exact happens_keepsSources (fun x => x.hailExpired_keepsSources link) hex
  | offers t link body => exact happens_keepsSources (fun x => x.takeOffers_keepsSources link body) hex
  | accept t link => exact happens_keepsSources (fun x => x.takeAccept_keepsSources link) hex
  | reject t link => exact happens_keepsSources (fun x => x.takeReject_keepsSources link) hex
  | claimTimerExpiry t link => exact happens_keepsSources (fun x => x.claimExpired_keepsSources link) hex
  | pollTimerExpiry t link => exact happens_keepsSources (fun x => x.pollExpired_keepsSources link) hex
  | status t link body => exact happens_keepsSources (fun x => State.keepsSources_of_view (x.takeStatus_view link body)) hex
  | partnerReset t link => exact happens_keepsSources (fun x => x.takeReset_keepsSources link .partnerRequest) hex
  | holdOffTimerExpiry t link => exact happens_keepsSources_of_cmp (by simp) (by simp) (by simp) hex
  | settleTimerExpiry t link => exact happens_keepsSources_of_cmp (by simp) (by simp) (by simp) hex
  | outputFrameStart t output =>
    cases output with
    | fro => exact absurd rfl (hc t)
    | ro i => exact happens_keepsSources (fun x => x.outputFrame_rear_keepsSources i) hex
  | idleTimerExpiry t seat => exact happens_keepsSources (fun x => State.keepsSources_of_view (x.idleExpired_view seat)) hex
  | repeatTimerExpiry t seat => exact happens_keepsSources (fun x => State.keepsSources_of_view (x.keyRepeat_view seat)) hex
  | stepEnd t voice => exact happens_keepsSources_of_cmp (by simp) (by simp) (by simp) hex
  | beepStart t => exact happens_keepsSources_of_cmp (by simp) (by simp) (by simp) hex
  | duckStep t seat => exact happens_keepsSources_of_cmp (by simp) (by simp) (by simp) hex
  | programmingComplete t fault => exact happens_keepsSources_of_cmp (by simp) (by simp) (by simp) hex
  | _ => exact exec_request_keepsSources rfl hex

theorem exec_keepsLaws {c : Instr} {s s' : State} (hex : exec c s = .next s') : s'.sourceView.keepsLaws s.sourceView := by
  by_cases hc : ∃ t, c = .outputFrameStart t .fro
  · obtain ⟨t, rfl⟩ := hc
    injection hex with hex
    subst hex
    by_cases hr : s.phase = .running
    · rw [State.event_running hr]; exact (s.atTime t).outputFrame_front_keepsLaws
    · rw [State.event_quiet hr]; exact s.keepsSources_refl.tokeepsLaws
  · exact (exec_keepsSources (fun t ht => hc ⟨t, ht⟩) hex).tokeepsLaws

/-- R100, R102: every step keeps both. -/
theorem step_keepsLaws {s s' : State} (hstep : step s = .next s') : s'.sourceView.keepsLaws s.sourceView := by
  unfold step at hstep
  split at hstep
  · injection hstep with hstep
    subst hstep
    exact s.keepsSources_refl.tokeepsLaws
  · next rest _ => exact exec_keepsLaws (s := { s with pending := rest }) hstep

/-! ## The four cases of R102 -/

section
variable {s : State} (h : s.sourceLaw)
include h

theorem State.front_of_reverse (hr : s.rvc.state ≠ .off) : s.cmp.front.effective = .cam ∧ s.cmp.front.cause = .reverse := by
  simpa [frontSource, State.rvcOff, hr] using h.1

theorem State.front_of_preview (hr : s.rvc.state = .off) (hp : s.cmp.preview = true) :
    s.cmp.front.effective = .cam ∧ s.cmp.front.cause = .preview := by
  simpa [frontSource, State.rvcOff, hr, hp] using h.1

theorem State.front_of_lockedFilm (hr : s.rvc.state = .off) (hp : s.cmp.preview = false) (hf : s.cmp.front.routed.isFilm = true)
    (hl : s.cmp.filmLock = true) : s.cmp.front.effective = .uif ∧ s.cmp.front.cause = .filmLock := by
  simpa [frontSource, State.rvcOff, hr, hp, hf, hl] using h.1

theorem State.front_of_route (hr : s.rvc.state = .off) (hp : s.cmp.preview = false)
    (hf : s.cmp.front.routed.isFilm = false ∨ s.cmp.filmLock = false) :
    s.cmp.front.effective = s.cmp.front.routed ∧ s.cmp.front.cause = .route := by
  rcases hf with hf | hf <;> simpa [frontSource, State.rvcOff, hr, hp, hf] using h.1

/-- R102, the quote: no film on the front output under the film lock. -/
theorem State.front_not_film (hl : s.cmp.filmLock = true) : s.cmp.front.effective.isFilm = false := by
  by_cases hr : s.rvc.state = .off
  case neg => rw [(State.front_of_reverse h hr).1]; rfl
  cases hp : s.cmp.preview with
  | true => rw [(State.front_of_preview h hr hp).1]; rfl
  | false =>
    cases hf : s.cmp.front.routed.isFilm with
    | true => rw [(State.front_of_lockedFilm h hr hp hf hl).1]; rfl
    | false => rw [(State.front_of_route h hr hp (.inl hf)).1, hf]

theorem State.rear_of_route (i : Seat) : (s.rearRow i).effective = (s.rearRow i).routed ∧ (s.rearRow i).cause = .route :=
  h.2 i (by cases i <;> simp)

end

theorem Source.isFilm_iff (x : Source) : x.isFilm = true ↔ x = .ff1 ∨ x = .ff2 := by cases x <;> simp [Source.isFilm]

end Sys2Proof.Machine

open Sys2Proof Sys2Proof.Machine

/-- Settles O52: R102 and R100 are kept by every command, and the front frame by all but its own start; the cases of R102 follow
from its law. -/
theorem effectiveSourceFollowsItsRule : Obligations.EffectiveSourceFollowsItsRule := by
  unfold Obligations.EffectiveSourceFollowsItsRule
  refine ⟨?sources, ?rule, ?film, ?frame, ?drawn⟩
  case sources =>
    intro s s' h hstep
    exact s'.sourceLaw_iff.2 ((step_keepsLaws hstep).source (s.sourceLaw_iff.1 h))
  case rule =>
    intro s h
    refine ⟨State.front_of_reverse h, State.front_of_preview h, ?_, ?_, ?_, State.rear_of_route h⟩
    · exact fun hr hp hf hl => State.front_of_lockedFilm h hr hp ((Source.isFilm_iff _).2 hf) hl
    · exact fun hr hp hf => State.front_of_route h hr hp
        (hf.imp_left (fun hn => Bool.eq_false_iff.2 (fun hi => hn ((Source.isFilm_iff _).1 hi))))
    · exact fun hl => not_or.1 (mt (Source.isFilm_iff _).2 (Bool.eq_false_iff.1 (State.front_not_film h hl)))
  case film =>
    intro s s' h hstep
    exact s'.filmLaw_iff.2 ((step_keepsLaws hstep).film (s.filmLaw_iff.1 h))
  case frame =>
    intro c s s' hex hne
    by_cases hc : ∃ t, c = .outputFrameStart t .fro
    · exact .inr hc
    · exact .inl ((exec_keepsSources (fun t ht => hc ⟨t, ht⟩) hex).frame.resolve_left hne)
  case drawn =>
    intro t s e hr hn he
    obtain ⟨frame, hframe, hpicture⟩ := (s.atTime t).frontFrame_draws
    refine ⟨_, frame, exec_frontFrameStart hr hn he, hframe, fun hu => ?_, fun hv hl => ?_⟩
    · rw [hpicture]; exact State.frontPicture_unlocked hu
    · rw [hpicture]; exact State.frontPicture_locked hv hl

end

section
/-! # Proofs: the roots of the seats (R115, R117, R120) -/

namespace Sys2Proof.Machine

/-! ## SEAT ROOT SET (R120) -/

theorem seatOf_seatNo (i : Seat) : seatOf (seatNo i) = some i := by
  cases i <;> rfl

theorem seatOf_eq_none {n : Nat} (h : n = 0 ∨ 2 < n) : seatOf n = none := by
  match n with
  | 0 => rfl
  | 1 | 2 => omega
  | _ + 3 => rfl

theorem ownSeatRootSet_noSeat {n : Byte} (h : seatOf n.toNat = none) (id : Byte) (s : State) :
    ownSeatRootSet [n, id] s = (s, refuse .badValue) := by
  have hn : seatOf (byteAt [n, id] 0) = none := h
  simp only [ownSeatRootSet, hn]

theorem ownSeatRootSet_idAbove {id : Byte} (h : 63 < id.toNat) (n : Byte) (s : State) :
    ownSeatRootSet [n, id] s = (s, refuse .badValue) := by
  unfold ownSeatRootSet
  split
  · rfl
  · exact if_pos h

/-- R120: the root of the seat that is named takes the id. -/
theorem ownSeatRootSet_sets {n id : Byte} {i : Seat} (hn : n.toNat = seatNo i) (hid : id.toNat ≤ 63) (s : State) :
    ownSeatRootSet [n, id] s = ({ s with mnu := { s.mnu with root := s.mnu.root.set i id.toNat } }, ok []) := by
  have hseat : seatOf (byteAt [n, id] 0) = some i := (congrArg seatOf hn).trans (seatOf_seatNo i)
  simp only [ownSeatRootSet, hseat]
  exact if_neg (Nat.not_lt.2 hid)

/-! ## What leaves the roots -/

@[simp] theorem State.closeMenu_root (s : State) (i : Seat) (reason : CloseReason) (quiet : Bool) :
    (s.closeMenu i reason quiet).mnu.root = s.mnu.root := by
  unfold State.closeMenu
  split
  · cases quiet <;> rfl
  · rfl

@[simp] theorem State.screenLost_root (s : State) (i : Seat) (quiet : Bool) : (s.screenLost i quiet).mnu.root = s.mnu.root :=
  s.closeMenu_root i _ quiet

@[simp] theorem State.closeIfHolds_root (s : State) (id : Nat) (i : Seat) : (s.closeIfHolds id i).mnu.root = s.mnu.root := by
  unfold State.closeIfHolds
  split
  · exact s.closeMenu_root i _ _
  · rfl

@[simp] theorem State.setStore_root (s : State) (store : List Page) : (s.setStore store).mnu.root = s.mnu.root := rfl

/-- The roots of both seats are as they were. -/
abbrev keepsRoots (s' s : State) : Prop := s'.mnu.root = s.mnu.root

/-- R117: the removal of a page leaves the roots, also a root that names the page. -/
theorem ownPageRemove_keepsRoots (p : List Byte) (s : State) : Answers keepsRoots s (ownPageRemove p s) := by
  unfold ownPageRemove
  simp only []
  split
  · exact .refused _
  split
  · exact .refused _
  · exact .acted _ (by simp [keepsRoots])

/-- A request whose owner leaves the roots leaves them, whatever it is answered. -/
theorem State.request_keepsRoots {owner : Owner} (hown : ∀ p s, Answers keepsRoots s (owner p s)) {s s' : State} {t : Stamp}
    {code : Byte} {lengthOk : List Byte → Bool} {inStandby : Bool} (h : s.request t code lengthOk inStandby owner = .next s') :
    keepsRoots s' s := by
  obtain ⟨x, hx, hcases⟩ := s.request_outcomes t code lengthOk inStandby owner
  rw [hx] at h
  injection h with h
  subst h
  rcases hcases with rfl | rfl | ⟨p, rfl⟩
  · rfl
  · rfl
  · exact (State.judge_answers (hown p (s.atTime t)) lengthOk inStandby).kept rfl

/-- R75, R133: a link that falls back may close its seat's menu, and leaves the roots. -/
@[simp] theorem State.fellBack_root (s : State) (i : Seat) (before : Link) (quiet : Bool) :
    (s.fellBack i before quiet).mnu.root = s.mnu.root := by
  have ambient : (if before.ambient.isSome then s.takeAmbient i none else s).mnu.root = s.mnu.root := by
    split
    · rw [State.takeAmbient_mnu]
    · rfl
  have screen (x : State) :
      (if before.state = .streaming then (x.stopRear i).screenLost i quiet else x).mnu.root = x.mnu.root := by
    split
    · rw [State.screenLost_root, State.stopRear_mnu]
    · rfl
  exact (congrArg Mnu.root (State.linkFellBack_mnu _ i quiet)).trans ((screen _).trans ambient)

theorem State.detach_root (s : State) (i : Seat) (reason : LinkReason) (quiet : Bool) :
    (s.detach i reason quiet).mnu.root = s.mnu.root := by
  unfold State.detach
  simp only []
  split
  · rfl
  · simp

@[simp] theorem State.linkWarm_root (s : State) (i : Seat) : (s.linkWarm i).mnu.root = s.mnu.root :=
  State.detach_root _ i .hostRequest true

/-! ## What clears the roots (R115, R120) -/

theorem State.menusWarm_root (s : State) : s.menusWarm.mnu.root = ⟨0, 0⟩ := rfl

/-- R120: a warm restart clears the roots with the menus; no block after them sets a root. -/
theorem State.warmRestart_root (s : State) : s.warmRestart.mnu.root = ⟨0, 0⟩ := by
  simp [State.warmRestart, State.menusWarm_root]

/-- R115: a power-on leaves the menu engine at its cold-start value, whether the sequence runs or is held. -/
theorem State.powerOn_mnu (s : State) (high : Bool) : (s.powerOn high).mnu = coldMnu := by
  cases high <;> rfl

theorem exec_resetNFall_mnu {s : State} (t : Stamp) (h : s.resetN = true) :
    ∃ s', exec (.resetNFall t) s = .next s' ∧ s'.mnu = coldMnu := by
  refine ⟨_, rfl, ?_⟩
  rw [State.resetFalls_of_high (s := s.atTime t) h]
  rfl

end Sys2Proof.Machine

open Sys2Proof Sys2Proof.Machine

/-- Settles O40: by the checks of SEAT ROOT SET; a removed page leaves the roots, and the restarts clear them. -/
theorem seatRootTakesTheId : Obligations.SeatRootTakesTheId := by
  unfold Obligations.SeatRootTakesTheId
  refine ⟨?badLength, ?standby, ?badValue, ?taken, ?pageRemoved, fun _ _ => rfl, ?powerOn, ?resetLine, State.warmRestart_root⟩
  case badLength =>
    intro t s p h hl
    exact State.request_badLength h (lengthIs_false hl) t false ownSeatRootSet
  case standby =>
    intro t s p h hl hm
    exact State.request_notNow h (lengthIs_true hl) hm t ownSeatRootSet
  case badValue =>
    intro t s n id h hm hv
    have refused (x : State) : ownSeatRootSet [n, id] x = (x, refuse .badValue) := by
      rcases hv with h0 | h2 | hid
      · exact ownSeatRootSet_noSeat (seatOf_eq_none (.inl h0)) id x
      · exact ownSeatRootSet_noSeat (seatOf_eq_none (.inr h2)) id x
      · exact ownSeatRootSet_idAbove hid n x
    refine (State.request_ok h rfl (.inl hm) t ownSeatRootSet).trans ?_
    rw [refused]
    rfl
  case taken =>
    intro t i s n id h hm hn hid
    refine (State.request_ok h rfl (.inl hm) t ownSeatRootSet).trans ?_
    rw [ownSeatRootSet_sets hn hid]
    rfl
  case pageRemoved =>
    intro t s s' h
    exact State.request_keepsRoots ownPageRemove_keepsRoots h
  case powerOn =>
    intro t high s
    exact ⟨_, rfl, congrArg Mnu.root (State.powerOn_mnu _ high)⟩
  case resetLine =>
    intro t s h
    obtain ⟨s', hs', hmnu⟩ := exec_resetNFall_mnu t h
    exact ⟨s', hs', congrArg Mnu.root hmnu⟩

end

section
/-! # Proofs: what a command does (R4, R18, R30, R170) -/

namespace Sys2Proof.Machine

/-- What an event's command asks of the running blocks, for the commands that are events and no cold start; `exec_cases` ties it to
the model. -/
def eventOf (c : Instr) : State → State :=
  match c with
  | .receiveByte _ b stopHigh => (·.receiveByte b stopHigh)
  | .interByteWatchExpiry _ => State.byteWatchExpired
  | .candidateFrameComplete _ => State.checkFrame
  | .unknownRequest _ => State.dispatchUnknown
  | .transmitFrameEnd _ => State.frameEnded
  | .vehicleWatchExpiry _ value => (·.watchExpired value)
  | .frameStart _ feed => (·.frameStart feed)
  | .frameWatchExpiry _ feed => (·.frameWatchExpired feed)
  | .gearEdge _ high => (·.gearEdge high)
  | .gearDebounceExpiry _ => State.debounceExpired
  | .cueDeadlineExpiry _ => State.cueExpired
  | .holdTimerExpiry _ => State.holdExpired
  | .computationComplete _ => State.computationDone
  | .badLinkMessage _ link message => (·.takeMessage link message)
  | .presenceGained _ link => (·.presenceGained link)
  | .presenceLost _ link => (·.presenceLost link)
  | .hailTimerExpiry _ link => (·.hailExpired link)
  | .offers _ link body => (·.takeOffers link body)
  | .accept _ link => (·.takeAccept link)
  | .reject _ link => (·.takeReject link)
  | .claimTimerExpiry _ link => (·.claimExpired link)
  | .pollTimerExpiry _ link => (·.pollExpired link)
  | .status _ link body => (·.takeStatus link body)
  | .partnerReset _ link => (·.takeReset link .partnerRequest)
  | .holdOffTimerExpiry _ link => (·.holdOffExpired link)
  | .settleTimerExpiry _ link => (·.settleExpired link)
  | .outputFrameStart _ output => (·.outputFrame output)
  | .idleTimerExpiry _ seat => (·.idleExpired seat)
  | .repeatTimerExpiry _ seat => (·.keyRepeat seat)
  | .stepEnd _ voice => (·.stepEnded voice)
  | .beepStart _ => State.beepStarts
  | .duckStep _ seat => (·.duckStep seat)
  | .programmingComplete _ fault => (·.programmed fault)
  | _ => id

/-- What a command does to a part that does not run: the pins are followed (log entry 4). -/
def recordOf (c : Instr) : State → State :=
  match c with
  | .gearEdge _ high => fun s => { s with vin := { s.vin with gearRaw := high } }
  | .presenceGained _ link => (·.setPresent link true)
  | .presenceLost _ link => (·.setPresent link false)
  | _ => id

/-- What a command that can begin a cold start does (R170). -/
def coldOf (c : Instr) : State → State :=
  match c with
  | .powerOn _ high => (·.powerOn high)
  | .resetNFall _ => State.resetFalls
  | .resetNRise _ => State.resetRises
  | _ => id

/-- What a command can leave of the state `s`, whose timebase has been set to the command's stamp. -/
inductive Outcomes (c : Instr) (s : State) : State → Prop
  | cold (h : isColdStart c) : Outcomes c s (coldOf c s)
  | starts (t : Stamp) (h : c = .startModeEntry t) (hp : s.phase = .loading) : Outcomes c s s.startMode.settle
  | waits (hp : s.phase ≠ .running) : Outcomes c s (recordOf c s)
  | keeps : Outcomes c s s
  | event (hp : s.phase = .running) : Outcomes c s (eventOf c s).settle
  | refused (row : RequestRow) (hrow : requestRow c = some row) (hp : s.phase = .running) (r : Reply) : Outcomes c s (s.answer r).settle
  | owner (row : RequestRow) (hrow : requestRow c = some row) (hp : s.phase = .running)
      (hmode : s.cli.mode = .run ∨ row.inStandby = true) (p : List Byte) (r : Reply) (hlength : row.lengthOk p = true) :
      Outcomes c s ((ownerOf c p s).1.answer r).settle

theorem happens_outcomes {c : Instr} {s s' : State} {t : Stamp} (hex : s.happens t (eventOf c) = .next s') :
    Outcomes c (s.atTime t) s' := by
  by_cases hp : s.phase = .running
  · rw [State.happens_running hp] at hex
    injection hex with hex
    exact hex ▸ .event hp
  · rw [State.happens_quiet hp] at hex
    injection hex with hex
    exact hex ▸ .keeps

theorem pinEvent_outcomes {c : Instr} {s s' : State} {t : Stamp} (hex : s.pinEvent t (recordOf c) (eventOf c) = .next s') :
    Outcomes c (s.atTime t) s' := by
  by_cases hp : s.phase = .running
  · rw [State.pinEvent, if_pos hp, State.happens_running hp] at hex
    injection hex with hex
    exact hex ▸ .event hp
  · rw [State.pinEvent, if_neg hp] at hex
    injection hex with hex
    exact hex ▸ .waits hp

theorem startModeEntry_outcomes {s s' : State} {t : Stamp} (hex : exec (.startModeEntry t) s = .next s') :
    Outcomes (.startModeEntry t) (s.atTime t) s' := by
  have hex : execStartModeEntry t s = .next s' := hex
  unfold execStartModeEntry at hex
  split at hex <;> injection hex with hex
  · next hp => exact hex ▸ .starts t rfl hp
  · exact hex ▸ .keeps

/-- R4: a dispatch that is refused leaves the reply alone, and otherwise the owner acts. -/
theorem judge_outcomes {c : Instr} {row : RequestRow} (hrow : requestRow c = some row) {s : State} (hp : s.phase = .running)
    (p : List Byte) :
    Outcomes c s (((s.judge row.lengthOk row.inStandby (ownerOf c) p).1.answer
      (s.judge row.lengthOk row.inStandby (ownerOf c) p).2).settle) := by
  cases hl : row.lengthOk p with
  | false => rw [State.judge_badLength hl]; exact .refused row hrow hp _
  | true =>
    cases hm : s.cli.mode with
    | run => rw [State.judge_ok hl (.inl hm)]; exact .owner row hrow hp (.inl hm) p _ hl
    | standby =>
      cases hs : row.inStandby with
      | true => rw [State.judge_ok hl (.inr rfl)]; exact .owner row hrow hp (.inr hs) p _ hl
      | false => rw [State.judge_notNow hl hm]; exact .refused row hrow hp _

theorem request_outcomes {c : Instr} {row : RequestRow} (hrow : requestRow c = some row) (hev : eventOf c = id) {s s' : State}
    (hex : exec c s = .next s') : Outcomes c (s.atTime (stampOf c)) s' := by
  rw [exec_request hrow] at hex
  injection hex with hex
  subst hex
  by_cases hp : s.phase = .running
  · rw [State.event_running hp, State.dispatch]
    split
    · have h := Outcomes.event (c := c) (s := s.atTime (stampOf c)) hp
      rwa [hev] at h
    split
    · exact judge_outcomes hrow (s := s.atTime (stampOf c)) hp _
    · have h := Outcomes.event (c := c) (s := s.atTime (stampOf c)) hp
      rwa [hev] at h
  · rw [State.event_quiet hp]
    exact .keeps

/-- What every command can do, said once. -/
theorem exec_outcomes {c : Instr} {s s' : State} (hex : exec c s = .next s') : Outcomes c (s.atTime (stampOf c)) s' := by
  cases c with
  | powerOn t high =>
    injection hex with hex
    exact hex ▸ .cold (.inl ⟨t, high, rfl⟩)
  | resetNFall t =>
    injection hex with hex
    exact hex ▸ .cold (.inr (.inl ⟨t, rfl⟩))
  | resetNRise t =>
    injection hex with hex
    exact hex ▸ .cold (.inr (.inr ⟨t, rfl⟩))
  | startModeEntry t => exact startModeEntry_outcomes hex
  | gearEdge t high => exact pinEvent_outcomes (c := .gearEdge t high) hex
  | presenceGained t link => exact pinEvent_outcomes (c := .presenceGained t link) hex
  | presenceLost t link => exact pinEvent_outcomes (c := .presenceLost t link) hex
  | receiveByte _ _ _ | interByteWatchExpiry _ | candidateFrameComplete _ | unknownRequest _ | transmitFrameEnd _
  | vehicleWatchExpiry _ _ | frameStart _ _ | frameWatchExpiry _ _ | gearDebounceExpiry _ | cueDeadlineExpiry _ | holdTimerExpiry _
  | computationComplete _ | badLinkMessage _ _ _ | hailTimerExpiry _ _ | offers _ _ _ | accept _ _ | reject _ _ | claimTimerExpiry _ _
  | pollTimerExpiry _ _ | status _ _ _ | partnerReset _ _ | holdOffTimerExpiry _ _ | settleTimerExpiry _ _ | outputFrameStart _ _
  | idleTimerExpiry _ _ | repeatTimerExpiry _ _ | stepEnd _ _ | beepStart _ | duckStep _ _ | programmingComplete _ _ =>
    exact happens_outcomes hex
  | _ => exact request_outcomes rfl rfl hex

end Sys2Proof.Machine
end

section
/-! # Proofs: what the owners of the requests do (Table 1-3) -/

namespace Sys2Proof.Machine

/-- What the owner of a request with payload `p` can leave of `s`, with what it has found on the way; `ownerOf_acts` ties it to the
model. A request that only reports, and one that is refused, leaves all. -/
inductive Acts (p : List Byte) (s : State) : Instr → State → Prop
  | nothing (c : Instr) : Acts p s c s
  | toRun (t : Stamp) (hm : s.cli.mode = .standby) : Acts p s (.modeSet t) (s.enterRun .request)
  | toStandby (t : Stamp) (hm : s.cli.mode = .run) (ho : s.rvc.state = .off) : Acts p s (.modeSet t) s.enterStandby
  | restart (t : Stamp) : Acts p s (.restart t) { s with cli := { s.cli with warmPending := true } }
  | noticeSelect (t : Stamp) (sel : List Bool) (h : readSelection p = some sel) :
      Acts p s (.noticeSelect t) { s with cli := { s.cli with selection := sel } }
  | statusLineMap (t : Stamp) (line : Nat) (setting : LineSetting) (h : readLine p = some (line, setting)) :
      Acts p s (.statusLineMap t) { s with cli := { s.cli with lineMap := s.cli.lineMap.set line setting } }
  | vehicleReport (t : Stamp) :
      Acts p s (.vehicleReport t) (({ s with vin := s.vin.take (readReport p) s.timebase } : State).deliver (readReport p))
  | feedFormat (t : Stamp) (f : Feed) (fmt : Format) (hf : formatFeed (byteAt p 0) = some f) :
      Acts p s (.feedFormat t) ((s.setPort f ((s.port f).reformed fmt s.timebase)).handLock f (s.port f).lock
        ((s.port f).reformed fmt s.timebase).lock)
  | reverseDismiss (t : Stamp) (h : s.rvc.state = .held) : Acts p s (.reverseDismiss t) (s.enterOff .dismissed)
  | guideQuery (t : Stamp) : Acts p s (.guideQuery t) s.guideTrigger
  | linkPolicySet (t : Stamp) (i : Seat) (m : Mode) : Acts p s (.linkPolicySet t) (s.setLink i { s.link i with staged := some m })
  | linkReoffer (t : Stamp) (i : Seat) (h : (s.link i).state.takesReoffer = true) : Acts p s (.linkReoffer t) (s.reoffer i)
  | linkRestart (t : Stamp) (i : Seat) (h : (s.link i).state.takesReset = true) :
      Acts p s (.linkRestart t) (s.enterRecovery i .hostRequest)
  | linkCommand (t : Stamp) (i : Seat) (kind : CommandKind) (hk : hostCommand p = some kind) (hs : (s.link i).state = .streaming)
      (hq : (s.link i).queue.length < 4) : Acts p s (.linkCommand t) (s.setLink i ((s.link i).append kind))
  | descriptorReadStart (t : Stamp) (i : Seat) (n : Nat) :
      Acts p s (.descriptorReadStart t) (s.setLink i { s.link i with readPos := n })
  | descriptorReadContinue (t : Stamp) (i : Seat) (n : Nat) :
      Acts p s (.descriptorReadContinue t) (s.setLink i { s.link i with readPos := n })
  | routeSet (t : Stamp) (output : Output) (h : routeAllowed output (byteAt p 1) = true) :
      Acts p s (.routeSet t) (s.setPending output (sourceOf (byteAt p 1)))
  | cameraPreview (t : Stamp) (on : Bool) (ho : s.rvc.state = .off) : Acts p s (.cameraPreview t) (s.setPreview on)
  | bannerSet (t : Stamp) (output : Output) (on : Bool) (ho : output = .fro → s.rvc.state = .off) :
      Acts p s (.bannerSet t) (s.setBanner output on)
  | pageLoadNew (t : Stamp) (page : Page) (hc : (walkPage p).bind RawPage.check = some page) (hs : hasSpace s.mnu.store page = true)
      (hf : findPage s.mnu.store page.id = none) : Acts p s (.pageLoad t) (s.setStore (putPage s.mnu.store page))
  | pageLoadPresent (t : Stamp) (page old : Page) (hc : (walkPage p).bind RawPage.check = some page)
      (hs : hasSpace s.mnu.store page = true) (hf : findPage s.mnu.store page.id = some old) :
      Acts p s (.pageLoad t) ((s.setStore (putPage s.mnu.store page)).adjustBoth page)
  | pageRemove (t : Stamp) (id : Nat) :
      Acts p s (.pageRemove t)
        (((s.setStore (s.mnu.store.filter (fun q => !decide (q.id = id)))).closeIfHolds id .s1).closeIfHolds id .s2)
  | pageClear (t : Stamp) :
      Acts p s (.pageClear t) (((s.setStore []).closeMenu .s1 .pageRemoved false).closeMenu .s2 .pageRemoved false)
  | itemSet (t : Stamp) (page : Page) (n : Nat) (it : Item) (kind : ItemKind) (enabled : Bool) (id : Nat)
      (hp : findPage s.mnu.store id = some page) (hi : page.item n = some it) :
      Acts p s (.itemSet t) (s.changeItem page.id n it { it with kind := kind, enabled := enabled })
  | seatRootSet (t : Stamp) (i : Seat) (id : Nat) :
      Acts p s (.seatRootSet t) { s with mnu := { s.mnu with root := s.mnu.root.set i id } }
  | menuOpen (t : Stamp) (i : Seat) (id : Nat) (page : Page) (hs : (s.link i).state = .streaming) (hp : s.namedPage i id = some page) :
      Acts p s (.menuOpen t) (s.openMenu i page)
  | menuClose (t : Stamp) (i : Seat) : Acts p s (.menuClose t) (s.closeMenu i .request false)
  | zoneLevelSet (t : Stamp) (i : Seat) (v : Nat) (hv : v ≤ 60) :
      Acts p s (.zoneLevelSet t) ((s.setSeat i { s.seat i with volume := v }).postLevel i)
  | backlightPolicySet (t : Stamp) (i : Seat) (policy : BacklightPolicy) (threshold : Nat) :
      Acts p s (.backlightPolicySet t) ((s.setSeat i { s.seat i with policy := policy, threshold := threshold }).recomputeTarget i)
  | chimePatternLoad (t : Stamp) (slot : Nat) (pat : Pattern) :
      Acts p s (.chimePatternLoad t) { s with chu := { s.chu with table := s.chu.table.set slot pat } }
  | chimePlay (t : Stamp) (r : ChimeRequest) (hr : readPlay p = some r) : Acts p s (.chimePlay t) (s.arrive r).1
  | chimeCancel (t : Stamp) (h : Nat) (ch : Chime) (hf : s.chu.records.find? (isHost h) = some ch) :
      Acts p s (.chimeCancel t) ((s.removeChime (isHost h)).endChime ch .cancelled)
  | frontLevelSet (t : Stamp) (v : Nat) (hv : v ≤ 60) :
      Acts p s (.frontLevelSet t) { s with chu := { s.chu with frontLevel := v } }
  | calibrationWrite (t : Stamp) (no index : Nat) (v : Int) (hf : s.cal.flight = none)
      (ho : (fieldOffset no index).isSome = true) (hv : storedValue s.image no index (i32At p 2) = some v) :
      Acts p s (.calibrationWrite t) (s.writeField no index v)
  | calibrationProgram (t : Stamp) (n : SlotNo) (ho : s.rvc.state = .off) (hf : s.cal.flight = none)
      (hn : s.cal.lowestBlank = some n) : Acts p s (.calibrationProgram t) { s with cal := s.cal.startProgram n s.timebase }

variable (p : List Byte) (s : State)

theorem ownModeSet_acts (t : Stamp) : Acts p s (.modeSet t) (ownModeSet p s).1 := by
  unfold ownModeSet
  split
  · exact .nothing _
  split
  · exact .nothing _
  next hle hne =>
  split
  · next h0 =>
    refine .toRun t ?_
    cases hm : s.cli.mode with
    | run => rw [hm, h0] at hne; exact absurd rfl hne
    | standby => rfl
  next h0 =>
  split
  · next ho =>
    refine .toStandby t ?_ (of_decide_eq_true ho)
    cases hm : s.cli.mode with
    | run => rfl
    | standby =>
      rw [hm] at hne
      have h1 : PartMode.standby.code = 1 := rfl
      omega
  · exact .nothing _

theorem ownNoticeSelect_acts (t : Stamp) : Acts p s (.noticeSelect t) (ownNoticeSelect p s).1 := by
  unfold ownNoticeSelect
  split
  · exact .nothing _
  · next sel h => exact .noticeSelect t sel h

theorem ownStatusLineMap_acts (t : Stamp) : Acts p s (.statusLineMap t) (ownStatusLineMap p s).1 := by
  unfold ownStatusLineMap
  split
  · exact .nothing _
  · next line setting h => exact .statusLineMap t line setting h

theorem ownFeedFormat_acts (t : Stamp) : Acts p s (.feedFormat t) (ownFeedFormat p s).1 := by
  unfold ownFeedFormat
  split
  · exact .nothing _
  next f hf =>
  dsimp only
  split
  · exact .nothing _
  split
  · exact .nothing _
  split
  · exact .nothing _
  · exact .feedFormat t f _ hf

theorem ownReverseDismiss_acts (t : Stamp) : Acts p s (.reverseDismiss t) (ownReverseDismiss p s).1 := by
  unfold ownReverseDismiss
  split
  · next h => exact .reverseDismiss t h
  · exact .nothing _

theorem ownGuideQuery_acts (t : Stamp) : Acts p s (.guideQuery t) (ownGuideQuery p s).1 := by
  unfold ownGuideQuery
  split
  · exact .nothing _
  split
  · exact .guideQuery t
  · exact .nothing _

theorem ownLinkPolicySet_acts (t : Stamp) : Acts p s (.linkPolicySet t) (ownLinkPolicySet p s).1 := by
  unfold ownLinkPolicySet
  split
  · exact .nothing _
  next i _ =>
  dsimp only
  split
  · exact .nothing _
  split
  · exact .nothing _
  split
  · exact .nothing _
  · exact .linkPolicySet t i _

theorem ownLinkReoffer_acts (t : Stamp) : Acts p s (.linkReoffer t) (ownLinkReoffer p s).1 := by
  unfold ownLinkReoffer
  split
  · exact .nothing _
  split
  · next i _ h => exact .linkReoffer t i h
  · exact .nothing _

theorem ownLinkRestart_acts (t : Stamp) : Acts p s (.linkRestart t) (ownLinkRestart p s).1 := by
  unfold ownLinkRestart
  split
  · exact .nothing _
  split
  · next i _ h => exact .linkRestart t i h
  · exact .nothing _

theorem ownLinkCommand_acts (t : Stamp) : Acts p s (.linkCommand t) (ownLinkCommand p s).1 := by
  unfold ownLinkCommand
  split
  · exact .nothing _
  next i _ =>
  split
  · exact .nothing _
  next kind hk =>
  dsimp only
  split
  · exact .nothing _
  next hs =>
  split
  · exact .nothing _
  · next hq => exact .linkCommand t i kind hk (not_not.1 hs) (not_le.1 hq)

theorem State.readDescriptor_sets (i : Seat) (start : Nat) :
    (s.readDescriptor i start).1 = s ∨ ∃ n, (s.readDescriptor i start).1 = s.setLink i { s.link i with readPos := n } := by
  unfold State.readDescriptor
  split
  · exact .inl rfl
  · exact .inr ⟨_, rfl⟩

theorem ownDescriptorReadStart_acts (t : Stamp) : Acts p s (.descriptorReadStart t) (ownDescriptorReadStart p s).1 := by
  unfold ownDescriptorReadStart
  split
  · exact .nothing _
  next i _ =>
  rcases s.readDescriptor_sets i 0 with h | ⟨n, h⟩ <;> rw [h]
  · exact .nothing _
  · exact .descriptorReadStart t i n

theorem ownDescriptorReadContinue_acts (t : Stamp) : Acts p s (.descriptorReadContinue t) (ownDescriptorReadContinue p s).1 := by
  unfold ownDescriptorReadContinue
  split
  · exact .nothing _
  next i _ =>
  rcases s.readDescriptor_sets i (s.link i).readPos with h | ⟨n, h⟩ <;> rw [h]
  · exact .nothing _
  · exact .descriptorReadContinue t i n

theorem ownRouteSet_acts (t : Stamp) : Acts p s (.routeSet t) (ownRouteSet p s).1 := by
  unfold ownRouteSet
  split
  · exact .nothing _
  split
  · next output _ h => exact .routeSet t output h
  · exact .nothing _

theorem ownCameraPreview_acts (t : Stamp) : Acts p s (.cameraPreview t) (ownCameraPreview p s).1 := by
  unfold ownCameraPreview
  split
  · exact .nothing _
  split
  · exact .nothing _
  · next ho => exact .cameraPreview t _ (by simpa [State.rvcOff] using ho)

theorem ownBannerSet_acts (t : Stamp) : Acts p s (.bannerSet t) (ownBannerSet p s).1 := by
  unfold ownBannerSet
  split
  · exact .nothing _
  next output _ =>
  split
  · exact .nothing _
  split
  · exact .nothing _
  · next ho => exact .bannerSet t output _ (by simpa [State.rvcOff] using ho)

theorem ownPageLoad_acts (t : Stamp) : Acts p s (.pageLoad t) (ownPageLoad p s).1 := by
  unfold ownPageLoad
  split
  · exact .nothing _
  next page hc =>
  split
  · next hs =>
    cases hf : findPage s.mnu.store page.id with
    | none => exact .pageLoadNew t page hc hs hf
    | some old => exact .pageLoadPresent t page old hc hs hf
  · exact .nothing _

theorem ownPageRemove_acts (t : Stamp) : Acts p s (.pageRemove t) (ownPageRemove p s).1 := by
  unfold ownPageRemove
  dsimp only
  split
  · exact .nothing _
  split
  · exact .nothing _
  · exact .pageRemove t _

theorem ownItemSet_acts (t : Stamp) : Acts p s (.itemSet t) (ownItemSet p s).1 := by
  unfold ownItemSet
  split
  · exact .nothing _
  split
  · exact .nothing _
  next page hp =>
  split
  · exact .nothing _
  next it hi =>
  split
  · exact .nothing _
  · next kind _ => exact .itemSet t page _ it kind _ _ hp hi

theorem ownSeatRootSet_acts (t : Stamp) : Acts p s (.seatRootSet t) (ownSeatRootSet p s).1 := by
  unfold ownSeatRootSet
  split
  · exact .nothing _
  split
  · exact .nothing _
  · exact .seatRootSet t _ _

theorem ownMenuOpen_acts (t : Stamp) : Acts p s (.menuOpen t) (ownMenuOpen p s).1 := by
  unfold ownMenuOpen
  split
  · exact .nothing _
  split
  · exact .nothing _
  split
  · exact .nothing _
  next hs =>
  split
  · exact .nothing _
  · next page hp => exact .menuOpen t _ _ page (not_not.1 hs) hp

theorem ownMenuClose_acts (t : Stamp) : Acts p s (.menuClose t) (ownMenuClose p s).1 := by
  unfold ownMenuClose
  split
  · exact .nothing _
  split
  · exact .menuClose t _
  · exact .nothing _

theorem ownZoneLevelSet_acts (t : Stamp) : Acts p s (.zoneLevelSet t) (ownZoneLevelSet p s).1 := by
  unfold ownZoneLevelSet
  split
  · exact .nothing _
  next i _ =>
  dsimp only
  have hv : (if 60 < byteAt p 1 then 60 else byteAt p 1) ≤ 60 := by split <;> omega
  generalize (if 60 < byteAt p 1 then 60 else byteAt p 1) = v at hv
  split
  · exact .nothing _
  · exact .zoneLevelSet t i v hv

theorem ownBacklightPolicySet_acts (t : Stamp) : Acts p s (.backlightPolicySet t) (ownBacklightPolicySet p s).1 := by
  unfold ownBacklightPolicySet
  split
  · exact .nothing _
  split
  · exact .nothing _
  split
  · exact .nothing _
  · exact .backlightPolicySet t _ _ _

theorem ownChimePatternLoad_acts (t : Stamp) : Acts p s (.chimePatternLoad t) (ownChimePatternLoad p s).1 := by
  unfold ownChimePatternLoad
  split
  · exact .nothing _
  split
  · exact .nothing _
  split
  · exact .nothing _
  · exact .chimePatternLoad t _ _

theorem ownChimePlay_acts (t : Stamp) : Acts p s (.chimePlay t) (ownChimePlay p s).1 := by
  unfold ownChimePlay
  split
  · exact .nothing _
  · next r hr => exact .chimePlay t r hr

theorem ownChimeCancel_acts (t : Stamp) : Acts p s (.chimeCancel t) (ownChimeCancel p s).1 := by
  unfold ownChimeCancel
  dsimp only
  split
  · exact .nothing _
  split
  · exact .nothing _
  · next ch hf => exact .chimeCancel t _ ch hf

theorem ownFrontLevelSet_acts (t : Stamp) : Acts p s (.frontLevelSet t) (ownFrontLevelSet p s).1 := by
  unfold ownFrontLevelSet
  split
  · exact .nothing _
  · next h => exact .frontLevelSet t _ (not_lt.1 h)

theorem ownCalibrationRead_only_reads : (ownCalibrationRead p s).1 = s := by
  unfold ownCalibrationRead
  split <;> rfl

theorem ownLinkStatus_only_reads : (ownLinkStatus p s).1 = s := by
  unfold ownLinkStatus
  split <;> rfl

theorem ownMenuState_only_reads : (ownMenuState p s).1 = s := by
  unfold ownMenuState
  split <;> rfl

theorem ownCalibrationWrite_acts (t : Stamp) : Acts p s (.calibrationWrite t) (ownCalibrationWrite p s).1 := by
  unfold ownCalibrationWrite
  dsimp only
  split
  · exact .nothing _
  next hf =>
  split
  · exact .nothing _
  next o ho =>
  split
  · exact .nothing _
  · next v hv => exact .calibrationWrite t _ _ v (by simpa using hf) (by rw [ho]; rfl) hv

theorem ownCalibrationProgram_acts (t : Stamp) : Acts p s (.calibrationProgram t) (ownCalibrationProgram p s).1 := by
  unfold ownCalibrationProgram
  split
  · exact .nothing _
  next ho =>
  split
  · exact .nothing _
  next hf =>
  split
  · exact .nothing _
  · next n hn => exact .calibrationProgram t n (by simpa [State.rvcOff] using ho) (by simpa using hf) hn

/-- What every request does, said once. -/
theorem ownerOf_acts (c : Instr) : Acts p s c (ownerOf c p s).1 := by
  cases c with
  | modeSet t => exact ownModeSet_acts p s t
  | restart t => exact .restart t
  | noticeSelect t => exact ownNoticeSelect_acts p s t
  | statusLineMap t => exact ownStatusLineMap_acts p s t
  | vehicleReport t => exact .vehicleReport t
  | feedFormat t => exact ownFeedFormat_acts p s t
  | reverseDismiss t => exact ownReverseDismiss_acts p s t
  | guideQuery t => exact ownGuideQuery_acts p s t
  | linkPolicySet t => exact ownLinkPolicySet_acts p s t
  | linkReoffer t => exact ownLinkReoffer_acts p s t
  | linkRestart t => exact ownLinkRestart_acts p s t
  | linkCommand t => exact ownLinkCommand_acts p s t
  | linkStatus t => exact (ownLinkStatus_only_reads p s).symm ▸ .nothing _
  | descriptorReadStart t => exact ownDescriptorReadStart_acts p s t
  | descriptorReadContinue t => exact ownDescriptorReadContinue_acts p s t
  | routeSet t => exact ownRouteSet_acts p s t
  | cameraPreview t => exact ownCameraPreview_acts p s t
  | bannerSet t => exact ownBannerSet_acts p s t
  | pageLoad t => exact ownPageLoad_acts p s t
  | pageRemove t => exact ownPageRemove_acts p s t
  | pageClear t => exact .pageClear t
  | itemSet t => exact ownItemSet_acts p s t
  | seatRootSet t => exact ownSeatRootSet_acts p s t
  | menuOpen t => exact ownMenuOpen_acts p s t
  | menuClose t => exact ownMenuClose_acts p s t
  | menuState t => exact (ownMenuState_only_reads p s).symm ▸ .nothing _
  | zoneLevelSet t => exact ownZoneLevelSet_acts p s t
  | backlightPolicySet t => exact ownBacklightPolicySet_acts p s t
  | chimePatternLoad t => exact ownChimePatternLoad_acts p s t
  | chimePlay t => exact ownChimePlay_acts p s t
  | chimeCancel t => exact ownChimeCancel_acts p s t
  | frontLevelSet t => exact ownFrontLevelSet_acts p s t
  | calibrationRead t => exact (ownCalibrationRead_only_reads p s).symm ▸ .nothing _
  | calibrationWrite t => exact ownCalibrationWrite_acts p s t
  | calibrationProgram t => exact ownCalibrationProgram_acts p s t
  | _ => exact .nothing _

end Sys2Proof.Machine
end

section
/-! # Proofs: laws that every step keeps -/

namespace Sys2Proof.Machine

/-- What must be shown of one command for it to keep a law: `mid` is the law as it stands within an event, which the end of the event
makes `law` again. -/
structure KeepsLaw (law mid : State → Prop) (c : Instr) : Prop where
  time : ∀ s t, law s → law (s.atTime t)
  opens : ∀ s, law s → mid s
  settles : ∀ s, mid s → law s.settle
  answers : ∀ s r, mid s → mid (s.answer r)
  event : ∀ s, s.phase = .running → mid s → mid (eventOf c s)
  owner : ∀ row, requestRow c = some row → ∀ p s, row.lengthOk p = true → s.phase = .running →
    (s.cli.mode = .run ∨ row.inStandby = true) → mid s → ∀ s', Acts p s c s' → mid s'
  record : ∀ s, s.phase ≠ .running → law s → law (recordOf c s)
  starts : ∀ s, s.phase = .loading → law s → mid s.startMode
  cold : isColdStart c → ∀ s, law s → law (coldOf c s)

theorem KeepsLaw.exec {law mid : State → Prop} {c : Instr} (k : KeepsLaw law mid c) {s s' : State} (h : law s)
    (hex : exec c s = .next s') : law s' := by
  have ht := k.time s (stampOf c) h
  cases exec_outcomes hex with
  | cold hc => exact k.cold hc _ ht
  | starts t hc hp => exact k.settles _ (k.starts _ hp ht)
  | waits hp => exact k.record _ hp ht
  | keeps => exact ht
  | event hp => exact k.settles _ (k.event _ hp (k.opens _ ht))
  | refused row hrow hp r => exact k.settles _ (k.answers _ r (k.opens _ ht))
  | owner row hrow hp hm p r hl => exact k.settles _ (k.answers _ r (k.owner row hrow p _ hl hp hm (k.opens _ ht) _ (ownerOf_acts p _ c)))

/-- A law that does not speak of the commands that wait, and that every command keeps, is kept by every step. -/
theorem step_keepsLaw {law : State → Prop} (htime : ∀ s t, law s → law (s.atTime t))
    (hpending : ∀ s l, law s → law { s with pending := l }) (hexec : ∀ c s s', law s → exec c s = .next s' → law s')
    {s s' : State} (h : law s) (hstep : step s = .next s') : law s' := by
  unfold step at hstep
  split at hstep
  · injection hstep with hstep
    exact hstep ▸ htime s _ h
  · next c rest _ => exact hexec c _ s' (hpending s rest h) hstep

end Sys2Proof.Machine
end

section
/-! # Proofs: the calibration store (R164 to R170) -/

namespace Sys2Proof.Machine

/-! ## Which commands reach the store -/

/-- The completion of a programming is the one event that reaches the store. -/
theorem eventOf_cal {c : Instr} (hc : ∀ t fault, c ≠ .programmingComplete t fault) (s : State) : (eventOf c s).cal = s.cal := by
  cases c with
  | programmingComplete t fault => exact absurd rfl (hc t fault)
  | _ => simp [eventOf]

/-- Of the requests CALIBRATION WRITE and CALIBRATION PROGRAM alone reach the store. -/
theorem Acts.cal {p : List Byte} {s s' : State} {c : Instr} (h : Acts p s c s') (hw : ∀ t, c ≠ .calibrationWrite t)
    (hp : ∀ t, c ≠ .calibrationProgram t) : s'.cal = s.cal := by
  cases h with
  | calibrationWrite t => exact absurd rfl (hw t)
  | calibrationProgram t => exact absurd rfl (hp t)
  | _ => simp

@[simp] theorem recordOf_cal (c : Instr) (s : State) : (recordOf c s).cal = s.cal := by
  cases c <;> rfl

/-! ## The working copy (R165, R166) -/

/-- Nothing but a write and a cold start changes the working copy, the generation loaded and the check value loaded. -/
structure Cal.sameCopy (c' c : Cal) : Prop where
  working : c'.working = c.working
  loadedGen : c'.loadedGen = c.loadedGen
  loadedCheck : c'.loadedCheck = c.loadedCheck

theorem Cal.sameCopy_of_eq {c' c : Cal} (h : c' = c) : c'.sameCopy c := h ▸ ⟨rfl, rfl, rfl⟩

theorem Cal.setSlot_sameCopy (c : Cal) (n : SlotNo) (x : Slot) (flight : Option Programming) :
    ({ c.setSlot n x with flight := flight } : Cal).sameCopy c := by cases n <;> exact ⟨rfl, rfl, rfl⟩

theorem State.programmed_sameCopy (s : State) (fault : Option FaultyCells) : (s.programmed fault).cal.sameCopy s.cal := by
  unfold State.programmed
  split
  · exact ⟨rfl, rfl, rfl⟩
  split
  · exact Cal.setSlot_sameCopy _ _ _ _
  · exact ⟨rfl, rfl, rfl⟩

theorem eventOf_sameCopy (c : Instr) (s : State) : (eventOf c s).cal.sameCopy s.cal := by
  by_cases hc : ∃ t fault, c = .programmingComplete t fault
  · obtain ⟨t, fault, rfl⟩ := hc
    exact s.programmed_sameCopy fault
  · exact Cal.sameCopy_of_eq (eventOf_cal (fun t fault h => hc ⟨t, fault, h⟩) s)

theorem Acts.sameCopy {p : List Byte} {s s' : State} {c : Instr} (h : Acts p s c s') (hw : ∀ t, c ≠ .calibrationWrite t) :
    s'.cal.sameCopy s.cal := by
  cases h with
  | calibrationWrite t => exact absurd rfl (hw t)
  | calibrationProgram t n => exact Cal.setSlot_sameCopy _ _ _ _
  | _ => exact Cal.sameCopy_of_eq (by simp)

/-- R166: CALIBRATION WRITE leaves the values that the load has left. -/
theorem State.writeField_loaded (s : State) (no index : Nat) (v : Int) :
    (s.writeField no index v).cal.loadedGen = s.cal.loadedGen ∧ (s.writeField no index v).cal.loadedCheck = s.cal.loadedCheck := by
  unfold State.writeField
  dsimp only
  split
  · simp
  split <;> simp

theorem exec_sameCopy {c : Instr} {s s' : State} (hex : exec c s = .next s') (hw : ∀ t, c ≠ .calibrationWrite t)
    (hc : ¬ isColdStart c) : s'.cal.sameCopy s.cal := by
  cases exec_outcomes hex with
  | cold h => exact absurd h hc
  | starts => exact Cal.sameCopy_of_eq (by simp)
  | waits => exact Cal.sameCopy_of_eq (by simp)
  | keeps => exact ⟨rfl, rfl, rfl⟩
  | event => exact eventOf_sameCopy c (s.atTime (stampOf c))
  | refused => exact ⟨rfl, rfl, rfl⟩
  | owner row _ _ _ p => exact (ownerOf_acts p (s.atTime (stampOf c)) c).sameCopy hw

theorem exec_calibrationWrite_loaded {t : Stamp} {s s' : State} (hex : exec (.calibrationWrite t) s = .next s') :
    s'.cal.loadedGen = s.cal.loadedGen ∧ s'.cal.loadedCheck = s.cal.loadedCheck := by
  cases exec_outcomes hex with
  | cold h => simp [isColdStart] at h
  | starts _ h => cases h
  | waits => exact ⟨rfl, rfl⟩
  | keeps => exact ⟨rfl, rfl⟩
  | event => exact ⟨rfl, rfl⟩
  | refused => exact ⟨rfl, rfl⟩
  | owner row _ _ _ p =>
    have h : ∀ x, Acts p (s.atTime t) (.calibrationWrite t) x →
        x.cal.loadedGen = s.cal.loadedGen ∧ x.cal.loadedCheck = s.cal.loadedCheck := by
      intro x hx
      cases hx with
      | nothing => exact ⟨rfl, rfl⟩
      | calibrationWrite _ no index v => exact (s.atTime t).writeField_loaded no index v
    exact h (ownerOf (.calibrationWrite t) p (s.atTime t)).1 (ownerOf_acts p _ _)

/-! ## The slots (R164, R168, R169) -/

theorem Cal.slot_setSlot_same (c : Cal) (n : SlotNo) (x : Slot) : (c.setSlot n x).slot n = x := by cases n <;> rfl

theorem Cal.slot_setSlot_other (c : Cal) {n m : SlotNo} (h : m ≠ n) (x : Slot) : (c.setSlot n x).slot m = c.slot m := by
  cases n <;> cases m <;> first | rfl | exact absurd rfl h

/-- R164, R168: how a slot reads follows what its cells hold. -/
def Slot.shapeLaw (x : Slot) : Prop := (x.judged = .blank ↔ x.cells = .blank) ∧ (x.judged = .programming ↔ x.cells = .writing)

theorem Cal.slotsLaw_iff (c : Cal) :
    c.slotsLaw ↔ ∀ n, (c.slot n).shapeLaw ∧ ((c.slot n).judged = .programming ↔ ∃ f ∈ c.flight, f.slot = n) := by
  refine ⟨fun h n => ?_, fun h n _ => ⟨(h n).1.1, (h n).1.2, (h n).2⟩⟩
  obtain ⟨hb, hw, hf⟩ := h n (by cases n <;> simp)
  exact ⟨⟨hb, hw⟩, hf⟩

/-- R168: a programming begins in a slot with nothing in flight. -/
theorem Cal.startProgram_slotsLaw {c : Cal} (h : c.slotsLaw) (hf : c.flight = none) (n : SlotNo) (now : Stamp) :
    (c.startProgram n now).slotsLaw := by
  rw [Cal.slotsLaw_iff] at h ⊢
  intro m
  by_cases hm : m = n
  · subst hm
    have hs : (c.startProgram m now).slot m = ⟨.writing, .programming⟩ := c.slot_setSlot_same m _
    rw [hs]
    exact ⟨⟨by simp, by simp⟩, by simp [Cal.startProgram]⟩
  · have hs : (c.startProgram n now).slot m = c.slot m := c.slot_setSlot_other hm _
    rw [hs]
    refine ⟨(h m).1, ?_⟩
    have hidle : ¬ (c.slot m).judged = .programming := fun hj => by simpa [hf] using (h m).2.1 hj
    simpa [Cal.startProgram, hidle] using fun he => hm he.symm

/-- R169: a programmed slot is GOOD or BAD. -/
theorem Programming.result_shape (f : Programming) (fault : Option FaultyCells) :
    ((f.result fault).judged = .good ∨ (f.result fault).judged = .bad)
    ∧ ∃ image check, (f.result fault).cells = .written image check := by
  unfold Programming.result
  split
  · exact ⟨.inl rfl, _, _, rfl⟩
  · refine ⟨?_, _, _, rfl⟩
    dsimp only
    split
    · exact .inl rfl
    · exact .inr rfl

/-- R169: the completion of the programming in flight. -/
theorem Cal.completed_slotsLaw {c : Cal} {f : Programming} (h : c.slotsLaw) (hf : c.flight = some f) (fault : Option FaultyCells) :
    ({ c.setSlot f.slot (f.result fault) with flight := none } : Cal).slotsLaw := by
  rw [Cal.slotsLaw_iff] at h ⊢
  intro m
  by_cases hm : m = f.slot
  · subst hm
    have hs : ({ c.setSlot f.slot (f.result fault) with flight := none } : Cal).slot f.slot = f.result fault :=
      c.slot_setSlot_same f.slot _
    obtain ⟨hj, image, check, hcells⟩ := f.result_shape fault
    rw [hs, Slot.shapeLaw, hcells]
    rcases hj with hj | hj <;> simp [hj]
  · have hs : ({ c.setSlot f.slot (f.result fault) with flight := none } : Cal).slot m = c.slot m := c.slot_setSlot_other hm _
    have hidle : ¬ (c.slot m).judged = .programming := by
      rw [(h m).2, hf]
      simpa using fun he => hm he.symm
    rw [hs]
    exact ⟨(h m).1, by simp [hidle]⟩

/-- R164, R169: a slot as a cold start leaves it: it reads as its cells stand, none is in programming, and none becomes BLANK. -/
structure Slot.coldFrom (x' x : Slot) : Prop where
  shape : x'.shapeLaw
  idle : x'.judged ≠ .programming
  consumed : x.judged ≠ .blank → x'.judged ≠ .blank

theorem judgeSlot_cold {x : Slot} (h : x.shapeLaw) : (judgeSlot x).coldFrom x := by
  obtain ⟨hb, -⟩ := h
  unfold judgeSlot
  cases hc : x.cells with
  | blank => exact ⟨⟨by simp, by simp⟩, by simp, fun hn => absurd (hb.2 hc) hn⟩
  | writing => exact ⟨⟨by simp, by simp⟩, by simp, fun _ => by simp⟩
  | partly => exact ⟨⟨by simp, by simp⟩, by simp, fun _ => by simp⟩
  | written image check =>
    refine ⟨⟨?_, ?_⟩, ?_, fun _ => ?_⟩ <;> dsimp only <;> split <;> simp

theorem Slot.abandoned_cold {x : Slot} (h : x.shapeLaw) : x.abandoned.coldFrom x := by
  have keep (hw : x.cells ≠ .writing) : x.coldFrom x := ⟨h, fun hj => hw (h.2.1 hj), id⟩
  unfold Slot.abandoned
  cases hc : x.cells with
  | writing => exact ⟨⟨by simp, by simp⟩, by simp, fun _ => by simp⟩
  | blank => exact keep (by simp [hc])
  | written image check => exact keep (by simp [hc])
  | partly => exact keep (by simp [hc])

/-- R164, R169: the slots are in order, and no slot consumed in `c` is BLANK. -/
def Cal.consumedFrom (c' c : Cal) : Prop := c'.slotsLaw ∧ ∀ n, (c.slot n).judged ≠ .blank → (c'.slot n).judged ≠ .blank

theorem Cal.coldSlots_consumed {c c' : Cal} {c0 : Cal} (h : c.consumedFrom c0) (hs : ∀ n, (c'.slot n).coldFrom (c.slot n))
    (hf : c'.flight = none) : c'.consumedFrom c0 :=
  ⟨c'.slotsLaw_iff.2 (fun n => ⟨(hs n).shape, by simp [hf, (hs n).idle]⟩), fun n hn => (hs n).consumed (h.2 n hn)⟩

theorem Cal.load_consumed {c c0 : Cal} (h : c.consumedFrom c0) : c.load.consumedFrom c0 :=
  Cal.coldSlots_consumed h (fun n => by
    have hn := ((c.slotsLaw_iff.1 h.1) n).1
    cases n <;> exact judgeSlot_cold hn) rfl

theorem Cal.unloaded_consumed {c c0 : Cal} (h : c.consumedFrom c0) : c.unloaded.consumedFrom c0 :=
  Cal.coldSlots_consumed h (fun n => by
    have hn := ((c.slotsLaw_iff.1 h.1) n).1
    cases n <;> exact Slot.abandoned_cold hn) rfl

theorem coldOf_consumed (c : Instr) {s : State} {c0 : Cal} (h : s.cal.consumedFrom c0) : (coldOf c s).cal.consumedFrom c0 := by
  cases c with
  | powerOn t high =>
    cases high with
    | true => exact Cal.load_consumed h
    | false => exact Cal.unloaded_consumed h
  | resetNFall t =>
    simp only [coldOf, State.resetFalls]
    split
    · exact Cal.unloaded_consumed h
    · exact h
  | resetNRise t =>
    simp only [coldOf, State.resetRises]
    split
    · exact h
    · exact Cal.load_consumed h
  | _ => exact h

theorem State.programmed_consumed {s : State} {c0 : Cal} (h : s.cal.consumedFrom c0) (fault : Option FaultyCells) :
    (s.programmed fault).cal.consumedFrom c0 := by
  unfold State.programmed
  split
  · exact h
  next f hf =>
  split
  · refine ⟨Cal.completed_slotsLaw h.1 hf fault, fun n hn => ?_⟩
    show ((s.cal.setSlot f.slot (f.result fault)).slot n).judged ≠ .blank
    by_cases hm : n = f.slot
    · rw [hm, Cal.slot_setSlot_same]
      rcases (f.result_shape fault).1 with hj | hj <;> simp [hj]
    · rw [Cal.slot_setSlot_other _ hm]
      exact h.2 n hn
  · exact h

theorem Cal.startProgram_consumed {c c0 : Cal} (h : c.consumedFrom c0) (hf : c.flight = none) (n : SlotNo) (now : Stamp) :
    (c.startProgram n now).consumedFrom c0 := by
  refine ⟨Cal.startProgram_slotsLaw h.1 hf n now, fun m hm => ?_⟩
  show ((c.setSlot n ⟨.writing, .programming⟩).slot m).judged ≠ .blank
  by_cases hmn : m = n
  · rw [hmn, Cal.slot_setSlot_same]; simp
  · rw [Cal.slot_setSlot_other _ hmn]
    exact h.2 m hm

theorem State.writeField_slots (s : State) (no index : Nat) (v : Int) :
    (s.writeField no index v).cal = { s.cal with working := setField s.image no index v } := by
  unfold State.writeField
  dsimp only
  split
  · simp
  split <;> simp

theorem Acts.consumed {p : List Byte} {s s' : State} {c : Instr} (h : Acts p s c s') {c0 : Cal} (hs : s.cal.consumedFrom c0) :
    s'.cal.consumedFrom c0 := by
  cases h with
  | calibrationWrite t no index v => rw [State.writeField_slots]; exact hs
  | calibrationProgram t n _ hf => exact Cal.startProgram_consumed hs hf n _
  | _ => simpa using hs

theorem consumed_keepsLaw (c0 : Cal) (c : Instr) :
    KeepsLaw (fun s => s.cal.consumedFrom c0) (fun s => s.cal.consumedFrom c0) c where
  time _ _ h := h
  opens _ h := h
  settles _ h := h
  answers _ _ h := h
  event s _ h := by
    by_cases hc : ∃ t fault, c = .programmingComplete t fault
    · obtain ⟨t, fault, rfl⟩ := hc
      exact State.programmed_consumed h fault
    · simpa [eventOf_cal (fun t fault he => hc ⟨t, fault, he⟩) s] using h
  owner _ _ _ _ _ _ _ h _ ha := ha.consumed h
  record s _ h := by simpa using h
  starts s _ h := by simpa using h
  cold _ _ h := coldOf_consumed c h

end Sys2Proof.Machine

open Sys2Proof Sys2Proof.Machine

/-- Settles O58: the slots' law and the slots consumed so far, taken together, are kept by every command. -/
theorem consumedSlotsStayConsumed : Obligations.ConsumedSlotsStayConsumed := by
  intro s s' h hstep
  exact step_keepsLaw (law := fun x => x.cal.consumedFrom s.cal) (fun _ _ h => h) (fun _ _ h => h)
    (fun c _ _ h hex => (consumed_keepsLaw s.cal c).exec h hex) ⟨h, fun _ hn => hn⟩ hstep

/-- Settles O59: no event and no other request reaches the working copy and the values loaded. -/
theorem workingCopyChangesOnlyByWriteAndColdStart : Obligations.WorkingCopyChangesOnlyByWriteAndColdStart := by
  intro c s s' hex
  by_cases hc : isColdStart c
  · exact ⟨fun _ => .inr hc, fun _ => hc⟩
  by_cases hw : ∃ t, c = .calibrationWrite t
  · obtain ⟨t, rfl⟩ := hw
    obtain ⟨hg, hk⟩ := exec_calibrationWrite_loaded hex
    exact ⟨fun _ => .inl ⟨t, rfl⟩, fun h => (h.elim (absurd hg) (absurd hk))⟩
  · have same := exec_sameCopy hex (fun t h => hw ⟨t, h⟩) hc
    exact ⟨fun h => absurd same.working h, fun h => (h.elim (absurd same.loadedGen) (absurd same.loadedCheck))⟩

end

section
/-! # Proofs: what the blocks do to the control link (R7, R13) -/

namespace Sys2Proof.Machine

/-- What the blocks do to the control link: they post notices and set the part mode, and nothing else. -/
inductive Cli.PostsTo (c : Cli) : Cli → Prop
  | refl : Cli.PostsTo c c
  | post {d : Cli} (h : Cli.PostsTo c d) (now : Stamp) (source : Nat) (body : NoticeBody) : Cli.PostsTo c (d.post now source body)
  | mode {d : Cli} (h : Cli.PostsTo c d) (m : PartMode) : Cli.PostsTo c { d with mode := m }

theorem Cli.PostsTo.of_eq {c d : Cli} (h : d = c) : c.PostsTo d := h ▸ .refl

/-! ## One fact for each operation of the blocks -/

@[simp] theorem State.post_postsTo {c : Cli} {s : State} (h : c.PostsTo s.cli) (n : Nat) (b : NoticeBody) :
    c.PostsTo (s.post n b).cli := .post h _ _ _

variable {c0 : Cli} {s : State}

@[simp] theorem State.postLink_postsTo (h : c0.PostsTo s.cli) (i : Seat) : c0.PostsTo (s.postLink i).cli := by
  simp -implicitDefEqProofs [State.postLink, h]

@[simp] theorem State.postLevel_postsTo (h : c0.PostsTo s.cli) (i : Seat) : c0.PostsTo (s.postLevel i).cli := by
  simp -implicitDefEqProofs [State.postLevel, h]

@[simp] theorem State.postMode_postsTo (h : c0.PostsTo s.cli) (c : ModeCause) : c0.PostsTo (s.postMode c).cli := by
  simp -implicitDefEqProofs [State.postMode, h]

@[simp] theorem State.postChoice_postsTo (h : c0.PostsTo s.cli) (i : Seat) (p n : Nat) (a : MenuAction) (v : Nat) :
    c0.PostsTo (s.postChoice i p n a v).cli := by
  simp -implicitDefEqProofs [State.postChoice, h]

@[simp] theorem State.forwardKey_postsTo (h : c0.PostsTo s.cli) (i : Seat) (k : Key) (e : KeyEvent) :
    c0.PostsTo (s.forwardKey i k e).cli := by
  simp -implicitDefEqProofs [State.forwardKey, h]

@[simp] theorem State.endChime_postsTo (h : c0.PostsTo s.cli) (ch : Chime) (o : ChimeOutcome) :
    c0.PostsTo (s.endChime ch o).cli := by
  unfold State.endChime; split <;> simp -implicitDefEqProofs [h]

@[simp] theorem State.joinQueue_postsTo (h : c0.PostsTo s.cli) (ch : Chime) : c0.PostsTo ((s.joinQueue ch).1).cli := by
  unfold State.joinQueue; (repeat' split) <;> simp -implicitDefEqProofs [h]

@[simp] theorem State.preempted_postsTo (h : c0.PostsTo s.cli) (v : Option Playing) : c0.PostsTo (s.preempted v).cli := by
  unfold State.preempted; (repeat' split) <;> simp -implicitDefEqProofs [h] <;> (repeat' split) <;> simp -implicitDefEqProofs [h]

@[simp] theorem State.preempt_postsTo (h : c0.PostsTo s.cli) (ch : Chime) : c0.PostsTo (s.preempt ch).cli := by
  simp -implicitDefEqProofs [State.preempt, h]

@[simp] theorem State.arrive_postsTo (h : c0.PostsTo s.cli) (r : ChimeRequest) : c0.PostsTo ((s.arrive r).1).cli := by
  unfold State.arrive; (repeat' split) <;> simp -implicitDefEqProofs [h] <;> (repeat' split) <;> simp -implicitDefEqProofs [h]

@[simp] theorem State.click_postsTo (h : c0.PostsTo s.cli) (i : Seat) (p : Nat) : c0.PostsTo (s.click i p).cli := by
  simp -implicitDefEqProofs [State.click, h]

@[simp] theorem State.engageChime_postsTo (h : c0.PostsTo s.cli) : c0.PostsTo (s.engageChime).cli := by
  unfold State.engageChime; split <;> simp -implicitDefEqProofs [h]

@[simp] theorem State.faultChime_postsTo (h : c0.PostsTo s.cli) : c0.PostsTo (s.faultChime).cli := by
  simp -implicitDefEqProofs [State.faultChime, h]

@[simp] theorem State.judgePark_postsTo (h : c0.PostsTo s.cli) : c0.PostsTo (s.judgePark).cli := by
  unfold State.judgePark
  simp -implicitDefEqProofs
  (repeat' split) <;> simp -implicitDefEqProofs [h]

@[simp] theorem State.endAll_postsTo (h : c0.PostsTo s.cli) (l : List Chime) : c0.PostsTo (s.endAll l).cli := by
  induction l generalizing s with
  | nil => exact h
  | cons ch rest ih => exact ih (State.endChime_postsTo h ch .cancelled)

@[simp] theorem State.chimesStandby_postsTo (h : c0.PostsTo s.cli) : c0.PostsTo (s.chimesStandby).cli := by
  simp -implicitDefEqProofs [State.chimesStandby, h]

@[simp] theorem State.finish_postsTo (h : c0.PostsTo s.cli) (v : Voice) (ch : Chime) : c0.PostsTo (s.finish v ch).cli := by
  simp -implicitDefEqProofs [State.finish, h]

@[simp] theorem State.stepEnded_postsTo (h : c0.PostsTo s.cli) (v : Voice) : c0.PostsTo (s.stepEnded v).cli := by
  unfold State.stepEnded; (repeat' split) <;> simp -implicitDefEqProofs [h]

@[simp] theorem State.judgeFront_postsTo (h : c0.PostsTo s.cli) : c0.PostsTo (s.judgeFront).cli := by
  unfold State.judgeFront
  simp -implicitDefEqProofs
  (repeat' split) <;> simp -implicitDefEqProofs [h]

@[simp] theorem State.judgeRear_postsTo (h : c0.PostsTo s.cli) (i : Seat) : c0.PostsTo (s.judgeRear i).cli := by
  unfold State.judgeRear
  simp -implicitDefEqProofs
  (repeat' split) <;> simp -implicitDefEqProofs [h]

@[simp] theorem State.frontRouteTakesEffect_postsTo (h : c0.PostsTo s.cli) : c0.PostsTo (s.frontRouteTakesEffect).cli := by
  simp -implicitDefEqProofs [State.frontRouteTakesEffect, h]

@[simp] theorem State.rearRouteTakesEffect_postsTo (h : c0.PostsTo s.cli) (i : Seat) :
    c0.PostsTo (s.rearRouteTakesEffect i).cli := by
  simp -implicitDefEqProofs [State.rearRouteTakesEffect, h]

@[simp] theorem State.setFilmLock_postsTo (h : c0.PostsTo s.cli) (b : Bool) : c0.PostsTo (s.setFilmLock b).cli := by
  unfold State.setFilmLock; split <;> simp -implicitDefEqProofs [h]

@[simp] theorem State.frontFrame_postsTo (h : c0.PostsTo s.cli) : c0.PostsTo (s.frontFrame).cli := by
  simp -implicitDefEqProofs [State.frontFrame, h]

@[simp] theorem State.rearFrame_postsTo (h : c0.PostsTo s.cli) (i : Seat) : c0.PostsTo (s.rearFrame i).cli := by
  unfold State.rearFrame; split <;> simp -implicitDefEqProofs [h]

@[simp] theorem State.outputFrame_postsTo (h : c0.PostsTo s.cli) (o : Output) : c0.PostsTo (s.outputFrame o).cli := by
  unfold State.outputFrame; (repeat' split) <;> simp -implicitDefEqProofs [h]

@[simp] theorem State.startRear_postsTo (h : c0.PostsTo s.cli) (i : Seat) : c0.PostsTo (s.startRear i).cli := by
  simp -implicitDefEqProofs [State.startRear, h]

@[simp] theorem State.stopRear_postsTo (h : c0.PostsTo s.cli) (i : Seat) : c0.PostsTo (s.stopRear i).cli := by
  simp -implicitDefEqProofs [State.stopRear, h]

@[simp] theorem State.compositorStandby_postsTo (h : c0.PostsTo s.cli) : c0.PostsTo (s.compositorStandby).cli := by
  simp -implicitDefEqProofs [State.compositorStandby, h]

@[simp] theorem State.compositorWarm_postsTo (h : c0.PostsTo s.cli) : c0.PostsTo (s.compositorWarm).cli := by
  unfold State.compositorWarm
  have front := State.judgeFront_postsTo (c0 := c0) (s := ((s.setFront (s.cmp.front.warm (calRoute s.image 1))).setRearRow .s1
    ((s.rearRow .s1).warm (calRoute s.image 2))).setRearRow .s2 ((s.rearRow .s2).warm (calRoute s.image 3))) h
  exact State.judgeRear_postsTo (s := State.judgeRearBanner _ _) (State.judgeRear_postsTo (s := State.judgeFrontBanner _) front .s1) .s2

@[simp] theorem State.install_postsTo (h : c0.PostsTo s.cli) : c0.PostsTo (s.install).cli := by
  unfold State.install; (repeat' split) <;> simp -implicitDefEqProofs [h] <;> (repeat' split) <;> simp -implicitDefEqProofs [h]

@[simp] theorem State.computationDone_postsTo (h : c0.PostsTo s.cli) : c0.PostsTo (s.computationDone).cli := by
  unfold State.computationDone; (repeat' split) <;> simp -implicitDefEqProofs [h] <;> (repeat' split) <;> simp -implicitDefEqProofs [h]

@[simp] theorem State.lockToGuide_postsTo (h : c0.PostsTo s.cli) (b : Bool) : c0.PostsTo (s.lockToGuide b).cli := by
  unfold State.lockToGuide; split <;> simp -implicitDefEqProofs [h]

@[simp] theorem State.frameToGuide_postsTo (h : c0.PostsTo s.cli) (l : Lock) : c0.PostsTo (s.frameToGuide l).cli := by
  unfold State.frameToGuide; split <;> simp -implicitDefEqProofs [h]

@[simp] theorem State.lockChanged_postsTo (h : c0.PostsTo s.cli) (f : Feed) (l : Lock) : c0.PostsTo (s.lockChanged f l).cli := by
  unfold State.lockChanged; split <;> simp -implicitDefEqProofs [h]

@[simp] theorem State.clearPort_postsTo (h : c0.PostsTo s.cli) (f : Feed) (b : Bool) : c0.PostsTo (s.clearPort f b).cli := by
  unfold State.clearPort
  simp -implicitDefEqProofs
  (repeat' split) <;> simp -implicitDefEqProofs [h]

@[simp] theorem State.disablePort_postsTo (h : c0.PostsTo s.cli) (f : Feed) : c0.PostsTo (s.disablePort f).cli := by
  simp -implicitDefEqProofs [State.disablePort, h]

@[simp] theorem State.judgeCameraPower_postsTo (h : c0.PostsTo s.cli) : c0.PostsTo (s.judgeCameraPower).cli := by
  unfold State.judgeCameraPower
  simp -implicitDefEqProofs
  (repeat' split) <;> simp -implicitDefEqProofs [h]

@[simp] theorem State.disableFeeds_postsTo (h : c0.PostsTo s.cli) : c0.PostsTo (s.disableFeeds).cli :=
  State.disablePort_postsTo (State.disablePort_postsTo (State.disablePort_postsTo h .uif) .ff1) .ff2

@[simp] theorem State.feedsWarm_postsTo (h : c0.PostsTo s.cli) : c0.PostsTo (s.feedsWarm).cli :=
  State.clearPort_postsTo (State.clearPort_postsTo (State.clearPort_postsTo h .uif _) .ff1 _) .ff2 _

@[simp] theorem State.setPending_postsTo (h : c0.PostsTo s.cli) (o : Output) (x : Source) :
    c0.PostsTo (s.setPending o x).cli := by
  unfold State.setPending; (repeat' split) <;> simp -implicitDefEqProofs [h] <;> (repeat' split) <;> simp -implicitDefEqProofs [h]

@[simp] theorem State.setPreview_postsTo (h : c0.PostsTo s.cli) (b : Bool) : c0.PostsTo (s.setPreview b).cli := by
  simp -implicitDefEqProofs [State.setPreview, h]

@[simp] theorem State.volumePress_postsTo (h : c0.PostsTo s.cli) (i : Seat) (d : Dir) : c0.PostsTo (s.volumePress i d).cli := by
  unfold State.volumePress
  simp -implicitDefEqProofs
  (repeat' split) <;> simp -implicitDefEqProofs [h]

@[simp] theorem State.brightPress_postsTo (h : c0.PostsTo s.cli) (i : Seat) (d : Dir) : c0.PostsTo (s.brightPress i d).cli := by
  unfold State.brightPress
  simp -implicitDefEqProofs
  (repeat' split) <;> simp -implicitDefEqProofs [h]

@[simp] theorem State.releaseKey_postsTo (h : c0.PostsTo s.cli) (i : Seat) (q : Bool) : c0.PostsTo (s.releaseKey i q).cli := by
  unfold State.releaseKey
  simp -implicitDefEqProofs
  (repeat' split) <;> simp -implicitDefEqProofs [h]

@[simp] theorem State.linkFellBack_postsTo (h : c0.PostsTo s.cli) (i : Seat) (q : Bool) :
    c0.PostsTo (s.linkFellBack i q).cli := by
  simp -implicitDefEqProofs [State.linkFellBack, h]

@[simp] theorem State.seatWarm_postsTo (h : c0.PostsTo s.cli) (i : Seat) : c0.PostsTo (s.seatWarm i).cli := by
  simp -implicitDefEqProofs [State.seatWarm, h]

@[simp] theorem State.closeMenu_postsTo (h : c0.PostsTo s.cli) (i : Seat) (r : CloseReason) (q : Bool) :
    c0.PostsTo (s.closeMenu i r q).cli := by
  unfold State.closeMenu; (repeat' split) <;> simp -implicitDefEqProofs [h]

@[simp] theorem State.screenLost_postsTo (h : c0.PostsTo s.cli) (i : Seat) (q : Bool) : c0.PostsTo (s.screenLost i q).cli := by
  simp -implicitDefEqProofs [State.screenLost, h]

@[simp] theorem State.menuClick_postsTo (h : c0.PostsTo s.cli) (i : Seat) (p : Nat) : c0.PostsTo (s.menuClick i p).cli := by
  unfold State.menuClick; split <;> simp -implicitDefEqProofs [h]

@[simp] theorem State.consumed_postsTo (h : c0.PostsTo s.cli) (i : Seat) (p : Nat) : c0.PostsTo (s.consumed i p).cli := by
  unfold State.consumed; split <;> simp -implicitDefEqProofs [h]

@[simp] theorem State.menuMove_postsTo (h : c0.PostsTo s.cli) (i : Seat) (p : Page) (e : Entry) (d : Dir) :
    c0.PostsTo (s.menuMove i p e d).cli := by
  unfold State.menuMove; (repeat' split) <;> simp -implicitDefEqProofs [h]

@[simp] theorem State.menuPop_postsTo (h : c0.PostsTo s.cli) (i : Seat) : c0.PostsTo (s.menuPop i).cli := by
  unfold State.menuPop; split <;> simp -implicitDefEqProofs [h]

@[simp] theorem State.menuOk_postsTo (h : c0.PostsTo s.cli) (i : Seat) (e : Entry) (n : Nat) (it : Item) :
    c0.PostsTo (s.menuOk i e n it).cli := by
  unfold State.menuOk; (repeat' split) <;> simp -implicitDefEqProofs [h]

@[simp] theorem State.menuSide_postsTo (h : c0.PostsTo s.cli) (i : Seat) (e : Entry) (n : Nat) (it : Item) (d : Dir) :
    c0.PostsTo (s.menuSide i e n it d).cli := by
  unfold State.menuSide; (repeat' split) <;> simp -implicitDefEqProofs [h] <;> (repeat' split) <;> simp -implicitDefEqProofs [h]

@[simp] theorem State.menuKey_postsTo (h : c0.PostsTo s.cli) (i : Seat) (k : Key) : c0.PostsTo (s.menuKey i k).cli := by
  unfold State.menuKey; (repeat' split) <;> simp -implicitDefEqProofs [h]

@[simp] theorem State.closeIfHolds_postsTo (h : c0.PostsTo s.cli) (id : Nat) (i : Seat) :
    c0.PostsTo (s.closeIfHolds id i).cli := by
  unfold State.closeIfHolds; split <;> simp -implicitDefEqProofs [h]

@[simp] theorem State.idleExpired_postsTo (h : c0.PostsTo s.cli) (i : Seat) : c0.PostsTo (s.idleExpired i).cli := by
  unfold State.idleExpired; split <;> simp -implicitDefEqProofs [h]

@[simp] theorem State.navigate_postsTo (h : c0.PostsTo s.cli) (i : Seat) (k : Key) (e : KeyEvent) :
    c0.PostsTo (s.navigate i k e).cli := by
  unfold State.navigate; split <;> simp -implicitDefEqProofs [h]

@[simp] theorem State.menuPress_postsTo (h : c0.PostsTo s.cli) (i : Seat) (e : KeyEvent) : c0.PostsTo (s.menuPress i e).cli := by
  unfold State.menuPress State.menuKeyOpen; cases s.rootPage i <;> simp -implicitDefEqProofs [h] <;> split <;> simp -implicitDefEqProofs [h]

@[simp] theorem State.dispatchKey_postsTo (h : c0.PostsTo s.cli) (i : Seat) (k : Key) (e : KeyEvent) :
    c0.PostsTo (s.dispatchKey i k e).cli := by
  unfold State.dispatchKey; split <;> simp -implicitDefEqProofs [h]

@[simp] theorem State.holdKey_postsTo (h : c0.PostsTo s.cli) (i : Seat) (k : Key) : c0.PostsTo (s.holdKey i k).cli := by
  unfold State.holdKey; split <;> simp -implicitDefEqProofs [h]

@[simp] theorem State.keyPress_postsTo (h : c0.PostsTo s.cli) (i : Seat) (k : Key) : c0.PostsTo (s.keyPress i k).cli := by
  simp -implicitDefEqProofs [State.keyPress, h]

@[simp] theorem State.keyRelease_postsTo (h : c0.PostsTo s.cli) (i : Seat) (k : Key) : c0.PostsTo (s.keyRelease i k).cli := by
  unfold State.keyRelease; split <;> simp -implicitDefEqProofs [h]

@[simp] theorem State.keyRepeat_postsTo (h : c0.PostsTo s.cli) (i : Seat) : c0.PostsTo (s.keyRepeat i).cli := by
  unfold State.keyRepeat; (repeat' split) <;> simp -implicitDefEqProofs [h]

@[simp] theorem State.keyEvent_postsTo (h : c0.PostsTo s.cli) (i : Seat) (k e : Nat) : c0.PostsTo (s.keyEvent i k e).cli := by
  unfold State.keyEvent; (repeat' split) <;> simp -implicitDefEqProofs [h]

@[simp] theorem State.fellBack_postsTo (h : c0.PostsTo s.cli) (i : Seat) (l : Link) (q : Bool) :
    c0.PostsTo (s.fellBack i l q).cli := by
  have ambient : c0.PostsTo (if l.ambient.isSome then s.takeAmbient i none else s).cli := by split <;> simp -implicitDefEqProofs [h]
  unfold State.fellBack
  dsimp only
  split
  · exact State.linkFellBack_postsTo (State.screenLost_postsTo (State.stopRear_postsTo ambient i) i q) i q
  · exact State.linkFellBack_postsTo ambient i q

@[simp] theorem State.enterRecovery_postsTo (h : c0.PostsTo s.cli) (i : Seat) (r : LinkReason) :
    c0.PostsTo (s.enterRecovery i r).cli := by
  simp -implicitDefEqProofs [State.enterRecovery, h]

@[simp] theorem State.detach_postsTo (h : c0.PostsTo s.cli) (i : Seat) (r : LinkReason) (q : Bool) :
    c0.PostsTo (s.detach i r q).cli := by
  unfold State.detach
  simp -implicitDefEqProofs
  (repeat' split) <;> simp -implicitDefEqProofs [h]

@[simp] theorem State.enterHailing_postsTo (h : c0.PostsTo s.cli) (i : Seat) : c0.PostsTo (s.enterHailing i).cli := by
  simp -implicitDefEqProofs [State.enterHailing, h]

@[simp] theorem State.judgeHailing_postsTo (h : c0.PostsTo s.cli) (i : Seat) : c0.PostsTo (s.judgeHailing i).cli := by
  unfold State.judgeHailing
  simp -implicitDefEqProofs
  (repeat' split) <;> simp -implicitDefEqProofs [h]

@[simp] theorem State.reoffer_postsTo (h : c0.PostsTo s.cli) (i : Seat) : c0.PostsTo (s.reoffer i).cli := by
  simp -implicitDefEqProofs [State.reoffer, h]

@[simp] theorem State.select_postsTo (h : c0.PostsTo s.cli) (i : Seat) : c0.PostsTo (s.select i).cli := by
  unfold State.select
  simp -implicitDefEqProofs
  (repeat' split) <;> simp -implicitDefEqProofs [h]

@[simp] theorem State.enterClaiming_postsTo (h : c0.PostsTo s.cli) (i : Seat) : c0.PostsTo (s.enterClaiming i).cli := by
  simp -implicitDefEqProofs [State.enterClaiming, h]

@[simp] theorem State.takeOffers_postsTo (h : c0.PostsTo s.cli) (i : Seat) (b : List Byte) :
    c0.PostsTo (s.takeOffers i b).cli := by
  unfold State.takeOffers; (repeat' split) <;> simp -implicitDefEqProofs [h]

@[simp] theorem State.enterStreaming_postsTo (h : c0.PostsTo s.cli) (i : Seat) (a : Agreement) :
    c0.PostsTo (s.enterStreaming i a).cli := by
  simp -implicitDefEqProofs [State.enterStreaming, h]

@[simp] theorem State.takeAccept_postsTo (h : c0.PostsTo s.cli) (i : Seat) : c0.PostsTo (s.takeAccept i).cli := by
  unfold State.takeAccept; (repeat' split) <;> simp -implicitDefEqProofs [h]

@[simp] theorem State.takeReject_postsTo (h : c0.PostsTo s.cli) (i : Seat) : c0.PostsTo (s.takeReject i).cli := by
  unfold State.takeReject; split <;> simp -implicitDefEqProofs [h]

@[simp] theorem State.keyEvents_postsTo (h : c0.PostsTo s.cli) (i : Seat) (b : List Byte) (e k : Nat) :
    c0.PostsTo (s.keyEvents i b e k).cli := by
  induction e generalizing s k with
  | zero => exact h
  | succ e ih => exact ih (State.keyEvent_postsTo h i _ _) _

@[simp] theorem State.takeReport_postsTo (h : c0.PostsTo s.cli) (i : Seat) (b : List Byte) :
    c0.PostsTo (s.takeReport i b).cli := by
  unfold State.takeReport
  simp -implicitDefEqProofs
  (repeat' split) <;> simp -implicitDefEqProofs [h]

@[simp] theorem State.takeStatus_postsTo (h : c0.PostsTo s.cli) (i : Seat) (b : List Byte) :
    c0.PostsTo (s.takeStatus i b).cli := by
  unfold State.takeStatus; split <;> simp -implicitDefEqProofs [h]

@[simp] theorem State.takeReset_postsTo (h : c0.PostsTo s.cli) (i : Seat) (r : LinkReason) :
    c0.PostsTo (s.takeReset i r).cli := by
  unfold State.takeReset; split <;> simp -implicitDefEqProofs [h]

@[simp] theorem State.takeMessage_postsTo (h : c0.PostsTo s.cli) (i : Seat) (m : List Byte) :
    c0.PostsTo (s.takeMessage i m).cli := by
  unfold State.takeMessage; (repeat' split) <;> simp -implicitDefEqProofs [h]

@[simp] theorem State.hailExpired_postsTo (h : c0.PostsTo s.cli) (i : Seat) : c0.PostsTo (s.hailExpired i).cli := by
  unfold State.hailExpired
  simp -implicitDefEqProofs
  (repeat' split) <;> simp -implicitDefEqProofs [h]

@[simp] theorem State.claimExpired_postsTo (h : c0.PostsTo s.cli) (i : Seat) : c0.PostsTo (s.claimExpired i).cli := by
  unfold State.claimExpired
  simp -implicitDefEqProofs
  (repeat' split) <;> simp -implicitDefEqProofs [h]

@[simp] theorem State.pollExpired_postsTo (h : c0.PostsTo s.cli) (i : Seat) : c0.PostsTo (s.pollExpired i).cli := by
  unfold State.pollExpired
  simp -implicitDefEqProofs
  (repeat' split) <;> simp -implicitDefEqProofs [h]

@[simp] theorem State.holdOffExpired_postsTo (h : c0.PostsTo s.cli) (i : Seat) : c0.PostsTo (s.holdOffExpired i).cli := by
  unfold State.holdOffExpired
  simp -implicitDefEqProofs
  (repeat' split) <;> simp -implicitDefEqProofs [h]

@[simp] theorem State.settleExpired_postsTo (h : c0.PostsTo s.cli) (i : Seat) : c0.PostsTo (s.settleExpired i).cli := by
  unfold State.settleExpired; split <;> simp -implicitDefEqProofs [h]

@[simp] theorem State.presenceGained_postsTo (h : c0.PostsTo s.cli) (i : Seat) : c0.PostsTo (s.presenceGained i).cli := by
  simp -implicitDefEqProofs [State.presenceGained, h]

@[simp] theorem State.presenceLost_postsTo (h : c0.PostsTo s.cli) (i : Seat) : c0.PostsTo (s.presenceLost i).cli := by
  simp -implicitDefEqProofs [State.presenceLost, h]

@[simp] theorem State.linkWarm_postsTo (h : c0.PostsTo s.cli) (i : Seat) : c0.PostsTo (s.linkWarm i).cli := by
  simp -implicitDefEqProofs [State.linkWarm, h]

@[simp] theorem State.reverseToCompositor_postsTo (h : c0.PostsTo s.cli) (c : Bool) :
    c0.PostsTo (s.reverseToCompositor c).cli := by
  unfold State.reverseToCompositor; split <;> simp -implicitDefEqProofs [h]

@[simp] theorem State.reverseChime_postsTo (h : c0.PostsTo s.cli) (a b : RvcState) : c0.PostsTo (s.reverseChime a b).cli := by
  unfold State.reverseChime; split <;> simp -implicitDefEqProofs [h]

@[simp] theorem State.changeRvc_postsTo (h : c0.PostsTo s.cli) (c : RvcChange) : c0.PostsTo (s.changeRvc c).cli := by
  have told (x : State) (hx : c0.PostsTo x.cli) (b : Bool) :
      c0.PostsTo ((x.reverseToCompositor b).judgeCameraPower.reverseToGuide b).cli := by
    rw [State.reverseToGuide_cli]
    exact State.judgeCameraPower_postsTo (State.reverseToCompositor_postsTo hx b)
  unfold State.changeRvc
  dsimp only
  refine State.reverseChime_postsTo ?_ _ _
  generalize (!decide (decide (s.rvc.state = RvcState.off) = decide (c.state = RvcState.off))) = crossed
  cases crossed with
  | true =>
    rw [if_pos rfl]
    refine State.judgePark_postsTo (told _ (State.post_postsTo ?_ _ _) _)
    split <;> simp -implicitDefEqProofs [h]
  | false =>
    rw [if_neg Bool.false_ne_true]
    refine told _ (State.post_postsTo ?_ _ _) _
    split <;> simp -implicitDefEqProofs [h]

@[simp] theorem State.enterCueing_postsTo (h : c0.PostsTo s.cli) : c0.PostsTo (s.enterCueing).cli := by
  simp -implicitDefEqProofs [State.enterCueing, h]

@[simp] theorem State.enterLive_postsTo (h : c0.PostsTo s.cli) (r : RvcReason) : c0.PostsTo (s.enterLive r).cli := by
  simp -implicitDefEqProofs [State.enterLive, h]

@[simp] theorem State.enterFault_postsTo (h : c0.PostsTo s.cli) (r : RvcReason) : c0.PostsTo (s.enterFault r).cli := by
  simp -implicitDefEqProofs [State.enterFault, h]

@[simp] theorem State.enterHeld_postsTo (h : c0.PostsTo s.cli) (v : HeldView) : c0.PostsTo (s.enterHeld v).cli := by
  simp -implicitDefEqProofs [State.enterHeld, h]

@[simp] theorem State.enterOff_postsTo (h : c0.PostsTo s.cli) (r : RvcReason) : c0.PostsTo (s.enterOff r).cli := by
  simp -implicitDefEqProofs [State.enterOff, h]

@[simp] theorem State.confirmedReverse_postsTo (h : c0.PostsTo s.cli) : c0.PostsTo (s.confirmedReverse).cli := by
  unfold State.confirmedReverse; (repeat' split) <;> simp -implicitDefEqProofs [h]

@[simp] theorem State.release_postsTo (h : c0.PostsTo s.cli) (v : HeldView) : c0.PostsTo (s.release v).cli := by
  unfold State.release; (repeat' split) <;> simp -implicitDefEqProofs [h]

@[simp] theorem State.confirmedNotReverse_postsTo (h : c0.PostsTo s.cli) : c0.PostsTo (s.confirmedNotReverse).cli := by
  unfold State.confirmedNotReverse; split <;> simp -implicitDefEqProofs [h]

@[simp] theorem State.takeLevel_postsTo (h : c0.PostsTo s.cli) (g : Gear) (e : Stamp) : c0.PostsTo (s.takeLevel g e).cli := by
  unfold State.takeLevel; split <;> simp -implicitDefEqProofs [h]

@[simp] theorem State.camLocked_postsTo (h : c0.PostsTo s.cli) : c0.PostsTo (s.camLocked).cli := by
  unfold State.camLocked; split <;> simp -implicitDefEqProofs [h]

@[simp] theorem State.camLeft_postsTo (h : c0.PostsTo s.cli) : c0.PostsTo (s.camLeft).cli := by
  unfold State.camLeft; split <;> simp -implicitDefEqProofs [h]

@[simp] theorem State.cueExpired_postsTo (h : c0.PostsTo s.cli) : c0.PostsTo (s.cueExpired).cli := by
  unfold State.cueExpired; split <;> simp -implicitDefEqProofs [h]

@[simp] theorem State.holdExpired_postsTo (h : c0.PostsTo s.cli) : c0.PostsTo (s.holdExpired).cli := by
  unfold State.holdExpired; split <;> simp -implicitDefEqProofs [h]

@[simp] theorem State.freshSpeed_postsTo (h : c0.PostsTo s.cli) : c0.PostsTo (s.freshSpeed).cli := by
  unfold State.freshSpeed; split <;> simp -implicitDefEqProofs [h]

@[simp] theorem State.handLock_postsTo (h : c0.PostsTo s.cli) (f : Feed) (a b : Lock) : c0.PostsTo (s.handLock f a b).cli := by
  unfold State.handLock; (repeat' split) <;> simp -implicitDefEqProofs [h]

@[simp] theorem State.frameStart_postsTo (h : c0.PostsTo s.cli) (f : Feed) : c0.PostsTo (s.frameStart f).cli := by
  unfold State.frameStart; (repeat' split) <;> simp -implicitDefEqProofs [h] <;> (repeat' split) <;> simp -implicitDefEqProofs [h]

@[simp] theorem State.frameWatchExpired_postsTo (h : c0.PostsTo s.cli) (f : Feed) : c0.PostsTo (s.frameWatchExpired f).cli := by
  unfold State.frameWatchExpired
  simp -implicitDefEqProofs
  (repeat' split) <;> simp -implicitDefEqProofs [h]

@[simp] theorem State.speedToCompositor_postsTo (h : c0.PostsTo s.cli) : c0.PostsTo (s.speedToCompositor).cli := by
  simp -implicitDefEqProofs [State.speedToCompositor, h]

@[simp] theorem State.deliver_postsTo (h : c0.PostsTo s.cli) (r : Report) : c0.PostsTo (s.deliver r).cli := by
  have speed : c0.PostsTo (if r.speed.isSome then s.speedToCompositor.freshSpeed else s).cli := by split <;> simp -implicitDefEqProofs [h]
  have steering : c0.PostsTo (if r.steering.isSome then (if r.speed.isSome then s.speedToCompositor.freshSpeed else s).trackingTrigger
      else (if r.speed.isSome then s.speedToCompositor.freshSpeed else s)).cli := by
    split
    · rw [State.trackingTrigger_cli]; exact speed
    · exact speed
  have dimmer : c0.PostsTo (match r.dimmer with
      | some d => (if r.steering.isSome then (if r.speed.isSome then s.speedToCompositor.freshSpeed else s).trackingTrigger
        else (if r.speed.isSome then s.speedToCompositor.freshSpeed else s)).takeDimmer d
      | none => (if r.steering.isSome then (if r.speed.isSome then s.speedToCompositor.freshSpeed else s).trackingTrigger
        else (if r.speed.isSome then s.speedToCompositor.freshSpeed else s))).cli := by
    split
    · rw [State.takeDimmer_cli]; exact steering
    · exact steering
  unfold State.deliver
  dsimp only
  split
  · exact State.judgePark_postsTo dimmer
  · exact dimmer

@[simp] theorem State.deliverStale_postsTo (h : c0.PostsTo s.cli) (w : Watched) : c0.PostsTo (s.deliverStale w).cli := by
  unfold State.deliverStale; split <;> simp -implicitDefEqProofs [h]

@[simp] theorem State.watchExpired_postsTo (h : c0.PostsTo s.cli) (w : Watched) : c0.PostsTo (s.watchExpired w).cli := by
  unfold State.watchExpired; split <;> simp -implicitDefEqProofs [h]

@[simp] theorem State.runEffects_postsTo (h : c0.PostsTo s.cli) : c0.PostsTo (s.runEffects).cli := by
  simp -implicitDefEqProofs [State.runEffects, h]

@[simp] theorem State.menusWarm_postsTo (h : c0.PostsTo s.cli) : c0.PostsTo (s.menusWarm).cli := by
  simp -implicitDefEqProofs [State.menusWarm, h]

@[simp] theorem State.programmed_postsTo (h : c0.PostsTo s.cli) (f : Option FaultyCells) : c0.PostsTo (s.programmed f).cli := by
  unfold State.programmed; (repeat' split) <;> simp -implicitDefEqProofs [h]

/-! ## The changes of part mode (R7, R9) -/

@[simp] theorem State.setMode_postsTo (h : c0.PostsTo s.cli) (m : PartMode) : c0.PostsTo (s.setMode m).cli := .mode h m

@[simp] theorem State.enterRun_postsTo (h : c0.PostsTo s.cli) (c : ModeCause) : c0.PostsTo (s.enterRun c).cli :=
  State.postMode_postsTo (State.runEffects_postsTo (State.setMode_postsTo h .run)) c

@[simp] theorem State.enterStandby_postsTo (h : c0.PostsTo s.cli) : c0.PostsTo s.enterStandby.cli := by
  have links := State.detach_postsTo (State.detach_postsTo (State.setMode_postsTo h .standby) .s1 .detached false) .s2 .detached false
  have menus := State.closeMenu_postsTo (State.closeMenu_postsTo links .s1 .standby false) .s2 .standby false
  have keys := State.releaseKey_postsTo (State.releaseKey_postsTo menus .s1 false) .s2 false
  exact State.postMode_postsTo (State.disableFeeds_postsTo (State.judgeCameraPower_postsTo (State.compositorStandby_postsTo
    (State.chimesStandby_postsTo keys)))) .request

@[simp] theorem State.reverseWake_postsTo (h : c0.PostsTo s.cli) (g : Gear) : c0.PostsTo (s.reverseWake g).cli := by
  unfold State.reverseWake
  split
  · exact State.enterRun_postsTo h .reverseWake
  · exact h

@[simp] theorem State.debounceExpired_postsTo (h : c0.PostsTo s.cli) : c0.PostsTo s.debounceExpired.cli := by
  unfold State.debounceExpired
  split
  · exact h
  next c _ =>
  split
  · exact State.takeLevel_postsTo (State.reverseWake_postsTo (s := s.setGear s.vin.gearRaw c.level none) h c.level) c.level c.edge
  · exact h

end Sys2Proof.Machine
end

section
/-! # Proofs: the laws of the control link (R3, R13, R15, R17) -/

namespace Sys2Proof.Machine

/-! ## What the posts of the blocks keep -/

theorem Cli.post_length_le {c : Cli} (h : c.board.length ≤ 24) (now : Stamp) (source : Nat) (body : NoticeBody) :
    (c.post now source body).board.length ≤ 24 := by
  cases hs : c.selection.getD body.kind.index false with
  | false => rwa [Cli.post_disabled now source hs]
  | true =>
    cases hm : c.board.any (·.sameMatter source body) with
    | true => rw [Cli.post_merges now hs hm]; simpa using h
    | false =>
      by_cases hr : c.board.length < 24
      · rw [Cli.post_joins now hs hm hr]; simpa using hr
      · rwa [Cli.post_drops now hs hm hr]

theorem Cli.PostsTo.boardLaw {c d : Cli} (h : c.PostsTo d) (hc : c.boardLaw) : d.boardLaw := by
  induction h with
  | refl => exact hc
  | post _ now source body ih => exact ⟨Cli.post_length_le ih.1 now source body, Cli.post_nodup now source body ih.2⟩
  | mode _ m ih => exact ih

/-- Of the control link the blocks change the board, the overflow indicator and the part mode. -/
structure Cli.samePlan (d c : Cli) : Prop where
  queue : d.queue = c.queue
  lineMap : d.lineMap = c.lineMap
  selection : d.selection = c.selection

theorem Cli.PostsTo.samePlan {c d : Cli} (h : c.PostsTo d) : d.samePlan c := by
  induction h with
  | refl => exact ⟨rfl, rfl, rfl⟩
  | @post d _ now source body ih =>
    obtain ⟨board, overflow, he⟩ := d.post_keeps now source body
    exact he ▸ ⟨ih.queue, ih.lineMap, ih.selection⟩
  | mode _ m ih => exact ⟨ih.queue, ih.lineMap, ih.selection⟩

theorem State.controlLaw_of_posts {s s' : State} (h : s.controlLaw) (hp : s.cli.PostsTo s'.cli) (hphase : s'.phase = s.phase) :
    s'.controlLaw := by
  obtain ⟨hb, hq, hl, hs⟩ := h
  have plan := hp.samePlan
  exact ⟨hp.boardLaw hb, by rw [Cli.queueLaw, plan.queue]; exact hq, by rw [plan.lineMap, hphase]; exact hl,
    by rw [plan.selection]; exact hs⟩

/-! ## The queue (R3, R4) -/

theorem answerOldest_length (l : List Request) (r : Reply) : (answerOldest l r).length = l.length := by
  induction l with
  | nil => rfl
  | cons q rest ih =>
    unfold answerOldest
    split
    · rfl
    · simp [ih]

/-- An ANSWERED entry stays ANSWERED. -/
theorem answerOldest_mem {l : List Request} {r : Reply} {x : Request} (h : x ∈ answerOldest l r) :
    x ∈ l ∨ ∃ q ∈ l, q.reply = none ∧ x = { q with reply := some r } := by
  induction l with
  | nil => exact .inl h
  | cons q rest ih =>
    unfold answerOldest at h
    split at h
    · next hq =>
      rcases List.mem_cons.1 h with h | h
      · exact .inr ⟨q, List.mem_cons_self, hq, h⟩
      · exact .inl (List.mem_cons_of_mem _ h)
    · rcases List.mem_cons.1 h with h | h
      · exact .inl (h ▸ List.mem_cons_self)
      · rcases ih h with h | ⟨y, hy, hn, he⟩
        · exact .inl (List.mem_cons_of_mem _ h)
        · exact .inr ⟨y, List.mem_cons_of_mem _ hy, hn, he⟩

/-- The oldest WAITING entry becomes ANSWERED, so that the answered entries stay the older ones. -/
theorem answerOldest_pairwise {l : List Request} (h : l.Pairwise (fun a b => b.reply.isSome → a.reply.isSome)) (r : Reply) :
    (answerOldest l r).Pairwise (fun a b => b.reply.isSome → a.reply.isSome) := by
  induction l with
  | nil => exact h
  | cons q rest ih =>
    obtain ⟨hq, hrest⟩ := List.pairwise_cons.1 h
    unfold answerOldest
    split
    · exact List.pairwise_cons.2 ⟨fun _ _ _ => rfl, hrest⟩
    · next x hx =>
      exact List.pairwise_cons.2 ⟨fun _ _ _ => by simp [hx], ih hrest⟩

theorem Cli.joinRequest_queueLaw {c : Cli} (h : c.queueLaw) {q : Request} (hq : q.reply = none) : (c.joinRequest q).queueLaw := by
  unfold Cli.joinRequest
  split
  · next hlen =>
    refine ⟨by simpa [Config.requestQueueSize] using hlen, List.pairwise_append.2 ⟨h.2, List.pairwise_singleton _ _, ?_⟩⟩
    intro a _ b hb hsome
    rw [List.mem_singleton.1 hb, hq] at hsome
    cases hsome
  · exact h

/-! ## The receiver, the frame check and the transmitter -/

theorem Cli.receive_samePlan (c : Cli) (now : Stamp) (b : Byte) (high : Bool) : (c.receive now b high).samePlan c := by
  unfold Cli.receive Cli.assemble
  (repeat' split) <;> exact ⟨rfl, rfl, rfl⟩

theorem Cli.receive_board (c : Cli) (now : Stamp) (b : Byte) (high : Bool) : (c.receive now b high).board = c.board := by
  unfold Cli.receive Cli.assemble
  (repeat' split) <;> rfl

theorem State.receiveByte_controlLaw {s : State} (h : s.controlLaw) (b : Byte) (high : Bool) : (s.receiveByte b high).controlLaw := by
  obtain ⟨hb, hq, hl, hs⟩ := h
  have plan := s.cli.receive_samePlan s.timebase b high
  have board := s.cli.receive_board s.timebase b high
  exact ⟨by rw [State.receiveByte, Cli.boardLaw, board]; exact hb, by rw [State.receiveByte, Cli.queueLaw, plan.queue]; exact hq,
    by rw [State.receiveByte, plan.lineMap]; exact hl, by rw [State.receiveByte, plan.selection]; exact hs⟩

theorem State.byteWatchExpired_controlLaw {s : State} (h : s.controlLaw) : s.byteWatchExpired.controlLaw := by
  unfold State.byteWatchExpired
  split
  · exact h
  split
  · exact h
  · exact h

theorem State.checkFrame_controlLaw {s : State} (h : s.controlLaw) : s.checkFrame.controlLaw := by
  obtain ⟨hb, hq, hl, hs⟩ := h
  unfold State.checkFrame
  split
  · exact ⟨hb, hq, hl, hs⟩
  next f rest _ =>
  dsimp only
  split
  · have hjoin := Cli.joinRequest_queueLaw (c := { s.cli with complete := rest }) hq (q := requestOf f) rfl
    refine ⟨?_, hjoin, ?_, ?_⟩ <;> unfold Cli.joinRequest <;> split <;> assumption
  · exact ⟨hb, hq, hl, hs⟩

theorem State.answer_controlLaw {s : State} (h : s.controlLaw) (r : Reply) : (s.answer r).controlLaw := by
  obtain ⟨hb, ⟨hn, hq⟩, hl, hs⟩ := h
  exact ⟨hb, ⟨(answerOldest_length _ _).trans_le hn, answerOldest_pairwise hq r⟩, hl, hs⟩

theorem State.dispatchUnknown_controlLaw {s : State} (h : s.controlLaw) : s.dispatchUnknown.controlLaw := by
  unfold State.dispatchUnknown
  split
  · exact h
  split
  · exact h
  · exact State.answer_controlLaw h _

/-- R6, R14: the frame that begins takes at most the oldest notice off the board. -/
theorem Cli.sendNext_board (c : Cli) (now : Stamp) : (c.sendNext now).board = c.board ∨ (c.sendNext now).board = c.board.tail := by
  unfold Cli.sendNext
  (repeat' split) <;> simp_all [Cli.beginRefusal, Cli.beginReply, Cli.beginNotice, Cli.beginFrame]

theorem Cli.sendNext_boardLaw {c : Cli} (h : c.boardLaw) (now : Stamp) : (c.sendNext now).boardLaw := by
  rcases c.sendNext_board now with he | he
  · rw [Cli.boardLaw, he]; exact h
  · rw [Cli.boardLaw, he, List.map_tail]
    exact ⟨by simpa using Nat.le_succ_of_le h.1, h.2.sublist (List.tail_sublist _)⟩

theorem State.settle_controlLaw {s : State} (h : s.controlLaw) : s.settle.controlLaw := by
  obtain ⟨hb, hq, hl, hs⟩ := h
  exact ⟨Cli.sendNext_boardLaw hb _, by simpa [Cli.queueLaw] using hq, by simpa using hl, by simpa using hs⟩

/-! ## The warm restart (R12) and the start mode (R170) -/

theorem State.warmRestart_postsTo (s : State) : s.cli.warm.PostsTo s.warmRestart.cli := by
  have menus : s.cli.warm.PostsTo ({ s with cli := s.cli.warm } : State).menusWarm.cli := State.menusWarm_postsTo .refl
  have seats : s.cli.warm.PostsTo ((({ s with cli := s.cli.warm } : State).menusWarm.seatWarm .s1).seatWarm .s2).cli := by
    rw [State.seatWarm_cli, State.seatWarm_cli]
    exact menus
  have links := State.linkWarm_postsTo (State.linkWarm_postsTo (State.feedsWarm_postsTo (State.compositorWarm_postsTo seats)) .s1) .s2
  refine State.post_postsTo ?_ 0 _
  simpa using links

theorem State.warmRestart_controlLaw {s : State} (h : s.controlLaw) : s.warmRestart.controlLaw := by
  obtain ⟨-, -, hl, hs⟩ := h
  have warm : ({ s with cli := s.cli.warm } : State).controlLaw :=
    ⟨⟨by simp [Cli.warm], by simp [Cli.warm]⟩, ⟨by simp [Cli.warm], by simp [Cli.warm]⟩, hl, hs⟩
  exact State.controlLaw_of_posts warm s.warmRestart_postsTo (by simp)

theorem State.frameEnded_controlLaw {s : State} (h : s.controlLaw) : s.frameEnded.controlLaw := by
  have sent (x : State) (hx : x.controlLaw) : x.replySent.controlLaw := by
    obtain ⟨hb, ⟨hn, hq⟩, hl, hs⟩ := hx
    unfold State.replySent
    split
    · exact ⟨hb, ⟨hn, hq⟩, hl, hs⟩
    next q rest he =>
    rw [he] at hn hq
    have left : ({ x with cli := { x.cli with queue := rest } } : State).controlLaw :=
      ⟨hb, ⟨Nat.le_of_succ_le hn, (List.pairwise_cons.1 hq).2⟩, hl, hs⟩
    dsimp only
    split
    · exact State.warmRestart_controlLaw left
    · exact left
  unfold State.frameEnded
  split
  · exact h
  split
  · dsimp only
    split
    · exact sent _ h
    · exact h
    · exact h
  · exact h

theorem State.startMode_phase (s : State) : s.startMode.phase = .running := by
  unfold State.startMode
  dsimp only
  split <;> simp

theorem State.startMode_controlLaw {s : State} (h : s.controlLaw) : s.startMode.controlLaw := by
  obtain ⟨hb, hq, -, hs⟩ := h
  have map : ({ s with phase := .running,
                       cli := { s.cli with mode := calStartMode s.image, lineMap := calLineMap s.image } } : State).controlLaw :=
    ⟨hb, hq, fun _ => by simp [calLineMap], hs⟩
  refine State.controlLaw_of_posts map ?_ s.startMode_phase
  have started := State.post_postsTo (c := { s.cli with mode := calStartMode s.image, lineMap := calLineMap s.image })
    (s := { s with phase := .running, cli := { s.cli with mode := calStartMode s.image, lineMap := calLineMap s.image } })
    .refl 0 (.start s.cli.startCause.notice)
  unfold State.startMode
  dsimp only
  split
  · exact State.runEffects_postsTo (s := State.watchGear _) started
  · exact started

/-! ## Every command -/

theorem eventOf_controlLaw (c : Instr) {s : State} (h : s.controlLaw) : (eventOf c s).controlLaw := by
  cases c with
  | receiveByte t b high => exact State.receiveByte_controlLaw h b high
  | interByteWatchExpiry t => exact State.byteWatchExpired_controlLaw h
  | candidateFrameComplete t => exact State.checkFrame_controlLaw h
  | unknownRequest t => exact State.dispatchUnknown_controlLaw h
  | transmitFrameEnd t => exact State.frameEnded_controlLaw h
  | _ => exact State.controlLaw_of_posts h (by simp -implicitDefEqProofs [eventOf, Cli.PostsTo.refl]) (by simp [eventOf])

theorem Acts.controlLaw {row : RequestRow} {p : List Byte} {s s' : State} {c : Instr} (hrow : requestRow c = some row)
    (hlength : row.lengthOk p = true) (ha : Acts p s c s') (h : s.controlLaw) : s'.controlLaw := by
  cases ha with
  | restart => exact h
  | noticeSelect t sel hsel =>
    obtain ⟨hb, hq, hl, -⟩ := h
    injection hrow with hrow
    subst hrow
    have hp : p.length = 13 := of_decide_eq_true hlength
    unfold readSelection at hsel
    split at hsel
    · injection hsel with hsel
      exact ⟨hb, hq, hl, by simp [← hsel, hp]⟩
    · cases hsel
  | statusLineMap t line setting =>
    obtain ⟨hb, hq, hl, hs⟩ := h
    exact ⟨hb, hq, fun hphase => by simpa using hl hphase, hs⟩
  | _ => exact State.controlLaw_of_posts h (by simp -implicitDefEqProofs [Cli.PostsTo.refl]) (by simp)

theorem coldOf_controlLaw (c : Instr) {s : State} (h : s.controlLaw) : (coldOf c s).controlLaw := by
  have hold (x : State) (cause : StartCause) : (x.hold cause).controlLaw :=
    ⟨⟨by simp [State.hold, State.coldBlocks, coldCli], by simp [State.hold, State.coldBlocks, coldCli]⟩,
      ⟨by simp [State.hold, State.coldBlocks, coldCli], by simp [State.hold, State.coldBlocks, coldCli]⟩,
      (fun hp => by cases hp), rfl⟩
  have load (x : State) (cause : StartCause) : (x.load cause).controlLaw :=
    ⟨⟨by simp [State.load, State.coldBlocks, coldCli], by simp [State.load, State.coldBlocks, coldCli]⟩,
      ⟨by simp [State.load, State.coldBlocks, coldCli], by simp [State.load, State.coldBlocks, coldCli]⟩,
      (fun hp => by cases hp), rfl⟩
  cases c with
  | powerOn t high =>
    cases high with
    | true => exact load s .powerOn
    | false => exact hold s .powerOn
  | resetNFall t =>
    simp only [coldOf, State.resetFalls]
    split
    · exact hold s .resetLine
    · exact h
  | resetNRise t =>
    simp only [coldOf, State.resetRises]
    split
    · exact h
    · exact load s _
  | _ => exact h

theorem recordOf_controlLaw (c : Instr) {s : State} (h : s.controlLaw) : (recordOf c s).controlLaw := by
  cases c with
  | _ => exact h

theorem controlLaw_keepsLaw (c : Instr) : KeepsLaw State.controlLaw State.controlLaw c where
  time _ _ h := h
  opens _ h := h
  settles _ h := State.settle_controlLaw h
  answers _ r h := State.answer_controlLaw h r
  event _ _ h := eventOf_controlLaw c h
  owner _ hrow _ _ hlength _ _ h _ ha := ha.controlLaw hrow hlength h
  record _ _ h := recordOf_controlLaw c h
  starts _ _ h := State.startMode_controlLaw h
  cold _ _ h := coldOf_controlLaw c h

end Sys2Proof.Machine

open Sys2Proof Sys2Proof.Machine

/-- Settles O50: the blocks do no more to the control link than post notices and set the part mode, and the link's own events and
requests keep its laws. -/
theorem controlLinkLawsAreKept : Obligations.ControlLinkLawsAreKept := by
  intro s s' h hstep
  exact step_keepsLaw (law := State.controlLaw) (fun _ _ h => h) (fun _ _ h => h)
    (fun c _ _ h hex => (controlLaw_keepsLaw c).exec h hex) h hstep

end

section
/-! # Proofs: the rear rows and the menu planes -/

namespace Sys2Proof.Machine

/-- What the judgements of the compositor leave of the rear outputs: the menu planes and whether a row has frame starts; no route becomes
pending. -/
structure Cmp.keepsRear (c' c : Cmp) : Prop where
  menuPlane : c'.menuPlane = c.menuPlane
  nextFrame : ∀ i, (c'.rear.get i).nextFrame.isSome = (c.rear.get i).nextFrame.isSome
  pending : ∀ i, (c'.rear.get i).pending.isSome = true → (c.rear.get i).pending.isSome = true

theorem Cmp.keepsRear_refl (c : Cmp) : c.keepsRear c := ⟨rfl, fun _ => rfl, fun _ => id⟩

theorem Cmp.keepsRear_trans {a b c : Cmp} (h : a.keepsRear b) (k : b.keepsRear c) : a.keepsRear c :=
  ⟨h.menuPlane.trans k.menuPlane, fun i => (h.nextFrame i).trans (k.nextFrame i), fun i hp => k.pending i (h.pending i hp)⟩

theorem Cmp.keepsRear_of_eq {c' c : Cmp} (hm : c'.menuPlane = c.menuPlane) (hr : c'.rear = c.rear) : c'.keepsRear c :=
  ⟨hm, fun i => by rw [hr], fun i h => by rwa [hr] at h⟩

variable {c0 : Cmp} {s : State}

@[simp] theorem State.setFront_keepsRear (h : s.cmp.keepsRear c0) (r : Row) : (s.setFront r).cmp.keepsRear c0 :=
  ⟨h.menuPlane, h.nextFrame, h.pending⟩

/-- A rear row that keeps whether it has frame starts, and that gets no pending route. -/
theorem State.setRearRow_keepsRear (h : s.cmp.keepsRear c0) {i : Seat} {r : Row}
    (hn : r.nextFrame.isSome = (s.rearRow i).nextFrame.isSome) (hp : r.pending.isSome = true → (s.rearRow i).pending.isSome = true) :
    (s.setRearRow i r).cmp.keepsRear c0 := by
  have row : (s.setRearRow i r).cmp.keepsRear s.cmp := by
    refine ⟨rfl, fun j => ?_, fun j => ?_⟩
    · cases i <;> cases j <;> first | exact hn | rfl
    · cases i <;> cases j <;> first | exact hp | exact id
  exact Cmp.keepsRear_trans row h

@[simp] theorem State.judgeGuidePlane_keepsRear (h : s.cmp.keepsRear c0) : s.judgeGuidePlane.cmp.keepsRear c0 :=
  ⟨h.menuPlane, h.nextFrame, h.pending⟩

@[simp] theorem State.judgeFrontBanner_keepsRear (h : s.cmp.keepsRear c0) : s.judgeFrontBanner.cmp.keepsRear c0 :=
  ⟨h.menuPlane, h.nextFrame, h.pending⟩

@[simp] theorem State.judgeRearBanner_keepsRear (h : s.cmp.keepsRear c0) (i : Seat) : (s.judgeRearBanner i).cmp.keepsRear c0 :=
  State.setRearRow_keepsRear h rfl id

@[simp] theorem State.startFrontFrames_keepsRear (h : s.cmp.keepsRear c0) : s.startFrontFrames.cmp.keepsRear c0 :=
  State.setFront_keepsRear h _

@[simp] theorem State.judgeRear_keepsRear (h : s.cmp.keepsRear c0) (i : Seat) : (s.judgeRear i).cmp.keepsRear c0 := by
  unfold State.judgeRear
  dsimp only
  split
  · exact h
  · exact State.judgeRearBanner_keepsRear (s := State.post (s.setRearRow i { s.rearRow i with effective := (s.rearRow i).routed, cause := .route })
      _ _) (State.setRearRow_keepsRear h rfl id) i

@[simp] theorem State.rearRouteTakesEffect_keepsRear (h : s.cmp.keepsRear c0) (i : Seat) :
    (s.rearRouteTakesEffect i).cmp.keepsRear c0 := by
  refine State.judgeRear_keepsRear (State.setRearRow_keepsRear h ?_ ?_) i <;> unfold Row.takePending <;> split <;> simp

@[simp] theorem State.judgeFront_keepsRear (h : s.cmp.keepsRear c0) : (s.judgeFront).cmp.keepsRear c0 := by
  unfold State.judgeFront
  simp -implicitDefEqProofs
  (repeat' split) <;> simp -implicitDefEqProofs [h]

@[simp] theorem State.frontRouteTakesEffect_keepsRear (h : s.cmp.keepsRear c0) : (s.frontRouteTakesEffect).cmp.keepsRear c0 := by
  simp -implicitDefEqProofs [State.frontRouteTakesEffect, h]

@[simp] theorem State.setFilmLock_keepsRear (h : s.cmp.keepsRear c0) (b : Bool) : (s.setFilmLock b).cmp.keepsRear c0 := by
  unfold State.setFilmLock
  split
  · exact h
  · exact State.judgeFront_keepsRear (s := { s with cmp := { s.cmp with filmLock := b } }) ⟨h.menuPlane, h.nextFrame, h.pending⟩

@[simp] theorem State.lockToCompositor_keepsRear (h : s.cmp.keepsRear c0) (f : Feed) : (s.lockToCompositor f).cmp.keepsRear c0 := by
  have banner (x : State) (hx : x.cmp.keepsRear c0) (i : Seat) :
      (if (x.rearRow i).effective.feed = some f then x.judgeRearBanner i else x).cmp.keepsRear c0 := by
    split
    · exact State.judgeRearBanner_keepsRear hx i
    · exact hx
  unfold State.lockToCompositor
  dsimp only
  split
  · exact State.judgeGuidePlane_keepsRear (banner _ (banner s h .s1) .s2)
  · exact banner _ (banner s h .s1) .s2

@[simp] theorem State.frontFrame_keepsRear (h : s.cmp.keepsRear c0) : (s.frontFrame).cmp.keepsRear c0 :=
  State.setFront_keepsRear (State.setFront_keepsRear (State.frontRouteTakesEffect_keepsRear h) _) _

@[simp] theorem State.install_keepsRear (h : s.cmp.keepsRear c0) : (s.install).cmp.keepsRear c0 := by
  unfold State.install
  split
  · exact h
  next set _ =>
  have installed : ({ s.cmp with guideSet := some set } : Cmp).keepsRear c0 := ⟨h.menuPlane, h.nextFrame, h.pending⟩
  dsimp only
  refine State.judgeGuidePlane_keepsRear ?_
  split <;> exact installed

@[simp] theorem State.computationDone_keepsRear (h : s.cmp.keepsRear c0) : (s.computationDone).cmp.keepsRear c0 := by
  unfold State.computationDone; (repeat' split) <;> simp -implicitDefEqProofs [h] <;> (repeat' split) <;> simp -implicitDefEqProofs [h]

@[simp] theorem State.lockToGuide_keepsRear (h : s.cmp.keepsRear c0) (b : Bool) : (s.lockToGuide b).cmp.keepsRear c0 := by
  unfold State.lockToGuide
  split <;> simp -implicitDefEqProofs [h]

@[simp] theorem State.frameToGuide_keepsRear (h : s.cmp.keepsRear c0) (l : Lock) : (s.frameToGuide l).cmp.keepsRear c0 := by
  unfold State.frameToGuide
  split <;> simp -implicitDefEqProofs [h]

@[simp] theorem State.lockChanged_keepsRear (h : s.cmp.keepsRear c0) (f : Feed) (l : Lock) : (s.lockChanged f l).cmp.keepsRear c0 := by
  unfold State.lockChanged
  split <;> simp -implicitDefEqProofs [h]

@[simp] theorem State.clearPort_keepsRear (h : s.cmp.keepsRear c0) (f : Feed) (b : Bool) : (s.clearPort f b).cmp.keepsRear c0 := by
  unfold State.clearPort
  simp -implicitDefEqProofs
  (repeat' split) <;> simp -implicitDefEqProofs [h]

@[simp] theorem State.disablePort_keepsRear (h : s.cmp.keepsRear c0) (f : Feed) : (s.disablePort f).cmp.keepsRear c0 := by
  simp -implicitDefEqProofs [State.disablePort, h]

@[simp] theorem State.judgeCameraPower_keepsRear (h : s.cmp.keepsRear c0) : (s.judgeCameraPower).cmp.keepsRear c0 := by
  unfold State.judgeCameraPower
  simp -implicitDefEqProofs
  (repeat' split) <;> simp -implicitDefEqProofs [h]

@[simp] theorem State.disableFeeds_keepsRear (h : s.cmp.keepsRear c0) : (s.disableFeeds).cmp.keepsRear c0 :=
  State.disablePort_keepsRear (State.disablePort_keepsRear (State.disablePort_keepsRear h .uif) .ff1) .ff2

@[simp] theorem State.feedsWarm_keepsRear (h : s.cmp.keepsRear c0) : (s.feedsWarm).cmp.keepsRear c0 :=
  State.clearPort_keepsRear (State.clearPort_keepsRear (State.clearPort_keepsRear h .uif _) .ff1 _) .ff2 _

@[simp] theorem State.setPreview_keepsRear (h : s.cmp.keepsRear c0) (b : Bool) : (s.setPreview b).cmp.keepsRear c0 :=
  State.judgeCameraPower_keepsRear (State.judgeFront_keepsRear (s := { s with cmp := { s.cmp with preview := b } })
    ⟨h.menuPlane, h.nextFrame, h.pending⟩)

@[simp] theorem State.setBanner_keepsRear (h : s.cmp.keepsRear c0) (o : Output) (b : Bool) : (s.setBanner o b).cmp.keepsRear c0 := by
  cases o with
  | fro => exact State.judgeFrontBanner_keepsRear (State.setFront_keepsRear h _)
  | ro i => exact State.judgeRearBanner_keepsRear (State.setRearRow_keepsRear h (i := i) (r := { s.rearRow i with hostBanner := b }) rfl id) i

@[simp] theorem State.compositorStandby_keepsRear (h : s.cmp.keepsRear c0) : (s.compositorStandby).cmp.keepsRear c0 :=
  State.setFront_keepsRear (State.frontRouteTakesEffect_keepsRear (s := { s with cmp := { s.cmp with preview := false } })
    ⟨h.menuPlane, h.nextFrame, h.pending⟩) _

@[simp] theorem State.compositorWarm_keepsRear (h : s.cmp.keepsRear c0) : (s.compositorWarm).cmp.keepsRear c0 := by
  have front := State.setFront_keepsRear h (s.cmp.front.warm (calRoute s.image 1))
  have first := State.setRearRow_keepsRear front (i := .s1) (r := (s.rearRow .s1).warm (calRoute s.image 2)) rfl (fun hp => by cases hp)
  have rows := State.setRearRow_keepsRear first (i := .s2) (r := (s.rearRow .s2).warm (calRoute s.image 3)) rfl (fun hp => by cases hp)
  have judged := State.judgeFrontBanner_keepsRear (State.judgeFront_keepsRear rows)
  exact State.judgeRearBanner_keepsRear (State.judgeRear_keepsRear (State.judgeRearBanner_keepsRear
    (State.judgeRear_keepsRear judged .s1) .s1) .s2) .s2

@[simp] theorem State.reverseToCompositor_keepsRear (h : s.cmp.keepsRear c0) (c : Bool) : (s.reverseToCompositor c).cmp.keepsRear c0 := by
  have view : ({ s.cmp with frontView := frontViewOf s.rvc.state s.rvc.heldView,
                            preview := s.cmp.preview && (!c || s.rvcOff) } : Cmp).keepsRear c0 := ⟨h.menuPlane, h.nextFrame, h.pending⟩
  unfold State.reverseToCompositor
  dsimp only
  refine State.judgeGuidePlane_keepsRear (State.judgeFrontBanner_keepsRear ?_)
  split
  · exact State.judgeFront_keepsRear view
  · exact view

@[simp] theorem State.changeRvc_keepsRear (h : s.cmp.keepsRear c0) (c : RvcChange) : (s.changeRvc c).cmp.keepsRear c0 := by
  have told (x : State) (hx : x.cmp.keepsRear c0) (b : Bool) :
      ((x.reverseToCompositor b).judgeCameraPower.reverseToGuide b).cmp.keepsRear c0 := by
    rw [State.reverseToGuide_cmp]
    exact State.judgeCameraPower_keepsRear (State.reverseToCompositor_keepsRear hx b)
  unfold State.changeRvc
  dsimp only
  rw [State.reverseChime_cmp]
  generalize (!decide (decide (s.rvc.state = RvcState.off) = decide (c.state = RvcState.off))) = crossed
  have judged (x : State) (hx : x.cmp.keepsRear c0) : (if crossed = true then x.judgePark else x).cmp.keepsRear c0 := by
    split
    · rw [State.judgePark_cmp]; exact hx
    · exact hx
  refine judged _ (told _ ?_ _)
  split <;> simp -implicitDefEqProofs [h]

@[simp] theorem State.speedToCompositor_keepsRear (h : s.cmp.keepsRear c0) : (s.speedToCompositor).cmp.keepsRear c0 := by
  simp -implicitDefEqProofs [State.speedToCompositor, h]

@[simp] theorem State.runEffects_keepsRear (h : s.cmp.keepsRear c0) : (s.runEffects).cmp.keepsRear c0 := by
  simp -implicitDefEqProofs [State.runEffects, h]

end Sys2Proof.Machine
end

section
/-! # Proofs: what the events of the part are made of -/

namespace Sys2Proof.Machine

/-! ## What a move leaves -/

/-- What the laws of the links, the seats, the menus, the chimes and the calibration speak of is as it was. -/
structure State.standsAs (s' s : State) : Prop where
  rsl : s'.rsl = s.rsl
  sct : s'.sct = s.sct
  store : s'.mnu.store = s.mnu.store
  ctx : s'.mnu.ctx = s.mnu.ctx
  chu : s'.chu = s.chu
  cal : s'.cal = s.cal
  rvc : s'.rvc.state = s.rvc.state
  rear : s'.cmp.keepsRear s.cmp

/-- A seat's record keeps its key, its volume and its offset, and at most loses the backlight value that waits. -/
structure SeatRec.standsAs (r' r : SeatRec) : Prop where
  held : r'.held = r.held
  forwarded : r'.forwarded = r.forwarded
  repeatTimer : r'.repeatTimer = r.repeatTimer
  volume : r'.volume = r.volume
  offset : r'.offset = r.offset
  target : r'.target = r.target
  next : r'.next = r.next ∨ r'.next = none

/-- A link keeps its state, its agreement and what was offered; commands at most leave its queue. -/
structure Link.standsAs (l' l : Link) : Prop where
  state : l'.state = l.state
  agreement : l'.agreement = l.agreement
  offers : l'.offers = l.offers
  claimed : l'.claimed = l.claimed
  inForce : l'.inForce = l.inForce
  cable : l'.cable = l.cable
  queue : (l'.queue.map (·.kind)).Sublist (l.queue.map (·.kind))

/-- A link that holds no agreement, claims nothing and has no commands. -/
structure Link.isClear (l : Link) : Prop where
  state : l.state ≠ .streaming ∧ l.state ≠ .claiming
  agreement : l.agreement = none
  queue : l.queue = []

/-- A link outside STREAMING goes on to another state outside STREAMING. -/
structure Link.goesOn (l' l : Link) : Prop where
  before : l.state ≠ .streaming
  after : l'.state ≠ .streaming
  agreement : l'.agreement = l.agreement
  queue : l'.queue = l.queue

/-- R121: a history that may take the place of an open menu's: no deeper than the menu may be, on pages that are present or that it
had already. -/
structure State.stackFits (s : State) (i : Seat) (stack : List Entry) : Prop where
  before : (s.ctx i).stack ≠ []
  after : stack ≠ []
  depth : stack.length ≤ 6 ∨ stack.length ≤ (s.ctx i).stack.length
  pages : ∀ e ∈ stack, (findPage s.mnu.store e.page).isSome = true ∨ ∃ d ∈ (s.ctx i).stack, d.page = e.page

/-- The moves that the events and requests of a running part are made of. Those that reach the reverse view, the feed ports or the
front output are made in `deep` events alone. -/
inductive State.MoveIn (deep : Prop) (s : State) : State → Prop
  | other (hd : deep) {s' : State} (k : s'.standsAs s) : State.MoveIn deep s s'
  | post (n : Nat) (b : NoticeBody) : State.MoveIn deep s (s.post n b)
  | roots (root : Two Nat) : State.MoveIn deep s { s with mnu := { s.mnu with root := root } }
  | forward (i : Seat) (k : Key) (ev : KeyEvent) (hh : (s.seat i).held.isSome = true) :
      State.MoveIn deep s (s.forwardKey i k ev)
  | volume (i : Seat) (d : Dir) : State.MoveIn deep s (s.volumePress i d)
  | bright (i : Seat) (d : Dir) : State.MoveIn deep s (s.brightPress i d)
  | release (i : Seat) (quiet : Bool) : State.MoveIn deep s (s.releaseKey i quiet)
  | hold (i : Seat) (k : Key) (hs : (s.link i).state = .streaming) :
      State.MoveIn deep s (s.setSeat i { s.seat i with held := some k, forwarded := false })
  | timer (i : Seat) (t : Option Stamp) (ht : t.isSome = true → (s.seat i).held.isSome = true) :
      State.MoveIn deep s (s.setSeat i { s.seat i with repeatTimer := t })
  | level (i : Seat) (v : Nat) (hv : v ≤ 60) :
      State.MoveIn deep s (s.setSeat i { s.seat i with volume := v })
  | seat (i : Seat) (r : SeatRec) (hr : r.standsAs (s.seat i)) : State.MoveIn deep s (s.setSeat i r)
  | retarget (i : Seat) : State.MoveIn deep s (s.recomputeTarget i)
  | handNext (i : Seat) (v : Nat) (hv : (s.seat i).next = some v) : State.MoveIn deep s (s.handBacklight i v)
  | dimmer (v : Nat) : State.MoveIn deep s { s with sct := { s.sct with dimmer := v } }
  | opens (i : Seat) (p : Page) (id : Nat) (hp : findPage s.mnu.store id = some p)
      (hs : (s.link i).state = .streaming ∨ (s.seat i).held.isSome = true) : State.MoveIn deep s (s.openMenu i p)
  | closes (i : Seat) (reason : CloseReason) (quiet : Bool) : State.MoveIn deep s (s.closeMenu i reason quiet)
  | idles (i : Seat) (ho : (s.ctx i).stack ≠ []) : State.MoveIn deep s (s.restartIdle i)
  | stack (i : Seat) (l : List Entry) (hl : s.stackFits i l) :
      State.MoveIn deep s (s.setCtx i { s.ctx i with stack := l })
  | item (page n : Nat) (it : Item) : State.MoveIn deep s (s.setStore (setItem s.mnu.store page n it))
  | put (p : Page) (hp : hasSpace s.mnu.store p = true) : State.MoveIn deep s (s.setStore (putPage s.mnu.store p))
  | remove (id : Nat) :
      State.MoveIn deep s
        (((s.setStore (s.mnu.store.filter (fun q => !decide (q.id = id)))).closeIfHolds id .s1).closeIfHolds id .s2)
  | clear :
      State.MoveIn deep s (((s.setStore []).closeMenu .s1 .pageRemoved false).closeMenu .s2 .pageRemoved false)
  | empties (hc : ∀ i, (s.ctx i).stack = []) (root : Two Nat) :
      State.MoveIn deep s { s with mnu := { s.mnu with store := [], root := root } }
  | record (i : Seat) (l : Link) (hl : l.standsAs (s.link i)) : State.MoveIn deep s (s.setLink i l)
  | command (i : Seat) (kind : CommandKind) (hk : ∀ v, kind ≠ .backlight v)
      (hs : (s.link i).state = .streaming) (hq : (s.link i).queue.length < 4) : State.MoveIn deep s (s.setLink i ((s.link i).append kind))
  | falls (i : Seat) (l : Link) (quiet : Bool) (hl : l.isClear) :
      State.MoveIn deep s (((s.setLink i l).postLink i).fellBack i (s.link i) quiet)
  | goesOn (i : Seat) (l : Link) (hl : l.goesOn (s.link i)) (hc : l.claimLaw) : State.MoveIn deep s (s.setLink i l)
  | streams (i : Seat) (a : Agreement) (hs : (s.link i).state = .claiming)
      (ha : (s.link i).agree = some a) : State.MoveIn deep s (s.enterStreaming i a)
  | routes (hd : deep) (i : Seat) (src : Source) : State.MoveIn deep s (s.setPending (.ro i) src)
  | arrives (r : ChimeRequest) (hr : r.origin ≠ .park) : State.MoveIn deep s (s.arrive r).1
  | parks : State.MoveIn deep s s.judgePark
  | removes (which : Chime → Bool) : State.MoveIn deep s (s.removeChime which)
  | chimesOff : State.MoveIn deep s s.chimesStandby
  | chimesWarm : State.MoveIn deep s s.chimesWarm
  | stepEnds (v : Voice) : State.MoveIn deep s (s.stepEnded v)
  | beeps : State.MoveIn deep s s.beepStarts
  | ducks (i : Seat) : State.MoveIn deep s (s.duckStep i)
  | pattern (slot : Nat) (p : Pattern) :
      State.MoveIn deep s { s with chu := { s.chu with table := s.chu.table.set slot p } }
  | frontLevel (v : Nat) (hv : v ≤ 60) :
      State.MoveIn deep s { s with chu := { s.chu with frontLevel := v } }
  | changes (hd : deep) (c : RvcChange) : State.MoveIn deep s (s.changeRvc c)
  | writes (hd : deep) (no index : Nat) (given v : Int) (hg : -2147483648 ≤ given ∧ given ≤ 2147483647)
      (ho : (fieldOffset no index).isSome = true) (hv : storedValue s.image no index given = some v) :
      State.MoveIn deep s (s.writeField no index v)
  | programs (n : SlotNo) : State.MoveIn deep s { s with cal := s.cal.startProgram n s.timebase }
  | programmed (fault : Option FaultyCells) : State.MoveIn deep s (s.programmed fault)

/-- One state comes of another by moves. -/
abbrev State.MovesIn (deep : Prop) : State → State → Prop := Relation.ReflTransGen (State.MoveIn deep)

abbrev State.Move : State → State → Prop := State.MoveIn True

abbrev State.Moves : State → State → Prop := State.MovesIn True

/-- The moves of the links, the menus, the seats and the chimes, which leave the reverse view, the feed ports and the front output. -/
abbrev State.Touches : State → State → Prop := State.MovesIn False

end Sys2Proof.Machine
end

section
/-! # Proofs: every event and every request is made of moves -/

namespace Sys2Proof.Machine

variable {deep : Prop}

theorem State.post_moves (s : State) (n : Nat) (b : NoticeBody) : s.MovesIn deep (s.post n b) := .single (.post n b)

/-! ## Menus (R123, R126 to R130) -/

theorem State.click_moves (s : State) (i : Seat) (pattern : Nat) : s.MovesIn deep (s.click i pattern) := .single (.arrives _ (fun h => by cases h))

theorem State.menuClick_moves (s : State) (i : Seat) (pattern : Nat) : s.MovesIn deep (s.menuClick i pattern) := by
  unfold State.menuClick
  split
  · exact s.click_moves i pattern
  · exact .refl

theorem State.consumed_moves (s : State) (i : Seat) (pattern : Nat) : s.MovesIn deep (s.consumed i pattern) := by
  unfold State.consumed
  split
  · next ho => exact .trans (.single (.idles i (by simpa [MenuContext.isOpen] using ho))) (State.menuClick_moves _ i pattern)
  · exact s.menuClick_moves i pattern

@[simp] theorem Page.newEntry_page (p : Page) : p.newEntry.page = p.id := rfl

@[simp] theorem Page.adjust_page (p : Page) (e : Entry) : (p.adjust e).page = e.page := rfl

@[simp] theorem Entry.rewindow_page (e : Entry) : e.rewindow.page = e.page := rfl

theorem findPage_id {store : List Page} {id : Nat} {p : Page} (h : findPage store id = some p) : p.id = id :=
  of_decide_eq_true (List.find?_some (p := fun q : Page => decide (q.id = id)) h)

/-- The top entry is replaced by one on the same page. -/
theorem State.stackFits_top {s : State} {i : Seat} {e e' : Entry} {rest : List Entry} (h : (s.ctx i).stack = e :: rest)
    (hp : e'.page = e.page) : s.stackFits i (e' :: rest) where
  before := by simp [h]
  after := by simp
  depth := .inr (by simp [h])
  pages x hx := .inr (by
    rw [h]
    rcases List.mem_cons.1 hx with rfl | hx
    · exact ⟨e, List.mem_cons_self, hp.symm⟩
    · exact ⟨x, List.mem_cons_of_mem _ hx, rfl⟩)

theorem State.menuMove_moves {s : State} {i : Seat} {e : Entry} {rest : List Entry} (h : (s.ctx i).stack = e :: rest) (p : Page) (dir : Dir) :
    s.MovesIn deep (s.menuMove i p e dir) := by
  have moved (f : Option Nat) : s.MovesIn deep (s.setTop i (Entry.rewindow { e with focus := f })) := by
    rw [State.setTop, h]
    exact .single (.stack i _ (State.stackFits_top h rfl))
  unfold State.menuMove
  split
  · exact .refl
  split
  · exact .refl
  · exact (moved _).trans (State.consumed_moves _ i 0)

theorem State.menuPop_moves (s : State) (i : Seat) : s.MovesIn deep (s.menuPop i) := by
  unfold State.menuPop
  split
  · exact .refl
  · exact .trans (.single (.closes i .back false)) (State.consumed_moves _ i 0)
  · next e below rest h =>
    have shown (e' : Entry) (hp : e'.page = below.page) : s.stackFits i (e' :: rest) :=
      { before := by simp [h], after := by simp, depth := .inr (by simp [h])
        pages := fun x hx => .inr (by
          rw [h]
          rcases List.mem_cons.1 hx with rfl | hx
          · exact ⟨below, by simp, hp.symm⟩
          · exact ⟨x, by simp [hx], rfl⟩) }
    refine .trans (.single (.stack i _ (shown _ ?_))) (State.consumed_moves _ i 0)
    split <;> simp

theorem State.menuOk_moves {s : State} {i : Seat} {e : Entry} {rest : List Entry} (h : (s.ctx i).stack = e :: rest) (n : Nat) (it : Item) :
    s.MovesIn deep (s.menuOk i e n it) := by
  unfold State.menuOk
  split
  · next target _ =>
    split
    · next p hp =>
      split
      · next hd =>
        have deeper : s.stackFits i (p.newEntry :: (s.ctx i).stack) :=
          { before := by simp [h], after := by simp, depth := .inl hd
            pages := fun x hx => by
              rcases List.mem_cons.1 hx with rfl | hx
              · exact .inl (by simp [findPage_id hp, hp])
              · exact .inr ⟨x, hx, rfl⟩ }
        exact .trans (.single (.stack i _ deeper)) (State.consumed_moves _ i 0)
      · exact s.consumed_moves i 1
    · exact s.consumed_moves i 1
  · exact .trans (s.post_moves _ _) (State.consumed_moves _ i 0)
  · exact .trans (.single (.item e.page n _)) (.trans (State.post_moves _ _ _) (State.consumed_moves _ i 0))
  · exact s.menuPop_moves i
  · exact .refl
  · exact .refl
  · exact .refl

theorem State.menuSide_moves (s : State) (i : Seat) (e : Entry) (n : Nat) (it : Item) (dir : Dir) : s.MovesIn deep (s.menuSide i e n it dir) := by
  unfold State.menuSide
  split
  · dsimp only
    split
    · exact .refl
    · exact .trans (.single (.item e.page n _)) (.trans (State.post_moves _ _ _) (State.consumed_moves _ i 0))
  · exact .trans (.single (.volume i dir)) (State.consumed_moves _ i 0)
  · exact .trans (.single (.bright i dir)) (State.consumed_moves _ i 0)
  · exact .refl
  · exact .refl
  · exact .refl
  · exact .refl

theorem State.menuKey_moves (s : State) (i : Seat) (k : Key) : s.MovesIn deep (s.menuKey i k) := by
  unfold State.menuKey
  split
  · exact .refl
  next e rest h =>
  split
  · exact s.menuPop_moves i
  · exact .trans (.single (.closes i .key false)) (State.consumed_moves _ i 0)
  split
  · exact .refl
  split
  · exact State.menuMove_moves h _ .up
  · exact State.menuMove_moves h _ .down
  · exact State.menuOk_moves h _ _
  · exact s.menuSide_moves i _ _ _ _
  · exact s.menuSide_moves i _ _ _ _
  · exact .refl

theorem State.rootPage_found {s : State} {i : Seat} {p : Page} (h : s.rootPage i = some p) : ∃ id, findPage s.mnu.store id = some p := by
  unfold State.rootPage at h
  split at h
  · cases h
  · exact ⟨_, h⟩

/-! ## Keys (R138 to R142) -/

theorem State.navigate_moves {s : State} {i : Seat} (h : (s.seat i).held.isSome = true) (k : Key) (ev : KeyEvent) :
    s.MovesIn deep (s.navigate i k ev) := by
  unfold State.navigate
  split
  · exact s.menuKey_moves i k
  · exact .single (.forward i k ev h)

theorem State.menuPress_moves {s : State} {i : Seat} (h : (s.seat i).held.isSome = true) (ev : KeyEvent) :
    s.MovesIn deep (s.menuPress i ev) := by
  unfold State.menuPress
  split
  · exact s.menuKey_moves i .menu
  split
  · next s' hs =>
    unfold State.menuKeyOpen at hs
    obtain ⟨p, hp, rfl⟩ := Option.map_eq_some_iff.1 hs
    obtain ⟨id, hid⟩ := State.rootPage_found hp
    exact .trans (.single (.opens i p id hid (.inr h))) (State.consumed_moves _ i 0)
  · exact .single (.forward i .menu ev h)

theorem State.dispatchKey_moves {s : State} {i : Seat} (h : (s.seat i).held.isSome = true) (k : Key) (ev : KeyEvent) :
    s.MovesIn deep (s.dispatchKey i k ev) := by
  cases k with
  | up | down | left | right | ok | back => exact State.navigate_moves h _ ev
  | menu => exact State.menuPress_moves h ev
  | volUp => exact .single (.volume i .up)
  | volDown => exact .single (.volume i .down)
  | brightUp => exact .single (.bright i .up)
  | brightDown => exact .single (.bright i .down)
  | playPause | next | previous => exact .single (.forward i _ ev h)

theorem State.holdKey_moves {s : State} {i : Seat} (h : (s.link i).state = .streaming) (k : Key) : s.MovesIn deep (s.holdKey i k) := by
  unfold State.holdKey
  split
  · exact .refl
  · exact .trans (.single (.release i false)) (.single (.hold i k (by simpa [State.link] using h)))

theorem State.holdKey_held (s : State) (i : Seat) (k : Key) : ((s.holdKey i k).seat i).held = some k := by
  unfold State.holdKey
  split
  · assumption
  · simp

/-! The held key stays while a press is worked. -/

theorem State.handBacklight_held (s : State) (i : Seat) (v : Nat) : ((s.handBacklight i v).seat i).held = (s.seat i).held := by
  unfold State.handBacklight
  rw [State.seat_setSeat_same]
  exact (SeatRec.handed_held _ _ _).1

theorem State.recomputeTarget_held (s : State) (i : Seat) : ((s.recomputeTarget i).seat i).held = (s.seat i).held := by
  unfold State.recomputeTarget
  dsimp only
  split
  · rw [State.handBacklight_held, State.seat_setSeat_same]
  · rw [State.seat_setSeat_same]

theorem State.volumePress_held (s : State) (i : Seat) (dir : Dir) : ((s.volumePress i dir).seat i).held = (s.seat i).held := by
  have posted (x : State) : (x.postLevel i).seat i = x.seat i := rfl
  unfold State.volumePress
  dsimp only
  rw [apply_ite (fun x : State => (x.seat i).held), posted, State.seat_setSeat_same, ite_self]

theorem State.brightPress_held (s : State) (i : Seat) (dir : Dir) : ((s.brightPress i dir).seat i).held = (s.seat i).held := by
  have posted (x : State) : (x.postLevel i).seat i = x.seat i := rfl
  unfold State.brightPress
  dsimp only
  split
  · rfl
  · rw [State.recomputeTarget_held, posted, State.seat_setSeat_same]

theorem State.menuSide_held (s : State) (i : Seat) (e : Entry) (n : Nat) (it : Item) (dir : Dir) :
    ((s.menuSide i e n it dir).seat i).held = (s.seat i).held := by
  unfold State.menuSide
  split
  · dsimp only
    split
    · rfl
    · simp [State.seat]
  · rw [State.seat, State.consumed_sct]
    exact s.volumePress_held i dir
  · rw [State.seat, State.consumed_sct]
    exact s.brightPress_held i dir
  all_goals rfl

theorem State.menuKey_held (s : State) (i : Seat) (k : Key) : ((s.menuKey i k).seat i).held = (s.seat i).held := by
  unfold State.menuKey
  (repeat' split) <;> simp [State.seat]
  · exact s.menuSide_held i _ _ _ _
  · exact s.menuSide_held i _ _ _ _

theorem State.forwardKey_held (s : State) (i : Seat) (k : Key) (ev : KeyEvent) : ((s.forwardKey i k ev).seat i).held = (s.seat i).held := by
  unfold State.forwardKey
  rw [State.seat_setSeat_same]

theorem State.dispatchKey_held (s : State) (i : Seat) (k : Key) (ev : KeyEvent) : ((s.dispatchKey i k ev).seat i).held = (s.seat i).held := by
  have navigates (k : Key) : ((s.navigate i k ev).seat i).held = (s.seat i).held := by
    unfold State.navigate
    split
    · exact s.menuKey_held i k
    · exact s.forwardKey_held i k ev
  cases k with
  | up | down | left | right | ok | back => exact navigates _
  | menu =>
    show ((s.menuPress i ev).seat i).held = _
    unfold State.menuPress
    split
    · exact s.menuKey_held i .menu
    split
    · next s' hs =>
      obtain ⟨p, -, rfl⟩ := Option.map_eq_some_iff.1 hs
      simp [State.seat]
    · exact s.forwardKey_held i .menu ev
  | volUp => exact s.volumePress_held i .up
  | volDown => exact s.volumePress_held i .down
  | brightUp => exact s.brightPress_held i .up
  | brightDown => exact s.brightPress_held i .down
  | playPause | next | previous => exact s.forwardKey_held i _ ev

theorem State.keyPress_moves {s : State} {i : Seat} (h : (s.link i).state = .streaming) (k : Key) : s.MovesIn deep (s.keyPress i k) := by
  have held : ((s.holdKey i k).seat i).held.isSome = true := by simp [State.holdKey_held]
  refine .trans (State.holdKey_moves h k) (.tail (State.dispatchKey_moves held k .press) (.timer i _ fun _ => ?_))
  rw [State.dispatchKey_held]
  exact held

theorem State.keyRelease_moves (s : State) (i : Seat) (k : Key) : s.MovesIn deep (s.keyRelease i k) := by
  unfold State.keyRelease
  split
  · exact .single (.release i false)
  · exact .refl

theorem State.keyRepeat_moves (s : State) (i : Seat) : s.MovesIn deep (s.keyRepeat i) := by
  unfold State.keyRepeat
  split
  · split
    · exact .refl
    · next k hk =>
      have held : (s.seat i).held.isSome = true := by simp [hk]
      refine .tail (State.dispatchKey_moves held k .repeat) (.timer i _ fun _ => ?_)
      rw [State.dispatchKey_held]
      exact held
  · exact .refl

theorem State.keyEvent_moves {s : State} {i : Seat} (h : (s.link i).state = .streaming) (key event : Nat) :
    s.MovesIn deep (s.keyEvent i key event) := by
  unfold State.keyEvent
  split
  · exact .refl
  next k _ =>
  split
  · exact State.keyPress_moves h k
  split
  · exact s.keyRelease_moves i k
  · exact .refl

theorem State.keyEvent_link_state (s : State) (i : Seat) (key event : Nat) (j : Seat) :
    ((s.keyEvent i key event).rsl.get j).state = (s.rsl.get j).state := by
  have presses (k : Key) : ((s.keyPress i k).rsl.get j).state = (s.rsl.get j).state := by
    unfold State.keyPress
    simp
  unfold State.keyEvent
  split
  · rfl
  split
  · exact presses _
  split <;> simp

theorem State.keyEvents_moves {s : State} {i : Seat} (h : (s.link i).state = .streaming) (body : List Byte) (e k : Nat) :
    s.MovesIn deep (s.keyEvents i body e k) := by
  induction e generalizing s k with
  | zero => exact .refl
  | succ e ih =>
    exact .trans (State.keyEvent_moves h _ _) (ih ((s.keyEvent_link_state i _ _ i).trans h) _)

end Sys2Proof.Machine
end

section
/-! # Proofs: the events of the links, as moves (R74 to R96) -/

namespace Sys2Proof.Machine

variable {deep : Prop}

/-! ## Selection (R79) -/

/-- What `Link.best` finds is what it was given, or an offer it admits, by its number. -/
theorem Link.best_found (l : Link) {os : List Offer} {k : Nat} {found : Option (Nat × Offer)} {n : Nat} {o : Offer}
    (h : l.best os k found = some (n, o)) : found = some (n, o) ∨ k ≤ n ∧ os[n - k]? = some o ∧ l.admits o = true := by
  induction os generalizing k found with
  | nil => exact .inl h
  | cons x rest ih =>
    unfold Link.best at h
    rcases ih h with hf | ⟨hk, ho, ha⟩
    · split at hf
      · split at hf
        · next hx =>
          obtain ⟨rfl, rfl⟩ := Prod.mk.inj (Option.some.inj hf)
          exact .inr ⟨le_rfl, by simp, (Bool.and_eq_true_iff.1 hx).1⟩
        · exact .inl hf
      · split at hf
        · next hx =>
          obtain ⟨rfl, rfl⟩ := Prod.mk.inj (Option.some.inj hf)
          exact .inr ⟨le_rfl, by simp, (Bool.and_eq_true_iff.1 hx).1⟩
        · exact .inl hf
    · have he : n - k = n - (k + 1) + 1 := by omega
      exact .inr ⟨by omega, by rw [he]; exact ho, ha⟩

theorem Link.admits_iff (l : Link) (o : Offer) : l.admits o = true ↔ o.rejected = false ∧ l.within o := by
  simp [Link.admits, and_assoc]

theorem Link.choose_within {l : Link} {n : Nat} (h : l.choose = some n) : 1 ≤ n ∧ ∃ o, l.offers[n - 1]? = some o ∧ l.within o := by
  obtain ⟨⟨m, o⟩, hb, rfl⟩ := Option.map_eq_some_iff.1 h
  rcases l.best_found hb with hf | ⟨hk, ho, ha⟩
  · cases hf
  · exact ⟨hk, o, ho, ((l.admits_iff o).1 ha).2⟩

/-- R79, R82: selection in a link that is to be in CLAIMING. -/
theorem State.select_moves {s : State} {i : Seat} {l : Link} (hl : l.goesOn (s.link i)) :
    s.MovesIn deep ((s.setLink i l).select i) := by
  obtain ⟨hb, ha, hg, hq⟩ := hl
  have twice (a b : Link) : (s.setLink i a).setLink i b = s.setLink i b := by cases i <;> rfl
  have link : (s.setLink i l).link i = l := by cases i <;> rfl
  unfold State.select
  rw [link]
  dsimp only
  split
  · next n hn =>
    rw [twice]
    obtain ⟨h1, o, ho, hw⟩ := Link.choose_within hn
    exact .single (.goesOn i _ ⟨hb, ha, hg, hq⟩ (fun _ => ⟨n, rfl, h1, o, ho, hw⟩))
  · rw [twice]
    have idle : s.MovesIn deep (s.setLink i { l with cable := calCable (s.setLink i l).image i, claimed := none, claimTimer := none, state := .noMode }) :=
      .single (.goesOn i _ ⟨hb, by simp, hg, hq⟩ (fun h => by cases h))
    exact idle.trans (State.post_moves _ _ _)

/-- R79, R93: a link that has had its offers enters CLAIMING. -/
theorem State.enterClaiming_moves {s : State} {i : Seat} (h : (s.link i).state ≠ .streaming) : s.MovesIn deep (s.enterClaiming i) := by
  have commute (a : Link) : (s.setLink i a).postLink i = (s.post (seatNo i) (.link a.state a.reason)).setLink i a := by cases i <;> rfl
  unfold State.enterClaiming
  dsimp only
  rw [commute]
  exact .trans (s.post_moves _ _) (State.select_moves ⟨h, by simp, rfl, rfl⟩)

/-! ## Seat control's answers -/

theorem State.takeAmbient_moves (s : State) (i : Seat) (level : Option Nat) : s.MovesIn deep (s.takeAmbient i level) :=
  .trans (.single (.seat i { s.seat i with ambient := level } ⟨rfl, rfl, rfl, rfl, rfl, rfl, .inl rfl⟩)) (.single (.retarget i))

theorem State.takeDimmer_moves (s : State) (level : Nat) : s.MovesIn deep (s.takeDimmer level) :=
  .trans (.single (.dimmer level)) (.trans (.single (.retarget .s1)) (.single (.retarget .s2)))

theorem State.commandRemoved_moves (s : State) (i : Seat) : s.MovesIn deep (s.commandRemoved i) := by
  unfold State.commandRemoved
  split
  · exact .refl
  · next v hv => exact .single (.handNext i v hv)

/-! ## Changes of state (R75 to R77, R89, R91, R92) -/

theorem State.enterRecovery_moves (s : State) (i : Seat) (reason : LinkReason) : s.MovesIn deep (s.enterRecovery i reason) :=
  .single (.falls i _ false ⟨⟨by simp, by simp⟩, rfl, rfl⟩)

theorem State.detach_moves (s : State) (i : Seat) (reason : LinkReason) (quiet : Bool) : s.MovesIn deep (s.detach i reason quiet) := by
  unfold State.detach
  dsimp only
  split
  · exact .refl
  · exact .single (.falls i _ quiet ⟨⟨by simp [Link.detached], by simp [Link.detached]⟩, rfl, rfl⟩)

theorem State.reoffer_moves (s : State) (i : Seat) : s.MovesIn deep (s.reoffer i) :=
  .single (.falls i _ false ⟨⟨by simp [Link.hailing], by simp [Link.hailing]⟩, rfl, rfl⟩)

theorem State.enterHailing_moves {s : State} {i : Seat} (h : (s.link i).state ≠ .streaming) : s.MovesIn deep (s.enterHailing i) :=
  .trans (.single (.goesOn i ((s.link i).hailing s.timebase) ⟨h, by simp [Link.hailing], rfl, rfl⟩
    (fun hc => by simp [Link.hailing] at hc))) (State.post_moves _ _ _)

theorem State.judgeHailing_moves (s : State) (i : Seat) : s.MovesIn deep (s.judgeHailing i) := by
  unfold State.judgeHailing
  dsimp only
  split
  · next h => exact State.enterHailing_moves (by simp [h.1])
  · exact .refl

/-! ## What a link takes in its states -/

/-- A link whose record keeps all the laws speak of. -/
theorem State.setLink_moves {s : State} {i : Seat} {l : Link} (h : l.standsAs (s.link i)) : s.MovesIn deep (s.setLink i l) :=
  .single (.record i l h)

theorem State.takeOffers_moves (s : State) (i : Seat) (body : List Byte) : s.MovesIn deep (s.takeOffers i body) := by
  unfold State.takeOffers
  split
  · next h =>
    split
    · exact s.enterRecovery_moves i _
    · next os d _ =>
      have link : (s.setLink i { s.link i with offers := os, descriptor := some d, readPos := 0 }).link i
          = { s.link i with offers := os, descriptor := some d, readPos := 0 } := by cases i <;> rfl
      have offered : s.MovesIn deep (s.setLink i { s.link i with offers := os, descriptor := some d, readPos := 0 }) :=
        .single (.goesOn i _ ⟨by simp [h.2], by simp [h.2], rfl, rfl⟩ (fun hc => by simp [h.2] at hc))
      exact offered.trans (State.enterClaiming_moves (by simp [link, h.2]))
  · exact .refl

theorem State.takeAccept_moves (s : State) (i : Seat) : s.MovesIn deep (s.takeAccept i) := by
  unfold State.takeAccept
  split
  · next h =>
    split
    · exact .refl
    · next a ha => exact .single (.streams i a h ha)
  · exact .refl

theorem Link.rejectClaimed_keeps (l : Link) : ∃ offers, l.rejectClaimed = { l with offers := offers } := by
  unfold Link.rejectClaimed
  split <;> exact ⟨_, rfl⟩

theorem State.takeReject_moves (s : State) (i : Seat) : s.MovesIn deep (s.takeReject i) := by
  unfold State.takeReject
  split
  · next h =>
    obtain ⟨offers, he⟩ := (s.link i).rejectClaimed_keeps
    rw [he]
    exact State.select_moves ⟨by simp [h], by simp [h], rfl, rfl⟩
  · exact .refl

theorem State.takeAck_moves (s : State) (i : Seat) (ack : Bool) : s.MovesIn deep (s.takeAck i ack) := by
  unfold State.takeAck
  split
  · exact .trans (State.setLink_moves (by exact ⟨rfl, rfl, rfl, rfl, rfl, rfl, (List.tail_sublist _).map _⟩)) (State.commandRemoved_moves _ i)
  · exact .refl

theorem State.takeAmbientLevel_moves (s : State) (i : Seat) (level : Option Nat) : s.MovesIn deep (s.takeAmbientLevel i level) := by
  unfold State.takeAmbientLevel
  split
  · exact .refl
  · exact .trans (State.setLink_moves (by exact ⟨rfl, rfl, rfl, rfl, rfl, rfl, .refl _⟩)) (State.takeAmbient_moves _ i level)

theorem State.link_setLink_state {s : State} {i : Seat} {l : Link} (h : l.state = (s.link i).state) (j : Seat) :
    ((s.setLink i l).link j).state = (s.link j).state := State.setLink_link_state h j

theorem State.takeAck_link_state (s : State) (i : Seat) (ack : Bool) (j : Seat) : ((s.takeAck i ack).link j).state = (s.link j).state := by
  unfold State.takeAck
  split
  · unfold State.commandRemoved
    split
    · exact State.link_setLink_state (by rfl) j
    · exact (State.handBacklight_link_state _ i _ j).trans (State.link_setLink_state (by rfl) j)
  · rfl

theorem State.takeAmbientLevel_link_state (s : State) (i : Seat) (level : Option Nat) (j : Seat) :
    ((s.takeAmbientLevel i level).link j).state = (s.link j).state := by
  unfold State.takeAmbientLevel
  split
  · rfl
  · exact (State.takeAmbient_link_state _ i level j).trans (State.link_setLink_state (by rfl) j)

theorem State.takeReport_moves {s : State} {i : Seat} (h : (s.link i).state = .streaming) (body : List Byte) :
    s.MovesIn deep (s.takeReport i body) := by
  unfold State.takeReport
  dsimp only
  split
  · exact .refl
  · exact .trans (State.setLink_moves (by exact ⟨rfl, rfl, rfl, rfl, rfl, rfl, .refl _⟩))
      (State.keyEvents_moves ((State.link_setLink_state (by rfl) i).trans h) body _ 3)

theorem State.takeStatus_moves (s : State) (i : Seat) (body : List Byte) : s.MovesIn deep (s.takeStatus i body) := by
  unfold State.takeStatus
  split
  · next h =>
    have answered : s.MovesIn deep (s.setLink i { s.link i with misses := 0, statusSincePoll := true }) :=
      State.setLink_moves ⟨rfl, rfl, rfl, rfl, rfl, rfl, .refl _⟩
    have locked (x : State) : x.MovesIn deep (x.setLink i { x.link i with partnerLocked := bitAt body 0 1 }) :=
      State.setLink_moves ⟨rfl, rfl, rfl, rfl, rfl, rfl, .refl _⟩
    refine .trans ?_ (State.takeReport_moves ?_ body)
    · exact .trans (.trans (answered.trans (State.takeAck_moves _ i _)) (locked _)) (State.takeAmbientLevel_moves _ i _)
    · rw [State.takeAmbientLevel_link_state, State.link_setLink_state (by rfl), State.takeAck_link_state,
        State.link_setLink_state (by rfl)]
      exact h.2
  · exact .refl

theorem State.takeReset_moves (s : State) (i : Seat) (reason : LinkReason) : s.MovesIn deep (s.takeReset i reason) := by
  unfold State.takeReset
  split
  · exact s.enterRecovery_moves i reason
  · exact .refl

theorem State.takeMessage_moves (s : State) (i : Seat) (m : List Byte) : s.MovesIn deep (s.takeMessage i m) := by
  unfold State.takeMessage
  split
  · split
    · exact .refl
    split
    · exact s.takeOffers_moves i _
    split
    · exact s.takeAccept_moves i
    split
    · exact s.takeReject_moves i
    split
    · exact s.takeStatus_moves i _
    · exact s.takeReset_moves i _
  · exact .refl

/-! ## Timers and presence -/

theorem State.hailExpired_moves (s : State) (i : Seat) : s.MovesIn deep (s.hailExpired i) := by
  unfold State.hailExpired
  dsimp only
  split
  · split
    · exact State.setLink_moves (by exact ⟨rfl, rfl, rfl, rfl, rfl, rfl, .refl _⟩)
    · exact s.enterRecovery_moves i _
  · exact .refl

theorem State.claimExpired_moves (s : State) (i : Seat) : s.MovesIn deep (s.claimExpired i) := by
  unfold State.claimExpired
  dsimp only
  split
  · exact s.enterRecovery_moves i _
  · exact .refl

theorem Link.countTry_kinds (l : Link) : l.countTry.queue.map (·.kind) = l.queue.map (·.kind) := by
  unfold Link.countTry
  split <;> simp_all

theorem Link.countTry_keeps (l : Link) : ∃ queue, l.countTry = { l with queue := queue } := by
  unfold Link.countTry
  split <;> exact ⟨_, rfl⟩

theorem Link.poll_standsAs (l : Link) (now : Stamp) (video : Bool) : (l.poll now video).standsAs l := by
  obtain ⟨queue, he⟩ := l.countTry_keeps
  have kinds := l.countTry_kinds
  unfold Link.poll
  rw [he] at kinds ⊢
  exact ⟨rfl, rfl, rfl, rfl, rfl, rfl, by rw [Link.send, kinds]⟩

theorem State.pollExpired_moves (s : State) (i : Seat) : s.MovesIn deep (s.pollExpired i) := by
  have counted (misses : Nat) : s.MovesIn deep (s.setLink i { s.link i with misses := misses }) :=
    State.setLink_moves ⟨rfl, rfl, rfl, rfl, rfl, rfl, .refl _⟩
  unfold State.pollExpired
  dsimp only
  split
  · generalize (if (s.link i).statusSincePoll = true then (s.link i).misses else (s.link i).misses + 1) = misses
    refine (counted misses).trans ?_
    split
    · exact State.enterRecovery_moves _ i _
    split
    · exact State.enterRecovery_moves _ i _
    · exact State.setLink_moves (Link.poll_standsAs _ _ _)
  · exact .refl

theorem State.holdOffExpired_moves (s : State) (i : Seat) : s.MovesIn deep (s.holdOffExpired i) := by
  unfold State.holdOffExpired
  dsimp only
  split
  · next h => exact State.enterHailing_moves (by simp [h.1])
  · exact .refl

theorem State.settleExpired_moves (s : State) (i : Seat) : s.MovesIn deep (s.settleExpired i) := by
  unfold State.settleExpired
  split
  · exact .trans (State.setLink_moves (by exact ⟨rfl, rfl, rfl, rfl, rfl, rfl, .refl _⟩)) (State.judgeHailing_moves _ i)
  · exact .refl

theorem State.setPresent_moves (s : State) (i : Seat) (present : Bool) : s.MovesIn deep (s.setPresent i present) :=
  State.setLink_moves (by exact ⟨rfl, rfl, rfl, rfl, rfl, rfl, .refl _⟩)

theorem State.linkWarm_moves (s : State) (i : Seat) : s.MovesIn deep (s.linkWarm i) := by
  have record (l : Link) (hl : l.standsAs (s.link i)) :
      s.MovesIn deep (s.setLink i { l with staged := none, settleTimer := some (afterMs s.timebase 200) }) :=
    State.setLink_moves ⟨hl.state, hl.agreement, hl.offers, hl.claimed, hl.inForce, hl.cable, hl.queue⟩
  unfold State.linkWarm
  dsimp only
  refine .trans (record _ ?_) (State.detach_moves _ i _ _)
  split <;> exact ⟨rfl, rfl, rfl, rfl, rfl, rfl, .refl _⟩

end Sys2Proof.Machine
end

section
/-! # Proofs: the events of the other blocks, and the requests, as moves -/

namespace Sys2Proof.Machine

variable {deep : Prop}

/-- The blocks that the moves speak of are the same: the facts about what an operation leaves say so. -/
theorem State.moves_of_same {s s' : State} (rsl : s'.rsl = s.rsl := by simp) (sct : s'.sct = s.sct := by simp)
    (mnu : s'.mnu = s.mnu := by simp) (chu : s'.chu = s.chu := by simp) (cal : s'.cal = s.cal := by simp)
    (rvc : s'.rvc.state = s.rvc.state := by simp) (rear : s'.cmp.keepsRear s.cmp := by simp [Cmp.keepsRear_refl]) : s.Moves s' :=
  .single (.other trivial ⟨rsl, sct, congrArg Mnu.store mnu, congrArg Mnu.ctx mnu, chu, cal, rvc, rear⟩)

/-! ## The reverse view controller (R36 to R47) -/

theorem State.changeRvc_moves (s : State) (c : RvcChange) : s.Moves (s.changeRvc c) := .single (.changes trivial c)

theorem State.confirmedReverse_moves (s : State) : s.Moves s.confirmedReverse := by
  unfold State.confirmedReverse
  dsimp only
  split
  · split <;> exact s.changeRvc_moves _
  · split <;> exact s.changeRvc_moves _
  all_goals exact .refl

theorem State.release_moves (s : State) (v : HeldView) : s.Moves (s.release v) := by
  unfold State.release
  (repeat' split) <;> exact s.changeRvc_moves _

theorem State.confirmedNotReverse_moves (s : State) : s.Moves s.confirmedNotReverse := by
  unfold State.confirmedNotReverse
  split
  · exact s.changeRvc_moves _
  · exact s.release_moves _
  · exact s.release_moves _
  all_goals exact .refl

theorem State.takeLevel_moves (s : State) (level : Gear) (edge : Stamp) : s.Moves (s.takeLevel level edge) := by
  have recorded : s.Moves { s with rvc := s.rvc.record level edge } :=
    State.moves_of_same (rvc := by cases level <;> rfl)
  unfold State.takeLevel
  dsimp only
  split
  · exact recorded.trans (State.confirmedReverse_moves _)
  · exact recorded.trans (State.confirmedNotReverse_moves _)

theorem State.camLocked_moves (s : State) : s.Moves s.camLocked := by
  unfold State.camLocked
  split
  · exact s.changeRvc_moves _
  · exact s.changeRvc_moves _
  all_goals exact .refl

theorem State.camLeft_moves (s : State) : s.Moves s.camLeft := by
  unfold State.camLeft
  split
  · exact s.changeRvc_moves _
  · exact .refl

theorem State.cueExpired_moves (s : State) : s.Moves s.cueExpired := by
  unfold State.cueExpired
  split
  · exact s.changeRvc_moves _
  · exact .refl

theorem State.holdExpired_moves (s : State) : s.Moves s.holdExpired := by
  unfold State.holdExpired
  split
  · exact s.changeRvc_moves _
  · exact .refl

theorem State.freshSpeed_moves (s : State) : s.Moves s.freshSpeed := by
  unfold State.freshSpeed
  split
  · exact s.changeRvc_moves _
  · exact .refl

/-! ## Feed ports, camera power and the guide line engine -/

theorem State.lockChanged_moves (s : State) (f : Feed) (l : Lock) : s.Moves (s.lockChanged f l) :=
  State.moves_of_same

theorem State.handLock_moves (s : State) (f : Feed) (before after : Lock) : s.Moves (s.handLock f before after) := by
  unfold State.handLock
  split
  · exact .refl
  dsimp only
  refine (s.lockChanged_moves f after).trans ?_
  split
  · exact .refl
  split
  · exact State.camLocked_moves _
  split
  · exact State.camLeft_moves _
  · exact .refl

theorem State.frameToGuide_moves (s : State) (l : Lock) : s.Moves (s.frameToGuide l) :=
  State.moves_of_same

theorem State.setPort_moves (s : State) (f : Feed) (p : Port) : s.Moves (s.setPort f p) :=
  State.moves_of_same

theorem State.frameStart_moves (s : State) (f : Feed) : s.Moves (s.frameStart f) := by
  have handed (q : Port) : s.Moves ((s.setPort f q).handLock f (s.port f).lock q.lock) :=
    (s.setPort_moves f q).trans (State.handLock_moves _ f _ _)
  unfold State.frameStart
  dsimp only
  split
  · split
    · exact (handed _).trans (State.frameToGuide_moves _ _)
    · exact handed _
  · exact .refl

theorem State.frameWatchExpired_moves (s : State) (f : Feed) : s.Moves (s.frameWatchExpired f) := by
  unfold State.frameWatchExpired
  dsimp only
  split
  · exact (s.setPort_moves f _).trans (State.handLock_moves _ f _ _)
  · exact .refl

theorem State.computationDone_moves (s : State) : s.Moves s.computationDone :=
  State.moves_of_same

theorem State.trackingTrigger_moves (s : State) : s.Moves s.trackingTrigger :=
  State.moves_of_same

/-! ## Vehicle values (R32, R33) -/

theorem State.speedToCompositor_moves (s : State) : s.Moves s.speedToCompositor :=
  State.moves_of_same

theorem State.deliver_moves (s : State) (r : Report) : s.Moves (s.deliver r) := by
  have speed : s.Moves (if r.speed.isSome then s.speedToCompositor.freshSpeed else s) := by
    split
    · exact s.speedToCompositor_moves.trans (State.freshSpeed_moves _)
    · exact .refl
  have steering (x : State) : x.Moves (if r.steering.isSome then x.trackingTrigger else x) := by
    split
    · exact x.trackingTrigger_moves
    · exact .refl
  have dimmer (x : State) : x.Moves (match r.dimmer with | some d => x.takeDimmer d | none => x) := by
    split
    · exact x.takeDimmer_moves _
    · exact .refl
  have obstacle (x : State) : x.Moves (if r.obstacle.isSome then x.judgePark else x) := by
    split
    · exact .single .parks
    · exact .refl
  exact speed.trans ((steering _).trans ((dimmer _).trans (obstacle _)))

theorem State.watchExpired_moves (s : State) (w : Watched) : s.Moves (s.watchExpired w) := by
  have stale : s.Moves { s with vin := s.vin.stale w } := State.moves_of_same
  have delivered (x : State) : x.Moves (x.deliverStale w) := by
    cases w with
    | speed =>
      show x.Moves (x.setFilmLock true)
      exact State.moves_of_same
    | steering => exact x.trackingTrigger_moves
    | obstacle => exact .single .parks
  unfold State.watchExpired
  split
  · exact stale.trans (delivered _)
  · exact .refl

/-! ## The compositor -/

theorem State.rearFrame_keepsRear {s : State} {i : Seat} (h : (s.rearRow i).nextFrame.isSome = true) :
    (s.rearFrame i).cmp.keepsRear s.cmp := by
  unfold State.rearFrame
  split
  · exact Cmp.keepsRear_refl _
  · next a _ =>
    have taken := State.rearRouteTakesEffect_keepsRear (Cmp.keepsRear_refl s.cmp) i
    have sized := State.setRearRow_keepsRear taken (i := i)
      (r := (s.rearRouteTakesEffect i).sized ((s.rearRouteTakesEffect i).rearRow i) a.mode) rfl id
    refine State.setRearRow_keepsRear sized ?_ id
    exact ((sized.nextFrame i).trans h).symm

theorem State.outputFrame_moves (s : State) (o : Output) : s.Moves (s.outputFrame o) := by
  have rear : (s.outputFrame o).cmp.keepsRear s.cmp := by
    cases o with
    | fro =>
      unfold State.outputFrame
      dsimp only
      split
      · exact State.frontFrame_keepsRear (Cmp.keepsRear_refl _)
      · exact Cmp.keepsRear_refl _
    | ro i =>
      unfold State.outputFrame
      dsimp only
      split
      · next he =>
        refine State.rearFrame_keepsRear ?_
        cases hn : (s.rearRow i).nextFrame with
        | none => rw [hn] at he; cases he
        | some e => rfl
      · exact Cmp.keepsRear_refl _
  exact State.moves_of_same (rear := rear)

/-! ## Part mode and the gear line (R7, R9, R28, R29) -/

theorem State.setMode_moves (s : State) (m : PartMode) : s.Moves (s.setMode m) :=
  State.moves_of_same

theorem State.runEffects_moves (s : State) : s.Moves s.runEffects := by
  have feeds : s.Moves s.enableFeeds :=
    State.moves_of_same
  have frames (x : State) : x.Moves x.startFrontFrames :=
    State.moves_of_same
  exact feeds.trans ((State.judgeHailing_moves _ .s1).trans ((State.judgeHailing_moves _ .s2).trans (frames _)))

theorem State.enterRun_moves (s : State) (cause : ModeCause) : s.Moves (s.enterRun cause) :=
  (s.setMode_moves .run).trans ((State.runEffects_moves _).trans (State.post_moves _ _ _))

theorem State.compositorStandby_moves (s : State) : s.Moves s.compositorStandby :=
  State.moves_of_same

theorem State.judgeCameraPower_moves (s : State) : s.Moves s.judgeCameraPower :=
  State.moves_of_same

theorem State.disableFeeds_moves (s : State) : s.Moves s.disableFeeds :=
  State.moves_of_same

theorem State.closeBoth_moves (s : State) (reason : CloseReason) (quiet : Bool) :
    s.MovesIn deep ((s.closeMenu .s1 reason quiet).closeMenu .s2 reason quiet) :=
  .trans (.single (.closes .s1 reason quiet)) (.single (.closes .s2 reason quiet))

theorem State.enterStandby_moves (s : State) : s.Moves s.enterStandby := by
  have links := (s.setMode_moves .standby).trans ((State.detach_moves _ .s1 .detached false).trans (State.detach_moves _ .s2 .detached false))
  have menus := links.trans (State.closeBoth_moves _ .standby false)
  have keys := (menus.tail (.release .s1 false)).tail (.release .s2 false)
  have outputs := (keys.tail .chimesOff).trans (State.compositorStandby_moves _)
  exact outputs.trans ((State.judgeCameraPower_moves _).trans ((State.disableFeeds_moves _).trans (State.post_moves _ _ _)))

theorem State.setGear_moves (s : State) (raw : Bool) (gear : Gear) (candidate : Option GearCandidate) :
    s.Moves (s.setGear raw gear candidate) :=
  State.moves_of_same

theorem State.gearEdge_moves (s : State) (raw : Bool) : s.Moves (s.gearEdge raw) := by
  unfold State.gearEdge
  split
  · exact .refl
  split <;> exact s.setGear_moves _ _ _

theorem State.debounceExpired_moves (s : State) : s.Moves s.debounceExpired := by
  unfold State.debounceExpired
  split
  · exact .refl
  split
  · next c _ _ =>
    refine .trans (.trans (s.setGear_moves s.vin.gearRaw c.level none) ?_) (State.takeLevel_moves _ _ _)
    unfold State.reverseWake
    split
    · exact State.enterRun_moves _ _
    · exact .refl
  · exact .refl

theorem State.startMode_moves (s : State) : s.Moves s.startMode := by
  have started : s.Moves { s with phase := .running,
                                  cli := { s.cli with mode := calStartMode s.image, lineMap := calLineMap s.image } } :=
    State.moves_of_same
  have watched := (started.trans (State.post_moves _ 0 (.start s.cli.startCause.notice))).trans (State.setGear_moves _ s.vin.gearRaw .notReverse
    (if s.vin.gearRaw then some (s.newCandidate .reverse) else none))
  unfold State.startMode
  dsimp only
  split
  · exact watched.trans (State.runEffects_moves _)
  · exact watched

/-! ## The warm restart (R12) -/

theorem State.closeMenu_stack (s : State) (i : Seat) (reason : CloseReason) (quiet : Bool) :
    ((s.closeMenu i reason quiet).ctx i).stack = [] := by
  unfold State.closeMenu
  split
  · dsimp only
    split <;> cases i <;> rfl
  · next h => simpa [MenuContext.isOpen] using h

theorem State.closeMenu_ctx_other (s : State) {i j : Seat} (h : j ≠ i) (reason : CloseReason) (quiet : Bool) :
    (s.closeMenu i reason quiet).ctx j = s.ctx j := by
  unfold State.closeMenu
  split
  · dsimp only
    split <;> cases i <;> cases j <;> first | rfl | exact absurd rfl h
  · rfl

theorem State.menusWarm_moves (s : State) : s.MovesIn deep s.menusWarm := by
  refine (s.closeBoth_moves .request true).tail (.empties (fun i => ?_) ⟨0, 0⟩)
  cases i with
  | s1 => rw [State.closeMenu_ctx_other _ (by decide), State.closeMenu_stack]
  | s2 => rw [State.closeMenu_stack]

theorem State.seatWarm_moves (s : State) (i : Seat) : s.MovesIn deep (s.seatWarm i) :=
  .trans (.single (.release i true)) (.single (.seat i _ (by exact ⟨rfl, rfl, rfl, rfl, rfl, rfl, .inr rfl⟩)))

theorem State.warmRestart_moves (s : State) : s.Moves s.warmRestart := by
  have cleared : s.Moves { s with cli := s.cli.warm } := State.moves_of_same
  have compositor (x : State) : x.Moves x.compositorWarm :=
    State.moves_of_same
  have feeds (x : State) : x.Moves x.feedsWarm :=
    State.moves_of_same
  have seats := (cleared.trans (State.menusWarm_moves _)).trans ((State.seatWarm_moves _ .s1).trans (State.seatWarm_moves _ .s2))
  have outputs := seats.trans ((compositor _).trans (feeds _))
  have links := outputs.trans ((State.linkWarm_moves _ .s1).trans (State.linkWarm_moves _ .s2))
  have targets := (links.tail (.retarget .s1)).tail (.retarget .s2)
  exact (targets.tail .chimesWarm).trans (State.post_moves _ _ _)

/-- Only the control link has changed. -/
theorem State.setCli_moves (s : State) (c : Cli) : s.Moves { s with cli := c } :=
  State.moves_of_same

theorem State.replySent_moves (s : State) : s.Moves s.replySent := by
  unfold State.replySent
  split
  · exact .refl
  dsimp only
  split
  · exact (s.setCli_moves _).trans (State.warmRestart_moves _)
  · exact s.setCli_moves _

theorem State.frameEnded_moves (s : State) : s.Moves s.frameEnded := by
  unfold State.frameEnded
  split
  · exact .refl
  split
  · dsimp only
    split
    · exact (s.setCli_moves _).trans (State.replySent_moves _)
    · exact s.setCli_moves _
    · exact s.setCli_moves _
  · exact .refl

/-! ## The control link's events -/

theorem State.byteWatchExpired_moves (s : State) : s.Moves s.byteWatchExpired := by
  unfold State.byteWatchExpired
  split
  · exact .refl
  split
  · exact s.setCli_moves _
  · exact .refl

theorem State.checkFrame_moves (s : State) : s.Moves s.checkFrame := by
  unfold State.checkFrame
  split
  · exact .refl
  · exact s.setCli_moves _

theorem State.dispatchUnknown_moves (s : State) : s.Moves s.dispatchUnknown := by
  unfold State.dispatchUnknown
  split
  · exact .refl
  split
  · exact .refl
  · exact s.setCli_moves _

theorem State.idleExpired_moves (s : State) (i : Seat) : s.MovesIn deep (s.idleExpired i) := by
  unfold State.idleExpired
  split
  · exact .single (.closes i .timeout false)
  · exact .refl

/-! ## Every event, and every request -/

theorem eventOf_moves (c : Instr) (s : State) : s.Moves (eventOf c s) := by
  cases c with
  | receiveByte t b high => exact s.setCli_moves _
  | interByteWatchExpiry t => exact s.byteWatchExpired_moves
  | candidateFrameComplete t => exact s.checkFrame_moves
  | unknownRequest t => exact s.dispatchUnknown_moves
  | transmitFrameEnd t => exact s.frameEnded_moves
  | vehicleWatchExpiry t w => exact s.watchExpired_moves w
  | frameStart t f => exact s.frameStart_moves f
  | frameWatchExpiry t f => exact s.frameWatchExpired_moves f
  | gearEdge t high => exact s.gearEdge_moves high
  | gearDebounceExpiry t => exact s.debounceExpired_moves
  | cueDeadlineExpiry t => exact s.cueExpired_moves
  | holdTimerExpiry t => exact s.holdExpired_moves
  | computationComplete t => exact s.computationDone_moves
  | badLinkMessage t i m => exact s.takeMessage_moves i m
  | presenceGained t i => exact (s.setPresent_moves i true).trans (State.judgeHailing_moves _ i)
  | presenceLost t i => exact (s.setPresent_moves i false).trans (State.detach_moves _ i _ _)
  | hailTimerExpiry t i => exact s.hailExpired_moves i
  | offers t i body => exact s.takeOffers_moves i body
  | accept t i => exact s.takeAccept_moves i
  | reject t i => exact s.takeReject_moves i
  | claimTimerExpiry t i => exact s.claimExpired_moves i
  | pollTimerExpiry t i => exact s.pollExpired_moves i
  | status t i body => exact s.takeStatus_moves i body
  | partnerReset t i => exact s.takeReset_moves i _
  | holdOffTimerExpiry t i => exact s.holdOffExpired_moves i
  | settleTimerExpiry t i => exact s.settleExpired_moves i
  | outputFrameStart t o => exact s.outputFrame_moves o
  | idleTimerExpiry t i => exact s.idleExpired_moves i
  | repeatTimerExpiry t i => exact s.keyRepeat_moves i
  | stepEnd t v => exact .single (.stepEnds v)
  | beepStart t => exact .single .beeps
  | duckStep t i => exact .single (.ducks i)
  | programmingComplete t fault => exact .single (.programmed fault)
  | _ => exact .refl

theorem State.adjustSeat_moves (s : State) (p : Page) (i : Seat) : s.MovesIn deep (s.adjustSeat p i) := by
  unfold State.adjustSeat
  split
  · exact .refl
  · next e rest h =>
    split
    · exact .single (.stack i _ (State.stackFits_top h rfl))
    · exact .refl

theorem State.adjustBoth_moves (s : State) (p : Page) : s.MovesIn deep (s.adjustBoth p) :=
  (s.adjustSeat_moves p .s1).trans (State.adjustSeat_moves _ p .s2)

theorem State.changeItem_moves (s : State) (page n : Nat) (old new : Item) : s.MovesIn deep (s.changeItem page n old new) := by
  have set : s.MovesIn deep (s.setStore (setItem s.mnu.store page n new)) := .single (.item page n new)
  unfold State.changeItem
  dsimp only
  split
  · exact set
  split
  · exact set
  · exact set.trans (State.adjustBoth_moves _ _)

theorem State.setPending_moves (s : State) (o : Output) (src : Source) : s.Moves (s.setPending o src) := by
  cases o with
  | fro => exact State.moves_of_same (s' := s.setFront { s.cmp.front with pending := some src })
  | ro i => exact .single (.routes trivial i src)

theorem i32At_range (p : List Byte) (k : Nat) : -2147483648 ≤ i32At p k ∧ i32At p k ≤ 2147483647 := by
  have h := (BitVec.ofNat 32 (u32At p k)).isLt
  unfold i32At
  rw [BitVec.toInt_eq_toNat_cond]
  split <;> omega

theorem hostCommand_noBacklight {p : List Byte} {kind : CommandKind} (h : hostCommand p = some kind) (v : Nat) : kind ≠ .backlight v := by
  rintro rfl
  unfold hostCommand at h
  (repeat' split at h) <;> cases h

theorem readPlay_origin {p : List Byte} {r : ChimeRequest} (h : readPlay p = some r) : r.origin = .host := by
  unfold readPlay at h
  split at h
  · split at h
    · injection h with h
      exact h ▸ rfl
    · cases h
  · cases h

theorem State.endChime_host {s : State} {ch : Chime} (h : ch.origin = .host) (o : ChimeOutcome) :
    s.endChime ch o = s.post ch.handle (.chime o) := by
  unfold State.endChime
  rw [h]

theorem Acts.moves {p : List Byte} {s s' : State} {c : Instr} (h : Acts p s c s') : s.Moves s' := by
  cases h with
  | nothing => exact .refl
  | toRun => exact s.enterRun_moves _
  | toStandby => exact s.enterStandby_moves
  | restart => exact s.setCli_moves _
  | noticeSelect => exact s.setCli_moves _
  | statusLineMap => exact s.setCli_moves _
  | vehicleReport =>
    have taken : s.Moves { s with vin := s.vin.take (readReport p) s.timebase } := State.moves_of_same
    exact taken.trans (State.deliver_moves _ _)
  | feedFormat t f fmt => exact (s.setPort_moves f _).trans (State.handLock_moves _ f _ _)
  | reverseDismiss => exact s.changeRvc_moves _
  | guideQuery =>
    exact State.moves_of_same
  | linkPolicySet t i m => exact State.setLink_moves ⟨rfl, rfl, rfl, rfl, rfl, rfl, .refl _⟩
  | linkReoffer t i => exact s.reoffer_moves i
  | linkRestart t i => exact s.enterRecovery_moves i _
  | linkCommand t i kind hk hs hq => exact .single (.command i kind (hostCommand_noBacklight hk) hs hq)
  | descriptorReadStart t i n => exact State.setLink_moves ⟨rfl, rfl, rfl, rfl, rfl, rfl, .refl _⟩
  | descriptorReadContinue t i n => exact State.setLink_moves ⟨rfl, rfl, rfl, rfl, rfl, rfl, .refl _⟩
  | routeSet t o => exact s.setPending_moves o _
  | cameraPreview t on =>
    exact State.moves_of_same
  | bannerSet t o on =>
    exact State.moves_of_same
  | pageLoadNew t page hc hs => exact .single (.put page hs)
  | pageLoadPresent t page old hc hs => exact .trans (.single (.put page hs)) (State.adjustBoth_moves _ _)
  | pageRemove t id => exact .single (.remove id)
  | pageClear => exact .single .clear
  | itemSet t page n it kind enabled id => exact s.changeItem_moves _ _ _ _
  | seatRootSet t i id => exact .single (.roots _)
  | menuOpen t i id page hs hp =>
    obtain ⟨k, hk⟩ : ∃ k, findPage s.mnu.store k = some page := by
      unfold State.namedPage at hp
      split at hp
      · exact State.rootPage_found hp
      · exact ⟨_, hp⟩
    exact .single (.opens i page k hk (.inl hs))
  | menuClose t i => exact .single (.closes i .request false)
  | zoneLevelSet t i v hv => exact .trans (.single (.level i v hv)) (State.post_moves _ _ _)
  | backlightPolicySet t i policy threshold =>
    have set : s.Moves (s.setSeat i { s.seat i with policy := policy, threshold := threshold }) :=
      .single (.seat i _ ⟨rfl, rfl, rfl, rfl, rfl, rfl, .inl rfl⟩)
    exact set.tail (.retarget i)
  | chimePatternLoad t slot pat => exact .single (.pattern slot pat)
  | chimePlay t r hr => exact .single (.arrives r (by simp [readPlay_origin hr]))
  | chimeCancel t h ch hf =>
    have host : ch.origin = .host := of_decide_eq_true (Bool.and_eq_true_iff.1 (List.find?_some (p := isHost h) hf)).2
    rw [State.endChime_host host]
    exact .trans (.single (.removes (isHost h))) (State.post_moves _ _ _)
  | frontLevelSet t v hv => exact .single (.frontLevel v hv)
  | calibrationWrite t no index v hf ho hv => exact .single (.writes trivial no index _ v (i32At_range p 2) ho hv)
  | calibrationProgram t n => exact .single (.programs n)

end Sys2Proof.Machine
end

section
/-! # Proofs: a law that every move keeps -/

namespace Sys2Proof.Machine

theorem State.Moves.keeps {law : State → Prop} (hmove : ∀ s s', law s → s.Move s' → law s') {s s' : State} (h : s.Moves s') (hs : law s) :
    law s' := by
  induction h with
  | refl => exact hs
  | tail _ hm ih => exact hmove _ _ ih hm

theorem recordOf_moves (c : Instr) (s : State) : s.Moves (recordOf c s) := by
  cases c with
  | gearEdge t high => exact State.moves_of_same (s' := { s with vin := { s.vin with gearRaw := high } })
  | presenceGained t i => exact s.setPresent_moves i true
  | presenceLost t i => exact s.setPresent_moves i false
  | _ => exact .refl

/-- What must be shown of a law for every step to keep it: every move keeps it within an event (`mid`), and the end of the event, the
pins of a part that waits and a cold start keep it. -/
structure KeptByMoves (law mid : State → Prop) : Prop where
  time : ∀ s t, law s → law (s.atTime t)
  queue : ∀ (s : State) l, law s → law { s with pending := l }
  opens : ∀ s, law s → mid s
  settles : ∀ s, mid s → law s.settle
  answers : ∀ s r, mid s → mid (s.answer r)
  move : ∀ s s', mid s → s.Move s' → mid s'
  record : ∀ c s, law s → law (recordOf c s)
  cold : ∀ c s, law s → law (coldOf c s)

theorem KeptByMoves.keepsLaw {law mid : State → Prop} (k : KeptByMoves law mid) (c : Instr) : KeepsLaw law mid c where
  time := k.time
  opens := k.opens
  settles := k.settles
  answers := k.answers
  event s _ h := (eventOf_moves c s).keeps k.move h
  owner _ _ _ _ _ _ _ h _ ha := ha.moves.keeps k.move h
  record s _ h := k.record c s h
  starts s _ h := s.startMode_moves.keeps k.move (k.opens s h)
  cold _ s h := k.cold c s h

theorem KeptByMoves.step {law mid : State → Prop} (k : KeptByMoves law mid) {s s' : State} (h : law s) (hstep : step s = .next s') :
    law s' :=
  step_keepsLaw k.time k.queue (fun c _ _ h hex => (k.keepsLaw c).exec h hex) h hstep

/-- A cold start leaves what `State.hold` or `State.load` leaves, or all as it was. -/
theorem coldOf_cases (c : Instr) (s : State) :
    coldOf c s = s ∨ (∃ cause, coldOf c s = s.hold cause) ∨ ∃ cause, coldOf c s = s.load cause := by
  cases c with
  | powerOn t high =>
    cases high with
    | true => exact .inr (.inr ⟨_, rfl⟩)
    | false => exact .inr (.inl ⟨_, rfl⟩)
  | resetNFall t =>
    show s.resetFalls = s ∨ _
    unfold coldOf State.resetFalls
    dsimp only
    split
    · exact .inr (.inl ⟨_, rfl⟩)
    · exact .inl rfl
  | resetNRise t =>
    show s.resetRises = s ∨ _
    unfold coldOf State.resetRises
    dsimp only
    split
    · exact .inl rfl
    · exact .inr (.inr ⟨_, rfl⟩)
  | _ => exact .inl rfl

end Sys2Proof.Machine
end

section
/-! # Proofs: what the chimes leave of the zones' mix (R160, R161) -/

namespace Sys2Proof.Machine

/-- The duck gains and the front level, which placing, queueing and ending a chime do not touch. -/
def Chu.mix (c : Chu) : Two Duck × Nat := (c.duck, c.frontLevel)

variable (s : State)

@[simp] theorem Chu.setVoice_mix (c : Chu) (v : Voice) (p : Option Playing) : (c.setVoice v p).mix = c.mix := by cases v <;> rfl

@[simp] theorem State.startBeep_mix (p : Playing) (v : Voice) : (s.startBeep p v).chu.mix = s.chu.mix := by cases v <;> rfl

@[simp] theorem State.startOn_mix (ch : Chime) (v : Voice) : (s.startOn ch v).chu.mix = s.chu.mix := by
  unfold State.startOn
  dsimp only
  split <;> simp

@[simp] theorem State.place_mix (ch : Chime) : (s.place ch).chu.mix = s.chu.mix := s.startOn_mix ch _

@[simp] theorem State.joinQueue_mix (ch : Chime) : (s.joinQueue ch).1.chu.mix = s.chu.mix := by
  unfold State.joinQueue
  split
  · rfl
  split
  · rfl
  dsimp only
  split
  · rw [State.endChime_chu]; rfl
  · rfl

@[simp] theorem State.fillOnce_mix : s.fillOnce.chu.mix = s.chu.mix := by
  unfold State.fillOnce
  split
  · rfl
  · exact State.place_mix _ _

@[simp] theorem State.fill_mix : s.fill.chu.mix = s.chu.mix := by simp [State.fill]

@[simp] theorem State.preempted_mix (v : Option Playing) : (s.preempted v).chu.mix = s.chu.mix := by
  unfold State.preempted
  split
  · rfl
  split
  · dsimp only
    split <;> simp
  · simp

@[simp] theorem State.preempt_mix (ch : Chime) : (s.preempt ch).chu.mix = s.chu.mix := by
  unfold State.preempt
  dsimp only
  rw [State.fill_mix, State.place_mix, State.preempted_mix, State.preempted_mix]
  rfl

@[simp] theorem State.arrive_mix (r : ChimeRequest) : (s.arrive r).1.chu.mix = s.chu.mix := by
  unfold State.arrive
  dsimp only
  split
  · exact State.place_mix _ _
  split
  · rfl
  split
  · exact State.preempt_mix _ _
  split
  · exact State.joinQueue_mix _ _
  · rfl

@[simp] theorem State.removeChime_mix (which : Chime → Bool) : (s.removeChime which).chu.mix = s.chu.mix := by
  unfold State.removeChime
  split
  · exact State.fill_mix _
  split
  · exact State.fill_mix _
  · rfl

@[simp] theorem State.cancelFaultChime_mix : s.cancelFaultChime.chu.mix = s.chu.mix := by
  unfold State.cancelFaultChime
  split
  · rfl
  · exact State.removeChime_mix _ _

@[simp] theorem State.judgePark_mix : s.judgePark.chu.mix = s.chu.mix := by
  unfold State.judgePark
  dsimp only
  split
  · split
    · rfl
    · exact State.arrive_mix _ _
  split
  · exact State.removeChime_mix _ _
  · rfl

@[simp] theorem State.chimesStandby_mix : s.chimesStandby.chu.mix = s.chu.mix := by simp [State.chimesStandby, Chu.mix]

@[simp] theorem State.chimesWarm_mix : s.chimesWarm.chu.mix = s.chu.mix := State.fill_mix _

@[simp] theorem State.finish_mix (v : Voice) (ch : Chime) : (s.finish v ch).chu.mix = s.chu.mix := by
  simp [State.finish, State.setVoice]

@[simp] theorem State.stepEnded_mix (v : Voice) : (s.stepEnded v).chu.mix = s.chu.mix := by
  unfold State.stepEnded
  split
  · rfl
  split
  · split
    · exact Chu.setVoice_mix _ _ _
    · exact s.finish_mix v _
  · rfl

@[simp] theorem State.beepOn_mix (v : Voice) : (s.beepOn v).chu.mix = s.chu.mix := by
  unfold State.beepOn
  split
  · rfl
  split
  · exact s.startBeep_mix _ v
  · rfl

@[simp] theorem State.beepStarts_mix : s.beepStarts.chu.mix = s.chu.mix := by
  unfold State.beepStarts
  split <;> simp

@[simp] theorem State.reverseChime_mix (a b : RvcState) : (s.reverseChime a b).chu.mix = s.chu.mix := by
  have engage (x : State) : x.engageChime.chu.mix = x.chu.mix := by
    unfold State.engageChime
    split
    · exact x.arrive_mix _
    · rfl
  unfold State.reverseChime
  split
  · exact engage s
  · exact engage s
  · exact s.arrive_mix _
  · exact s.arrive_mix _
  · rfl

@[simp] theorem State.changeRvc_mix (c : RvcChange) : (s.changeRvc c).chu.mix = s.chu.mix := by
  unfold State.changeRvc
  dsimp only
  rw [State.reverseChime_mix, apply_ite (fun x : State => x.chu.mix), State.judgePark_mix, ite_self]
  simp only [State.reverseToGuide_chu, State.judgeCameraPower_chu, State.reverseToCompositor_chu, State.post_chu]
  split
  · exact State.cancelFaultChime_mix _
  · rfl

end Sys2Proof.Machine
end

section
/-! # Proofs: levels, gains and calibration values (R144, R160, R161, R166) -/

namespace Sys2Proof.Machine

/-! ## The places of Table 10-1 (R164) -/

/-- The fields and indices of a row of Table 10-1. -/
def FieldRow.places (r : FieldRow) : List (Nat × Nat) := (List.range r.count).map (fun k => (r.no, r.first + k))

theorem fieldOffsetIn_place {no index k : Nat} {rows : List FieldRow} {base : Nat} (h : fieldOffsetIn no index rows base = some k) :
    base ≤ k ∧ (rows.flatMap FieldRow.places)[k - base]? = some (no, index) := by
  induction rows generalizing base with
  | nil => cases h
  | cons r rest ih =>
    have len : r.places.length = r.count := by simp [FieldRow.places]
    unfold fieldOffsetIn at h
    split at h
    · next hno =>
      split at h
      · next hi =>
        injection h with h
        have hlt : k - base < r.places.length := by omega
        refine ⟨by omega, ?_⟩
        rw [List.flatMap_cons, List.getElem?_append_left hlt]
        simp [FieldRow.places, hno, show k - base < r.count by omega]
        omega
      · cases h
    · obtain ⟨hb, hp⟩ := ih h
      refine ⟨by omega, ?_⟩
      rw [List.flatMap_cons, List.getElem?_append_right (by omega), len, show k - base - r.count = k - (base + r.count) by omega]
      exact hp

/-- No two fields and indices stand at one place of the image. -/
theorem fieldOffset_injective {no index no' index' k : Nat} (h : fieldOffset no index = some k) (h' : fieldOffset no' index' = some k) :
    no = no' ∧ index = index' := by
  have he := (fieldOffsetIn_place h).2.symm.trans (fieldOffsetIn_place h').2
  simpa using he

theorem field_setField (im : List Int) (no index : Nat) (v : Int) (no' index' : Nat) :
    field (setField im no index v) no' index' = field im no' index' ∨ no' = no ∧ index' = index ∧ field (setField im no index v) no' index' = v := by
  unfold setField
  split
  · next k hk =>
    unfold field
    split
    · next k' hk' =>
      by_cases he : k' = k
      · subst he
        obtain ⟨rfl, rfl⟩ := fieldOffset_injective hk hk'
        by_cases hlt : k' < im.length
        · exact .inr ⟨rfl, rfl, by simp [hlt]⟩
        · exact .inl (by rw [List.set_eq_of_length_le (Nat.le_of_not_lt hlt)])
      · exact .inl (by rw [List.getD_eq_getElem?_getD, List.getElem?_set_ne (Ne.symm he), ← List.getD_eq_getElem?_getD])
    · exact .inl rfl
  · exact .inl rfl

/-! ## A stored value lies within its range (R55, R166) -/

theorem within_iff {lo hi v : Int} : within lo hi v = true ↔ lo ≤ v ∧ v ≤ hi := by simp [within]

theorem of_guard_eq_some {b : Bool} {v v' : Int} (h : (if b = true then some v else none) = some v') : b = true ∧ v = v' := by
  split at h
  · next hb => exact ⟨hb, Option.some.inj h⟩
  · cases h

/-- The value that a write stores lies within the range of its field. -/
theorem storedValue_fits {im : List Int} {no index : Nat} {given v : Int} (hg : -2147483648 ≤ given ∧ given ≤ 2147483647)
    (h : storedValue im no index given = some v) : fieldFits no index v = true := by
  have free (h11 : no ≠ 11) (h12 : no ≠ 12) (h13 : no ≠ 13) (h14 : no ≠ 14) (h16 : no ≠ 16) :
      (storedValue [] no index v).isSome = true := by
    unfold storedValue at h ⊢
    split at h <;> first
      | contradiction
      | (obtain ⟨hb, rfl⟩ := of_guard_eq_some h; simp [hb])
  unfold fieldFits
  split
  · obtain ⟨hb, rfl⟩ := of_guard_eq_some h
    simp only [curvatureFits, Bool.and_eq_true] at hb
    exact hb.1.1
  · obtain ⟨hb, rfl⟩ := of_guard_eq_some h
    exact (Bool.and_eq_true_iff.1 hb).1
  · simp only [storedValue] at h
    split at h
    · next hb =>
      have hw := within_iff.1 (Bool.and_eq_true_iff.1 hb).1
      injection h with h
      exact within_iff.2 (by omega)
    · cases h
  · injection h with h
    exact within_iff.2 (h ▸ hg)
  · by_cases h12 : no = 12
    · subst h12
      simp only [storedValue] at h ⊢
      split at h
      · next hb =>
        have hw := within_iff.1 hb
        injection h with h
        rw [if_pos (within_iff.2 (by omega))]
        rfl
      · cases h
    · exact free ‹_› h12 ‹_› ‹_› ‹_›

/-- R166: a write keeps the image within its ranges. -/
theorem imageLaw_setField {im : List Int} (h : imageLaw im) {no index : Nat} {v : Int} (hv : fieldFits no index v = true) :
    imageLaw (setField im no index v) := by
  intro r hr k hk
  rcases field_setField im no index v r.no (r.first + k) with he | ⟨hn, hi, he⟩
  · rw [he]
    exact h r hr k hk
  · rw [he, hn, hi]
    exact hv

theorem imageLaw_builtin : imageLaw builtinImage := by decide +kernel

/-! ## What the ranges say of the readings -/

theorem imageLaw.single {im : List Int} (h : imageLaw im) (no : Nat) (hr : (⟨no, 0, 1⟩ : FieldRow) ∈ fieldTable) :
    fieldFits no 0 (field im no 0) = true := h _ hr 0 Nat.one_pos

theorem within_of_isSome {lo hi v : Int} (h : (if within lo hi v = true then some v else none).isSome = true) : lo ≤ v ∧ v ≤ hi := by
  split at h
  · next hw => exact within_iff.1 hw
  · cases h

theorem calVolume_le {im : List Int} (h : imageLaw im) : calVolume im ≤ 60 := by
  have hw := within_of_isSome (h.single 31 (by decide))
  unfold calVolume fieldNat
  omega

theorem calFrontLevel_le {im : List Int} (h : imageLaw im) : calFrontLevel im ≤ 60 := by
  have hw := within_of_isSome (h.single 39 (by decide))
  unfold calFrontLevel fieldNat
  omega

theorem calDuckLevel_range {im : List Int} (h : imageLaw im) : -30 ≤ calDuckLevel im ∧ calDuckLevel im ≤ -6 :=
  within_of_isSome (h.single 37 (by decide))

/-! ## The calibration store -/

theorem Cal.rangeLaw_iff (c : Cal) :
    c.rangeLaw ↔ imageLaw c.working ∧ (∀ f, c.flight = some f → imageLaw f.image) ∧ ∀ n im, (c.slot n).usable = some im → imageLaw im := by
  refine and_congr_right (fun _ => and_congr_right (fun _ => ⟨fun h n im hu => h n (by cases n <;> simp) im hu, fun h n _ im hu => h n im hu⟩))

/-- Every image that a slot may give lies within its ranges. -/
def Slot.fits (x : Slot) : Prop := ∀ im, x.usable = some im → imageLaw im

theorem Slot.fits_of_unwritten {x : Slot} (h : ∀ im check, x.cells ≠ .written im check) : x.fits := by
  intro im hu
  unfold Slot.usable at hu
  split at hu
  · next hc => exact absurd hc (h _ _)
  all_goals cases hu

/-- A slot that may not be used is not made usable by a load. -/
theorem judgeSlot_fits {x : Slot} (h : x.fits) : (judgeSlot x).fits := by
  unfold judgeSlot
  split
  · exact Slot.fits_of_unwritten (by simp)
  · next image check hc =>
    split
    · next hb =>
      intro im hu
      injection hu with hu
      exact h im (by simp [Slot.usable, hc, hb.1, hu])
    · intro im hu
      cases hu
  · exact Slot.fits_of_unwritten (by simp)
  · exact Slot.fits_of_unwritten (by simp)

theorem Slot.goodImage_usable {x : Slot} {im : List Int} (h : x.goodImage = some im) : x.usable = some im := by
  unfold Slot.goodImage at h
  split at h
  · next hj hc =>
    simp [Slot.usable, hj, hc, h]
  · cases h

theorem newestGood_law {s1 s2 s3 : Slot} (h1 : s1.fits) (h2 : s2.fits) (h3 : s3.fits) : imageLaw (newestGood s1 s2 s3).1 := by
  unfold newestGood
  split
  · exact h3 _ (Slot.goodImage_usable ‹_›)
  · exact h2 _ (Slot.goodImage_usable ‹_›)
  · exact h1 _ (Slot.goodImage_usable ‹_›)
  · exact imageLaw_builtin

theorem Cal.load_rangeLaw {c : Cal} (h : c.rangeLaw) : c.load.rangeLaw := by
  obtain ⟨-, -, hs⟩ := c.rangeLaw_iff.1 h
  have judged (n : SlotNo) : (judgeSlot (c.slot n)).fits := judgeSlot_fits (hs n)
  refine c.load.rangeLaw_iff.2 ⟨newestGood_law (judged .g1) (judged .g2) (judged .g3), fun f hf => absurd (show none = some f from hf) (by simp), fun n => ?_⟩
  cases n with
  | g1 => exact judged .g1
  | g2 => exact judged .g2
  | g3 => exact judged .g3

theorem Slot.abandoned_fits {x : Slot} (h : x.fits) : x.abandoned.fits := by
  unfold Slot.abandoned
  split
  · exact Slot.fits_of_unwritten (by simp)
  all_goals exact h

theorem Cal.unloaded_rangeLaw {c : Cal} (h : c.rangeLaw) : c.unloaded.rangeLaw := by
  obtain ⟨-, -, hs⟩ := c.rangeLaw_iff.1 h
  refine c.unloaded.rangeLaw_iff.2 ⟨imageLaw_builtin, fun f hf => absurd (show none = some f from hf) (by simp), fun n => ?_⟩
  cases n with
  | g1 => exact Slot.abandoned_fits (hs .g1)
  | g2 => exact Slot.abandoned_fits (hs .g2)
  | g3 => exact Slot.abandoned_fits (hs .g3)

theorem Cal.setSlot_rangeLaw {c : Cal} (h : c.rangeLaw) (n : SlotNo) {x : Slot} (hx : x.fits) (flight : Option Programming)
    (hf : ∀ f, flight = some f → imageLaw f.image) : ({ c.setSlot n x with flight := flight } : Cal).rangeLaw := by
  obtain ⟨hw, -, hs⟩ := c.rangeLaw_iff.1 h
  refine (Cal.rangeLaw_iff _).2 ⟨by cases n <;> exact hw, hf, fun m im hu => ?_⟩
  by_cases hm : m = n
  · subst hm
    exact hx im ((c.slot_setSlot_same m x) ▸ hu)
  · exact hs m im ((c.slot_setSlot_other hm x) ▸ hu)

theorem Programming.result_fits {f : Programming} (h : imageLaw f.image) (fault : Option FaultyCells) : (f.result fault).fits := by
  intro im hu
  unfold Programming.result at hu
  split at hu
  · injection hu with hu
    exact hu ▸ h
  · next c =>
    split at hu
    · next same =>
      injection hu with hu
      exact hu ▸ same.1 ▸ h
    · cases hu

theorem State.programmed_rangeLaw {s : State} (h : s.cal.rangeLaw) (fault : Option FaultyCells) : (s.programmed fault).cal.rangeLaw := by
  unfold State.programmed
  split
  · exact h
  next f hf =>
  split
  · exact Cal.setSlot_rangeLaw h f.slot (Programming.result_fits ((s.cal.rangeLaw_iff.1 h).2.1 f hf) fault) none (fun _ hn => by cases hn)
  · exact h

theorem State.Move.rangeLaw {s s' : State} (m : s.Move s') (h : s.cal.rangeLaw) : s'.cal.rangeLaw := by
  cases m with
  | other hd k => rw [k.cal]; exact h
  | writes hd no index given v hg ho hv =>
    obtain ⟨hw, hf, hs⟩ := s.cal.rangeLaw_iff.1 h
    rw [State.writeField_slots]
    exact (Cal.rangeLaw_iff _).2 ⟨imageLaw_setField hw (storedValue_fits hg hv), hf, hs⟩
  | programs n =>
    exact Cal.setSlot_rangeLaw h n (Slot.fits_of_unwritten (by simp)) _ (fun f hf => Option.some.inj hf ▸ h.1)
  | programmed fault => exact State.programmed_rangeLaw h fault
  | _ => simpa using h

/-! ## The gains and the front level (R160, R161) -/

/-- R160, R161: the front level and the gains lie within their ranges. -/
def mixLaw (m : Two Duck × Nat) : Prop := m.2 ≤ 60 ∧ ∀ i, -30 ≤ (m.1.get i).gain ∧ (m.1.get i).gain ≤ 0

theorem duckToward_range {gain level : Int} (hg : -30 ≤ gain ∧ gain ≤ 0) (hl : -30 ≤ level ∧ level ≤ -6) :
    -30 ≤ duckToward gain level ∧ duckToward gain level ≤ 0 := by
  unfold duckToward
  split <;> omega

theorem Duck.step_gain {d : Duck} (now : Stamp) {level : Int} (hg : -30 ≤ d.gain ∧ d.gain ≤ 0) (hl : -30 ≤ level ∧ level ≤ -6) :
    -30 ≤ (d.step now level).gain ∧ (d.step now level).gain ≤ 0 := by
  unfold Duck.step
  split
  · exact duckToward_range hg hl
  · dsimp only
    omega

theorem Duck.follow_gain (d : Duck) (now : Stamp) (ducking : Bool) (level : Int) : (d.follow now ducking level).gain = d.gain := by
  unfold Duck.follow
  (repeat' split) <;> rfl

theorem Duck.released_gain (d : Duck) (now : Stamp) (old level : Int) : (d.released now old level).gain = d.gain := by
  unfold Duck.released
  (repeat' split) <;> rfl

theorem State.duckStep_mixLaw {s : State} (hc : s.cal.rangeLaw) (h : mixLaw s.chu.mix) (i : Seat) : mixLaw (s.duckStep i).chu.mix := by
  unfold State.duckStep
  dsimp only
  split
  · refine ⟨h.1, fun j => ?_⟩
    by_cases hj : j = i
    · subst hj
      show -30 ≤ ((s.chu.duck.set j _).get j).gain ∧ ((s.chu.duck.set j _).get j).gain ≤ 0
      rw [Two.get_set_same]
      exact Duck.step_gain s.timebase (h.2 j) (calDuckLevel_range hc.1)
    · show -30 ≤ ((s.chu.duck.set i _).get j).gain ∧ ((s.chu.duck.set i _).get j).gain ≤ 0
      rw [Two.get_set_other _ hj]
      exact h.2 j
  · exact h

theorem State.writeField_mixLaw {s : State} (h : mixLaw s.chu.mix) (no index : Nat) (v : Int) : mixLaw (s.writeField no index v).chu.mix := by
  unfold State.writeField
  dsimp only
  split
  · rw [State.trackingTrigger_chu]; exact h
  split
  · refine ⟨h.1, fun i => ?_⟩
    have gain (f : Duck → Duck) (hf : ∀ d, (f d).gain = d.gain) : -30 ≤ ((s.chu.duck.map f).get i).gain ∧ ((s.chu.duck.map f).get i).gain ≤ 0 := by
      rw [Two.get_map, hf]
      exact h.2 i
    exact gain _ (fun d => d.released_gain _ _ _)
  · exact h

theorem State.Move.mixLaw {s s' : State} (m : s.Move s') (hc : s.cal.rangeLaw) (h : Machine.mixLaw s.chu.mix) :
    Machine.mixLaw s'.chu.mix := by
  cases m with
  | other hd k => rw [k.chu]; exact h
  | ducks i => exact State.duckStep_mixLaw hc h i
  | pattern slot p => exact h
  | frontLevel v hv => exact ⟨hv, h.2⟩
  | writes hd no index given v => exact State.writeField_mixLaw h no index v
  | _ => simpa using h

/-! ## The seats' values and the levels sent to the screens (R144) -/

/-- R144: every volume, offset and backlight level of both seats lies within its range. -/
def State.seatLevels (s : State) : Prop := ∀ i, (s.seat i).law ∧ (s.link i).levelLaw

theorem State.seatLevels_of_same {s s' : State} (h : s.seatLevels) (hr : s'.rsl = s.rsl := by simp) (hs : s'.sct = s.sct := by simp) :
    s'.seatLevels := by
  intro i
  rw [State.seat, State.link, hr, hs]
  exact h i

theorem State.setSeat_seatLevels {s : State} (h : s.seatLevels) (i : Seat) {r : SeatRec} (hr : r.law) : (s.setSeat i r).seatLevels := by
  intro j
  by_cases hj : j = i
  · subst hj
    exact ⟨by rw [State.seat_setSeat_same]; exact hr, (h j).2⟩
  · exact ⟨by rw [State.seat_setSeat_other _ hj]; exact (h j).1, (h j).2⟩

theorem State.setLink_seatLevels {s : State} (h : s.seatLevels) (i : Seat) {l : Link} (hl : l.levelLaw) : (s.setLink i l).seatLevels := by
  intro j
  by_cases hj : j = i
  · subst hj
    exact ⟨(h j).1, by rw [State.link_setLink_same]; exact hl⟩
  · exact ⟨(h j).1, by rw [State.link_setLink_other _ hj]; exact (h j).2⟩

theorem State.postLevel_seatLevels {s : State} (h : s.seatLevels) (i : Seat) : (s.postLevel i).seatLevels := h

theorem State.postLink_seatLevels {s : State} (h : s.seatLevels) (i : Seat) : (s.postLink i).seatLevels := h

theorem backlightTarget_range (policy : BacklightPolicy) (threshold dimmer : Nat) (ambient : Option Nat) (offset : Int) :
    5 ≤ backlightTarget policy threshold dimmer ambient offset ∧ backlightTarget policy threshold dimmer ambient offset ≤ 100 := by
  unfold backlightTarget clampInt
  (repeat' split) <;> omega

theorem SeatRec.handed_law {r : SeatRec} (h : r.law) {v : Nat} (hv : 5 ≤ v ∧ v ≤ 100) (o : Handing) : (r.handed v o).law := by
  obtain ⟨hvol, hlo, hhi, htl, hth, -⟩ := h
  cases o <;> exact ⟨hvol, hlo, hhi, htl, hth, by simpa [SeatRec.handed] using hv⟩

theorem Link.append_levelLaw {l : Link} (h : l.levelLaw) {kind : CommandKind} (hk : ∀ v, kind = .backlight v → 5 ≤ v ∧ v ≤ 100) :
    (l.append kind).levelLaw := by
  intro c hc v hv
  rcases List.mem_append.1 hc with hc | hc
  · exact h c hc v hv
  · obtain rfl := List.mem_singleton.1 hc
    cases kind with
    | backlight w => exact Option.some.inj hv ▸ hk w rfl
    | panelPower on => cases hv
    | raw a b c => cases hv

theorem Link.takeBacklight_levelLaw {l : Link} (h : l.levelLaw) {v : Nat} (hv : 5 ≤ v ∧ v ≤ 100) : (l.takeBacklight v).1.levelLaw := by
  unfold Link.takeBacklight
  split
  · exact h
  split
  · split
    · intro c hc w hw
      obtain ⟨q, hq, rfl⟩ := List.mem_map.1 hc
      split at hw
      · exact Option.some.inj hw ▸ hv
      · exact h q hq w hw
    · exact h
  split
  · exact Link.append_levelLaw h (fun w hw => by cases hw; exact hv)
  · exact h

theorem State.handBacklight_seatLevels {s : State} (h : s.seatLevels) (i : Seat) {v : Nat} (hv : 5 ≤ v ∧ v ≤ 100) :
    (s.handBacklight i v).seatLevels :=
  State.setSeat_seatLevels (State.setLink_seatLevels h i (Link.takeBacklight_levelLaw (h i).2 hv)) i (SeatRec.handed_law (h i).1 hv _)

theorem State.recomputeTarget_seatLevels {s : State} (h : s.seatLevels) (i : Seat) : (s.recomputeTarget i).seatLevels := by
  have range := backlightTarget_range (s.seat i).policy (s.seat i).threshold s.sct.dimmer (s.seat i).ambient (s.seat i).offset
  obtain ⟨hvol, hlo, hhi, -, -, hnext⟩ := (h i).1
  have judged := State.setSeat_seatLevels h i (r := { s.seat i with target := (s.seat i).targetNow s.sct.dimmer })
    ⟨hvol, hlo, hhi, range.1, range.2, hnext⟩
  unfold State.recomputeTarget
  dsimp only
  split
  · exact State.handBacklight_seatLevels judged i range
  · exact judged

theorem State.volumePress_seatLevels {s : State} (h : s.seatLevels) (i : Seat) (dir : Dir) : (s.volumePress i dir).seatLevels := by
  obtain ⟨hvol, hrest⟩ := (h i).1
  have moved (step : Nat) : movedVolume (s.seat i).volume step dir ≤ 60 := by
    unfold movedVolume
    (repeat' split) <;> omega
  have set (step : Nat) (r : SeatRec) (hr : r.law) : (if movedVolume (s.seat i).volume step dir = (s.seat i).volume then s.setSeat i r
      else (s.setSeat i r).postLevel i).seatLevels := by
    split
    · exact State.setSeat_seatLevels h i hr
    · exact State.setSeat_seatLevels h i hr
  unfold State.volumePress
  exact set _ _ ⟨moved _, hrest⟩

theorem State.brightPress_seatLevels {s : State} (h : s.seatLevels) (i : Seat) (dir : Dir) : (s.brightPress i dir).seatLevels := by
  obtain ⟨hvol, hlo, hhi, hrest⟩ := (h i).1
  have moved : -10 ≤ movedOffset (s.seat i).offset dir ∧ movedOffset (s.seat i).offset dir ≤ 10 := by
    unfold movedOffset
    (repeat' split) <;> omega
  unfold State.brightPress
  dsimp only
  split
  · exact h
  · exact State.recomputeTarget_seatLevels (State.postLevel_seatLevels (State.setSeat_seatLevels h i
      (r := { s.seat i with offset := movedOffset (s.seat i).offset dir }) ⟨hvol, moved.1, moved.2, hrest⟩) i) i

theorem SeatRec.standsAs.law {r' r : SeatRec} (k : r'.standsAs r) (h : r.law) : r'.law := by
  obtain ⟨hvol, hlo, hhi, htl, hth, hnext⟩ := h
  refine ⟨k.volume ▸ hvol, k.offset ▸ hlo, k.offset ▸ hhi, k.target ▸ htl, k.target ▸ hth, fun v hv => ?_⟩
  rcases k.next with hn | hn
  · exact hnext v (hn ▸ hv)
  · rw [hn] at hv
    cases hv

/-- The levels of a queue are told by the kinds of its commands. -/
theorem Link.levelLaw_of_kinds {l' l : Link} (h : l.levelLaw) (hk : (l'.queue.map (·.kind)).Sublist (l.queue.map (·.kind))) :
    l'.levelLaw := by
  intro c hc v hv
  obtain ⟨d, hd, he⟩ := List.mem_map.1 (hk.subset (List.mem_map_of_mem hc))
  exact h d hd v (by rw [Command.level, he]; exact hv)

theorem State.releaseKey_seatLevels {s : State} (h : s.seatLevels) (i : Seat) (quiet : Bool) : (s.releaseKey i quiet).seatLevels := by
  unfold State.releaseKey
  dsimp only
  split
  · exact h
  · have free := State.setSeat_seatLevels h i (r := { s.seat i with held := none, repeatTimer := none, forwarded := false }) (h i).1
    split
    · exact free
    · exact free

theorem State.fellBack_seatLevels {s : State} (h : s.seatLevels) (i : Seat) (before : Link) (quiet : Bool) :
    (s.fellBack i before quiet).seatLevels := by
  have ambient : (if before.ambient.isSome then s.takeAmbient i none else s).seatLevels := by
    split
    · exact State.recomputeTarget_seatLevels (State.setSeat_seatLevels h i (r := { s.seat i with ambient := none }) (h i).1) i
    · exact h
  have lost (x : State) (hx : x.seatLevels) :
      (if before.state = .streaming then (x.stopRear i).screenLost i quiet else x).seatLevels := by
    split
    · exact State.seatLevels_of_same hx
    · exact hx
  have released := State.releaseKey_seatLevels (lost _ ambient) i quiet
  obtain ⟨hvol, hlo, hhi, htl, hth, -⟩ := (released i).1
  exact State.setSeat_seatLevels released i ⟨hvol, hlo, hhi, htl, hth, fun v hv => by cases hv⟩

theorem State.startRear_seatLevels {s : State} (h : s.seatLevels) (i : Seat) : (s.startRear i).seatLevels := State.seatLevels_of_same h

theorem State.enterStreaming_seatLevels {s : State} (h : s.seatLevels) (i : Seat) (a : Agreement) : (s.enterStreaming i a).seatLevels := by
  have agreed := State.setLink_seatLevels h i (l := { s.link i with state := .streaming, agreement := some a, claimTimer := none }) (h i).2
  have powered (x : State) (hx : x.seatLevels) : (x.setLink i
      (({ x.link i with misses := 0, statusSincePoll := false, partnerLocked := false } : Link).append (.panelPower true))).seatLevels :=
    State.setLink_seatLevels hx i (Link.append_levelLaw (hx i).2 (fun v hv => by cases hv))
  have sent (x : State) (hx : x.seatLevels) : (x.sendTarget i).seatLevels := by
    obtain ⟨hvol, hlo, hhi, htl, hth, -⟩ := (hx i).1
    exact State.setSeat_seatLevels (State.setLink_seatLevels hx i (Link.append_levelLaw (hx i).2 (fun v hv => by cases hv; exact ⟨htl, hth⟩))) i
      ⟨hvol, hlo, hhi, htl, hth, fun v hv => by cases hv⟩
  have polled (x : State) (hx : x.seatLevels) (video : Bool) : (x.setLink i ((x.link i).poll x.timebase video)).seatLevels :=
    State.setLink_seatLevels hx i (Link.levelLaw_of_kinds (hx i).2 (Link.poll_standsAs _ _ _).queue)
  exact State.startRear_seatLevels (polled _ (sent _ (powered _ (State.postLink_seatLevels agreed i))) _) i

theorem State.Move.seatLevels {s s' : State} (m : s.Move s') (h : s.seatLevels) : s'.seatLevels := by
  cases m with
  | other hd k => exact State.seatLevels_of_same h k.rsl k.sct
  | forward i k ev => exact State.setSeat_seatLevels (s := s.post _ _) h i (h i).1
  | volume i d => exact State.volumePress_seatLevels h i d
  | bright i d => exact State.brightPress_seatLevels h i d
  | release i quiet => exact State.releaseKey_seatLevels h i quiet
  | hold i k => exact State.setSeat_seatLevels h i (h i).1
  | timer i t => exact State.setSeat_seatLevels h i (h i).1
  | level i v hv => exact State.setSeat_seatLevels h i ⟨hv, (h i).1.2⟩
  | seat i r hr => exact State.setSeat_seatLevels h i (hr.law (h i).1)
  | retarget i => exact State.recomputeTarget_seatLevels h i
  | handNext i v hv => exact State.handBacklight_seatLevels h i ((h i).1.2.2.2.2.2 v hv)
  | dimmer v => exact h
  | record i l hl => exact State.setLink_seatLevels h i (Link.levelLaw_of_kinds (h i).2 hl.queue)
  | command i kind hk => exact State.setLink_seatLevels h i (Link.append_levelLaw (h i).2 (fun v hv => absurd hv (hk v)))
  | falls i l quiet hl =>
    have clear : l.levelLaw := fun c hc => by rw [hl.queue] at hc; cases hc
    exact State.fellBack_seatLevels (State.postLink_seatLevels (State.setLink_seatLevels h i clear) i) i _ _
  | goesOn i l hl => exact State.setLink_seatLevels h i (Link.levelLaw_of_kinds (h i).2 (by rw [hl.queue]))
  | streams i a => exact State.enterStreaming_seatLevels h i a
  | _ => exact State.seatLevels_of_same h

/-! ## The laws together -/

theorem State.levelsLaw_iff (s : State) : s.levelsLaw ↔ s.cal.rangeLaw ∧ mixLaw s.chu.mix ∧ s.seatLevels := by
  constructor
  · rintro ⟨hc, hf, hi⟩
    have both (i : Seat) : i ∈ [Seat.s1, Seat.s2] := by cases i <;> simp
    exact ⟨hc, ⟨hf, fun i => (hi i (both i)).2.2⟩, fun i => ⟨(hi i (both i)).1, (hi i (both i)).2.1⟩⟩
  · rintro ⟨hc, ⟨hf, hg⟩, hs⟩
    exact ⟨hc, hf, fun i _ => ⟨(hs i).1, (hs i).2, hg i⟩⟩

/-- The levels of a part that has taken its cold-start values from a working copy. -/
theorem State.coldBlocks_levelsLaw (s : State) (cause : StartCause) {cal : Cal} (h : cal.rangeLaw) (phase : Phase) (high : Bool) :
    ({ s.coldBlocks cause cal with phase := phase, resetN := high } : State).levelsLaw := by
  rw [State.levelsLaw_iff]
  have target := backlightTarget_range (calPolicy cal.working) (calThreshold cal.working) 100 none 0
  have seat : (coldSeat cal.working).law :=
    ⟨calVolume_le h.1, show (-10 : Int) ≤ 0 by decide, show (0 : Int) ≤ 10 by decide, target.1, target.2, fun v hv => by cases hv⟩
  refine ⟨h, ⟨calFrontLevel_le h.1, fun i => ?_⟩, fun i => ⟨?_, ?_⟩⟩
  · cases i <;> exact ⟨show (-30 : Int) ≤ 0 by decide, show (0 : Int) ≤ 0 by decide⟩
  · cases i <;> exact seat
  · cases i <;> exact fun c hc => by cases hc

theorem levelsLaw_keptByMoves : KeptByMoves State.levelsLaw State.levelsLaw where
  time _ _ h := h
  queue _ _ h := h
  opens _ h := h
  settles s h := by
    rw [State.levelsLaw_iff] at h ⊢
    obtain ⟨hc, ⟨hf, hg⟩, hs⟩ := h
    refine ⟨hc, ⟨hf, fun i => ?_⟩, hs⟩
    have gain : ((s.settle.chu.duck).get i).gain = (s.chu.duck.get i).gain := by
      cases i <;> exact Duck.follow_gain _ _ _ _
    rw [Chu.mix, gain]
    exact hg i
  answers _ _ h := h
  move s s' h m := by
    rw [State.levelsLaw_iff] at h ⊢
    obtain ⟨hc, hm, hs⟩ := h
    exact ⟨m.rangeLaw hc, m.mixLaw hc hm, m.seatLevels hs⟩
  record c s h := by
    refine (recordOf_moves c s).keeps (law := State.levelsLaw) (fun s s' h m => ?_) h
    rw [State.levelsLaw_iff] at h ⊢
    obtain ⟨hc, hm, hs⟩ := h
    exact ⟨m.rangeLaw hc, m.mixLaw hc hm, m.seatLevels hs⟩
  cold c s h := by
    rcases coldOf_cases c s with he | ⟨cause, he⟩ | ⟨cause, he⟩
    · rw [he]
      exact h
    · rw [he]
      exact s.coldBlocks_levelsLaw cause (Cal.unloaded_rangeLaw h.1) _ _
    · rw [he]
      exact s.coldBlocks_levelsLaw cause (Cal.load_rangeLaw h.1) _ _

end Sys2Proof.Machine

open Sys2Proof Sys2Proof.Machine

/-- Settles O57: the ranges of the calibration values bound the levels taken from them, and every move keeps a level within its range. -/
theorem levelsStayWithinTheirRanges : Obligations.LevelsStayWithinTheirRanges :=
  fun _ _ h hstep => levelsLaw_keptByMoves.step h hstep

end

section
/-! # Proofs: the laws of the links and of the rows they drive (R79, R80, R86, R97, R113) -/

namespace Sys2Proof.Machine

/-! ## One link -/

/-- The laws of one link's record. -/
def Link.law (l : Link) : Prop := l.queueLaw ∧ l.agreementLaw ∧ l.claimLaw

/-- A link with neither commands nor an agreement, outside STREAMING and CLAIMING, meets its laws. -/
theorem Link.law_of_clear {l : Link} (h : l.isClear) : l.law := by
  obtain ⟨⟨hs, hc⟩, ha, hq⟩ := h
  refine ⟨by simp [Link.queueLaw, hq], ⟨by simp [ha, hs], ?_⟩, fun hl => absurd hl hc⟩
  rw [ha]
  intro a h
  cases h

/-- R86: whether a command is a BACKLIGHT one is told by its kind. -/
def CommandKind.isBacklight (k : CommandKind) : Bool := Command.isBacklight ⟨k, false, 0⟩

theorem filter_isBacklight_length (q : List Command) :
    (q.filter (·.isBacklight)).length = ((q.map (·.kind)).filter CommandKind.isBacklight).length := by
  rw [List.filter_map, List.length_map]
  rfl

theorem Link.standsAs.law {l' l : Link} (k : l'.standsAs l) (h : l.law) : l'.law := by
  obtain ⟨⟨hlen, hone, hnil⟩, ⟨hag, hmode⟩, hclaim⟩ := h
  have len := k.queue.length_le
  have one := (k.queue.filter CommandKind.isBacklight).length_le
  simp only [List.length_map, ← filter_isBacklight_length] at len one
  have within (o : Offer) : l'.within o ↔ l.within o := by rw [Link.within, Link.within, k.cable, k.inForce]
  refine ⟨⟨len.trans hlen, one.trans hone, fun hs => ?_⟩, ⟨?_, ?_⟩, ?_⟩
  · rw [hnil (k.state ▸ hs)] at len
    exact List.eq_nil_of_length_eq_zero (Nat.le_zero.1 len)
  · rw [k.agreement, k.state]
    exact hag
  · intro a ha
    rw [k.agreement] at ha
    simp only [k.offers, within]
    exact hmode a ha
  · intro hs
    simp only [k.claimed, k.offers, within]
    exact hclaim (k.state ▸ hs)

theorem Link.goesOn.law {l' l : Link} (k : l'.goesOn l) (hc : l'.claimLaw) (h : l.law) : l'.law := by
  obtain ⟨⟨hlen, hone, hnil⟩, ⟨hag, -⟩, -⟩ := h
  have none : l'.agreement = none := by
    rw [k.agreement]
    exact Option.not_isSome_iff_eq_none.1 (fun hl => k.before (hag.1 hl))
  refine ⟨by simp [Link.queueLaw, k.queue, hnil k.before], ⟨by simp [none, k.after], ?_⟩, hc⟩
  rw [none]
  intro a ha
  cases ha

/-- A streaming link takes a command while its queue has room, and a BACKLIGHT one while it holds none. -/
theorem Link.append_law {l : Link} (h : l.law) (hs : l.state = .streaming) (hroom : l.queue.length < 4) {kind : CommandKind}
    (hk : kind.isBacklight = true → l.queue.filter (·.isBacklight) = []) : (l.append kind).law := by
  obtain ⟨⟨-, hone, -⟩, hag, hclaim⟩ := h
  refine ⟨⟨?_, ?_, fun hn => absurd hs hn⟩, hag, hclaim⟩
  · simp only [Link.append, List.length_append, List.length_singleton]
    omega
  · have last (b : Bool) : ([⟨kind, b, 0⟩] : List Command).filter (·.isBacklight) = if kind.isBacklight = true then [⟨kind, b, 0⟩] else [] :=
      List.filter_cons
    rw [Link.append, List.filter_append, List.length_append, last]
    split
    · next hb => rw [hk hb]; rfl
    · exact hone

/-- R87: the BACKLIGHT command that waits keeps its place and its kind when its value is replaced. -/
theorem Link.takeBacklight_law {l : Link} (h : l.law) (v : Nat) : (l.takeBacklight v).1.law := by
  unfold Link.takeBacklight
  split
  · exact h
  next hs =>
  split
  · split
    · obtain ⟨⟨hlen, hone, hnil⟩, hag, hclaim⟩ := h
      refine ⟨⟨by simpa using hlen, ?_, fun hn => absurd hn hs⟩, hag, hclaim⟩
      have same (q : Command) : Command.isBacklight (if q.isBacklight = true then { q with kind := .backlight v } else q) = q.isBacklight := by
        split
        · next hb => exact hb.symm
        · rfl
      rw [List.filter_map, List.length_map]
      simp only [Function.comp_def, same]
      exact hone
    · exact h
  · next hfind =>
    have empty : l.queue.filter (·.isBacklight) = [] :=
      List.filter_eq_nil_iff.2 (fun c hc => List.find?_eq_none.1 hfind c hc)
    split
    · next hroom => exact Link.append_law h (not_not.1 hs) hroom (fun _ => empty)
    · exact h

/-! ## The links of the part -/

def State.linksLaw (s : State) : Prop := ∀ i, (s.link i).law

theorem State.linksLaw_of_same {s s' : State} (h : s.linksLaw) (hr : s'.rsl = s.rsl := by simp) : s'.linksLaw := by
  intro i
  rw [State.link, hr]
  exact h i

theorem State.setLink_linksLaw {s : State} (h : s.linksLaw) (i : Seat) {l : Link} (hl : l.law) : (s.setLink i l).linksLaw := by
  intro j
  by_cases hj : j = i
  · subst hj
    rw [State.link_setLink_same]
    exact hl
  · rw [State.link_setLink_other _ hj]
    exact h j

theorem State.handBacklight_linksLaw {s : State} (h : s.linksLaw) (i : Seat) (v : Nat) : (s.handBacklight i v).linksLaw :=
  State.setLink_linksLaw h i (Link.takeBacklight_law (h i) v)

theorem State.recomputeTarget_linksLaw {s : State} (h : s.linksLaw) (i : Seat) : (s.recomputeTarget i).linksLaw := by
  unfold State.recomputeTarget
  dsimp only
  split
  · exact State.handBacklight_linksLaw (State.linksLaw_of_same h) i _
  · exact h

theorem State.brightPress_linksLaw {s : State} (h : s.linksLaw) (i : Seat) (d : Dir) : (s.brightPress i d).linksLaw := by
  unfold State.brightPress
  dsimp only
  split
  · exact h
  · exact State.recomputeTarget_linksLaw (State.linksLaw_of_same h) i

theorem State.fellBack_linksLaw {s : State} (h : s.linksLaw) (i : Seat) (before : Link) (quiet : Bool) :
    (s.fellBack i before quiet).linksLaw := by
  have ambient : (if before.ambient.isSome then s.takeAmbient i none else s).linksLaw := by
    split
    · exact State.recomputeTarget_linksLaw (State.linksLaw_of_same h) i
    · exact h
  unfold State.fellBack
  refine State.linksLaw_of_same ambient ?_
  rw [State.linkFellBack_rsl]
  split <;> simp

/-- R81: the record of a link that enters STREAMING with an agreement, before its first POLL; `v` is the backlight target. -/
def Link.agreed (l : Link) (a : Agreement) (v : Nat) : Link :=
  let l := { l with state := .streaming, agreement := some a, claimTimer := none, misses := 0, statusSincePoll := false, partnerLocked := false }
  (l.append (.panelPower true)).append (.backlight v)

theorem State.enterStreaming_link_same (s : State) (i : Seat) (a : Agreement) :
    ∃ video, (s.enterStreaming i a).link i = ((s.link i).agreed a (s.seat i).target).poll s.timebase video := by
  unfold State.enterStreaming
  dsimp only
  rw [State.link, State.startRear_rsl]
  cases i <;> exact ⟨_, rfl⟩

theorem State.enterStreaming_link_other (s : State) {i j : Seat} (h : j ≠ i) (a : Agreement) : (s.enterStreaming i a).link j = s.link j := by
  unfold State.enterStreaming
  dsimp only
  refine Eq.trans (congrArg (fun r => r.get j) (State.startRear_rsl _ i)) ?_
  cases i <;> cases j <;> first | rfl | exact absurd rfl h

/-- R80, R81: the agreement is for the offer that was claimed; PANEL_POWER and the backlight target wait in the queue. -/
theorem Link.agreed_law {l : Link} (h : l.law) {a : Agreement} (hs : l.state = .claiming) (ha : l.agree = some a) (v : Nat) :
    (l.agreed a v).law := by
  obtain ⟨⟨-, -, hnil⟩, -, hclaim⟩ := h
  have empty : l.queue = [] := hnil (by simp [hs])
  obtain ⟨n, hn, h1, o, ho, hw⟩ := hclaim hs
  have mode : a.index = n ∧ a.width = o.width ∧ a.height = o.height ∧ a.refresh = o.refresh := by
    rw [Link.agree, show l.claimed = some n from hn] at ha
    simp only [show l.offers[n - 1]? = some o from ho, Option.map_some, Option.some.injEq] at ha
    subst ha
    exact ⟨rfl, rfl, rfl, rfl⟩
  obtain ⟨rfl, hmw, hmh, hmr⟩ := mode
  refine ⟨⟨by simp [Link.agreed, Link.append, empty], by simp [Link.agreed, Link.append, empty, Command.isBacklight], fun hn => absurd rfl hn⟩,
    ⟨by simp [Link.agreed, Link.append], ?_⟩, fun hc => by cases hc⟩
  intro b hb
  obtain rfl : a = b := Option.some.inj hb
  exact ⟨h1, o, ho, hmw.symm, hmh.symm, hmr.symm, hw⟩

theorem State.enterStreaming_linksLaw {s : State} (h : s.linksLaw) {i : Seat} {a : Agreement} (hs : (s.link i).state = .claiming)
    (ha : (s.link i).agree = some a) : (s.enterStreaming i a).linksLaw := by
  intro j
  by_cases hj : j = i
  · subst hj
    obtain ⟨video, he⟩ := s.enterStreaming_link_same j a
    rw [he]
    exact (Link.poll_standsAs _ _ _).law (Link.agreed_law (h j) hs ha _)
  · rw [State.enterStreaming_link_other s hj]
    exact h j

theorem State.Move.linksLaw {s s' : State} (m : s.Move s') (h : s.linksLaw) : s'.linksLaw := by
  cases m with
  | other hd k => exact State.linksLaw_of_same h k.rsl
  | bright i d => exact State.brightPress_linksLaw h i d
  | retarget i => exact State.recomputeTarget_linksLaw h i
  | handNext i v => exact State.handBacklight_linksLaw h i v
  | record i l hl => exact State.setLink_linksLaw h i (hl.law (h i))
  | command i kind hk hs hq =>
    refine State.setLink_linksLaw h i (Link.append_law (h i) hs hq (fun hb => ?_))
    cases kind with
    | backlight v => exact absurd rfl (hk v)
    | panelPower on => cases hb
    | raw a b c => cases hb
  | falls i l quiet hl =>
    exact State.fellBack_linksLaw (State.linksLaw_of_same (State.setLink_linksLaw h i (Link.law_of_clear hl))) i _ _
  | goesOn i l hl hc => exact State.setLink_linksLaw h i (hl.law hc (h i))
  | streams i a hs ha => exact State.enterStreaming_linksLaw h hs ha
  | _ => exact State.linksLaw_of_same h

/-! ## The rear rows -/

/-- R97, R99, R113 for both rows. -/
def State.rowsLaw (s : State) : Prop := ∀ i, s.rowLaw i

/-- A row keeps whether it has frame starts, and no route becomes pending. -/
structure Row.framesAs (r' r : Row) : Prop where
  nextFrame : r'.nextFrame.isSome = r.nextFrame.isSome
  pending : r'.pending.isSome = true → r.pending.isSome = true

theorem Cmp.keepsRear.row {s' s : State} (h : s'.cmp.keepsRear s.cmp) (i : Seat) : (s'.rearRow i).framesAs (s.rearRow i) :=
  ⟨h.nextFrame i, h.pending i⟩

theorem State.rowsLaw_of_keeps {s s' : State} (h : s.rowsLaw) (hs : ∀ i, (s'.link i).state = .streaming ↔ (s.link i).state = .streaming)
    (hr : ∀ i, (s'.rearRow i).framesAs (s.rearRow i)) : s'.rowsLaw := by
  intro i
  obtain ⟨hframe, hpend⟩ := h i
  exact ⟨by rw [(hr i).nextFrame, hs]; exact hframe, fun hx => (hs i).2 (hpend ((hr i).pending hx))⟩

theorem State.rowsLaw_of_rear {s s' : State} (h : s.rowsLaw) (hs : ∀ i, (s'.link i).state = (s.link i).state)
    (hr : s'.cmp.keepsRear s.cmp) : s'.rowsLaw :=
  State.rowsLaw_of_keeps h (fun i => by rw [hs i]) hr.row

theorem State.rowsLaw_of_same {s s' : State} (h : s.rowsLaw) (hl : s'.rsl = s.rsl := by simp)
    (hr : s'.cmp.rear = s.cmp.rear := by simp) : s'.rowsLaw :=
  State.rowsLaw_of_keeps h (fun i => by rw [State.link, hl]; rfl) (fun i => by rw [State.rearRow, hr]; exact ⟨rfl, id⟩)

@[simp] theorem State.closeMenu_rear (s : State) (i : Seat) (reason : CloseReason) (quiet : Bool) :
    (s.closeMenu i reason quiet).cmp.rear = s.cmp.rear := by
  unfold State.closeMenu
  (repeat' split) <;> rfl

@[simp] theorem State.closeIfHolds_rear (s : State) (id : Nat) (i : Seat) : (s.closeIfHolds id i).cmp.rear = s.cmp.rear := by
  unfold State.closeIfHolds
  split
  · exact s.closeMenu_rear i _ _
  · rfl

@[simp] theorem State.openMenu_rear (s : State) (i : Seat) (p : Page) : (s.openMenu i p).cmp.rear = s.cmp.rear := rfl

/-- R99: a pending route that comes into effect is pending no longer. -/
theorem State.rearRouteTakesEffect_pendingRoute (s : State) (i : Seat) : ((s.rearRouteTakesEffect i).rearRow i).pending = none := by
  have taken : (s.rearRow i).takePending.pending = none := by
    unfold Row.takePending
    split
    · assumption
    · rfl
  have kept := (State.judgeRear_keepsRear (Cmp.keepsRear_refl (s.setRearRow i (s.rearRow i).takePending).cmp) i).pending i
  refine Option.not_isSome_iff_eq_none.1 (fun h => ?_)
  have set := kept h
  rw [← State.rearRow, State.rearRow_setRearRow_same, taken] at set
  cases set

/-- R113: a row that stops has no frame starts and no pending route. -/
theorem State.stopRear_row (s : State) (i : Seat) :
    ((s.stopRear i).rearRow i).nextFrame = none ∧ ((s.stopRear i).rearRow i).pending = none := by
  have set := State.rearRow_setRearRow_same s i { s.rearRow i with frame := none, nextFrame := none }
  have routed := (State.rearRouteTakesEffect_keepsRear
    (Cmp.keepsRear_refl (s.setRearRow i { s.rearRow i with frame := none, nextFrame := none }).cmp) i).row i
  have route := State.rearRouteTakesEffect_pendingRoute (s.setRearRow i { s.rearRow i with frame := none, nextFrame := none }) i
  have judged := (State.judgeRearBanner_keepsRear (Cmp.keepsRear_refl
    ((s.setRearRow i { s.rearRow i with frame := none, nextFrame := none }).rearRouteTakesEffect i).cmp) i).row i
  rw [set] at routed
  exact ⟨Option.not_isSome_iff_eq_none.1 (fun h => by cases routed.nextFrame.symm.trans (judged.nextFrame.symm.trans h)),
    Option.not_isSome_iff_eq_none.1 (fun h => by have left := judged.pending h; rw [route] at left; cases left)⟩

/-- The other row keeps its frame starts and its pending route. -/
theorem State.stopRear_otherRow (s : State) {i j : Seat} (h : j ≠ i) : ((s.stopRear i).rearRow j).framesAs (s.rearRow j) := by
  rw [← State.rearRow_setRearRow_other s h { s.rearRow i with frame := none, nextFrame := none }]
  exact (State.judgeRearBanner_keepsRear (State.rearRouteTakesEffect_keepsRear
    (Cmp.keepsRear_refl (s.setRearRow i { s.rearRow i with frame := none, nextFrame := none }).cmp) i) i).row j

/-- What a fall-back makes of the rear rows is the stop of the row of a link that streamed. -/
theorem State.fellBack_rear (s : State) (i : Seat) (before : Link) (quiet : Bool) :
    ∃ x : State, x.cmp = s.cmp
      ∧ (s.fellBack i before quiet).cmp.rear = if before.state = .streaming then (x.stopRear i).cmp.rear else s.cmp.rear := by
  unfold State.fellBack
  refine ⟨if before.ambient.isSome then s.takeAmbient i none else s, by split <;> simp, ?_⟩
  rw [State.linkFellBack_cmp]
  split
  · exact State.closeMenu_rear _ i _ quiet
  · split <;> simp

theorem State.fellBack_rowsLaw {s s' : State} {i : Seat} (h : s.rowsLaw) (hc : s'.cmp = s.cmp) (hi : (s'.link i).state ≠ .streaming)
    (ho : ∀ j, j ≠ i → (s'.link j).state = (s.link j).state) (quiet : Bool) : (s'.fellBack i (s.link i) quiet).rowsLaw := by
  have link (j : Seat) : ((s'.fellBack i (s.link i) quiet).link j).state = (s'.link j).state := State.fellBack_link_state s' i _ quiet j
  obtain ⟨x, hx, hr⟩ := s'.fellBack_rear i (s.link i) quiet
  have row (j : Seat) : (s'.fellBack i (s.link i) quiet).rearRow j
      = if (s.link i).state = .streaming then (x.stopRear i).rearRow j else s.rearRow j := by
    rw [State.rearRow, hr, hc]
    split <;> rfl
  intro j
  rw [State.rowLaw, row, link]
  by_cases hj : j = i
  · subst hj
    by_cases hs : (s.link j).state = .streaming
    · obtain ⟨hn, hp⟩ := x.stopRear_row j
      simp [hs, hn, hp, hi]
    · obtain ⟨hn, hp⟩ := h j
      simp only [hs, if_false, hi, iff_false]
      exact ⟨fun hf => hs (hn.1 hf), fun hf => hs (hp hf)⟩
  · rw [ho j hj]
    obtain ⟨hn, hp⟩ := h j
    split
    · have kept := x.stopRear_otherRow hj
      rw [show x.rearRow j = s.rearRow j from congrArg (fun c => c.rear.get j) (hx.trans hc)] at kept
      exact ⟨by rw [kept.nextFrame]; exact hn, fun hf => hp (kept.pending hf)⟩
    · exact ⟨hn, hp⟩

/-- R113: a row that starts has its next frame start and no pending route; the other row keeps both. -/
theorem State.startRear_rows (s : State) (i : Seat) (ha : (s.link i).agreement.isSome = true) :
    ((s.startRear i).rearRow i).nextFrame.isSome = true ∧ ((s.startRear i).rearRow i).pending = none
    ∧ ∀ j, j ≠ i → ((s.startRear i).rearRow j).framesAs (s.rearRow j) := by
  obtain ⟨a, ha⟩ := Option.isSome_iff_exists.1 ha
  have judged := State.rearRouteTakesEffect_keepsRear (State.judgeRearBanner_keepsRear (Cmp.keepsRear_refl s.cmp) i) i
  have route := State.rearRouteTakesEffect_pendingRoute (s.judgeRearBanner i) i
  have frame : s.startRear i = (s.judgeRearBanner i).rearFrame i := rfl
  have agreed : ((s.judgeRearBanner i).link i).agreement = some a := ha
  unfold State.rearFrame at frame
  rw [agreed] at frame
  dsimp only at frame
  rw [frame]
  refine ⟨by rw [State.rearRow_setRearRow_same]; rfl, ?_, fun j hj => ?_⟩
  · rw [State.rearRow_setRearRow_same, State.rearRow_setRearRow_same]
    exact route
  · rw [State.rearRow_setRearRow_other _ hj, State.rearRow_setRearRow_other _ hj]
    exact judged.row j

/-- R81: the entry to STREAMING ends with the start of the rear row. -/
theorem State.enterStreaming_startRear (s : State) (i : Seat) (a : Agreement) :
    ∃ x : State, x.cmp = s.cmp ∧ s.enterStreaming i a = x.startRear i := by
  unfold State.enterStreaming
  exact ⟨_, by rfl, rfl⟩

theorem State.enterStreaming_rowsLaw {s : State} (h : s.rowsLaw) (i : Seat) (a : Agreement) : (s.enterStreaming i a).rowsLaw := by
  obtain ⟨video, link⟩ := s.enterStreaming_link_same i a
  have kept := Link.poll_standsAs ((s.link i).agreed a (s.seat i).target) s.timebase video
  obtain ⟨x, hx, he⟩ := s.enterStreaming_startRear i a
  have agreed : (x.link i).agreement = some a := by
    have rsl := x.startRear_rsl i
    rw [← he] at rsl
    rw [State.link, ← rsl, ← State.link, link, kept.agreement]
    rfl
  obtain ⟨hn, hp, ho⟩ := x.startRear_rows i (by rw [agreed]; rfl)
  rw [← he] at hn hp ho
  intro j
  by_cases hj : j = i
  · subst hj
    have streams : ((s.enterStreaming j a).link j).state = .streaming := by
      rw [link, kept.state]
      rfl
    simp [State.rowLaw, hn, hp, streams]
  · have kept := ho j hj
    obtain ⟨hframe, hpend⟩ := h j
    rw [show x.rearRow j = s.rearRow j from congrArg (fun c => c.rear.get j) hx] at kept
    rw [State.rowLaw, kept.nextFrame, State.enterStreaming_link_other s hj]
    exact ⟨hframe, fun hf => hpend (kept.pending hf)⟩

theorem State.setPending_rowsLaw {s : State} (h : s.rowsLaw) (i : Seat) (src : Source) : (s.setPending (.ro i) src).rowsLaw := by
  have link (j : Seat) : (s.setPending (.ro i) src).link j = s.link j := congrArg (fun r => r.get j) (s.setPending_rsl (.ro i) src)
  have asked := State.rearRow_setRearRow_same s i { s.rearRow i with pending := some src }
  have other (j : Seat) (hj : j ≠ i) := State.rearRow_setRearRow_other s hj { s.rearRow i with pending := some src }
  have routed := State.rearRouteTakesEffect_keepsRear (Cmp.keepsRear_refl (s.setRearRow i { s.rearRow i with pending := some src }).cmp) i
  have none := State.rearRouteTakesEffect_pendingRoute (s.setRearRow i { s.rearRow i with pending := some src }) i
  intro j
  obtain ⟨hn, hp⟩ := h j
  rw [State.rowLaw, link]
  unfold State.setPending
  dsimp only
  split
  · next hs =>
    by_cases hj : j = i
    · subst hj
      rw [asked]
      exact ⟨hn, fun _ => hs⟩
    · rw [other j hj]
      exact ⟨hn, hp⟩
  · have kept := routed.row j
    rw [kept.nextFrame]
    by_cases hj : j = i
    · subst hj
      rw [asked, none]
      exact ⟨hn, fun hf => by cases hf⟩
    · rw [other j hj] at kept ⊢
      exact ⟨hn, fun hf => hp (kept.pending hf)⟩

theorem State.Move.rowsLaw {s s' : State} (m : s.Move s') (h : s.rowsLaw) : s'.rowsLaw := by
  have set (i : Seat) (l : Link) (hl : l.state = .streaming ↔ (s.link i).state = .streaming) : (s.setLink i l).rowsLaw := by
    refine State.rowsLaw_of_keeps h (fun j => ?_) (fun _ => ⟨rfl, id⟩)
    by_cases hj : j = i
    · subst hj
      rw [State.link_setLink_same]
      exact hl
    · rw [State.link_setLink_other _ hj]
  cases m with
  | other hd k => exact State.rowsLaw_of_rear h (fun i => by rw [State.link, k.rsl]; rfl) k.rear
  | bright i d => exact State.rowsLaw_of_rear h (s.brightPress_link_state i d) (by simp [Cmp.keepsRear_refl])
  | retarget i => exact State.rowsLaw_of_rear h (s.recomputeTarget_link_state i) (by simp [Cmp.keepsRear_refl])
  | handNext i v => exact State.rowsLaw_of_rear h (s.handBacklight_link_state i v) (by simp [Cmp.keepsRear_refl])
  | changes hd c => exact State.rowsLaw_of_rear h (fun i => by rw [State.link, State.changeRvc_rsl]; rfl) (State.changeRvc_keepsRear (Cmp.keepsRear_refl _) c)
  | record i l hl => exact set i l (by rw [hl.state])
  | command i kind => exact set i _ Iff.rfl
  | goesOn i l hl => exact set i l (iff_of_false hl.after hl.before)
  | falls i l quiet hl =>
    have link (j : Seat) : ((s.setLink i l).postLink i).link j = (s.setLink i l).link j := rfl
    refine State.fellBack_rowsLaw (s' := (s.setLink i l).postLink i) h (by rw [State.postLink_cmp, State.setLink_cmp]) ?_ (fun j hj => ?_) quiet
    · rw [link, State.link_setLink_same]
      exact hl.state.1
    · rw [link, State.link_setLink_other _ hj]
  | streams i a => exact State.enterStreaming_rowsLaw h i a
  | routes hd i src => exact State.setPending_rowsLaw h i src
  | _ => exact State.rowsLaw_of_same h

/-! ## The laws together -/

theorem State.linkLaw_iff (s : State) : s.linkLaw ↔ s.linksLaw ∧ s.rowsLaw := by
  constructor
  · intro h
    have both (i : Seat) := h i (by cases i <;> simp)
    exact ⟨fun i => ⟨(both i).1, (both i).2.1, (both i).2.2.1⟩, fun i => (both i).2.2.2⟩
  · rintro ⟨hl, hr⟩ i -
    obtain ⟨hq, ha, hc⟩ := hl i
    exact ⟨hq, ha, hc, hr i⟩

theorem State.Move.linkLaw {s s' : State} (m : s.Move s') (h : s.linkLaw) : s'.linkLaw := by
  rw [State.linkLaw_iff] at h ⊢
  exact ⟨m.linksLaw h.1, m.rowsLaw h.2⟩

/-- Every link is detached, and every row idle, after a cold start. -/
theorem State.coldBlocks_linkLaw (s : State) (cause : StartCause) (cal : Cal) (phase : Phase) (high : Bool) :
    ({ s.coldBlocks cause cal with phase := phase, resetN := high } : State).linkLaw := by
  rw [State.linkLaw_iff]
  constructor
  · intro i
    cases i <;> exact Link.law_of_clear ⟨⟨by simp [State.link, State.coldBlocks, coldLink, Two.get], by simp [State.link, State.coldBlocks, coldLink, Two.get]⟩, rfl, rfl⟩
  · intro i
    cases i <;> simp [State.rowLaw, State.rearRow, State.link, State.coldBlocks, coldLink, coldCmp, coldRow, Two.get]

theorem linkLaw_keptByMoves : KeptByMoves State.linkLaw State.linkLaw where
  time _ _ h := h
  queue _ _ h := h
  opens _ h := h
  settles _ h := h
  answers _ _ h := h
  move _ _ h m := m.linkLaw h
  record c s h := (recordOf_moves c s).keeps (law := State.linkLaw) (fun _ _ h m => m.linkLaw h) h
  cold c s h := by
    rcases coldOf_cases c s with he | ⟨cause, he⟩ | ⟨cause, he⟩
    · rw [he]
      exact h
    · rw [he]
      exact s.coldBlocks_linkLaw cause _ _ _
    · rw [he]
      exact s.coldBlocks_linkLaw cause _ _ _

end Sys2Proof.Machine

open Sys2Proof Sys2Proof.Machine

/-- Settles O51: every move keeps the laws of the links and those of the rows they drive. -/
theorem linkLawsAreKept : Obligations.LinkLawsAreKept :=
  fun _ _ h hstep => linkLaw_keptByMoves.step h hstep

end

section
/-! # Proofs: the laws of the page store, the menus and the keys (R115, R121, R123, R132, R138 to R140) -/

namespace Sys2Proof.Machine

/-! ## The page store -/

theorem findPage_isSome_iff {store : List Page} {id : Nat} : (findPage store id).isSome = true ↔ id ∈ store.map (·.id) := by
  simp [findPage, List.find?_isSome]

theorem itemTotal_eq_sum (store : List Page) : itemTotal store = (store.map (fun p => p.items.length)).sum := by
  induction store with
  | nil => rfl
  | cons p rest ih => rw [itemTotal, ih, List.map_cons, List.sum_cons]

/-- R115 on the list of pages. -/
def pagesFit (store : List Page) : Prop := store.length ≤ 32 ∧ itemTotal store ≤ 256 ∧ (store.map (·.id)).Nodup

/-- An item that is replaced leaves the ids and the counts of the store. -/
theorem setItem_ids (store : List Page) (page n : Nat) (it : Item) : (setItem store page n it).map (·.id) = store.map (·.id) := by
  rw [setItem, List.map_map]
  refine List.map_congr_left (fun p _ => ?_)
  dsimp only [Function.comp_apply]
  split <;> rfl

theorem setItem_pagesFit {store : List Page} (h : pagesFit store) (page n : Nat) (it : Item) : pagesFit (setItem store page n it) := by
  obtain ⟨hlen, hitems, hids⟩ := h
  refine ⟨by simpa [setItem] using hlen, ?_, by rwa [setItem_ids]⟩
  have counts : (setItem store page n it).map (fun p => p.items.length) = store.map (fun p => p.items.length) := by
    rw [setItem, List.map_map]
    refine List.map_congr_left (fun p _ => ?_)
    dsimp only [Function.comp_apply]
    split <;> simp
  rwa [itemTotal_eq_sum, counts, ← itemTotal_eq_sum]

theorem pagesFit_of_sublist {store' store : List Page} (hs : store'.Sublist store) (h : pagesFit store) : pagesFit store' := by
  obtain ⟨hlen, hitems, hids⟩ := h
  refine ⟨hs.length_le.trans hlen, ?_, hids.sublist (hs.map _)⟩
  rw [itemTotal_eq_sum] at hitems ⊢
  exact ((hs.map _).sum_le_sum (fun _ _ => Nat.zero_le _)).trans hitems

/-- The items of a store in which a page has taken the place of the one with its id. -/
theorem itemTotal_replace {store : List Page} {p old : Page} (hids : (store.map (·.id)).Nodup) (hf : findPage store p.id = some old) :
    itemTotal (store.map (fun q => if q.id = p.id then p else q)) = itemTotal store - old.items.length + p.items.length
    ∧ old.items.length ≤ itemTotal store := by
  induction store with
  | nil => cases hf
  | cons q rest ih =>
    obtain ⟨hq, hrest⟩ := List.nodup_cons.1 hids
    unfold findPage at hf
    rw [List.find?_cons] at hf
    by_cases hqp : q.id = p.id
    · have others : rest.map (fun q => if q.id = p.id then p else q) = rest := by
        refine (List.map_congr_left (fun r hr => if_neg (fun he => hq ?_))).trans (List.map_id rest)
        exact List.mem_map.2 ⟨r, hr, he.trans hqp.symm⟩
      obtain rfl : q = old := by simpa [hqp] using hf
      simp only [List.map_cons, hqp, if_true, others, itemTotal]
      omega
    · obtain ⟨he, hle⟩ := ih hrest (by unfold findPage; simpa [hqp] using hf)
      simp only [List.map_cons, hqp, if_false, itemTotal, he]
      omega

theorem any_id_eq (store : List Page) (id : Nat) : store.any (fun q => q.id = id) = (findPage store id).isSome := by
  rw [Bool.eq_iff_iff, findPage_isSome_iff]
  simp

theorem putPage_ids (store : List Page) (p : Page) :
    (putPage store p).map (·.id) = if (findPage store p.id).isSome = true then store.map (·.id) else store.map (·.id) ++ [p.id] := by
  have found := any_id_eq store p.id
  unfold putPage
  rw [found]
  split
  · rw [List.map_map]
    refine List.map_congr_left (fun q _ => ?_)
    dsimp only [Function.comp_apply]
    split
    · next hq => exact hq.symm
    · rfl
  · simp

/-- R116: a page that has space enters the store, in the place of the page with its id. -/
theorem putPage_pagesFit {store : List Page} (h : pagesFit store) {p : Page} (hp : hasSpace store p = true) : pagesFit (putPage store p) := by
  obtain ⟨hlen, hitems, hids⟩ := h
  have ids := putPage_ids store p
  have len := congrArg List.length ids
  have found := any_id_eq store p.id
  have fresh : (findPage store p.id).isSome = false → p.id ∉ store.map (·.id) := by
    intro hn hm
    rw [findPage_isSome_iff.2 hm] at hn
    cases hn
  unfold hasSpace at hp
  cases hf : findPage store p.id with
  | none =>
    rw [hf] at hp ids len found fresh
    simp only [Bool.and_eq_true, decide_eq_true_eq] at hp
    obtain ⟨hroom, hspace⟩ := hp
    have total : itemTotal (putPage store p) = itemTotal store + p.items.length := by
      rw [putPage, found, itemTotal_eq_sum, itemTotal_eq_sum]
      simp
    refine ⟨?_, total ▸ hspace, ?_⟩
    · simp only [List.length_map] at len
      rw [len]
      simpa [Config.maxPages] using hroom
    · rw [ids]
      simpa [List.nodup_append, hids] using fresh rfl
  | some old =>
    rw [hf] at hp ids len found
    simp only [decide_eq_true_eq] at hp
    have total : itemTotal (putPage store p) = itemTotal store - old.items.length + p.items.length := by
      rw [putPage, found]
      exact (itemTotal_replace hids hf).1
    refine ⟨?_, total ▸ hp, by rw [ids]; exact hids⟩
    simp only [List.length_map, Option.isSome_some, if_true] at len
    rw [len]
    exact hlen

theorem findPage_putPage {store : List Page} {p : Page} {id : Nat} (h : (findPage store id).isSome = true) :
    (findPage (putPage store p) id).isSome = true := by
  rw [findPage_isSome_iff] at h ⊢
  rw [putPage_ids]
  split
  · exact h
  · exact List.mem_append_left _ h

theorem findPage_setItem {store : List Page} (page n : Nat) (it : Item) (id : Nat) :
    (findPage (setItem store page n it) id).isSome = (findPage store id).isSome := by
  rw [Bool.eq_iff_iff, findPage_isSome_iff, findPage_isSome_iff, setItem_ids]

theorem findPage_filter {store : List Page} {id gone : Nat} (h : (findPage store id).isSome = true) (hne : id ≠ gone) :
    (findPage (store.filter (fun q => !decide (q.id = gone))) id).isSome = true := by
  rw [findPage_isSome_iff, List.mem_map] at h ⊢
  obtain ⟨q, hq, rfl⟩ := h
  exact ⟨q, List.mem_filter.2 ⟨hq, by simpa using hne⟩, rfl⟩

/-! ## The menus -/

theorem State.closeMenu_store (s : State) (i : Seat) (r : CloseReason) (q : Bool) : (s.closeMenu i r q).mnu.store = s.mnu.store := by
  unfold State.closeMenu
  (repeat' split) <;> rfl

theorem State.closeIfHolds_store (s : State) (id : Nat) (i : Seat) : (s.closeIfHolds id i).mnu.store = s.mnu.store := by
  unfold State.closeIfHolds
  split
  · exact s.closeMenu_store i _ _
  · rfl

/-- A menu is closed, its plane off and its idle timer stopped. -/
structure State.menuShut (s : State) (i : Seat) : Prop where
  ctx : s.ctx i = ⟨[], none⟩
  plane : s.cmp.menuPlane.get i = false

/-- A menu and its plane are as they were. -/
structure State.menuAs (s' s : State) (i : Seat) : Prop where
  ctx : s'.ctx i = s.ctx i
  plane : s'.cmp.menuPlane.get i = s.cmp.menuPlane.get i

theorem State.menuAs_of_eq {s' s : State} (hm : s'.mnu = s.mnu) (hp : s'.cmp.menuPlane = s.cmp.menuPlane) (i : Seat) : s'.menuAs s i :=
  ⟨by rw [State.ctx, hm]; rfl, by rw [hp]⟩

theorem State.menuAs.trans {a b c : State} {i : Seat} (h : a.menuAs b i) (k : b.menuAs c i) : a.menuAs c i :=
  ⟨h.ctx.trans k.ctx, h.plane.trans k.plane⟩

theorem State.menuShut.of_as {s' s : State} {i : Seat} (h : s.menuShut i) (k : s'.menuAs s i) : s'.menuShut i :=
  ⟨k.ctx.trans h.ctx, k.plane.trans h.plane⟩

theorem State.menuLaw_of_shut {s : State} {i : Seat} (h : s.menuShut i) : s.menuLaw i := by
  obtain ⟨hc, hp⟩ := h
  simp [State.menuLaw, hc, hp, MenuContext.isOpen]

/-- A menu that is closed is shut. -/
theorem State.menuShut_of_closed {s : State} {i : Seat} (h : s.menuLaw i) (hc : (s.ctx i).stack = []) : s.menuShut i := by
  obtain ⟨-, -, -, hplane, hidle⟩ := h
  have idle : (s.ctx i).idle = none := Option.not_isSome_iff_eq_none.1 (fun hi => hidle hi hc)
  refine ⟨?_, by rw [hplane, MenuContext.isOpen, hc]; rfl⟩
  cases he : s.ctx i with
  | mk stack timer =>
    rw [he] at hc idle
    subst hc idle
    rfl

/-- A menu that is as it was keeps its law while its pages stay and its link streams on. -/
theorem State.menuLaw_of_as {s s' : State} {i : Seat} (h : s.menuLaw i) (k : s'.menuAs s i)
    (hf : ∀ e ∈ (s.ctx i).stack, (findPage s.mnu.store e.page).isSome = true → (findPage s'.mnu.store e.page).isSome = true)
    (hs : (s.ctx i).stack ≠ [] → (s.link i).state = .streaming → (s'.link i).state = .streaming) : s'.menuLaw i := by
  obtain ⟨hdepth, hpages, hstream, hplane, hidle⟩ := h
  rw [State.menuLaw, k.ctx, k.plane]
  exact ⟨hdepth, fun e he => hf e he (hpages e he), fun ho => hs ho (hstream ho), hplane, hidle⟩

theorem State.closeMenu_menus {s : State} {i : Seat} (hi : (s.ctx i).stack = [] → s.menuShut i) (r : CloseReason) (q : Bool) :
    (s.closeMenu i r q).menuShut i ∧ ∀ j, j ≠ i → (s.closeMenu i r q).menuAs s j := by
  by_cases ho : (s.ctx i).isOpen = true
  · have closes : s.closeMenu i r q = if q = true then s.emptyMenu i else (s.emptyMenu i).post (seatNo i) (.menuClosed r) := if_pos ho
    have shut : (s.closeMenu i r q).mnu = (s.emptyMenu i).mnu ∧ (s.closeMenu i r q).cmp = (s.emptyMenu i).cmp := by
      rw [closes]
      split <;> exact ⟨rfl, rfl⟩
    have as (j : Seat) : (s.closeMenu i r q).menuAs (s.emptyMenu i) j := State.menuAs_of_eq shut.1 (by rw [shut.2]) j
    constructor
    · exact State.menuShut.of_as ⟨by cases i <;> rfl, by cases i <;> rfl⟩ (as i)
    · intro j hj
      refine (as j).trans ⟨?_, ?_⟩
      · cases i <;> cases j <;> first | rfl | exact absurd rfl hj
      · cases i <;> cases j <;> first | rfl | exact absurd rfl hj
  · have closes : s.closeMenu i r q = s := if_neg ho
    rw [closes]
    exact ⟨hi (by simpa [MenuContext.isOpen] using ho), fun j _ => ⟨rfl, rfl⟩⟩

/-- The menus' laws, whatever pages are present. -/
def State.menusLaw (s : State) : Prop := ∀ i, s.menuLaw i

theorem State.menusLaw_of_as {s s' : State} (h : s.menusLaw) (k : ∀ i, s'.menuAs s i)
    (hf : ∀ id, (findPage s.mnu.store id).isSome = true → (findPage s'.mnu.store id).isSome = true)
    (hs : ∀ i, (s.link i).state = .streaming → (s'.link i).state = .streaming) : s'.menusLaw :=
  fun i => State.menuLaw_of_as (h i) (k i) (fun e _ => hf e.page) (fun _ => hs i)

theorem State.menusLaw_of_same {s s' : State} (h : s.menusLaw) (hm : s'.mnu = s.mnu := by simp)
    (hp : s'.cmp.menuPlane = s.cmp.menuPlane := by simp) (hl : ∀ i, (s'.link i).state = (s.link i).state := by intro i; simp [State.link]) :
    s'.menusLaw :=
  State.menusLaw_of_as h (State.menuAs_of_eq hm hp) (fun id => by rw [hm]; exact fun hf => hf) (fun i hs => (hl i).trans hs)

theorem State.closeMenu_menusLaw {s : State} (h : s.menusLaw) (i : Seat) (r : CloseReason) (q : Bool) : (s.closeMenu i r q).menusLaw := by
  obtain ⟨shut, others⟩ := State.closeMenu_menus (State.menuShut_of_closed (h i)) r q
  intro j
  by_cases hj : j = i
  · subst hj
    exact State.menuLaw_of_shut shut
  · exact State.menuLaw_of_as (h j) (others j hj) (fun e _ => by rw [State.closeMenu_store]; exact id)
      (fun _ hs => by simpa [State.link] using hs)

/-- R121: a seat's history and its idle timer are set. -/
theorem State.setCtx_menusLaw {s : State} (h : s.menusLaw) (i : Seat) {c : MenuContext} (hd : c.stack.length ≤ 6)
    (hf : ∀ e ∈ c.stack, (findPage s.mnu.store e.page).isSome = true) (ho : c.stack ≠ []) (hi : (s.ctx i).stack ≠ []) :
    (s.setCtx i c).menusLaw := by
  intro j
  by_cases hj : j = i
  · subst hj
    obtain ⟨-, -, hstream, hplane, -⟩ := h j
    rw [State.menuLaw, State.ctx_setCtx_same]
    refine ⟨hd, hf, fun _ => hstream hi, ?_, fun _ => ho⟩
    rw [State.setCtx_cmp, hplane]
    simp [MenuContext.isOpen, List.isEmpty_eq_false_iff.2 hi, List.isEmpty_eq_false_iff.2 ho]
  · exact State.menuLaw_of_as (h j) ⟨State.ctx_setCtx_other s hj c, rfl⟩ (fun _ _ => id) (fun _ => id)

theorem State.openMenu_menusLaw {s : State} (h : s.menusLaw) {i : Seat} {p : Page} (hp : (findPage s.mnu.store p.id).isSome = true)
    (hs : (s.link i).state = .streaming) : (s.openMenu i p).menusLaw := by
  intro j
  by_cases hj : j = i
  · subst hj
    have ctx : (s.openMenu j p).ctx j = ⟨[p.newEntry], s.idleStart⟩ := by cases j <;> rfl
    have plane : (s.openMenu j p).cmp.menuPlane.get j = true := by cases j <;> rfl
    rw [State.menuLaw, ctx, plane]
    refine ⟨by simp, fun e he => ?_, fun _ => hs, rfl, fun _ => by simp⟩
    obtain rfl := List.mem_singleton.1 he
    exact hp
  · refine State.menuLaw_of_as (h j) ⟨?_, ?_⟩ (fun _ _ => id) (fun _ => id)
    · cases i <;> cases j <;> first | rfl | exact absurd rfl hj
    · cases i <;> cases j <;> first | rfl | exact absurd rfl hj

/-- R117: a menu that holds a page is closed; one that does not stays as it is, and so does the other seat's. -/
theorem State.closeIfHolds_menus {s : State} {i : Seat} (hi : (s.ctx i).stack = [] → s.menuShut i) (id : Nat) :
    ((s.closeIfHolds id i).menuShut i ∨ (s.closeIfHolds id i).menuAs s i ∧ ∀ e ∈ (s.ctx i).stack, e.page ≠ id)
    ∧ ∀ j, j ≠ i → (s.closeIfHolds id i).menuAs s j := by
  unfold State.closeIfHolds
  split
  · obtain ⟨shut, others⟩ := State.closeMenu_menus hi .pageRemoved false
    exact ⟨.inl shut, others⟩
  · next hn => exact ⟨.inr ⟨⟨rfl, rfl⟩, fun e he hp => hn (List.any_eq_true.2 ⟨e, he, by simpa using hp⟩)⟩, fun _ _ => ⟨rfl, rfl⟩⟩

theorem State.removePage_menusLaw {s : State} (h : s.menusLaw) (id : Nat) :
    (((s.setStore (s.mnu.store.filter (fun q => !decide (q.id = id)))).closeIfHolds id .s1).closeIfHolds id .s2).menusLaw := by
  have kept (i : Seat) (x : State) (hx : x.menuShut i ∨ x.menuAs s i ∧ ∀ e ∈ (s.ctx i).stack, e.page ≠ id)
      (hm : x.mnu.store = s.mnu.store.filter (fun q => !decide (q.id = id))) (hl : x.rsl = s.rsl) : x.menuLaw i := by
    rcases hx with shut | ⟨as, hne⟩
    · exact State.menuLaw_of_shut shut
    · exact State.menuLaw_of_as (h i) as (fun e he hf => by rw [hm]; exact findPage_filter hf (hne e he))
        (fun _ hs => by rw [State.link, hl]; exact hs)
  have same (i : Seat) : (s.setStore (s.mnu.store.filter (fun q => !decide (q.id = id)))).menuAs s i := ⟨rfl, rfl⟩
  generalize hx : s.setStore (s.mnu.store.filter (fun q => !decide (q.id = id))) = x at same
  have store : x.mnu.store = s.mnu.store.filter (fun q => !decide (q.id = id)) := by rw [← hx]; rfl
  have rsl : x.rsl = s.rsl := by rw [← hx]; rfl
  have closed (i : Seat) (y : State) (hy : y.menuAs s i) : (y.ctx i).stack = [] → y.menuShut i := fun hc =>
    (State.menuShut_of_closed (h i) (hy.ctx ▸ hc)).of_as hy
  obtain ⟨first, others⟩ := State.closeIfHolds_menus (closed .s1 x (same .s1)) id
  have second := (others .s2 (by decide)).trans (same .s2)
  obtain ⟨last, others'⟩ := State.closeIfHolds_menus (closed .s2 _ second) id
  intro i
  refine kept i _ ?_ (by rw [State.closeIfHolds_store, State.closeIfHolds_store, store]) (by simp [rsl])
  cases i with
  | s1 =>
    have as := others' .s1 (by decide)
    rcases first with shut | ⟨k, hne⟩
    · exact .inl (shut.of_as as)
    · exact .inr ⟨(as.trans k).trans (same .s1), (same .s1).ctx ▸ hne⟩
  | s2 =>
    rcases last with shut | ⟨k, hne⟩
    · exact .inl shut
    · exact .inr ⟨k.trans second, second.ctx ▸ hne⟩

theorem State.clearPages_menusLaw {s : State} (h : s.menusLaw) :
    (((s.setStore []).closeMenu .s1 .pageRemoved false).closeMenu .s2 .pageRemoved false).menusLaw := by
  have closed (i : Seat) (y : State) (hy : y.menuAs s i) : (y.ctx i).stack = [] → y.menuShut i := fun hc =>
    (State.menuShut_of_closed (h i) (hy.ctx ▸ hc)).of_as hy
  obtain ⟨first, others⟩ := State.closeMenu_menus (closed .s1 (s.setStore []) ⟨rfl, rfl⟩) .pageRemoved false
  have second : ((s.setStore []).closeMenu .s1 .pageRemoved false).menuAs s .s2 := (others .s2 (by decide)).trans ⟨rfl, rfl⟩
  obtain ⟨last, others'⟩ := State.closeMenu_menus (closed .s2 _ second) .pageRemoved false
  intro i
  cases i with
  | s1 => exact State.menuLaw_of_shut (first.of_as (others' .s1 (by decide)))
  | s2 => exact State.menuLaw_of_shut last

/-! ## The menu planes across the compositor's judgements -/

@[simp] theorem State.rearFrame_menuPlane (s : State) (i : Seat) : (s.rearFrame i).cmp.menuPlane = s.cmp.menuPlane := by
  unfold State.rearFrame
  split
  · rfl
  · exact (State.rearRouteTakesEffect_keepsRear (Cmp.keepsRear_refl s.cmp) i).menuPlane

@[simp] theorem State.startRear_menuPlane (s : State) (i : Seat) : (s.startRear i).cmp.menuPlane = s.cmp.menuPlane :=
  (State.rearFrame_menuPlane _ i)

@[simp] theorem State.stopRear_menuPlane (s : State) (i : Seat) : (s.stopRear i).cmp.menuPlane = s.cmp.menuPlane :=
  (State.rearRouteTakesEffect_keepsRear (Cmp.keepsRear_refl (s.setRearRow i { s.rearRow i with frame := none, nextFrame := none }).cmp) i).menuPlane

@[simp] theorem State.setPending_menuPlane (s : State) (o : Output) (src : Source) : (s.setPending o src).cmp.menuPlane = s.cmp.menuPlane := by
  cases o with
  | fro => rfl
  | ro i =>
    unfold State.setPending
    dsimp only
    split
    · rfl
    · exact (State.rearRouteTakesEffect_keepsRear (Cmp.keepsRear_refl (s.setRearRow i { s.rearRow i with pending := some src }).cmp) i).menuPlane

@[simp] theorem State.changeRvc_menuPlane (s : State) (c : RvcChange) : (s.changeRvc c).cmp.menuPlane = s.cmp.menuPlane :=
  (State.changeRvc_keepsRear (Cmp.keepsRear_refl s.cmp) c).menuPlane

@[simp] theorem State.enterStreaming_menuPlane (s : State) (i : Seat) (a : Agreement) :
    (s.enterStreaming i a).cmp.menuPlane = s.cmp.menuPlane := by
  obtain ⟨x, hx, he⟩ := s.enterStreaming_startRear i a
  rw [he, State.startRear_menuPlane, hx]

/-- What a fall-back makes of the menus: it closes the menu of a link that streamed. -/
theorem State.fellBack_menus (s : State) (i : Seat) (before : Link) (quiet : Bool) :
    ∃ x : State, x.mnu = s.mnu ∧ x.cmp.menuPlane = s.cmp.menuPlane ∧ ∃ reason,
      (s.fellBack i before quiet).mnu = (if before.state = .streaming then x.closeMenu i reason quiet else x).mnu
      ∧ (s.fellBack i before quiet).cmp.menuPlane = (if before.state = .streaming then x.closeMenu i reason quiet else x).cmp.menuPlane := by
  have asked : (if before.ambient.isSome then s.takeAmbient i none else s).mnu = s.mnu
      ∧ (if before.ambient.isSome then s.takeAmbient i none else s).cmp = s.cmp := by
    split <;> simp
  unfold State.fellBack
  rw [State.linkFellBack_mnu, State.linkFellBack_cmp]
  by_cases hs : before.state = .streaming
  · simp only [hs, if_true]
    exact ⟨_, by rw [State.stopRear_mnu, asked.1], by rw [State.stopRear_menuPlane, asked.2], _, rfl, rfl⟩
  · simp only [hs, if_false]
    exact ⟨_, asked.1, congrArg _ asked.2, .request, rfl, rfl⟩

/-- R91, R133: the menu of a link that falls back is closed. -/
theorem State.falls_menusLaw {s : State} (h : s.menusLaw) (i : Seat) (l : Link) (quiet : Bool) :
    (((s.setLink i l).postLink i).fellBack i (s.link i) quiet).menusLaw := by
  obtain ⟨x, hm, hp, reason, hm', hp'⟩ := State.fellBack_menus ((s.setLink i l).postLink i) i (s.link i) quiet
  have as (j : Seat) : x.menuAs s j := State.menuAs_of_eq (hm.trans (by simp)) (hp.trans (by simp)) j
  have link (j : Seat) (hj : j ≠ i) : ((((s.setLink i l).postLink i).fellBack i (s.link i) quiet).link j).state = (s.link j).state :=
    (State.fellBack_link_state _ i _ quiet j).trans (congrArg Link.state (State.link_setLink_other s hj l))
  have closed : (x.ctx i).stack = [] → x.menuShut i := fun hc => (State.menuShut_of_closed (h i) ((as i).ctx ▸ hc)).of_as (as i)
  have store : (((s.setLink i l).postLink i).fellBack i (s.link i) quiet).mnu.store = s.mnu.store := by
    rw [hm']
    have same : x.mnu.store = s.mnu.store := by rw [hm]; simp
    split
    · rw [State.closeMenu_store, same]
    · exact same
  have fb (j : Seat) := State.menuAs_of_eq hm' hp' j
  intro j
  by_cases hs : (s.link i).state = .streaming
  · rw [if_pos hs] at fb
    obtain ⟨shut, others⟩ := State.closeMenu_menus closed reason quiet
    by_cases hj : j = i
    · subst hj
      exact State.menuLaw_of_shut (shut.of_as (fb j))
    · exact State.menuLaw_of_as (h j) ((fb j).trans ((others j hj).trans (as j))) (fun e _ hf => by rw [store]; exact hf)
        (fun _ hs => (link j hj).trans hs)
  · rw [if_neg hs] at fb
    refine State.menuLaw_of_as (h j) ((fb j).trans (as j)) (fun e _ hf => by rw [store]; exact hf) (fun _ hjs => ?_)
    by_cases hj : j = i
    · subst hj
      exact absurd hjs hs
    · exact (link j hj).trans hjs

theorem State.enterStreaming_streams (s : State) (i : Seat) (a : Agreement) (j : Seat) (h : j = i ∨ (s.link j).state = .streaming) :
    ((s.enterStreaming i a).link j).state = .streaming := by
  by_cases hj : j = i
  · subst hj
    obtain ⟨video, he⟩ := s.enterStreaming_link_same j a
    rw [he, (Link.poll_standsAs _ _ _).state]
    rfl
  · rw [State.enterStreaming_link_other s hj]
    exact h.resolve_left hj

/-- A record of a link that streams on if it streamed keeps the menus. -/
theorem State.setLink_menusLaw {s : State} (h : s.menusLaw) (i : Seat) {l : Link} (hl : (s.link i).state = .streaming → l.state = .streaming) :
    (s.setLink i l).menusLaw := by
  refine State.menusLaw_of_as h (fun j => ⟨rfl, rfl⟩) (fun _ => id) (fun j hs => ?_)
  by_cases hj : j = i
  · subst hj
    rw [State.link_setLink_same]
    exact hl hs
  · rw [State.link_setLink_other _ hj]
    exact hs

/-! ## The keys -/

/-- R138, R140: a repeat timer runs, and forwarded is yes, only while a key is held. -/
def SeatRec.tied (r : SeatRec) : Prop := (r.repeatTimer.isSome = true → r.held.isSome = true) ∧ (r.forwarded = true → r.held.isSome = true)

/-- The held key of a seat and what goes with it are as they were. -/
structure SeatRec.holdsAs (r' r : SeatRec) : Prop where
  held : r'.held = r.held
  forwarded : r'.forwarded = r.forwarded
  repeatTimer : r'.repeatTimer = r.repeatTimer

theorem SeatRec.holdsAs.trans {a b c : SeatRec} (h : a.holdsAs b) (k : b.holdsAs c) : a.holdsAs c :=
  ⟨h.held.trans k.held, h.forwarded.trans k.forwarded, h.repeatTimer.trans k.repeatTimer⟩

theorem SeatRec.holdsAs.tied {r' r : SeatRec} (k : r'.holdsAs r) (h : r.tied) : r'.tied := by
  rw [SeatRec.tied, k.held, k.forwarded, k.repeatTimer]
  exact h

/-- R139, R140 for both seats. -/
def State.keysLaw (s : State) : Prop := ∀ i, s.keyLaw i

theorem State.keyLaw_iff (s : State) (i : Seat) :
    s.keyLaw i ↔ (s.seat i).tied ∧ ((s.seat i).held.isSome = true ∨ (s.seat i).next.isSome = true → (s.link i).state = .streaming) := by
  constructor
  · rintro ⟨ht, hf, hh, hn⟩
    exact ⟨⟨ht, hf⟩, fun h => h.elim hh hn⟩
  · rintro ⟨⟨ht, hf⟩, h⟩
    exact ⟨ht, hf, fun hh => h (.inl hh), fun hn => h (.inr hn)⟩

theorem State.keysLaw_of_same {s s' : State} (h : s.keysLaw) (hs : s'.sct.seat = s.sct.seat := by simp)
    (hl : ∀ i, (s.link i).state = .streaming → (s'.link i).state = .streaming := by intro i; simp [State.link]) : s'.keysLaw := by
  intro i
  obtain ⟨ht, hf, hh, hn⟩ := h i
  have seat : s'.seat i = s.seat i := congrArg (fun x : Two SeatRec => x.get i) hs
  rw [State.keyLaw, seat]
  exact ⟨ht, hf, fun k => hl i (hh k), fun k => hl i (hn k)⟩

theorem State.setSeat_keysLaw {s : State} (h : s.keysLaw) (i : Seat) {r : SeatRec} (ht : r.tied)
    (hs : r.held.isSome = true ∨ r.next.isSome = true → (s.link i).state = .streaming) : (s.setSeat i r).keysLaw := by
  intro j
  by_cases hj : j = i
  · subst hj
    rw [State.keyLaw_iff, State.seat_setSeat_same]
    exact ⟨ht, hs⟩
  · rw [State.keyLaw, State.seat_setSeat_other _ hj]
    exact h j

/-- A seat's record that keeps its key and gets no backlight value. -/
theorem State.setSeat_keysLaw_of_as {s : State} (h : s.keysLaw) (i : Seat) {r : SeatRec} (k : r.holdsAs (s.seat i))
    (hn : r.next = (s.seat i).next ∨ r.next = none) : (s.setSeat i r).keysLaw := by
  obtain ⟨ht, hs⟩ := (s.keyLaw_iff i).1 (h i)
  refine State.setSeat_keysLaw h i (k.tied ht) (fun hr => hs ?_)
  rw [k.held] at hr
  rcases hn with hn | hn
  · rw [hn] at hr
    exact hr
  · rw [hn] at hr
    exact .inl (hr.resolve_right (by simp))

theorem SeatRec.handed_holdsAs (r : SeatRec) (v : Nat) (o : Handing) : (r.handed v o).holdsAs r := by
  cases o <;> exact ⟨rfl, rfl, rfl⟩

/-- R147: a backlight value waits only for a link in STREAMING. -/
theorem Link.takeBacklight_waits {l : Link} {v : Nat} {r : SeatRec} (h : (r.handed v (l.takeBacklight v).2).next.isSome = true) :
    l.state = .streaming := by
  by_contra hs
  have out : l.takeBacklight v = (l, .notStreaming) := if_pos hs
  rw [out] at h
  cases h

theorem State.handBacklight_keysLaw {s : State} (h : s.keysLaw) (i : Seat) (v : Nat) : (s.handBacklight i v).keysLaw := by
  have state := Link.takeBacklight_state (s.link i) v
  have links (j : Seat) : ((s.setLink i ((s.link i).takeBacklight v).1).link j).state = (s.link j).state :=
    State.setLink_link_state (s := s) (i := i) state j
  have linked : (s.setLink i ((s.link i).takeBacklight v).1).keysLaw := State.keysLaw_of_same h rfl (fun j hs => (links j).trans hs)
  obtain ⟨ht, hs⟩ := (s.keyLaw_iff i).1 (h i)
  refine State.setSeat_keysLaw linked i ((SeatRec.handed_holdsAs _ _ _).tied ht) (fun hr => (links i).trans ?_)
  rcases hr with hr | hr
  · exact hs (.inl ((SeatRec.handed_holdsAs _ _ _).held ▸ hr))
  · exact Link.takeBacklight_waits hr

theorem State.recomputeTarget_keysLaw {s : State} (h : s.keysLaw) (i : Seat) : (s.recomputeTarget i).keysLaw := by
  have judged := State.setSeat_keysLaw_of_as h i (r := { s.seat i with target := (s.seat i).targetNow s.sct.dimmer }) ⟨rfl, rfl, rfl⟩ (.inl rfl)
  unfold State.recomputeTarget
  dsimp only
  split
  · exact State.handBacklight_keysLaw judged i _
  · exact judged

theorem State.post_keysLaw {s : State} (h : s.keysLaw) (src : Nat) (b : NoticeBody) : (s.post src b).keysLaw := h

theorem State.volumePress_keysLaw {s : State} (h : s.keysLaw) (i : Seat) (d : Dir) : (s.volumePress i d).keysLaw := by
  have set (b : Prop) [Decidable b] (r : SeatRec) (k : r.holdsAs (s.seat i)) (hn : r.next = (s.seat i).next) :
      (if b then s.setSeat i r else (s.setSeat i r).postLevel i).keysLaw := by
    split
    · exact State.setSeat_keysLaw_of_as h i k (.inl hn)
    · exact State.post_keysLaw (State.setSeat_keysLaw_of_as h i k (.inl hn)) _ _
  exact set _ _ ⟨rfl, rfl, rfl⟩ rfl

theorem State.brightPress_keysLaw {s : State} (h : s.keysLaw) (i : Seat) (d : Dir) : (s.brightPress i d).keysLaw := by
  have moved := State.setSeat_keysLaw_of_as h i (r := { s.seat i with offset := movedOffset (s.seat i).offset d }) ⟨rfl, rfl, rfl⟩ (.inl rfl)
  unfold State.brightPress
  dsimp only
  split
  · exact h
  · exact State.recomputeTarget_keysLaw (State.post_keysLaw moved _ _) i

/-- R140: a key that is released leaves no key, no repeat timer and nothing forwarded; the other seat keeps its key. -/
theorem State.releaseKey_seats {s : State} {i : Seat} (h : (s.seat i).tied) (quiet : Bool) :
    ((s.releaseKey i quiet).seat i).held = none ∧ ((s.releaseKey i quiet).seat i).tied
    ∧ ((s.releaseKey i quiet).seat i).next = (s.seat i).next
    ∧ ∀ j, j ≠ i → (s.releaseKey i quiet).seat j = s.seat j := by
  have free (x : State) (hx : x.sct = (s.setSeat i { s.seat i with held := none, repeatTimer := none, forwarded := false }).sct) :
      (x.seat i).held = none ∧ (x.seat i).tied ∧ (x.seat i).next = (s.seat i).next ∧ ∀ j, j ≠ i → x.seat j = s.seat j := by
    have seat (j : Seat) : x.seat j = (s.setSeat i { s.seat i with held := none, repeatTimer := none, forwarded := false }).seat j :=
      congrArg (fun c : Sct => c.seat.get j) hx
    rw [seat i, State.seat_setSeat_same]
    exact ⟨rfl, ⟨by simp, by simp⟩, rfl, fun j hj => (seat j).trans (State.seat_setSeat_other s hj _)⟩
  unfold State.releaseKey
  dsimp only
  split
  · next hn => exact ⟨hn, h, rfl, fun _ _ => rfl⟩
  · split
    · exact free _ rfl
    · exact free _ rfl

theorem State.releaseKey_keysLaw {s : State} (h : s.keysLaw) (i : Seat) (quiet : Bool) : (s.releaseKey i quiet).keysLaw := by
  obtain ⟨hh, ht, hn, ho⟩ := State.releaseKey_seats ((s.keyLaw_iff i).1 (h i)).1 quiet
  intro j
  rw [State.keyLaw_iff, State.link, State.releaseKey_rsl]
  by_cases hj : j = i
  · subst hj
    refine ⟨ht, fun hr => ((s.keyLaw_iff j).1 (h j)).2 (.inr ?_)⟩
    rw [hh, hn] at hr
    exact hr.resolve_left (by simp)
  · rw [ho j hj]
    exact (s.keyLaw_iff j).1 (h j)

theorem State.handBacklight_seats (s : State) (i : Seat) (v : Nat) :
    ((s.handBacklight i v).seat i).holdsAs (s.seat i) ∧ ∀ j, j ≠ i → (s.handBacklight i v).seat j = s.seat j := by
  unfold State.handBacklight
  dsimp only
  refine ⟨?_, fun j hj => ?_⟩
  · rw [State.seat_setSeat_same]
    exact SeatRec.handed_holdsAs _ _ _
  · rw [State.seat_setSeat_other _ hj]
    rfl

theorem State.recomputeTarget_seats (s : State) (i : Seat) :
    ((s.recomputeTarget i).seat i).holdsAs (s.seat i) ∧ ∀ j, j ≠ i → (s.recomputeTarget i).seat j = s.seat j := by
  have set := State.seat_setSeat_same s i { s.seat i with target := (s.seat i).targetNow s.sct.dimmer }
  have other (j : Seat) (hj : j ≠ i) := State.seat_setSeat_other s hj { s.seat i with target := (s.seat i).targetNow s.sct.dimmer }
  unfold State.recomputeTarget
  dsimp only
  split
  · obtain ⟨same, others⟩ := State.handBacklight_seats (s.setSeat i { s.seat i with target := (s.seat i).targetNow s.sct.dimmer }) i
      ((s.seat i).targetNow s.sct.dimmer)
    rw [set] at same
    exact ⟨same.trans ⟨rfl, rfl, rfl⟩, fun j hj => (others j hj).trans (other j hj)⟩
  · rw [set]
    exact ⟨⟨rfl, rfl, rfl⟩, other⟩

/-- R140, R147: a fall-back releases the seat's key, and no backlight value waits there; the other seat's record stays. -/
theorem State.fellBack_seats {s : State} {i : Seat} (h : (s.seat i).tied) (before : Link) (quiet : Bool) :
    ((s.fellBack i before quiet).seat i).held = none ∧ ((s.fellBack i before quiet).seat i).tied
    ∧ ((s.fellBack i before quiet).seat i).next = none
    ∧ ∀ j, j ≠ i → (s.fellBack i before quiet).seat j = s.seat j := by
  have ambient : ((if before.ambient.isSome then s.takeAmbient i none else s).seat i).tied
      ∧ ∀ j, j ≠ i → (if before.ambient.isSome then s.takeAmbient i none else s).seat j = s.seat j := by
    split
    · obtain ⟨same, others⟩ := State.recomputeTarget_seats (s.setSeat i { s.seat i with ambient := none }) i
      rw [State.seat_setSeat_same] at same
      exact ⟨same.tied h, fun j hj => (others j hj).trans (State.seat_setSeat_other s hj _)⟩
    · exact ⟨h, fun _ _ => rfl⟩
  have lost (x : State) (reason : Bool) : (if before.state = .streaming then (x.stopRear i).screenLost i reason else x).sct = x.sct := by
    split <;> simp
  have released (x : State) (hx : (x.seat i).tied) : ((x.linkFellBack i quiet).seat i).held = none ∧ ((x.linkFellBack i quiet).seat i).tied
      ∧ ((x.linkFellBack i quiet).seat i).next = none ∧ ∀ j, j ≠ i → (x.linkFellBack i quiet).seat j = x.seat j := by
    obtain ⟨hh, ht, -, ho⟩ := State.releaseKey_seats hx quiet
    unfold State.linkFellBack
    dsimp only
    rw [State.seat_setSeat_same]
    exact ⟨hh, ht, rfl, fun j hj => (State.seat_setSeat_other _ hj _).trans (ho j hj)⟩
  unfold State.fellBack
  dsimp only
  generalize (if before.ambient.isSome then s.takeAmbient i none else s) = x at ambient
  have seats (j : Seat) : (if before.state = .streaming then (x.stopRear i).screenLost i quiet else x).seat j = x.seat j :=
    congrArg (fun c : Sct => c.seat.get j) (lost x quiet)
  obtain ⟨hh, ht, hn, ho⟩ := released _ ((seats i).symm ▸ ambient.1)
  exact ⟨hh, ht, hn, fun j hj => (ho j hj).trans ((seats j).trans (ambient.2 j hj))⟩

theorem State.falls_keysLaw {s : State} (h : s.keysLaw) {i : Seat} (l before : Link) (quiet : Bool) :
    (((s.setLink i l).postLink i).fellBack i before quiet).keysLaw := by
  have seat (j : Seat) : ((s.setLink i l).postLink i).seat j = s.seat j := rfl
  obtain ⟨hh, ht, hn, ho⟩ := State.fellBack_seats (s := (s.setLink i l).postLink i) (i := i) ((s.keyLaw_iff i).1 (h i)).1 before quiet
  intro j
  by_cases hj : j = i
  · subst hj
    rw [State.keyLaw_iff, hh, hn]
    exact ⟨ht, fun hr => by simp at hr⟩
  · have link : ((((s.setLink i l).postLink i).fellBack i before quiet).link j).state = (s.link j).state :=
      (State.fellBack_link_state _ i _ quiet j).trans (congrArg Link.state (State.link_setLink_other s hj l))
    rw [State.keyLaw_iff, ho j hj, seat, link]
    exact (s.keyLaw_iff j).1 (h j)

theorem State.enterStreaming_keysLaw {s : State} (h : s.keysLaw) (i : Seat) (a : Agreement) : (s.enterStreaming i a).keysLaw := by
  have streams := s.enterStreaming_streams i a
  have seats : (s.enterStreaming i a).sct = (s.setSeat i { s.seat i with lastSent := some (s.seat i).target, next := none }).sct := by
    unfold State.enterStreaming
    rw [State.startRear_sct]
    cases i <;> rfl
  have seat (j : Seat) : (s.enterStreaming i a).seat j
      = (s.setSeat i { s.seat i with lastSent := some (s.seat i).target, next := none }).seat j :=
    congrArg (fun c : Sct => c.seat.get j) seats
  have cleared := State.setSeat_keysLaw_of_as h i (r := { s.seat i with lastSent := some (s.seat i).target, next := none }) ⟨rfl, rfl, rfl⟩ (.inr rfl)
  intro j
  obtain ⟨ht, hs⟩ := (State.keyLaw_iff _ j).1 (cleared j)
  rw [State.keyLaw_iff, seat]
  exact ⟨ht, fun hr => streams j (.inr (hs hr))⟩

theorem State.setLink_keysLaw {s : State} (h : s.keysLaw) (i : Seat) {l : Link} (hl : (s.link i).state = .streaming → l.state = .streaming) :
    (s.setLink i l).keysLaw := by
  refine State.keysLaw_of_same h rfl (fun j hs => ?_)
  by_cases hj : j = i
  · subst hj
    rw [State.link_setLink_same]
    exact hl hs
  · rw [State.link_setLink_other _ hj]
    exact hs

/-! ## Every move keeps the laws -/

theorem State.Move.keysLaw {s s' : State} (m : s.Move s') (h : s.keysLaw) : s'.keysLaw := by
  have key (i : Seat) := (s.keyLaw_iff i).1 (h i)
  cases m with
  | other hd k => exact State.keysLaw_of_same h (by rw [k.sct]) (fun i hs => by rw [State.link, k.rsl]; exact hs)
  | forward i k ev hh => exact State.setSeat_keysLaw (State.post_keysLaw h _ _) i ⟨(key i).1.1, fun _ => hh⟩ (key i).2
  | volume i d => exact State.volumePress_keysLaw h i d
  | bright i d => exact State.brightPress_keysLaw h i d
  | release i quiet => exact State.releaseKey_keysLaw h i quiet
  | hold i k hs => exact State.setSeat_keysLaw h i ⟨fun _ => rfl, fun hf => by cases hf⟩ (fun _ => hs)
  | timer i t ht => exact State.setSeat_keysLaw h i ⟨ht, (key i).1.2⟩ (key i).2
  | level i v => exact State.setSeat_keysLaw_of_as h i ⟨rfl, rfl, rfl⟩ (.inl rfl)
  | seat i r hr => exact State.setSeat_keysLaw_of_as h i ⟨hr.held, hr.forwarded, hr.repeatTimer⟩ hr.next
  | retarget i => exact State.recomputeTarget_keysLaw h i
  | handNext i v => exact State.handBacklight_keysLaw h i v
  | dimmer v => exact h
  | record i l hl => exact State.setLink_keysLaw h i (fun hs => hl.state.trans hs)
  | command i kind => exact State.setLink_keysLaw h i id
  | goesOn i l hl => exact State.setLink_keysLaw h i (fun hs => absurd hs hl.before)
  | falls i l quiet => exact State.falls_keysLaw h l _ quiet
  | streams i a => exact State.enterStreaming_keysLaw h i a
  | _ => exact State.keysLaw_of_same h

theorem State.Move.menusLaw {s s' : State} (m : s.Move s') (h : s.menusLaw) (hk : s.keysLaw) : s'.menusLaw := by
  cases m with
  | other hd k =>
    exact State.menusLaw_of_as h (fun i => ⟨by rw [State.ctx, k.ctx]; rfl, by rw [k.rear.menuPlane]⟩) (fun _ => by rw [k.store]; exact id)
      (fun i hs => by rw [State.link, k.rsl]; exact hs)
  | roots root => exact State.menusLaw_of_as h (fun _ => ⟨rfl, rfl⟩) (fun _ => id) (fun _ => id)
  | bright i d => exact State.menusLaw_of_same h (hl := s.brightPress_link_state i d)
  | retarget i => exact State.menusLaw_of_same h (hl := s.recomputeTarget_link_state i)
  | handNext i v => exact State.menusLaw_of_same h (hl := s.handBacklight_link_state i v)
  | opens i p id hp hs =>
    have present : (findPage s.mnu.store p.id).isSome = true := by rw [findPage_id hp, hp]; rfl
    exact State.openMenu_menusLaw h present (hs.elim (fun k => k) (hk i).2.2.1)
  | closes i reason quiet => exact State.closeMenu_menusLaw h i reason quiet
  | idles i ho =>
    obtain ⟨hdepth, hpages, -⟩ := h i
    exact State.setCtx_menusLaw h i hdepth hpages ho ho
  | stack i l hl =>
    obtain ⟨hdepth, hpages, -⟩ := h i
    refine State.setCtx_menusLaw h i (hl.depth.elim (fun k => k) (fun k => k.trans hdepth)) (fun e he => ?_) hl.after hl.before
    rcases hl.pages e he with hf | ⟨d, hd, he⟩
    · exact hf
    · exact he ▸ hpages d hd
  | item page n it =>
    exact State.menusLaw_of_as h (fun _ => ⟨rfl, rfl⟩) (fun id hf => (findPage_setItem page n it id).trans hf) (fun _ => id)
  | put p => exact State.menusLaw_of_as h (fun _ => ⟨rfl, rfl⟩) (fun _ => findPage_putPage) (fun _ => id)
  | remove id => exact State.removePage_menusLaw h id
  | clear => exact State.clearPages_menusLaw h
  | empties hc => exact fun i => State.menuLaw_of_shut ((State.menuShut_of_closed (h i) (hc i)).of_as ⟨rfl, rfl⟩)
  | record i l hl => exact State.setLink_menusLaw h i (fun hs => hl.state.trans hs)
  | command i kind => exact State.setLink_menusLaw h i id
  | goesOn i l hl => exact State.setLink_menusLaw h i (fun hs => absurd hs hl.before)
  | falls i l quiet _ => exact State.falls_menusLaw h i l quiet
  | streams i a =>
    exact State.menusLaw_of_as h (State.menuAs_of_eq (by simp) (by simp)) (fun _ => by rw [State.enterStreaming_mnu]; exact id)
      (fun j hs => s.enterStreaming_streams i a j (.inr hs))
  | _ => exact State.menusLaw_of_same h

theorem State.Move.pagesFit {s s' : State} (m : s.Move s') (h : Machine.pagesFit s.mnu.store) : Machine.pagesFit s'.mnu.store := by
  cases m with
  | other hd k => rw [k.store]; exact h
  | item page n it => exact setItem_pagesFit h page n it
  | put p hp => exact putPage_pagesFit h hp
  | remove id =>
    rw [State.closeIfHolds_store, State.closeIfHolds_store]
    exact pagesFit_of_sublist List.filter_sublist h
  | clear =>
    rw [State.closeMenu_store, State.closeMenu_store]
    exact pagesFit_of_sublist (List.nil_sublist _) h
  | empties => exact pagesFit_of_sublist (List.nil_sublist _) h
  | closes i r q => rw [State.closeMenu_store]; exact h
  | opens | idles | stack => exact h
  | falls i l quiet =>
    obtain ⟨x, hm, -, reason, hm', -⟩ := State.fellBack_menus ((s.setLink i l).postLink i) i (s.link i) quiet
    have store : x.mnu.store = s.mnu.store := by rw [hm]; simp
    rw [hm']
    split
    · rw [State.closeMenu_store, store]
      exact h
    · rw [store]
      exact h
  | _ => simpa using h

theorem State.seatLaw_iff (s : State) : s.seatLaw ↔ pagesFit s.mnu.store ∧ s.menusLaw ∧ s.keysLaw := by
  have both (i : Seat) : i ∈ [Seat.s1, Seat.s2] := by cases i <;> simp
  constructor
  · rintro ⟨hp, h⟩
    exact ⟨hp, fun i => (h i (both i)).1, fun i => (h i (both i)).2⟩
  · rintro ⟨hp, hm, hk⟩
    exact ⟨hp, fun i _ => ⟨hm i, hk i⟩⟩

theorem State.Move.seatLaw {s s' : State} (m : s.Move s') (h : s.seatLaw) : s'.seatLaw := by
  rw [State.seatLaw_iff] at h ⊢
  obtain ⟨hp, hm, hk⟩ := h
  exact ⟨m.pagesFit hp, m.menusLaw hm hk, m.keysLaw hk⟩

theorem State.coldBlocks_seatLaw (s : State) (cause : StartCause) (cal : Cal) (phase : Phase) (high : Bool) :
    ({ s.coldBlocks cause cal with phase := phase, resetN := high } : State).seatLaw := by
  rw [State.seatLaw_iff]
  refine ⟨⟨by simp [State.coldBlocks, coldMnu], by simp [State.coldBlocks, coldMnu, itemTotal], by simp [State.coldBlocks, coldMnu]⟩,
    fun i => State.menuLaw_of_shut ?_, fun i => ?_⟩
  · cases i <;> exact ⟨rfl, rfl⟩
  · cases i <;> exact ⟨by simp [State.seat, State.coldBlocks, coldSct, coldSeat, Two.get], by simp [State.seat, State.coldBlocks, coldSct, coldSeat, Two.get],
      by simp [State.seat, State.coldBlocks, coldSct, coldSeat, Two.get], by simp [State.seat, State.coldBlocks, coldSct, coldSeat, Two.get]⟩

theorem seatLaw_keptByMoves : KeptByMoves State.seatLaw State.seatLaw where
  time _ _ h := h
  queue _ _ h := h
  opens _ h := h
  settles _ h := h
  answers _ _ h := h
  move _ _ h m := m.seatLaw h
  record c s h := (recordOf_moves c s).keeps (law := State.seatLaw) (fun _ _ h m => m.seatLaw h) h
  cold c s h := by
    rcases coldOf_cases c s with he | ⟨cause, he⟩ | ⟨cause, he⟩
    · rw [he]
      exact h
    · rw [he]
      exact s.coldBlocks_seatLaw cause _ _ _
    · rw [he]
      exact s.coldBlocks_seatLaw cause _ _ _

end Sys2Proof.Machine

open Sys2Proof Sys2Proof.Machine

/-- Settles O55: every move keeps the page store, the menus and the keys within their laws. -/
theorem menuAndKeyLawsAreKept : Obligations.MenuAndKeyLawsAreKept :=
  fun _ _ h hstep => seatLaw_keptByMoves.step h hstep

end

section
/-! # Proofs: the laws of the voices, the chime queue, the handles and the ducking (R151, R152, R154, R158, R160) -/

namespace Sys2Proof.Machine

/-! ## Lists of records -/

/-- No record stands in the first list more often than in the second. -/
def recordsWithin (l' l : List Chime) : Prop := ∀ x, l'.count x ≤ l.count x

theorem recordsWithin.subperm {l' l : List Chime} (h : recordsWithin l' l) : l'.Subperm l := List.subperm_ext_iff.2 (fun x _ => h x)

theorem recordsWithin_of_sublist {l' l : List Chime} (h : l'.Sublist l) : recordsWithin l' l := fun x => h.count_le x

theorem recordsWithin_refl (l : List Chime) : recordsWithin l l := fun _ => le_rfl

theorem recordsWithin.trans {a b c : List Chime} (h : recordsWithin a b) (k : recordsWithin b c) : recordsWithin a c :=
  fun x => (h x).trans (k x)

/-- R151, R154, R158: orders and handles are held once and lie within their ranges, and at most one record is the park beep's. -/
structure chimesFit (l : List Chime) (next : Nat) : Prop where
  orders : (l.map (·.order)).Nodup
  handles : (l.map (·.handle)).Nodup
  range : ∀ ch ∈ l, ch.order < next ∧ 1 ≤ ch.handle ∧ ch.handle ≤ 255
  park : (l.filter isPark).length ≤ 1

theorem nodup_map_of_subperm {α β : Type} {l' l : List α} (k : l'.Subperm l) {f : α → β} (h : (l.map f).Nodup) : (l'.map f).Nodup := by
  obtain ⟨m, perm, sub⟩ := k
  exact (perm.map f).nodup_iff.1 (h.sublist (sub.map f))

theorem chimesFit.of_within {l' l : List Chime} {next : Nat} (h : chimesFit l next) (k : recordsWithin l' l) : chimesFit l' next where
  orders := nodup_map_of_subperm k.subperm h.orders
  handles := nodup_map_of_subperm k.subperm h.handles
  range ch hm := h.range ch (k.subperm.subset hm)
  park := (k.subperm.filter _).length_le.trans h.park

/-- Without a park beep's record there is none in fewer records. -/
theorem filter_isPark_of_within {l' l : List Chime} (k : recordsWithin l' l) (h : l.filter isPark = []) : l'.filter isPark = [] := by
  have len := (k.subperm.filter isPark).length_le
  rw [h] at len
  exact List.eq_nil_of_length_eq_zero (Nat.le_zero.1 len)

/-! ## The order of the queue (R154) -/

theorem Chime.ahead_iff (a b : Chime) : a.ahead b = true ↔ b.priority < a.priority ∨ a.priority = b.priority ∧ a.order < b.order := by
  simp [Chime.ahead]

theorem Chime.ahead_trans {a b c : Chime} (h : a.ahead b = true) (k : b.ahead c = true) : a.ahead c = true := by
  rw [Chime.ahead_iff] at h k ⊢
  omega

theorem Chime.ahead_of_not {a b : Chime} (h : ¬ a.ahead b = true) (ho : a.order ≠ b.order) : b.ahead a = true := by
  rw [Chime.ahead_iff] at h ⊢
  omega

theorem insertChime_perm (ch : Chime) (q : List Chime) : (insertChime ch q).Perm (ch :: q) := by
  induction q with
  | nil => exact .refl _
  | cons x rest ih =>
    unfold insertChime
    split
    · exact .refl _
    · exact (ih.cons x).trans (.swap ch x rest)

theorem insertChime_pairwise {ch : Chime} {q : List Chime} (h : q.Pairwise (fun a b => a.ahead b)) (ho : ∀ x ∈ q, ch.order ≠ x.order) :
    (insertChime ch q).Pairwise (fun a b => a.ahead b) := by
  induction q with
  | nil => exact List.pairwise_singleton _ _
  | cons x rest ih =>
    obtain ⟨hx, hrest⟩ := List.pairwise_cons.1 h
    unfold insertChime
    split
    · next ha => exact List.pairwise_cons.2 ⟨fun y hy => (List.mem_cons.1 hy).elim (fun e => e ▸ ha) (fun hm => Chime.ahead_trans ha (hx y hm)), h⟩
    · next hn =>
      refine List.pairwise_cons.2 ⟨fun y hy => ?_, ih hrest (fun y hy => ho y (List.mem_cons_of_mem _ hy))⟩
      rcases List.mem_cons.1 ((insertChime_perm ch rest).mem_iff.1 hy) with rfl | hm
      · exact Chime.ahead_of_not hn (ho x List.mem_cons_self)
      · exact hx y hm

/-! ## The voices and the queue -/

/-- R152, R154: no zone is played twice, at most 8 chimes wait, in order, none a click. -/
structure Chu.stands (c : Chu) : Prop where
  apart : zonesMeet c.voice1 c.voice2 = false
  room : c.queue.length ≤ 8
  clicks : ∀ ch ∈ c.queue, ch.cls ≠ .click
  sorted : c.queue.Pairwise (fun a b => a.ahead b)

/-- What placing and queueing leave: a chime unit that stands, with no more records than before and those that came. -/
structure Chu.comesOf (c' c : Chu) (extra : List Chime) : Prop where
  stands : c'.stands
  within : recordsWithin c'.records (extra ++ c.records)
  nextOrder : c'.nextOrder = c.nextOrder

/-- The voices go on as they were. -/
def Chu.playsAs (c' c : Chu) : Prop := c'.voice1 = c.voice1 ∧ c'.voice2 = c.voice2

theorem Chu.stands_of_same {c' c : Chu} (h : c.stands) (hv : c'.playsAs c) (hq : c'.queue = c.queue) : c'.stands := by
  obtain ⟨h1, h2⟩ := hv
  exact ⟨by rw [h1, h2]; exact h.apart, by rw [hq]; exact h.room, by rw [hq]; exact h.clicks, by rw [hq]; exact h.sorted⟩

theorem Chu.records_of_same {c' c : Chu} (hv : c'.playsAs c) (hq : c'.queue = c.queue) : c'.records = c.records := by
  rw [Chu.records, hv.1, hv.2, hq]
  rfl

theorem count_records (c : Chu) (x : Chime) :
    c.records.count x = (voiceChimes c.voice1).count x + (voiceChimes c.voice2).count x + c.queue.count x := by
  simp [Chu.records, List.count_append, Nat.add_assoc]

/-- R154: a chime that joins the queue. -/
theorem State.joinQueue_comes {s : State} (h : s.chu.stands) {ch : Chime} (hc : ch.cls ≠ .click) (ho : ∀ x ∈ s.chu.queue, ch.order ≠ x.order) :
    (s.joinQueue ch).1.chu.comesOf s.chu [ch] ∧ (s.joinQueue ch).1.chu.playsAs s.chu
    ∧ ((s.joinQueue ch).2 = false → (s.joinQueue ch).1.chu = s.chu) := by
  have joined (q : List Chime) (hq : q.Sublist s.chu.queue) (hl : q.length < 8) (c : Chu) (hv : c.playsAs s.chu) (hn : c.nextOrder = s.chu.nextOrder)
      (he : c.queue = insertChime ch q) : c.comesOf s.chu [ch] := by
    obtain ⟨h1, h2⟩ := hv
    have perm := insertChime_perm ch q
    refine ⟨⟨by rw [h1, h2]; exact h.apart, ?_, fun x hx => ?_, ?_⟩, fun x => ?_, hn⟩
    · rw [he, perm.length_eq]
      exact hl
    · rw [he] at hx
      rcases List.mem_cons.1 (perm.mem_iff.1 hx) with rfl | hm
      · exact hc
      · exact h.clicks x (hq.subset hm)
    · rw [he]
      exact insertChime_pairwise (h.sorted.sublist hq) (fun x hx => ho x (hq.subset hx))
    · have counts := perm.count_eq x
      have fewer := hq.count_le x
      rw [List.count_append, count_records, count_records, h1, h2, he, counts, List.count_cons, List.count_singleton]
      omega
  have kept : s.chu.comesOf s.chu [ch] := ⟨h, fun x => by rw [List.count_append]; omega, rfl⟩
  unfold State.joinQueue
  split
  · next hroom => exact ⟨joined _ (.refl _) hroom _ ⟨rfl, rfl⟩ rfl rfl, ⟨rfl, rfl⟩, fun hf => by cases hf⟩
  split
  · exact ⟨kept, ⟨rfl, rfl⟩, fun _ => rfl⟩
  · dsimp only
    split
    · next last hl hp =>
      have len : s.chu.queue.dropLast.length < 8 := by
        have room := h.room
        have some : s.chu.queue ≠ [] := by rintro hn; rw [hn] at hl; cases hl
        rw [List.length_dropLast]
        have := List.length_pos_iff.2 some
        omega
      rw [State.endChime_chu]
      exact ⟨joined _ (List.dropLast_sublist _) len _ ⟨rfl, rfl⟩ rfl rfl, ⟨rfl, rfl⟩, fun hf => by cases hf⟩
    · exact ⟨kept, ⟨rfl, rfl⟩, fun _ => rfl⟩

/-- R153: a preempted chime goes, or returns to the queue. -/
theorem State.preempted_comes {s : State} (h : s.chu.stands) {w : Option Playing}
    (ho : ∀ x ∈ s.chu.queue, ∀ y ∈ voiceChimes w, y.order ≠ x.order) :
    (s.preempted w).chu.comesOf s.chu (voiceChimes w) ∧ (s.preempted w).chu.playsAs s.chu := by
  have kept (l : List Chime) : s.chu.comesOf s.chu l := ⟨h, fun x => by rw [List.count_append]; omega, rfl⟩
  unfold State.preempted
  split
  · exact ⟨kept _, rfl, rfl⟩
  · next p =>
    split
    · next hr =>
      obtain ⟨comes, plays, -⟩ := State.joinQueue_comes (ch := p.chime) h (by rw [hr]; decide) (fun x hx => ho x hx _ (List.mem_singleton.2 rfl))
      dsimp only
      split
      · exact ⟨comes, plays⟩
      · rw [State.endChime_chu]
        exact ⟨comes, plays⟩
    · rw [State.endChime_chu]
      exact ⟨kept _, rfl, rfl⟩

/-! ## Placement (R152) -/

theorem State.startOn_voice (s : State) (ch : Chime) (v : Voice) :
    ∃ (p : Playing) (gap : Nat), p.chime = ch ∧ (s.startOn ch v).chu = { s.chu.setVoice v (some p) with parkGap := gap } := by
  unfold State.startOn
  dsimp only
  split
  · exact ⟨_, _, rfl, rfl⟩
  · exact ⟨_, s.chu.parkGap, rfl, by cases v <;> rfl⟩

theorem ZoneSet.meets_comm (a b : ZoneSet) : a.meets b = b.meets a := by simp [ZoneSet.meets, Bool.and_comm]

theorem zonesMeet_some_left (p : Playing) (w : Option Playing) : zonesMeet (some p) w = clashes w p.chime.zones := by
  cases w with
  | none => rfl
  | some q => exact ZoneSet.meets_comm _ _

theorem zonesMeet_some_right (p : Playing) (w : Option Playing) : zonesMeet w (some p) = clashes w p.chime.zones := by
  cases w <;> rfl

theorem Chu.canPlace_iff (c : Chu) (z : ZoneSet) :
    c.canPlace z = true ↔ c.voice1 = none ∧ clashes c.voice2 z = false ∨ c.voice2 = none ∧ clashes c.voice1 z = false := by
  simp [Chu.canPlace]

/-- R152: a chime that can be placed takes a free voice. -/
theorem State.place_comes {s : State} (h : s.chu.stands) {ch : Chime} (hp : s.chu.canPlace ch.zones = true) :
    (s.place ch).chu.comesOf s.chu [ch] ∧ (s.place ch).chu.queue = s.chu.queue := by
  have free := (s.chu.canPlace_iff ch.zones).1 hp
  by_cases h1 : s.chu.voice1 = none
  · have on : s.place ch = s.startOn ch .v1 := by rw [State.place, h1]; rfl
    obtain ⟨p, gap, hc, he⟩ := s.startOn_voice ch .v1
    have clash : clashes s.chu.voice2 ch.zones = false := by
      rcases free with hf | hf
      · exact hf.2
      · rw [hf.1]
        rfl
    rw [on, he]
    refine ⟨⟨⟨?_, h.room, h.clicks, h.sorted⟩, fun x => ?_, rfl⟩, rfl⟩
    · show zonesMeet (some p) s.chu.voice2 = false
      rw [zonesMeet_some_left, hc, clash]
    · rw [List.count_append, count_records, count_records]
      show (voiceChimes (some p)).count x + (voiceChimes s.chu.voice2).count x + s.chu.queue.count x ≤ _
      rw [voiceChimes, hc, h1]
      simp [voiceChimes, Nat.add_assoc]
  · have on : s.place ch = s.startOn ch .v2 := by
      rw [State.place, if_neg (by simpa using h1)]
    obtain ⟨p, gap, hc, he⟩ := s.startOn_voice ch .v2
    obtain ⟨h2, clash⟩ := free.resolve_left (fun hf => h1 hf.1)
    rw [on, he]
    refine ⟨⟨⟨?_, h.room, h.clicks, h.sorted⟩, fun x => ?_, rfl⟩, rfl⟩
    · show zonesMeet s.chu.voice1 (some p) = false
      rw [zonesMeet_some_right, hc, clash]
    · rw [List.count_append, count_records, count_records]
      show (voiceChimes s.chu.voice1).count x + (voiceChimes (some p)).count x + s.chu.queue.count x ≤ _
      rw [voiceChimes, hc, h2]
      simp only [voiceChimes, List.count_nil]
      omega

/-- R155: an entry that is placed leaves the queue. -/
theorem State.fillOnce_comes {s : State} (h : s.chu.stands) : s.fillOnce.chu.comesOf s.chu [] := by
  unfold State.fillOnce
  split
  · exact ⟨h, fun x => le_rfl, rfl⟩
  · next ch hf =>
    have fits : s.chu.canPlace ch.zones = true := by simpa using List.find?_some hf
    have less : (s.chu.queue.erase ch).Sublist s.chu.queue := List.erase_sublist
    have left : ({ s.chu with queue := s.chu.queue.erase ch } : Chu).stands :=
      ⟨h.apart, less.length_le.trans h.room, fun x hx => h.clicks x (less.subset hx), h.sorted.sublist less⟩
    obtain ⟨comes, -⟩ := State.place_comes (s := { s with chu := { s.chu with queue := s.chu.queue.erase ch } }) left fits
    refine ⟨comes.stands, fun x => (comes.within x).trans ?_, comes.nextOrder⟩
    have counts := (List.perm_cons_erase (List.mem_of_find?_eq_some hf)).count_eq x
    simp only [List.count_append, count_records, List.count_cons, List.count_nil] at counts ⊢
    omega

theorem Chu.comesOf.trans {a b c : Chu} {l l' : List Chime} (h : a.comesOf b l) (k : b.comesOf c l') : a.comesOf c (l ++ l') := by
  refine ⟨h.stands, fun x => (h.within x).trans ?_, h.nextOrder.trans k.nextOrder⟩
  have := k.within x
  simp only [List.count_append] at this ⊢
  omega

theorem State.fill_comes {s : State} (h : s.chu.stands) : s.fill.chu.comesOf s.chu [] :=
  (State.fillOnce_comes (State.fillOnce_comes h).stands).trans (State.fillOnce_comes h)

/-- A voice that falls silent. -/
theorem Chu.hushed_comes {c : Chu} (h : c.stands) {v1 v2 : Option Playing} (h1 : v1 = c.voice1 ∨ v1 = none) (h2 : v2 = c.voice2 ∨ v2 = none) :
    ({ c with voice1 := v1, voice2 := v2 } : Chu).comesOf c [] := by
  refine ⟨⟨?_, h.room, h.clicks, h.sorted⟩, fun x => ?_, rfl⟩
  · rcases h1 with rfl | rfl
    · rcases h2 with rfl | rfl
      · exact h.apart
      · show zonesMeet c.voice1 none = false
        cases c.voice1 <;> rfl
    · rfl
  · rw [List.nil_append, count_records, count_records]
    have one (v w : Option Playing) (hv : v = w ∨ v = none) : (voiceChimes v).count x ≤ (voiceChimes w).count x := by
      rcases hv with rfl | rfl
      · exact le_rfl
      · exact Nat.zero_le _
    have := one _ _ h1
    have := one _ _ h2
    dsimp only
    omega

/-! ## Arrival (R151, R153) -/

/-- R153: once the chimes that block it have left their voices, a new chime can be placed. -/
theorem Chu.canPlace_of_unblocked (c : Chu) (z : ZoneSet) :
    ({ c with voice1 := if c.blocks .v1 z = true then none else c.voice1, voice2 := if c.blocks .v2 z = true then none else c.voice2 } : Chu).canPlace z = true := by
  rw [Chu.canPlace_iff]
  dsimp only
  cases h1 : c.voice1 with
  | none =>
    cases h2 : c.voice2 with
    | none => exact .inl ⟨by simp, by simp [clashes]⟩
    | some q =>
      refine .inl ⟨by simp, ?_⟩
      by_cases hm : q.chime.zones.meets z = true
      · simp [Chu.blocks, Chu.voice, h1, h2, hm, clashes]
      · simp [Chu.blocks, Chu.voice, h1, h2, hm, clashes]
  | some p =>
    cases h2 : c.voice2 with
    | none =>
      refine .inr ⟨by simp, ?_⟩
      by_cases hm : p.chime.zones.meets z = true
      · simp [Chu.blocks, Chu.voice, h1, h2, hm, clashes]
      · simp [Chu.blocks, Chu.voice, h1, h2, hm, clashes]
    | some q => exact .inl ⟨by simp [Chu.blocks, Chu.voice, h1, h2], by simp [Chu.blocks, Chu.voice, h1, h2, clashes]⟩

theorem State.preempt_comes {s : State} (h : s.chu.stands) {ch : Chime} (ho : (s.chu.records.map (·.order)).Nodup) :
    (s.preempt ch).chu.comesOf s.chu [ch] := by
  have apart (x y : Chime) (hx : x ∈ voiceChimes s.chu.voice1 ++ s.chu.queue) (hy : y ∈ voiceChimes s.chu.voice2) : y.order ≠ x.order := by
    rw [Chu.records, List.map_append, List.map_append, List.nodup_append, List.nodup_append] at ho
    obtain ⟨⟨-, -, h12⟩, -, hq⟩ := ho
    rcases List.mem_append.1 hx with hx | hx
    · exact fun he => h12 _ (List.mem_map_of_mem hx) _ (List.mem_map_of_mem hy) he.symm
    · exact fun he => hq _ (List.mem_append_right _ (List.mem_map_of_mem hy)) _ (List.mem_map_of_mem hx) he
  have apart1 (x y : Chime) (hx : x ∈ s.chu.queue) (hy : y ∈ voiceChimes s.chu.voice1) : y.order ≠ x.order := by
    rw [Chu.records, List.map_append, List.map_append, List.nodup_append] at ho
    exact fun he => ho.2.2 _ (List.mem_append_left _ (List.mem_map_of_mem hy)) _ (List.mem_map_of_mem hx) he
  have out (b : Bool) (w : Option Playing) (x : Chime) : (voiceChimes (if b = true then w else none)).count x
      + (voiceChimes (if b = true then none else w)).count x = (voiceChimes w).count x := by
    cases b <;> simp [voiceChimes]
  have within (b : Bool) (w : Option Playing) : voiceChimes (if b = true then w else none) ⊆ voiceChimes w := by
    cases b <;> simp [voiceChimes]
  have free (b : Bool) (w : Option Playing) (hb : b = true → w.isSome = true) :
      (if (if b = true then w else none).isSome = true then none else w) = if b = true then none else w := by
    cases b with
    | false => rfl
    | true => simp [hb rfl]
  have some (v : Voice) : s.chu.blocks v ch.zones = true → (s.chu.voice v).isSome = true := by
    intro hb
    unfold Chu.blocks at hb
    split at hb
    · cases hb
    · next p hv => rw [hv]; rfl
  have room := s.chu.canPlace_of_unblocked ch.zones
  unfold State.preempt
  dsimp only
  rw [free _ s.chu.voice1 (some .v1), free _ s.chu.voice2 (some .v2)]
  have out1 := out (s.chu.blocks .v1 ch.zones) s.chu.voice1
  have out2 := out (s.chu.blocks .v2 ch.zones) s.chu.voice2
  have within1 := within (s.chu.blocks .v1 ch.zones) s.chu.voice1
  have within2 := within (s.chu.blocks .v2 ch.zones) s.chu.voice2
  have hushed := Chu.hushed_comes h (v1 := if s.chu.blocks .v1 ch.zones = true then none else s.chu.voice1)
    (v2 := if s.chu.blocks .v2 ch.zones = true then none else s.chu.voice2)
    (by split <;> simp) (by split <;> simp)
  generalize hs0 : ({ s with chu := { s.chu with
    voice1 := if s.chu.blocks .v1 ch.zones = true then none else s.chu.voice1,
    voice2 := if s.chu.blocks .v2 ch.zones = true then none else s.chu.voice2 } } : State) = s0
  have chu0 : s0.chu = { s.chu with voice1 := if s.chu.blocks .v1 ch.zones = true then none else s.chu.voice1,
                                    voice2 := if s.chu.blocks .v2 ch.zones = true then none else s.chu.voice2 } := by rw [← hs0]
  rw [← chu0] at hushed room
  have queue0 : s0.chu.queue = s.chu.queue := by rw [chu0]
  generalize (if s.chu.blocks .v1 ch.zones = true then s.chu.voice1 else none) = w1 at out1 within1
  generalize (if s.chu.blocks .v2 ch.zones = true then s.chu.voice2 else none) = w2 at out2 within2
  obtain ⟨first, plays1⟩ := State.preempted_comes hushed.stands (w := w1) (fun x hx y hy => apart1 x y (queue0 ▸ hx) (within1 hy))
  have queue1 (x : Chime) (hx : x ∈ (s0.preempted w1).chu.queue) : x ∈ voiceChimes s.chu.voice1 ++ s.chu.queue := by
    have counts := first.within x
    rw [List.count_append, count_records, count_records, plays1.1, plays1.2, queue0] at counts
    have pos := List.count_pos_iff.2 hx
    rcases Nat.eq_zero_or_pos ((voiceChimes w1).count x) with hz | hp
    · exact List.mem_append_right _ (List.count_pos_iff.1 (by omega))
    · exact List.mem_append_left _ (within1 (List.count_pos_iff.1 hp))
  obtain ⟨second, plays2⟩ := State.preempted_comes first.stands (w := w2) (fun x hx y hy => apart x y (queue1 x hx) (within2 hy))
  have fits : ((s0.preempted w1).preempted w2).chu.canPlace ch.zones = true := by
    rw [Chu.canPlace, plays2.1, plays2.2, plays1.1, plays1.2]
    exact room
  obtain ⟨placed, -⟩ := State.place_comes second.stands fits
  have filled := (State.fill_comes placed.stands).trans (placed.trans (second.trans first))
  refine ⟨filled.stands, fun x => (filled.within x).trans ?_, filled.nextOrder.trans (by rw [chu0])⟩
  have counts1 := out1 x
  have counts2 := out2 x
  simp only [List.nil_append, List.count_append, count_records, chu0]
  omega

/-- R151: while fewer than 255 records are held, an arrival gets a handle of 1 to 255 that none of them holds. -/
theorem Chu.nextHandle_fresh {c : Chu} (h : c.records.length < 255) :
    1 ≤ c.nextHandle ∧ c.nextHandle ≤ 255 ∧ c.nextHandle ∉ c.records.map (·.handle) := by
  have holds (n : Nat) : c.holdsHandle n = true ↔ n ∈ c.records.map (·.handle) := by
    simp only [Chu.holdsHandle, Chu.records, List.map_append, List.mem_append, List.mem_map, Bool.or_eq_true, List.any_eq_true]
    cases c.voice1 <;> cases c.voice2 <;> simp [voiceChimes]
  unfold Chu.nextHandle
  split
  · next k hk =>
    have free := List.find?_some hk
    refine ⟨by omega, by omega, fun hm => ?_⟩
    rw [(holds _).2 hm] at free
    cases free
  · next hk =>
    exfalso
    have all (n : Nat) (h1 : 1 ≤ n) (h2 : n ≤ 255) : n ∈ c.records.map (·.handle) := by
      have taken := List.find?_eq_none.1 hk ((n + 254 + 255 - c.lastHandle % 255) % 255) (List.mem_range.2 (Nat.mod_lt _ (by decide)))
      have he : (c.lastHandle + (n + 254 + 255 - c.lastHandle % 255) % 255) % 255 + 1 = n := by omega
      rw [he] at taken
      exact (holds n).1 (by simpa using taken)
    have len := (List.subperm_of_subset (List.nodup_range' (step := 1) (s := 1) (n := 255)) (l₂ := c.records.map (·.handle)) (fun n hn => by
      have := List.mem_range'_1.1 hn
      exact all n this.1 (by omega))).length_le
    rw [List.length_range', List.length_map] at len
    omega

/-- The laws of the voices, the queue and the records. -/
structure Chu.law (c : Chu) : Prop where
  stands : c.stands
  fits : chimesFit c.records c.nextOrder

theorem Chu.comesOf.law {c' c : Chu} (k : c'.comesOf c []) (h : c.law) : c'.law :=
  ⟨k.stands, by rw [k.nextOrder]; exact h.fits.of_within k.within⟩

theorem Chu.law.length {c : Chu} (h : c.law) : c.records.length ≤ 10 := by
  have one (w : Option Playing) : (voiceChimes w).length ≤ 1 := by cases w <;> simp [voiceChimes]
  have h1 := one c.voice1
  have h2 := one c.voice2
  have hq := h.stands.room
  simp only [Chu.records, List.length_append]
  omega

/-- R151: the record that an arrival forms beside those that are held. -/
theorem Chu.form_fits {c : Chu} (h : c.law) (r : ChimeRequest) (hp : r.origin = .park → c.records.filter isPark = []) :
    chimesFit (c.form r :: c.records) (c.nextOrder + 1) := by
  obtain ⟨lo, hi, fresh⟩ := c.nextHandle_fresh (by have := h.length; omega)
  refine ⟨?_, ?_, fun ch hc => ?_, ?_⟩
  · rw [List.map_cons, List.nodup_cons]
    refine ⟨fun hm => ?_, h.fits.orders⟩
    obtain ⟨ch, hc, he⟩ := List.mem_map.1 hm
    have := (h.fits.range ch hc).1
    change ch.order = c.nextOrder at he
    omega
  · rw [List.map_cons, List.nodup_cons]
    exact ⟨fresh, h.fits.handles⟩
  · rcases List.mem_cons.1 hc with rfl | hc
    · exact ⟨Nat.lt_succ_self _, lo, hi⟩
    · obtain ⟨ho, hh⟩ := h.fits.range ch hc
      exact ⟨by omega, hh⟩
  · rw [List.filter_cons]
    split
    · next hi => rw [hp (of_decide_eq_true hi)]; simp
    · exact h.fits.park

/-- R153: an arrival leaves the laws, and at most its own record is new. -/
theorem State.arrive_law {s : State} (h : s.chu.law) {r : ChimeRequest} (hp : r.origin = .park → s.chu.records.filter isPark = []) :
    (s.arrive r).1.chu.law ∧ ∃ ch : Chime, ch.origin = r.origin ∧ recordsWithin (s.arrive r).1.chu.records (ch :: s.chu.records) := by
  have fits := Chu.form_fits h r hp
  have formed : ({ s with chu := s.chu.formed } : State).chu.stands := Chu.stands_of_same h.stands ⟨rfl, rfl⟩ rfl
  have records : ({ s with chu := s.chu.formed } : State).chu.records = s.chu.records := Chu.records_of_same ⟨rfl, rfl⟩ rfl
  have comes {c : Chu} (k : c.comesOf ({ s with chu := s.chu.formed } : State).chu [s.chu.form r]) :
      c.law ∧ ∃ ch : Chime, ch.origin = r.origin ∧ recordsWithin c.records (ch :: s.chu.records) := by
    have within := k.within
    rw [records] at within
    exact ⟨⟨k.stands, by rw [k.nextOrder]; exact fits.of_within within⟩, s.chu.form r, rfl, within⟩
  have kept : s.chu.law ∧ ∃ ch : Chime, ch.origin = r.origin ∧ recordsWithin s.chu.records (ch :: s.chu.records) :=
    ⟨h, s.chu.form r, rfl, fun x => List.count_le_count_cons⟩
  unfold State.arrive
  dsimp only
  split
  · next hc => exact comes (State.place_comes (ch := s.chu.form r) formed hc).1
  split
  · exact kept
  next hcl =>
  split
  · exact comes (State.preempt_comes formed (by rw [records]; exact h.fits.orders))
  · split
    · refine comes (State.joinQueue_comes formed hcl (fun x hx => ?_)).1
      have := (h.fits.range x (List.mem_append_right _ hx)).1
      show s.chu.nextOrder ≠ x.order
      omega
    · exact kept

/-! ## Removal, the steps and the park beep -/

theorem State.removeChime_comes {s : State} (h : s.chu.stands) (p : Chime → Bool) : (s.removeChime p).chu.comesOf s.chu [] := by
  unfold State.removeChime
  split
  · have hushed := Chu.hushed_comes h (v1 := none) (v2 := s.chu.voice2) (.inr rfl) (.inl rfl)
    exact (State.fill_comes (s := { s with chu := { s.chu with voice1 := none } }) hushed.stands).trans hushed
  split
  · have hushed := Chu.hushed_comes h (v1 := s.chu.voice1) (v2 := none) (.inl rfl) (.inr rfl)
    exact (State.fill_comes (s := { s with chu := { s.chu with voice2 := none } }) hushed.stands).trans hushed
  · have less : (s.chu.queue.filter (fun ch => !p ch)).Sublist s.chu.queue := List.filter_sublist
    refine ⟨⟨h.apart, less.length_le.trans h.room, fun x hx => h.clicks x (less.subset hx), h.sorted.sublist less⟩, fun x => ?_, rfl⟩
    have := less.count_le x
    simp only [List.nil_append, count_records]
    omega

theorem voiceHas_iff (w : Option Playing) (p : Chime → Bool) : voiceHas w p = true ↔ (voiceChimes w).filter p ≠ [] := by
  cases w <;> simp [voiceHas, voiceChimes]

theorem filter_records (c : Chu) (p : Chime → Bool) :
    c.records.filter p = (voiceChimes c.voice1).filter p ++ ((voiceChimes c.voice2).filter p ++ c.queue.filter p) := by
  simp [Chu.records, List.filter_append]

/-- R158: with one record of the park beep at most, its removal leaves none. -/
theorem State.removePark_none {s : State} (h : s.chu.law) : (s.removeChime isPark).chu.records.filter isPark = [] := by
  have one := h.fits.park
  have stands := h.stands
  rw [filter_records] at one
  have gone (c : Chu) (hc : c.records.filter isPark = []) (k : c.stands) : ({ s with chu := c } : State).fill.chu.records.filter isPark = [] :=
    filter_isPark_of_within (State.fill_comes (s := { s with chu := c }) k).within hc
  simp only [List.length_append] at one
  have pos {l : List Chime} (hl : l ≠ []) := List.length_pos_iff.2 hl
  have zero {l : List Chime} (hl : l.length = 0) := List.eq_nil_of_length_eq_zero hl
  unfold State.removeChime
  split
  · next h1 =>
    have := pos ((voiceHas_iff _ _).1 h1)
    refine gone _ ?_ (Chu.hushed_comes stands (v1 := none) (v2 := s.chu.voice2) (.inr rfl) (.inl rfl)).stands
    rw [filter_records]
    exact List.append_eq_nil_iff.2 ⟨rfl, List.append_eq_nil_iff.2 ⟨zero (by dsimp only; omega), zero (by dsimp only; omega)⟩⟩
  next h1 =>
  split
  · next h2 =>
    have := pos ((voiceHas_iff _ _).1 h2)
    refine gone _ ?_ (Chu.hushed_comes stands (v1 := s.chu.voice1) (v2 := none) (.inl rfl) (.inr rfl)).stands
    rw [filter_records]
    exact List.append_eq_nil_iff.2 ⟨zero (by dsimp only; omega), List.append_eq_nil_iff.2 ⟨rfl, zero (by dsimp only; omega)⟩⟩
  next h2 =>
  rw [filter_records]
  rw [voiceHas_iff, not_not] at h1 h2
  exact List.append_eq_nil_iff.2 ⟨h1, List.append_eq_nil_iff.2 ⟨h2, by simp [List.filter_filter]⟩⟩

theorem Chu.hasPark_of_none {c : Chu} (h : c.records.filter isPark = []) : c.hasPark = false := by
  refine Bool.eq_false_iff.2 (fun hp => ?_)
  obtain ⟨ch, hc, ho⟩ := c.hasPark_iff.1 hp
  exact List.filter_eq_nil_iff.1 h ch hc (decide_eq_true ho)

theorem Chu.none_of_hasPark {c : Chu} (h : c.hasPark = false) : c.records.filter isPark = [] := by
  refine List.filter_eq_nil_iff.2 (fun ch hc hp => ?_)
  rw [c.hasPark_iff.2 ⟨ch, hc, of_decide_eq_true hp⟩] at h
  cases h

/-- R158: judging the park beep leaves the laws, and no record of it while the controller is OFF. -/
theorem State.judgePark_law {s : State} (h : s.chu.law) :
    s.judgePark.chu.law ∧ (s.rvc.state = .off → s.judgePark.chu.records.filter isPark = []) := by
  have judged (b : Bool) : ({ s with chu := { s.chu with parkJudged := b } } : State).chu.law :=
    ⟨Chu.stands_of_same h.stands ⟨rfl, rfl⟩ rfl, h.fits⟩
  unfold State.judgePark
  dsimp only
  split
  · next ha =>
    have on (hr : s.rvc.state = .off) : False := ((s.parkActive_iff).1 ha).1 hr
    split
    · exact ⟨judged _, fun hr => (on hr).elim⟩
    · next hn => exact ⟨(State.arrive_law (judged _) (fun _ => Chu.none_of_hasPark (by simpa using hn))).1, fun hr => (on hr).elim⟩
  · split
    · exact ⟨(State.removeChime_comes (judged _).stands isPark).law (judged _), fun _ => State.removePark_none (judged _)⟩
    · next hn => exact ⟨judged _, fun _ => Chu.none_of_hasPark (c := { s.chu with parkJudged := s.parkActive }) (by simpa using hn)⟩

/-- R152, R159: a playing chime that goes on stays on its voice. -/
theorem Chu.goesOn_comes {c : Chu} (h : c.stands) {v : Voice} {p q : Playing} (hv : c.voice v = some p) (hq : q.chime = p.chime) (gap : Nat) :
    ({ c.setVoice v (some q) with parkGap := gap } : Chu).comesOf c [] := by
  have apart := h.apart
  cases v with
  | v1 =>
    have hv : c.voice1 = some p := hv
    refine ⟨⟨?_, h.room, h.clicks, h.sorted⟩, fun x => ?_, rfl⟩
    · rw [hv, zonesMeet_some_left] at apart
      show zonesMeet (some q) c.voice2 = false
      rw [zonesMeet_some_left, hq, apart]
    · simp [count_records, Chu.setVoice, hv, voiceChimes, hq]
  | v2 =>
    have hv : c.voice2 = some p := hv
    refine ⟨⟨?_, h.room, h.clicks, h.sorted⟩, fun x => ?_, rfl⟩
    · rw [hv, zonesMeet_some_right] at apart
      show zonesMeet c.voice1 (some q) = false
      rw [zonesMeet_some_right, hq, apart]
    · simp [count_records, Chu.setVoice, hv, voiceChimes, hq]

theorem Playing.next_chime {p q : Playing} {now : Stamp} {pat : Pattern} (h : p.next now pat = some q) : q.chime = p.chime := by
  unfold Playing.next at h
  (repeat' split at h) <;> cases h <;> rfl

theorem Chu.silenced_comes {c : Chu} (h : c.stands) (v : Voice) : (c.setVoice v none).comesOf c [] := by
  cases v with
  | v1 => exact Chu.hushed_comes h (.inr rfl) (.inl rfl)
  | v2 => exact Chu.hushed_comes h (.inl rfl) (.inr rfl)

theorem State.stepEnded_comes {s : State} (h : s.chu.stands) (v : Voice) : (s.stepEnded v).chu.comesOf s.chu [] := by
  have kept : s.chu.comesOf s.chu [] := ⟨h, fun _ => le_rfl, rfl⟩
  unfold State.stepEnded
  split
  · exact kept
  next p hv =>
  split
  · split
    · next q hq => exact Chu.goesOn_comes h hv (Playing.next_chime hq) (s.chu.setVoice v (some q)).parkGap
    · have ended : (((s.setVoice v none).endChime p.chime .ended)).chu = s.chu.setVoice v none := by rw [State.endChime_chu]; rfl
      have hushed := Chu.silenced_comes h v
      rw [← ended] at hushed
      exact (State.fill_comes hushed.stands).trans hushed
  · exact kept

theorem State.startBeep_voice (s : State) (p : Playing) (v : Voice) :
    ∃ (q : Playing) (gap : Nat), q.chime = p.chime ∧ (s.startBeep p v).chu = { s.chu.setVoice v (some q) with parkGap := gap } :=
  ⟨{ p with toneEnds := afterMs s.timebase s.chu.parkOnTime, ends := _ }, _, rfl, rfl⟩

theorem State.beepStarts_comes {s : State} (h : s.chu.stands) : s.beepStarts.chu.comesOf s.chu [] := by
  have on (v : Voice) : (s.beepOn v).chu.comesOf s.chu [] := by
    unfold State.beepOn
    split
    · exact ⟨h, fun _ => le_rfl, rfl⟩
    next p hv =>
    split
    · obtain ⟨q, gap, hq, he⟩ := s.startBeep_voice p v
      rw [he]
      exact Chu.goesOn_comes h hv hq gap
    · exact ⟨h, fun _ => le_rfl, rfl⟩
  unfold State.beepStarts
  split
  · exact on .v1
  · exact on .v2

theorem State.chimesStandby_comes (s : State) : s.chimesStandby.chu.comesOf s.chu [] := by
  unfold State.chimesStandby
  rw [State.endAll_chu]
  refine ⟨⟨rfl, by simp, by simp, by simp⟩, fun x => ?_, rfl⟩
  simp [count_records, voiceChimes]

/-- Fewer chimes wait. -/
theorem Chu.thinned_comes {c : Chu} (h : c.stands) {q : List Chime} (hq : q.Sublist c.queue) (table : List Pattern) :
    ({ c with queue := q, table := table } : Chu).comesOf c [] := by
  refine ⟨⟨h.apart, hq.length_le.trans h.room, fun x hx => h.clicks x (hq.subset hx), h.sorted.sublist hq⟩, fun x => ?_, rfl⟩
  have := hq.count_le x
  simp only [List.nil_append, count_records]
  omega

theorem State.chimesWarm_comes {s : State} (h : s.chu.stands) : s.chimesWarm.chu.comesOf s.chu [] := by
  have hushed := Chu.hushed_comes h (v1 := if voiceHas s.chu.voice1 survivesWarm then s.chu.voice1 else none)
    (v2 := if voiceHas s.chu.voice2 survivesWarm then s.chu.voice2 else none) (by split <;> simp) (by split <;> simp)
  have kept := Chu.thinned_comes hushed.stands (q := s.chu.queue.filter survivesWarm) List.filter_sublist
    (s.chu.table.take 6 ++ List.replicate 10 silentPattern)
  unfold State.chimesWarm
  exact (State.fill_comes (by exact kept.stands)).trans (kept.trans hushed)

/-! ## The laws of the chime unit but for the ducking -/

/-- The laws of the voices, the queue and the records, and that no park beep's record is held while the controller is OFF. -/
def State.soundLaw (s : State) : Prop := s.chu.law ∧ s.parkLaw

theorem State.soundLaw_of_same {s s' : State} (h : s.soundLaw) (hc : s'.chu = s.chu := by simp) (hr : s'.rvc.state = s.rvc.state := by simp) :
    s'.soundLaw := by
  rw [State.soundLaw, State.parkLaw, hc, hr]
  exact h

theorem State.soundLaw_of_comes {s s' : State} (h : s.soundLaw) (hc : s'.chu.comesOf s.chu []) (hr : s'.rvc.state = s.rvc.state := by simp) :
    s'.soundLaw :=
  ⟨hc.law h.1, fun ho => filter_isPark_of_within hc.within (h.2 (hr ▸ ho))⟩

/-- Another chime than the park beep's arrives. -/
theorem State.arrive_soundLaw {s : State} (h : s.soundLaw) {r : ChimeRequest} (hr : r.origin ≠ .park) : (s.arrive r).1.soundLaw := by
  obtain ⟨law, ch, ho, within⟩ := State.arrive_law h.1 (fun hp => absurd hp hr)
  refine ⟨law, fun hoff => filter_isPark_of_within within ?_⟩
  rw [State.arrive_rvc_state] at hoff
  rw [List.filter_cons, if_neg (by simpa [isPark, ho] using hr)]
  exact h.2 hoff

theorem State.reverseChime_soundLaw {s : State} (h : s.soundLaw) (before after : RvcState) : (s.reverseChime before after).soundLaw := by
  have engage : s.engageChime.soundLaw := by
    unfold State.engageChime
    split
    · exact State.arrive_soundLaw h (by decide)
    · exact h
  have fault : s.faultChime.soundLaw := State.soundLaw_of_same (State.arrive_soundLaw h (r := ⟨3, ZoneSet.frontOnly, 7, .repeat, .reverse⟩) (by decide)) rfl rfl
  unfold State.reverseChime
  split
  · exact engage
  · exact engage
  · exact fault
  · exact fault
  · exact h

theorem State.judgePark_soundLaw {s : State} (h : s.chu.law) : s.judgePark.soundLaw := by
  obtain ⟨law, none⟩ := State.judgePark_law h
  exact ⟨law, fun ho => none (by rwa [State.judgePark_rvc_state] at ho)⟩

/-- R36, R158: a change of the controller that crosses OFF judges the park beep. -/
theorem State.changeRvc_soundLaw {s : State} (h : s.soundLaw) (c : RvcChange) : (s.changeRvc c).soundLaw := by
  have hushed : (if s.rvc.state = .fault then ({ s with rvc := s.rvc.changed c } : State).cancelFaultChime
      else { s with rvc := s.rvc.changed c }).chu.comesOf s.chu [] := by
    have kept : ({ s with rvc := s.rvc.changed c } : State).chu.comesOf s.chu [] := ⟨h.1.stands, fun _ => le_rfl, rfl⟩
    split
    · unfold State.cancelFaultChime
      split
      · exact kept
      · exact State.removeChime_comes (s := { s with rvc := { s.rvc.changed c with faultChime := none } }) h.1.stands _
    · exact kept
  have state : (if s.rvc.state = .fault then ({ s with rvc := s.rvc.changed c } : State).cancelFaultChime
      else { s with rvc := s.rvc.changed c }).rvc.state = c.state := by
    split
    · rw [State.cancelFaultChime_rvc_state]
      rfl
    · rfl
  unfold State.changeRvc
  dsimp only
  generalize (if s.rvc.state = .fault then ({ s with rvc := s.rvc.changed c } : State).cancelFaultChime
    else { s with rvc := s.rvc.changed c }) = x at hushed state
  have told (b : Bool) : (((x.post 0 x.rvc.notice).reverseToCompositor b).judgeCameraPower.reverseToGuide b).chu = x.chu
      ∧ (((x.post 0 x.rvc.notice).reverseToCompositor b).judgeCameraPower.reverseToGuide b).rvc.state = c.state := by
    simp [state]
  refine State.reverseChime_soundLaw ?_ _ _
  split
  · refine State.judgePark_soundLaw ?_
    rw [(told _).1]
    exact hushed.law h.1
  · next hcross =>
    refine ⟨by rw [(told _).1]; exact hushed.law h.1, fun ho => ?_⟩
    rw [(told _).2] at ho
    rw [(told _).1]
    refine filter_isPark_of_within hushed.within (h.2 ?_)
    by_contra hb
    simp [ho, hb] at hcross

theorem State.Move.soundLaw {s s' : State} (m : s.Move s') (h : s.soundLaw) : s'.soundLaw := by
  cases m with
  | other hd k => exact State.soundLaw_of_same h k.chu k.rvc
  | arrives r hr => exact State.arrive_soundLaw h hr
  | parks => exact State.judgePark_soundLaw h.1
  | removes which => exact State.soundLaw_of_comes h (State.removeChime_comes h.1.stands which)
  | chimesOff => exact State.soundLaw_of_comes h (State.chimesStandby_comes _)
  | chimesWarm => exact State.soundLaw_of_comes h (State.chimesWarm_comes h.1.stands)
  | stepEnds v => exact State.soundLaw_of_comes h (State.stepEnded_comes h.1.stands v)
  | beeps => exact State.soundLaw_of_comes h (State.beepStarts_comes h.1.stands)
  | ducks i =>
    refine State.soundLaw_of_comes h ?_
    unfold State.duckStep
    dsimp only
    split <;> exact ⟨Chu.stands_of_same h.1.stands ⟨rfl, rfl⟩ rfl, fun _ => le_rfl, rfl⟩
  | pattern | frontLevel => exact State.soundLaw_of_comes h ⟨Chu.stands_of_same h.1.stands ⟨rfl, rfl⟩ rfl, fun _ => le_rfl, rfl⟩ rfl
  | changes hd c => exact State.changeRvc_soundLaw h c
  | writes hd no index given v =>
    refine State.soundLaw_of_comes h ?_
    unfold State.writeField
    dsimp only
    split
    · rw [State.trackingTrigger_chu]
      exact ⟨h.1.stands, fun _ => le_rfl, rfl⟩
    · split <;> exact ⟨Chu.stands_of_same h.1.stands ⟨rfl, rfl⟩ rfl, fun _ => le_rfl, rfl⟩
  | _ => exact State.soundLaw_of_same h

/-! ## The duck steps (R160) -/

/-- R160: a gain takes no further step exactly while it stands at its goal. -/
def Duck.rests (d : Duck) (level : Int) : Prop := d.timer = none ↔ d.gain = if d.ducking = true then level else 0

/-- R160 for both zones. -/
def State.restsLaw (s : State) : Prop := ∀ i, (s.chu.duck.get i).rests (calDuckLevel s.cal.working)

theorem Duck.step_rests (d : Duck) (now : Stamp) (level : Int) : (d.step now level).rests level := by
  unfold Duck.step Duck.rests
  cases d.ducking with
  | true => simp
  | false => simp

theorem Duck.follow_rests {d : Duck} {level : Int} (h : d.rests level) (now : Stamp) (ducking : Bool) :
    (d.follow now ducking level).rests level ∧ (d.follow now ducking level).ducking = ducking := by
  unfold Duck.follow
  split
  · next he => exact ⟨h, he⟩
  · cases ducking with
    | true => simp [Duck.rests]
    | false => simp [Duck.rests]

/-- R160: the goal of a ducking zone moves with the duck level. -/
theorem Duck.released_rests {d : Duck} {old : Int} (h : d.rests old) (now : Stamp) (level : Int) : (d.released now old level).rests level := by
  unfold Duck.rests at h
  unfold Duck.released
  cases hd : d.ducking with
  | false =>
    rw [hd] at h
    simpa [Duck.rests, hd] using h
  | true =>
    simp only [hd, if_true, Bool.not_true, Bool.false_or, decide_eq_true_eq] at h ⊢
    by_cases he : old = level
    · rw [if_pos he]
      simpa [Duck.rests, hd, he] using h
    rw [if_neg he]
    by_cases hg : d.gain = level
    · rw [if_pos hg]
      simp [Duck.rests, hd, hg]
    rw [if_neg hg]
    by_cases hold : d.gain = old
    · rw [if_pos hold]
      simp [Duck.rests, hd, hg]
    rw [if_neg hold]
    simp [Duck.rests, hd, hg, h, hold]

theorem State.restsLaw_of_same {s s' : State} (h : s.restsLaw) (hd : s'.chu.duck = s.chu.duck)
    (hw : s'.cal.working = s.cal.working := by simp) : s'.restsLaw := by
  rw [State.restsLaw, hd, hw]
  exact h

/-- A field that is not the duck level leaves it. -/
theorem calDuckLevel_setField {im : List Int} {no : Nat} (h : no ≠ 37) (index : Nat) (v : Int) :
    calDuckLevel (setField im no index v) = calDuckLevel im := by
  rcases field_setField im no index v 37 0 with he | ⟨hn, -, -⟩
  · exact he
  · exact absurd hn.symm h

theorem State.writeField_restsLaw {s : State} (h : s.restsLaw) (no index : Nat) (v : Int) : (s.writeField no index v).restsLaw := by
  intro i
  have level (hn : no ≠ 37) (x : State) (hc : x.chu.duck = s.chu.duck) (hw : x.cal.working = setField s.cal.working no index v) :
      (x.chu.duck.get i).rests (calDuckLevel x.cal.working) := by
    rw [hc, hw, calDuckLevel_setField hn]
    exact h i
  unfold State.writeField
  dsimp only
  split
  · next hg =>
    refine level (fun hn => ?_) _ (by rw [State.trackingTrigger_chu]) (by rw [State.trackingTrigger_cal]; rfl)
    rw [hn] at hg
    cases hg
  split
  · rw [State.releaseDucks]
    dsimp only
    rw [Two.get_map]
    exact Duck.released_rests (h i) _ _
  · next hn => exact level hn _ rfl rfl

theorem State.programmed_working (s : State) (fault : Option FaultyCells) : (s.programmed fault).cal.working = s.cal.working := by
  unfold State.programmed
  split
  · rfl
  next f _ =>
  split
  · cases f.slot <;> rfl
  · rfl

theorem State.Move.restsLaw {s s' : State} (m : s.Move s') (h : s.restsLaw) : s'.restsLaw := by
  have mixed {x : State} (hm : x.chu.mix = s.chu.mix) (hw : x.cal.working = s.cal.working) : x.restsLaw :=
    State.restsLaw_of_same h (congrArg Prod.fst hm) hw
  cases m with
  | other hd k => exact mixed (by rw [k.chu]) (by rw [k.cal])
  | pattern | frontLevel => exact State.restsLaw_of_same h rfl rfl
  | ducks i =>
    unfold State.duckStep
    dsimp only
    split
    · intro j
      show ((s.chu.duck.set i _).get j).rests _
      by_cases hj : j = i
      · subst hj
        rw [Two.get_set_same]
        exact Duck.step_rests _ _ _
      · rw [Two.get_set_other _ hj]
        exact h j
    · exact h
  | writes hd no index given v => exact State.writeField_restsLaw h no index v
  | programs n => exact State.restsLaw_of_same h rfl (by cases n <;> rfl)
  | programmed fault => exact mixed (by simp) (s.programmed_working fault)
  | _ => exact mixed (by simp) (by simp)

/-! ## The laws together -/

theorem Chu.law_iff (c : Chu) : c.law ↔ c.voiceLaw ∧ c.orderLaw ∧ c.recordLaw := by
  constructor
  · rintro ⟨⟨hz, hr, hc, hs⟩, ⟨ho, hh, hrange, hp⟩⟩
    exact ⟨⟨hz, hr, hc⟩, ⟨hs, fun ch hm => (hrange ch hm).1, ho⟩, hh, fun ch hm => (hrange ch hm).2, hp⟩
  · rintro ⟨⟨hz, hr, hc⟩, ⟨hs, hlt, ho⟩, hh, hrange, hp⟩
    exact ⟨⟨hz, hr, hc, hs⟩, ⟨ho, hh, fun ch hm => ⟨hlt ch hm, hrange ch hm⟩, hp⟩⟩

theorem State.chimeLaw_iff (s : State) : s.chimeLaw ↔ s.soundLaw ∧ s.restsLaw ∧ ∀ i, s.duckLaw i := by
  rw [State.soundLaw, Chu.law_iff]
  constructor
  · rintro ⟨hv, ho, hr, hp, hd1, hd2, hr1, hr2⟩
    exact ⟨⟨⟨hv, ho, hr⟩, hp⟩, fun i => by cases i <;> assumption, fun i => by cases i <;> assumption⟩
  · rintro ⟨⟨⟨hv, ho, hr⟩, hp⟩, hrest, hd⟩
    exact ⟨hv, ho, hr, hp, hd .s1, hd .s2, hrest .s1, hrest .s2⟩

/-- Within an event the zones' ducking may lag behind the voices; the end of the event makes it follow (R160). -/
theorem State.settle_chimeLaw {s : State} (hs : s.soundLaw) (hr : s.restsLaw) : s.settle.chimeLaw := by
  rw [State.chimeLaw_iff]
  have follow (i : Seat) : s.settle.chu.duck.get i
      = (s.chu.duck.get i).follow s.timebase (s.chu.ducks i) (calDuckLevel s.cal.working) := by cases i <;> rfl
  refine ⟨⟨⟨Chu.stands_of_same hs.1.stands ⟨rfl, rfl⟩ rfl, hs.1.fits⟩, hs.2⟩, fun i => ?_, fun i => ?_⟩
  · rw [follow]
    exact (Duck.follow_rests (hr i) _ _).1
  · rw [State.duckLaw, follow]
    exact (Duck.follow_rests (hr i) _ _).2

theorem State.coldBlocks_chimeLaw (s : State) (cause : StartCause) (cal : Cal) (phase : Phase) (high : Bool) :
    ({ s.coldBlocks cause cal with phase := phase, resetN := high } : State).chimeLaw := by
  rw [State.chimeLaw_iff]
  refine ⟨⟨⟨⟨rfl, by simp [State.coldBlocks, coldChu], by simp [State.coldBlocks, coldChu], by simp [State.coldBlocks, coldChu]⟩,
    ⟨by simp [Chu.records, voiceChimes, State.coldBlocks, coldChu], by simp [Chu.records, voiceChimes, State.coldBlocks, coldChu],
      by simp [Chu.records, voiceChimes, State.coldBlocks, coldChu], by simp [Chu.records, voiceChimes, State.coldBlocks, coldChu]⟩⟩,
    fun _ => rfl⟩, fun i => ?_, fun i => ?_⟩
  · cases i <;> simp [Duck.rests, State.coldBlocks, coldChu, Two.get]
  · cases i <;> rfl

theorem chimeLaw_keptByMoves : KeptByMoves State.chimeLaw (fun s => s.soundLaw ∧ s.restsLaw) where
  time _ _ h := h
  queue _ _ h := h
  opens s h := by
    obtain ⟨hs, hr, -⟩ := s.chimeLaw_iff.1 h
    exact ⟨hs, hr⟩
  settles _ h := State.settle_chimeLaw h.1 h.2
  answers _ _ h := h
  move _ _ h m := ⟨m.soundLaw h.1, m.restsLaw h.2⟩
  record c s h := by
    have same : (recordOf c s).chu = s.chu ∧ (recordOf c s).rvc = s.rvc ∧ (recordOf c s).cal = s.cal := by
      cases c <;> exact ⟨rfl, rfl, rfl⟩
    obtain ⟨hs, hr, hd⟩ := s.chimeLaw_iff.1 h
    refine (State.chimeLaw_iff _).2 ⟨State.soundLaw_of_same hs same.1 (by rw [same.2.1]),
      State.restsLaw_of_same hr (by rw [same.1]) (by rw [same.2.2]), fun i => ?_⟩
    rw [State.duckLaw, same.1]
    exact hd i
  cold c s h := by
    rcases coldOf_cases c s with he | ⟨cause, he⟩ | ⟨cause, he⟩
    · rw [he]
      exact h
    · rw [he]
      exact s.coldBlocks_chimeLaw cause _ _ _
    · rw [he]
      exact s.coldBlocks_chimeLaw cause _ _ _

end Sys2Proof.Machine

open Sys2Proof Sys2Proof.Machine

/-- Settles O56: every move keeps the voices, the queue and the records within their laws, and the end of an event makes the ducking
follow the voices. -/
theorem chimeLawsAreKept : Obligations.ChimeLawsAreKept :=
  fun _ _ h hstep => chimeLaw_keptByMoves.step h hstep

end

section
/-! # Proofs: what the links, the menus, the seats and the chimes leave of the reverse view -/

namespace Sys2Proof.Machine

/-! ## The front output and the guide plane -/

/-- What the laws of the reverse view read of the compositor: all but the rear rows, the menu planes and the film lock. -/
def Cmp.fore (c : Cmp) : Row × FrontView × Bool × Option GuideSet × Bool := (c.front, c.frontView, c.guidePlane, c.guideSet, c.preview)

variable (s : State)

@[simp] theorem State.setRearRow_fore (i : Seat) (r : Row) : (s.setRearRow i r).cmp.fore = s.cmp.fore := rfl

@[simp] theorem State.setMenuPlane_fore (i : Seat) (on : Bool) : (s.setMenuPlane i on).cmp.fore = s.cmp.fore := rfl

@[simp] theorem State.judgeRearBanner_fore (i : Seat) : (s.judgeRearBanner i).cmp.fore = s.cmp.fore := rfl

@[simp] theorem State.judgeRear_fore (i : Seat) : (s.judgeRear i).cmp.fore = s.cmp.fore := by
  unfold State.judgeRear
  dsimp only
  split <;> rfl

@[simp] theorem State.rearRouteTakesEffect_fore (i : Seat) : (s.rearRouteTakesEffect i).cmp.fore = s.cmp.fore :=
  State.judgeRear_fore _ i

@[simp] theorem State.rearFrame_fore (i : Seat) : (s.rearFrame i).cmp.fore = s.cmp.fore := by
  unfold State.rearFrame
  split
  · rfl
  · exact s.rearRouteTakesEffect_fore i

@[simp] theorem State.startRear_fore (i : Seat) : (s.startRear i).cmp.fore = s.cmp.fore := State.rearFrame_fore _ i

@[simp] theorem State.stopRear_fore (i : Seat) : (s.stopRear i).cmp.fore = s.cmp.fore := State.rearRouteTakesEffect_fore _ i

@[simp] theorem State.openMenu_fore (i : Seat) (p : Page) : (s.openMenu i p).cmp.fore = s.cmp.fore := rfl

@[simp] theorem State.closeMenu_fore (i : Seat) (r : CloseReason) (q : Bool) : (s.closeMenu i r q).cmp.fore = s.cmp.fore := by
  unfold State.closeMenu
  (repeat' split) <;> rfl

@[simp] theorem State.closeIfHolds_fore (id : Nat) (i : Seat) : (s.closeIfHolds id i).cmp.fore = s.cmp.fore := by
  unfold State.closeIfHolds
  split
  · exact s.closeMenu_fore i _ _
  · rfl

@[simp] theorem State.fellBack_fore (i : Seat) (before : Link) (quiet : Bool) : (s.fellBack i before quiet).cmp.fore = s.cmp.fore := by
  unfold State.fellBack
  rw [State.linkFellBack_cmp]
  split <;> split <;> simp [State.screenLost]

@[simp] theorem State.enterStreaming_fore (i : Seat) (a : Agreement) : (s.enterStreaming i a).cmp.fore = s.cmp.fore := by
  obtain ⟨x, hx, he⟩ := s.enterStreaming_startRear i a
  rw [he, State.startRear_fore, hx]

/-! ## What the chimes leave of the controller (R42) -/

/-- The controller's record but for the fault chime, which may have ended. -/
def Rvc.forgets (r' r : Rvc) : Prop := r' = r ∨ r' = { r with faultChime := none }

theorem Rvc.forgets_refl (r : Rvc) : r.forgets r := .inl rfl

theorem Rvc.forgets.trans {a b c : Rvc} (h : a.forgets b) (k : b.forgets c) : a.forgets c := by
  rcases h with rfl | rfl
  · exact k
  · rcases k with rfl | rfl
    · exact .inr rfl
    · exact .inr rfl

theorem State.endChime_forgets (ch : Chime) (o : ChimeOutcome) : (s.endChime ch o).rvc.forgets s.rvc := by
  unfold State.endChime
  split
  · exact .inl rfl
  · show (s.rvc.chimeEnded ch.handle).forgets s.rvc
    unfold Rvc.chimeEnded
    split
    · exact .inr rfl
    · exact .inl rfl
  · exact .inl rfl
  · exact .inl rfl

theorem State.joinQueue_forgets (ch : Chime) : (s.joinQueue ch).1.rvc.forgets s.rvc := by
  unfold State.joinQueue
  split
  · exact .inl rfl
  split
  · exact .inl rfl
  dsimp only
  split
  · exact State.endChime_forgets _ _ _
  · exact .inl rfl

theorem State.preempted_forgets (w : Option Playing) : (s.preempted w).rvc.forgets s.rvc := by
  unfold State.preempted
  split
  · exact .inl rfl
  split
  · dsimp only
    split
    · exact s.joinQueue_forgets _
    · exact (State.endChime_forgets _ _ _).trans (s.joinQueue_forgets _)
  · exact s.endChime_forgets _ _

theorem State.arrive_forgets (r : ChimeRequest) : (s.arrive r).1.rvc.forgets s.rvc := by
  have preempt (x : State) (ch : Chime) : (x.preempt ch).rvc.forgets x.rvc := by
    unfold State.preempt
    dsimp only
    rw [State.fill_rvc, State.place_rvc]
    exact (State.preempted_forgets _ _).trans (State.preempted_forgets _ _)
  unfold State.arrive
  dsimp only
  split
  · rw [State.place_rvc]
    exact .inl rfl
  split
  · exact .inl rfl
  split
  · exact preempt _ _
  · split
    · exact State.joinQueue_forgets _ _
    · exact .inl rfl

theorem State.judgePark_forgets : s.judgePark.rvc.forgets s.rvc := by
  unfold State.judgePark
  dsimp only
  split
  · split
    · exact .inl rfl
    · exact State.arrive_forgets _ _
  · split
    · rw [State.removeChime_keeps]
      exact .inl rfl
    · exact .inl rfl

theorem State.endAll_forgets (l : List Chime) : (s.endAll l).rvc.forgets s.rvc := by
  induction l generalizing s with
  | nil => exact .inl rfl
  | cons ch rest ih => exact (ih _).trans (s.endChime_forgets ch _)

theorem State.stepEnded_forgets (v : Voice) : (s.stepEnded v).rvc.forgets s.rvc := by
  unfold State.stepEnded
  split
  · exact .inl rfl
  split
  · split
    · exact .inl rfl
    · rw [State.finish, State.fill_rvc]
      exact State.endChime_forgets _ _ _
  · exact .inl rfl

/-! ## What a touch leaves -/

/-- What the laws of the reverse view read is as it was, but that the fault chime may have ended. -/
structure State.calmAs (s' s : State) : Prop where
  phase : s'.phase = s.phase
  mode : s'.cli.mode = s.cli.mode
  rvc : s'.rvc.forgets s.rvc
  vin : s'.vin = s.vin
  fdp : s'.fdp = s.fdp
  gle : s'.gle = s.gle
  fore : s'.cmp.fore = s.cmp.fore

theorem State.calmAs.trans {a b c : State} (h : a.calmAs b) (k : b.calmAs c) : a.calmAs c :=
  ⟨h.phase.trans k.phase, h.mode.trans k.mode, h.rvc.trans k.rvc, h.vin.trans k.vin, h.fdp.trans k.fdp, h.gle.trans k.gle, h.fore.trans k.fore⟩

variable {s}

theorem State.calmAs_of_same {s' : State} (phase : s'.phase = s.phase := by simp) (mode : s'.cli.mode = s.cli.mode := by simp)
    (rvc : s'.rvc.forgets s.rvc := by simp [Rvc.forgets]) (vin : s'.vin = s.vin := by simp) (fdp : s'.fdp = s.fdp := by simp)
    (gle : s'.gle = s.gle := by simp) (fore : s'.cmp.fore = s.cmp.fore := by simp) : s'.calmAs s :=
  ⟨phase, mode, rvc, vin, fdp, gle, fore⟩

theorem State.MoveIn.calm {s' : State} (m : s.MoveIn False s') : s'.calmAs s := by
  cases m with
  | other hd => exact hd.elim
  | routes hd => exact hd.elim
  | changes hd => exact hd.elim
  | writes hd => exact hd.elim
  | arrives r => exact State.calmAs_of_same (rvc := s.arrive_forgets r)
  | parks => exact State.calmAs_of_same (rvc := s.judgePark_forgets)
  | chimesOff => exact State.calmAs_of_same (rvc := State.endAll_forgets _ _)
  | stepEnds v => exact State.calmAs_of_same (rvc := s.stepEnded_forgets v)
  | _ => exact State.calmAs_of_same

theorem State.MovesIn.calm {s' : State} (m : s.Touches s') : s'.calmAs s := by
  induction m with
  | refl => exact State.calmAs_of_same
  | tail _ hm ih => exact hm.calm.trans ih

end Sys2Proof.Machine
end

section
/-! # Proofs: the banners of the rear rows (R106) -/

namespace Sys2Proof.Machine

/-- R106 for both rear rows. -/
def State.bannersLaw (s : State) : Prop := ∀ i, s.rearBannerLaw i

/-- What R106 reads of a row, and the banner it shows, are as they were. -/
structure Row.bannerAs (r' r : Row) : Prop where
  effective : r'.effective = r.effective
  hostBanner : r'.hostBanner = r.hostBanner
  shown : r'.shown = r.shown

theorem Row.bannerAs_refl (r : Row) : r.bannerAs r := ⟨rfl, rfl, rfl⟩

theorem Row.bannerAs.trans {a b c : Row} (h : a.bannerAs b) (k : b.bannerAs c) : a.bannerAs c :=
  ⟨h.effective.trans k.effective, h.hostBanner.trans k.hostBanner, h.shown.trans k.shown⟩

/-- The ports are LOCKED as they were. -/
def State.locksAs (s' s : State) : Prop := ∀ f, ((s'.port f).lock = .locked ↔ (s.port f).lock = .locked)

theorem State.locksAs_of_eq {s' s : State} (h : s'.fdp = s.fdp) : s'.locksAs s := by
  intro f
  rw [State.port, h]
  exact Iff.rfl

theorem State.locksAs.sourceUnlocked {s' s : State} (h : s'.locksAs s) (src : Source) : s'.sourceUnlocked src = s.sourceUnlocked src := by
  unfold State.sourceUnlocked
  split
  · rfl
  · next f _ => rw [decide_eq_decide.2 (h f)]

theorem State.rearBannerLaw_of_as {s' s : State} {i : Seat} (h : s.rearBannerLaw i) (hr : (s'.rearRow i).bannerAs (s.rearRow i))
    (hs : (s'.link i).state = .streaming ↔ (s.link i).state = .streaming) (hl : s'.locksAs s) : s'.rearBannerLaw i := by
  rw [State.rearBannerLaw, hr.shown, hr.effective, hr.hostBanner, hl.sourceUnlocked, decide_eq_decide.2 hs]
  exact h

theorem State.bannersLaw_of_as {s' s : State} (h : s.bannersLaw) (hr : ∀ i, (s'.rearRow i).bannerAs (s.rearRow i))
    (hs : ∀ i, ((s'.link i).state = .streaming ↔ (s.link i).state = .streaming)) (hl : s'.locksAs s) : s'.bannersLaw :=
  fun i => State.rearBannerLaw_of_as (h i) (hr i) (hs i) hl

theorem State.bannersLaw_of_same {s' s : State} (h : s.bannersLaw) (hr : s'.cmp.rear = s.cmp.rear := by simp)
    (hs : ∀ i, (s'.link i).state = (s.link i).state := by intro i; simp [State.link]) (hd : s'.fdp = s.fdp := by simp) : s'.bannersLaw :=
  State.bannersLaw_of_as h (fun i => by rw [State.rearRow, hr]; exact Row.bannerAs_refl _) (fun i => by rw [hs i]) (State.locksAs_of_eq hd)

/-! ## Judging a banner -/

theorem State.judgeRearBanner_other (s : State) {i j : Seat} (h : j ≠ i) : (s.judgeRearBanner i).rearRow j = s.rearRow j :=
  State.rearRow_setRearRow_other s h _

theorem State.judgeRearBanner_law (s : State) (i : Seat) : (s.judgeRearBanner i).rearBannerLaw i := by
  have row : (s.judgeRearBanner i).rearRow i = { s.rearRow i with
      shown := rearBanner ((s.link i).state = .streaming) (s.sourceUnlocked (s.rearRow i).effective) (s.rearRow i).hostBanner } :=
    State.rearRow_setRearRow_same s i _
  rw [State.rearBannerLaw, row]
  rfl

/-- A row whose banner is judged anew meets R106, and the other row keeps it. -/
theorem State.judgeRearBanner_banners {s : State} {i : Seat} (h : ∀ j, j ≠ i → s.rearBannerLaw j) : (s.judgeRearBanner i).bannersLaw := by
  intro j
  by_cases hj : j = i
  · subst hj
    exact s.judgeRearBanner_law j
  · exact State.rearBannerLaw_of_as (h j hj) (by rw [State.judgeRearBanner_other s hj]; exact Row.bannerAs_refl _) Iff.rfl
      (State.locksAs_of_eq rfl)

theorem State.judgeRear_other (s : State) {i j : Seat} (h : j ≠ i) : (s.judgeRear i).rearRow j = s.rearRow j := by
  unfold State.judgeRear
  dsimp only
  split
  · rfl
  · exact (State.judgeRearBanner_other _ h).trans (State.rearRow_setRearRow_other s h _)

theorem State.judgeRear_banners {s : State} {i : Seat} (h : s.bannersLaw) : (s.judgeRear i).bannersLaw := by
  unfold State.judgeRear
  dsimp only
  split
  · exact h
  · refine State.judgeRearBanner_banners (fun j hj => State.rearBannerLaw_of_as (h j) ?_ Iff.rfl (State.locksAs_of_eq rfl))
    exact (congrArg (fun r : Row => r.bannerAs (s.rearRow j)) (State.rearRow_setRearRow_other s hj _)).mpr (Row.bannerAs_refl _)

theorem State.setRearRow_banners {s : State} (h : s.bannersLaw) {i : Seat} {r : Row} (hr : r.bannerAs (s.rearRow i)) :
    (s.setRearRow i r).bannersLaw := by
  refine State.bannersLaw_of_as h (fun j => ?_) (fun _ => Iff.rfl) (State.locksAs_of_eq rfl)
  by_cases hj : j = i
  · subst hj
    rw [State.rearRow_setRearRow_same]
    exact hr
  · rw [State.rearRow_setRearRow_other _ hj]
    exact Row.bannerAs_refl _

theorem Row.takePending_bannerAs (r : Row) : r.takePending.bannerAs r := by
  unfold Row.takePending
  split <;> exact ⟨rfl, rfl, rfl⟩

theorem State.rearRouteTakesEffect_banners {s : State} (h : s.bannersLaw) (i : Seat) : (s.rearRouteTakesEffect i).bannersLaw :=
  State.judgeRear_banners (State.setRearRow_banners h (Row.takePending_bannerAs _))

theorem State.rearRouteTakesEffect_other (s : State) {i j : Seat} (h : j ≠ i) : (s.rearRouteTakesEffect i).rearRow j = s.rearRow j :=
  (State.judgeRear_other _ h).trans (State.rearRow_setRearRow_other s h _)

theorem State.rearFrame_banners {s : State} (h : s.bannersLaw) (i : Seat) : (s.rearFrame i).bannersLaw := by
  unfold State.rearFrame
  split
  · exact h
  · refine State.setRearRow_banners (State.setRearRow_banners (State.rearRouteTakesEffect_banners h i) ?_) ?_
    · exact ⟨rfl, rfl, rfl⟩
    · exact ⟨rfl, rfl, rfl⟩

/-- R113: a row that starts judges its banner before its first frame. -/
theorem State.startRear_banners {s : State} {i : Seat} (h : ∀ j, j ≠ i → s.rearBannerLaw j) : (s.startRear i).bannersLaw :=
  State.rearFrame_banners (State.judgeRearBanner_banners h) i

/-- R113: a row that stops judges its banner last. -/
theorem State.stopRear_banners {s : State} {i : Seat} (h : ∀ j, j ≠ i → s.rearBannerLaw j) : (s.stopRear i).bannersLaw := by
  refine State.judgeRearBanner_banners (fun j hj => State.rearBannerLaw_of_as (h j hj) ?_ ?_ (State.locksAs_of_eq ?_))
  · rw [State.rearRouteTakesEffect_other _ hj, State.rearRow_setRearRow_other _ hj]
    exact Row.bannerAs_refl _
  · rw [State.link, State.rearRouteTakesEffect_rsl]
    exact Iff.rfl
  · rw [State.rearRouteTakesEffect_fdp]
    rfl

/-! ## The links -/

theorem State.setLink_banners {s : State} (h : s.bannersLaw) {i : Seat} {l : Link} (hl : l.state = .streaming ↔ (s.link i).state = .streaming) :
    (s.setLink i l).bannersLaw := by
  refine State.bannersLaw_of_as h (fun _ => Row.bannerAs_refl _) (fun j => ?_) (State.locksAs_of_eq rfl)
  by_cases hj : j = i
  · subst hj
    rw [State.link_setLink_same]
    exact hl
  · rw [State.link_setLink_other _ hj]

/-- R89, R106: a link that leaves STREAMING has its row's banner judged. -/
theorem State.falls_banners {s : State} (h : s.bannersLaw) {i : Seat} {l : Link} (hl : l.state ≠ .streaming) (quiet : Bool) :
    (((s.setLink i l).postLink i).fellBack i (s.link i) quiet).bannersLaw := by
  have others (j : Seat) (hj : j ≠ i) : ((s.setLink i l).postLink i).rearBannerLaw j :=
    State.rearBannerLaw_of_as (h j) (Row.bannerAs_refl _) (by
      show ((s.setLink i l).link j).state = _ ↔ _
      rw [State.link_setLink_other _ hj]) (State.locksAs_of_eq rfl)
  have ambient (x : State) : (if (s.link i).ambient.isSome then x.takeAmbient i none else x).cmp = x.cmp
      ∧ (if (s.link i).ambient.isSome then x.takeAmbient i none else x).fdp = x.fdp
      ∧ ∀ j, ((if (s.link i).ambient.isSome then x.takeAmbient i none else x).link j).state = (x.link j).state := by
    split
    · exact ⟨by simp, by simp, x.takeAmbient_link_state i none⟩
    · exact ⟨rfl, rfl, fun _ => rfl⟩
  obtain ⟨hc, hd, hls⟩ := ambient ((s.setLink i l).postLink i)
  unfold State.fellBack
  generalize (if (s.link i).ambient.isSome then ((s.setLink i l).postLink i).takeAmbient i none else (s.setLink i l).postLink i) = x at hc hd hls
  have carried (j : Seat) (hj : ((s.setLink i l).postLink i).rearBannerLaw j) : x.rearBannerLaw j :=
    State.rearBannerLaw_of_as hj (by rw [State.rearRow, hc]; exact Row.bannerAs_refl _) (by rw [hls j]) (State.locksAs_of_eq hd)
  have released (y : State) (hy : y.bannersLaw) : (y.linkFellBack i quiet).bannersLaw := State.bannersLaw_of_same hy
  refine released _ ?_
  by_cases hs : (s.link i).state = .streaming
  · rw [if_pos hs]
    exact State.bannersLaw_of_same (State.stopRear_banners (i := i) (fun j hj => carried j (others j hj)))
      (by rw [State.screenLost, State.closeMenu_rear])
  · rw [if_neg hs]
    exact fun j => carried j (State.setLink_banners h (iff_of_false hl hs) j)

/-- R81, R106: a link that enters STREAMING has its row's banner judged. -/
theorem State.enterStreaming_banners {s : State} (h : s.bannersLaw) (i : Seat) (a : Agreement) : (s.enterStreaming i a).bannersLaw := by
  obtain ⟨x, hx, he⟩ := s.enterStreaming_startRear i a
  have rsl := x.startRear_rsl i
  have fdp := x.startRear_fdp i
  rw [← he] at rsl fdp
  rw [he]
  refine State.startRear_banners (fun j hj => State.rearBannerLaw_of_as (h j) ?_ ?_ (State.locksAs_of_eq ?_))
  · rw [State.rearRow, hx]
    exact Row.bannerAs_refl _
  · rw [State.link, ← rsl, ← State.link, State.enterStreaming_link_other s hj]
  · rw [← fdp, State.enterStreaming_fdp]

theorem State.MoveIn.banners {s s' : State} (m : s.MoveIn False s') (h : s.bannersLaw) : s'.bannersLaw := by
  cases m with
  | other hd => exact hd.elim
  | routes hd => exact hd.elim
  | changes hd => exact hd.elim
  | writes hd => exact hd.elim
  | bright i d => exact State.bannersLaw_of_same h (hs := s.brightPress_link_state i d)
  | retarget i => exact State.bannersLaw_of_same h (hs := s.recomputeTarget_link_state i)
  | handNext i v => exact State.bannersLaw_of_same h (hs := s.handBacklight_link_state i v)
  | record i l hl => exact State.setLink_banners h (by rw [hl.state])
  | command i kind => exact State.setLink_banners h Iff.rfl
  | goesOn i l hl => exact State.setLink_banners h (iff_of_false hl.after hl.before)
  | falls i l quiet hl => exact State.falls_banners h hl.state.1 quiet
  | streams i a => exact State.enterStreaming_banners h i a
  | _ => exact State.bannersLaw_of_same h

theorem State.MovesIn.banners {s s' : State} (m : s.Touches s') (h : s.bannersLaw) : s'.bannersLaw := by
  induction m with
  | refl => exact h
  | tail _ hm ih => exact hm.banners ih

end Sys2Proof.Machine
end

section
/-! # Proofs: the lock of a port, the guide line engine and the guide plane (R22, R23, R67 to R69, R110) -/

namespace Sys2Proof.Machine

/-! ## The parts of the laws -/

/-- R68, R69 but for the mode of the engine. -/
def State.guideCore (s : State) : Prop :=
  (s.gle.camLocked = true ↔ (s.port .cam).lock = .locked) ∧ (s.gle.pending.isSome = true → s.gle.camLocked = true)
  ∧ s.cmp.guideSet = s.gle.installed ∧ (s.gle.followUp = true → s.gle.inFlight.isSome = true)

/-- R110: the guide plane follows its conditions. -/
def State.planeLaw (s : State) : Prop :=
  s.cmp.guidePlane = true ↔ s.cmp.frontView = .picture ∧ s.cmp.front.effective = .cam ∧ s.cmp.front.cause = .reverse
    ∧ (s.port .cam).lock = .locked ∧ s.cmp.guideSet.isSome = true

/-- R19 to R23 for every port. -/
def State.portsLaw (s : State) : Prop := ∀ f, (s.port f).law

/-- The laws that the ports, the engine and the compositor keep among themselves, whatever the controller does; `shown` says whether
what the rows show is spoken of. -/
structure State.feedLaw (shown : Prop) (s : State) : Prop where
  ports : s.portsLaw
  guide : s.guideCore
  plane : shown → s.planeLaw
  banners : shown → s.bannersLaw

theorem State.planeLaw_of_fore {s' s : State} (h : s.planeLaw) (hc : s'.cmp.fore = s.cmp.fore)
    (hl : (s'.port .cam).lock = .locked ↔ (s.port .cam).lock = .locked) : s'.planeLaw := by
  simp only [Cmp.fore, Prod.mk.injEq] at hc
  obtain ⟨hf, hv, hp, hg, -⟩ := hc
  unfold State.planeLaw
  rw [hf, hv, hp, hg, hl]
  exact h

theorem State.guideCore_of_same {s' s : State} (h : s.guideCore) (hg : s'.gle = s.gle) (hs : s'.cmp.guideSet = s.cmp.guideSet)
    (hl : (s'.port .cam).lock = .locked ↔ (s.port .cam).lock = .locked) : s'.guideCore := by
  unfold State.guideCore
  rw [hg, hs, hl]
  exact h

theorem Cmp.guideSet_of_fore {c c' : Cmp} (h : c'.fore = c.fore) : c'.guideSet = c.guideSet := by
  simp only [Cmp.fore, Prod.mk.injEq] at h
  exact h.2.2.2.1

variable {shown : Prop}

/-- What leaves the ports, the engine and the fore of the compositor, and keeps the rear rows' banners. -/
theorem State.feedLaw_of_same {s' s : State} (h : s.feedLaw shown) (hd : s'.fdp = s.fdp) (hg : s'.gle = s.gle) (hc : s'.cmp.fore = s.cmp.fore)
    (hb : s.bannersLaw → s'.bannersLaw) : s'.feedLaw shown where
  ports := by
    intro f
    rw [State.port, hd]
    exact h.ports f
  guide := State.guideCore_of_same h.guide hg (Cmp.guideSet_of_fore hc) (by rw [State.port, hd]; exact Iff.rfl)
  plane hs := State.planeLaw_of_fore (h.plane hs) hc (by rw [State.port, hd]; exact Iff.rfl)
  banners hs := hb (h.banners hs)

theorem State.MovesIn.feedLaw {s s' : State} (m : s.Touches s') (h : s.feedLaw shown) : s'.feedLaw shown :=
  State.feedLaw_of_same h m.calm.fdp m.calm.gle m.calm.fore m.banners

/-! ## Judging the planes and the front row -/

theorem State.judgeGuidePlane_planeLaw (s : State) : s.judgeGuidePlane.planeLaw := by
  unfold State.planeLaw State.judgeGuidePlane
  simp only [State.port, Bool.and_eq_true, and_assoc]
  exact and_congr decide_eq_true_iff (and_congr decide_eq_true_iff (and_congr decide_eq_true_iff (and_congr_left' decide_eq_true_iff)))

theorem State.judgeGuidePlane_feedLaw {s : State} (h : s.guideCore) (hp : s.portsLaw) (hb : shown → s.bannersLaw) :
    s.judgeGuidePlane.feedLaw shown where
  ports := hp
  guide := State.guideCore_of_same h rfl rfl Iff.rfl
  plane _ := s.judgeGuidePlane_planeLaw
  banners hs := State.bannersLaw_of_same (hb hs) (hr := rfl)

/-- R102: only the front row and the board change. -/
theorem State.judgeFront_feedLaw {s : State} (h : s.feedLaw shown) : s.judgeFront.feedLaw shown := by
  unfold State.judgeFront
  dsimp only
  split
  · exact h
  · exact State.judgeGuidePlane_feedLaw (State.guideCore_of_same h.guide rfl rfl Iff.rfl) h.ports
      (fun hs => State.bannersLaw_of_same (h.banners hs) (hr := rfl))

theorem State.setFilmLock_feedLaw {s : State} (h : s.feedLaw shown) (engaged : Bool) : (s.setFilmLock engaged).feedLaw shown := by
  unfold State.setFilmLock
  split
  · exact h
  · exact State.judgeFront_feedLaw (State.feedLaw_of_same h rfl rfl rfl (fun hb => State.bannersLaw_of_same hb (hr := rfl)))

/-- A front row of the same source and cause is as good for the guide plane. -/
theorem State.setFront_feedLaw {s : State} (h : s.feedLaw shown) {r : Row} (he : r.effective = s.cmp.front.effective)
    (hc : r.cause = s.cmp.front.cause) : (s.setFront r).feedLaw shown where
  ports := h.ports
  guide := h.guide
  plane hs := by
    have hp := h.plane hs
    unfold State.planeLaw at hp ⊢
    rw [← he, ← hc] at hp
    exact hp
  banners hs := State.bannersLaw_of_same (h.banners hs) (hr := rfl)

/-! ## Installation (R67, R68) -/

/-- What the engine holds but for the installed set, its number and the pending one. -/
def Gle.runs (g : Gle) : GuideMode × Bool × Option GuideInput × Bool := (g.mode, g.camLocked, g.inFlight, g.followUp)

theorem State.install_gle (s : State) :
    s.install.gle.runs = s.gle.runs ∧ s.install.gle.pending = none ∧ (s.cmp.guideSet = s.gle.installed → s.install.cmp.guideSet = s.install.gle.installed) := by
  unfold State.install
  split
  · next hn => exact ⟨rfl, hn, id⟩
  · dsimp only
    refine ⟨?_, ?_, fun _ => ?_⟩
    · split <;> rfl
    · split <;> rfl
    · split <;> rfl

theorem State.install_planeLaw {s : State} (h : s.planeLaw) : s.install.planeLaw := by
  unfold State.install
  split
  · exact h
  · exact State.judgeGuidePlane_planeLaw _

theorem State.install_rear (s : State) : s.install.cmp.rear = s.cmp.rear := by
  unfold State.install
  split
  · rfl
  · dsimp only
    split <;> rfl

/-- What an installation leaves of R68, whatever was pending. -/
theorem State.install_guideCore {s : State} (hl : s.gle.camLocked = true ↔ (s.port .cam).lock = .locked)
    (hs : s.cmp.guideSet = s.gle.installed) (hf : s.gle.followUp = true → s.gle.inFlight.isSome = true) : s.install.guideCore := by
  obtain ⟨runs, none, set⟩ := s.install_gle
  simp only [Gle.runs, Prod.mk.injEq] at runs
  obtain ⟨-, hc, hi, hu⟩ := runs
  refine ⟨?_, fun hp => ?_, set hs, ?_⟩
  · rw [hc, State.port, State.install_fdp]
    exact hl
  · rw [none] at hp
    cases hp
  · rw [hu, hi]
    exact hf

theorem State.install_banners {s : State} (h : s.bannersLaw) : s.install.bannersLaw :=
  State.bannersLaw_of_same h (hr := s.install_rear)

theorem State.install_feedLaw {s : State} (h : s.feedLaw shown) : s.install.feedLaw shown where
  ports f := by
    rw [State.port, State.install_fdp]
    exact h.ports f
  guide := State.install_guideCore h.guide.1 h.guide.2.2.1 h.guide.2.2.2
  plane hs := State.install_planeLaw (h.plane hs)
  banners hs := State.install_banners (h.banners hs)

theorem State.frameToGuide_feedLaw {s : State} (h : s.feedLaw shown) (l : Lock) : (s.frameToGuide l).feedLaw shown := by
  unfold State.frameToGuide
  split
  · exact State.install_feedLaw h
  · exact h

/-- A change of the engine alone. -/
theorem State.setGle_feedLaw {s : State} (h : s.feedLaw shown) {g : Gle}
    (hg : ({ s with gle := g } : State).guideCore) : ({ s with gle := g } : State).feedLaw shown where
  ports := h.ports
  guide := hg
  plane hs := h.plane hs
  banners hs := State.bannersLaw_of_same (h.banners hs) (hr := rfl)

theorem State.guideTrigger_feedLaw {s : State} (h : s.feedLaw shown) : s.guideTrigger.feedLaw shown := by
  obtain ⟨hl, hp, hs, hf⟩ := h.guide
  unfold State.guideTrigger
  split
  · exact State.setGle_feedLaw h ⟨hl, hp, hs, fun _ => rfl⟩
  · next hi => exact State.setGle_feedLaw h ⟨hl, hp, hs, fun _ => by rw [hi]; rfl⟩

theorem State.trackingTrigger_feedLaw {s : State} (h : s.feedLaw shown) : s.trackingTrigger.feedLaw shown := by
  unfold State.trackingTrigger
  split
  · exact State.guideTrigger_feedLaw h
  · exact h

theorem State.reverseToGuide_feedLaw {s : State} (h : s.feedLaw shown) (crossed : Bool) : (s.reverseToGuide crossed).feedLaw shown := by
  obtain ⟨hl, hp, hs, hf⟩ := h.guide
  unfold State.reverseToGuide
  split
  · split
    · exact State.setGle_feedLaw h ⟨hl, hp, hs, fun hu => by cases hu⟩
    · exact State.guideTrigger_feedLaw (State.setGle_feedLaw h ⟨hl, hp, hs, hf⟩)
  · exact h

/-- R67: what completes becomes pending, and is installed at once unless CAM is LOCKED. -/
theorem State.computationDone_feedLaw {s : State} (h : s.feedLaw shown) : s.computationDone.feedLaw shown := by
  obtain ⟨hl, hp, hs, hf⟩ := h.guide
  unfold State.computationDone
  split
  · exact h
  · next inp hi =>
    dsimp only
    split
    · next hc => exact State.setGle_feedLaw h ⟨hl, fun _ => hc, hs, fun hu => by cases hu⟩
    · exact ⟨fun f => by rw [State.port, State.install_fdp]; exact h.ports f, State.install_guideCore hl hs (fun hu => by cases hu),
        fun hsh => State.install_planeLaw (h.plane hsh), fun hsh => State.install_banners (State.bannersLaw_of_same (h.banners hsh) (hr := rfl))⟩

/-! ## A change of a lock (R22) -/

/-- R22: the rear rows that show a feed judge their banner. -/
def State.bannerOf (s : State) (f : Feed) (i : Seat) : State := if (s.rearRow i).effective.feed = some f then s.judgeRearBanner i else s

theorem State.lockToCompositor_eq (s : State) (f : Feed) :
    s.lockToCompositor f = if f = .cam then ((s.bannerOf f .s1).bannerOf f .s2).judgeGuidePlane else (s.bannerOf f .s1).bannerOf f .s2 := rfl

theorem State.bannerOf_fore (s : State) (f : Feed) (i : Seat) : (s.bannerOf f i).cmp.fore = s.cmp.fore := by
  unfold State.bannerOf
  split <;> rfl

theorem State.bannerOf_fdp (s : State) (f : Feed) (i : Seat) : (s.bannerOf f i).fdp = s.fdp := by
  unfold State.bannerOf
  split <;> rfl

theorem State.bannerOf_rsl (s : State) (f : Feed) (i : Seat) : (s.bannerOf f i).rsl = s.rsl := by
  unfold State.bannerOf
  split <;> rfl

theorem State.bannerOf_other (s : State) (f : Feed) {i j : Seat} (h : j ≠ i) : (s.bannerOf f i).rearRow j = s.rearRow j := by
  unfold State.bannerOf
  split
  · exact s.judgeRearBanner_other h
  · rfl

/-- A row that shows the feed is judged, and another meets R106 as it did. -/
theorem State.bannerOf_law {s : State} {f : Feed} {i : Seat} (h : (s.rearRow i).effective.feed ≠ some f → s.rearBannerLaw i) :
    (s.bannerOf f i).rearBannerLaw i := by
  unfold State.bannerOf
  split
  · exact s.judgeRearBanner_law i
  · next hn => exact h hn

theorem State.rearBannerLaw_of_other {s : State} {f : Feed} {i j : Seat} (hj : j ≠ i) (h : s.rearBannerLaw j) : (s.bannerOf f i).rearBannerLaw j :=
  State.rearBannerLaw_of_as h (by rw [s.bannerOf_other f hj]; exact Row.bannerAs_refl _) (by rw [State.link, s.bannerOf_rsl]; exact Iff.rfl)
    (State.locksAs_of_eq (s.bannerOf_fdp f i))

theorem State.lockToCompositor_banners {s : State} {f : Feed} (h : ∀ i, (s.rearRow i).effective.feed ≠ some f → s.rearBannerLaw i) :
    (s.lockToCompositor f).bannersLaw := by
  have first : (s.bannerOf f .s1).rearBannerLaw .s1 := State.bannerOf_law (h .s1)
  have second : ((s.bannerOf f .s1).bannerOf f .s2).bannersLaw := by
    intro i
    cases i with
    | s1 => exact State.rearBannerLaw_of_other (by decide) first
    | s2 =>
      refine State.bannerOf_law (fun hn => ?_)
      rw [s.bannerOf_other f (by decide)] at hn
      exact State.rearBannerLaw_of_other (by decide) (h .s2 hn)
  rw [State.lockToCompositor_eq]
  split
  · exact State.bannersLaw_of_same second (hr := rfl)
  · exact second

theorem State.lockToCompositor_guideSet (s : State) (f : Feed) : (s.lockToCompositor f).cmp.guideSet = s.cmp.guideSet := by
  have both : ((s.bannerOf f .s1).bannerOf f .s2).cmp.guideSet = s.cmp.guideSet :=
    Cmp.guideSet_of_fore ((State.bannerOf_fore _ f .s2).trans (s.bannerOf_fore f .s1))
  rw [State.lockToCompositor_eq]
  split <;> exact both

/-- R22: a lock that is handed on leaves the laws as they must be for the port as it is. -/
theorem State.lockChanged_feedLaw {s : State} {f : Feed} (ports : s.portsLaw) (plane : shown → f ≠ .cam → s.planeLaw)
    (guide : f ≠ .cam → s.guideCore) (set : s.cmp.guideSet = s.gle.installed) (follow : s.gle.followUp = true → s.gle.inFlight.isSome = true)
    (banners : shown → ∀ i, (s.rearRow i).effective.feed ≠ some f → s.rearBannerLaw i) :
    (s.lockChanged f (s.port f).lock).feedLaw shown := by
  have told : shown → ((s.post (feedNo f) (.feed (s.port f).lock s.timebase)).lockToCompositor f).bannersLaw := fun hs =>
    State.lockToCompositor_banners (fun i hn => State.rearBannerLaw_of_as (banners hs i hn) (Row.bannerAs_refl _) Iff.rfl (State.locksAs_of_eq rfl))
  have port (g : Feed) : ((s.post (feedNo f) (.feed (s.port f).lock s.timebase)).lockToCompositor f).port g = s.port g := by
    rw [State.port, State.lockToCompositor_fdp]
    rfl
  have gle : ((s.post (feedNo f) (.feed (s.port f).lock s.timebase)).lockToCompositor f).gle = s.gle := State.lockToCompositor_gle _ f
  have hset := State.lockToCompositor_guideSet (s.post (feedNo f) (.feed (s.port f).lock s.timebase)) f
  have hplane : shown → ((s.post (feedNo f) (.feed (s.port f).lock s.timebase)).lockToCompositor f).planeLaw := by
    intro hs
    rw [State.lockToCompositor_eq]
    split
    · exact State.judgeGuidePlane_planeLaw _
    · next hf =>
      refine State.planeLaw_of_fore (plane hs hf) ((State.bannerOf_fore _ f .s2).trans (State.bannerOf_fore _ f .s1)) ?_
      rw [State.port, State.bannerOf_fdp, State.bannerOf_fdp]
      exact Iff.rfl
  unfold State.lockChanged
  dsimp only
  generalize (s.post (feedNo f) (.feed (s.port f).lock s.timebase)).lockToCompositor f = x at told port gle hset hplane ⊢
  have hports : x.portsLaw := fun g => by rw [port g]; exact ports g
  split
  · next hf =>
    subst hf
    unfold State.lockToGuide
    dsimp only
    have hl : decide ((s.port .cam).lock = .locked) = true ↔ (x.port .cam).lock = .locked := by
      rw [port .cam]
      exact decide_eq_true_iff
    have hs : x.cmp.guideSet = x.gle.installed := by
      rw [gle]
      exact hset.trans set
    have hf : x.gle.followUp = true → x.gle.inFlight.isSome = true := by
      rw [gle]
      exact follow
    split
    · next hb => exact ⟨hports, ⟨hl, fun _ => hb, hs, hf⟩, hplane, fun hsh => State.bannersLaw_of_same (told hsh) (hr := rfl)⟩
    · exact ⟨fun g => by rw [State.port, State.install_fdp]; exact hports g, State.install_guideCore hl hs hf,
        fun hsh => State.install_planeLaw (hplane hsh), fun hsh => State.install_banners (State.bannersLaw_of_same (told hsh) (hr := rfl))⟩
  · next hf => exact ⟨hports, State.guideCore_of_same (guide hf) gle hset (by rw [port .cam]), hplane, told⟩

/-! ## What a port takes (R21 to R24) -/

/-- A port takes a record, and a change of its lock is handed on. -/
def State.takesPort (s : State) (f : Feed) (q : Port) : State :=
  if (s.port f).lock = q.lock then s.setPort f q else (s.setPort f q).lockChanged f q.lock

theorem State.clearPort_eq (s : State) (f : Feed) (enabled : Bool) :
    s.clearPort f enabled = s.takesPort f { (s.port f).cleared with enabled := enabled } := rfl

@[simp] theorem State.takesPort_fdp (s : State) (f : Feed) (q : Port) : (s.takesPort f q).fdp = s.fdp.setPort f q := by
  unfold State.takesPort
  split
  · rfl
  · rw [State.lockChanged_fdp]
    rfl

theorem State.setPort_locksAs {s : State} {f : Feed} {q : Port} (h : q.lock = (s.port f).lock) : (s.setPort f q).locksAs s := by
  intro g
  by_cases hg : g = f
  · subst hg
    rw [State.port_setPort_same, h]
  · rw [State.port_setPort_other _ hg]

theorem State.setPort_portsLaw {s : State} {f : Feed} {q : Port} (h : s.portsLaw) (hq : q.law) : (s.setPort f q).portsLaw := by
  intro g
  by_cases hg : g = f
  · subst hg
    rw [State.port_setPort_same]
    exact hq
  · rw [State.port_setPort_other _ hg]
    exact h g

/-- A port whose lock stays can take any record that meets its law. -/
theorem State.setPort_feedLaw {s : State} {f : Feed} {q : Port} (h : s.feedLaw shown) (hq : q.law) (hl : q.lock = (s.port f).lock) :
    (s.setPort f q).feedLaw shown where
  ports := State.setPort_portsLaw h.ports hq
  guide := State.guideCore_of_same h.guide rfl rfl (State.setPort_locksAs hl .cam)
  plane hs := State.planeLaw_of_fore (h.plane hs) rfl (State.setPort_locksAs hl .cam)
  banners hs := State.bannersLaw_of_as (h.banners hs) (fun _ => Row.bannerAs_refl _) (fun _ => Iff.rfl) (State.setPort_locksAs hl)

theorem State.takesPort_feedLaw {s : State} {f : Feed} {q : Port} (h : s.feedLaw shown) (hq : q.law) : (s.takesPort f q).feedLaw shown := by
  unfold State.takesPort
  split
  · next hl => exact State.setPort_feedLaw h hq hl.symm
  · have lock : ((s.setPort f q).port f).lock = q.lock := by rw [State.port_setPort_same]
    have other {g : Feed} (hg : g ≠ f) : (s.setPort f q).port g = s.port g := State.port_setPort_other s hg q
    have key : ((s.setPort f q).lockChanged f ((s.setPort f q).port f).lock).feedLaw shown := by
      refine State.lockChanged_feedLaw (State.setPort_portsLaw h.ports hq) (fun hs hf => ?_) (fun hf => ?_) h.guide.2.2.1 h.guide.2.2.2
        (fun hs i hn => ?_)
      · exact State.planeLaw_of_fore (h.plane hs) rfl (by rw [other (Ne.symm hf)])
      · exact State.guideCore_of_same h.guide rfl rfl (by rw [other (Ne.symm hf)])
      · have hb := h.banners hs i
        have same : (s.setPort f q).sourceUnlocked (s.rearRow i).effective = s.sourceUnlocked (s.rearRow i).effective := by
          have hn' : (s.rearRow i).effective.feed ≠ some f := hn
          unfold State.sourceUnlocked
          cases hg : (s.rearRow i).effective.feed with
          | none => rfl
          | some g =>
            rw [hg] at hn'
            have hgf : g ≠ f := fun he => hn' (by rw [he])
            show (!decide (((s.setPort f q).port g).lock = .locked)) = _
            rw [other hgf]
        unfold State.rearBannerLaw
        show ((s.rearRow i).shown) = rearBanner (decide ((s.link i).state = .streaming)) ((s.setPort f q).sourceUnlocked (s.rearRow i).effective) (s.rearRow i).hostBanner
        rw [same]
        exact hb
    rw [lock] at key
    exact key

/-! ## What a change of a lock leaves of the front output -/

/-- What the compositor shows in front but for the guide plane, preview, and the mode of the engine. -/
def State.facing (s : State) : Row × FrontView × Bool × GuideMode := (s.cmp.front, s.cmp.frontView, s.cmp.preview, s.gle.mode)

theorem State.install_facing (s : State) : s.install.facing = s.facing := by
  unfold State.install
  split
  · rfl
  · dsimp only
    split <;> rfl

theorem State.lockToCompositor_facing (s : State) (f : Feed) : (s.lockToCompositor f).facing = s.facing := by
  have row (x : State) (i : Seat) : (x.bannerOf f i).facing = x.facing := by
    unfold State.bannerOf
    split <;> rfl
  rw [State.lockToCompositor_eq]
  split
  · exact (row _ .s2).trans (row s .s1)
  · exact (row _ .s2).trans (row s .s1)

theorem State.lockChanged_facing (s : State) (f : Feed) (l : Lock) : (s.lockChanged f l).facing = s.facing := by
  have told : ((s.post (feedNo f) (.feed l s.timebase)).lockToCompositor f).facing = s.facing := State.lockToCompositor_facing _ f
  unfold State.lockChanged State.lockToGuide
  dsimp only
  split
  · split
    · exact told
    · exact (State.install_facing _).trans told
  · exact told

theorem State.takesPort_facing (s : State) (f : Feed) (q : Port) : (s.takesPort f q).facing = s.facing := by
  unfold State.takesPort
  split
  · rfl
  · exact State.lockChanged_facing _ f _

theorem Port.cleared_law (p : Port) (enabled : Bool) : ({ p.cleared with enabled := enabled } : Port).law :=
  ⟨fun _ => rfl, fun _ => ⟨rfl, rfl⟩, fun h => absurd h (by simp [Port.cleared]), fun h => absurd h (by simp [Port.cleared]),
    fun h => absurd h (by simp [Port.cleared]), Nat.zero_le _, Nat.zero_le _⟩

theorem State.clearPort_feedLaw {s : State} (h : s.feedLaw shown) (f : Feed) (enabled : Bool) : (s.clearPort f enabled).feedLaw shown :=
  State.takesPort_feedLaw h ((s.port f).cleared_law enabled)

/-- R23: a port that was disabled is enabled without a change of its lock. -/
theorem State.enablePort_feedLaw {s : State} {f : Feed} (h : s.feedLaw shown) (hd : (s.port f).enabled = false) : (s.enablePort f).feedLaw shown := by
  have lock : Lock.noSignal = (s.port f).lock := ((h.ports f).1 hd).symm
  have law := (s.port f).cleared_law true
  unfold State.enablePort
  dsimp only
  split
  · exact State.setPort_feedLaw h law lock
  · exact State.setPort_feedLaw h law lock

end Sys2Proof.Machine
end

section
/-! # Proofs: a change of the controller, and the laws of the reverse view (R36, R39 to R46) -/

namespace Sys2Proof.Machine

/-! ## The laws in their parts -/

/-- R54: the engine tracks exactly while the controller is not OFF. -/
def State.trackLaw (s : State) : Prop := s.gle.mode = .tracking ↔ s.rvc.state ≠ .off

/-- R105: the front view and the front row's banner follow the controller. -/
def State.frontLaw (s : State) : Prop :=
  s.cmp.frontView = frontViewOf s.rvc.state s.rvc.heldView
  ∧ s.cmp.front.shown = frontBanner s.cmp.frontView s.rvcOff s.cmp.front.hostBanner

/-- The laws of the reverse view, with those of what the rows show where `shown` is asked for. -/
structure State.viewHolds (shown : Prop) (s : State) : Prop where
  feed : s.feedLaw shown
  front : shown → s.frontLaw
  waits : s.phase ≠ .running → s.cli.mode = .standby ∧ s.rvc.state = .off
  rvc : s.rvcLaw
  gear : s.gearLaw
  power : s.portLaw
  track : s.trackLaw

theorem State.viewHolds_iff (shown : Prop) (s : State) : s.viewHolds shown ↔ s.reverseLaw ∧ (shown → s.shownLaw) := by
  constructor
  · rintro ⟨⟨ports, ⟨hl, hp, hs, hf⟩, plane, banners⟩, front, waits, rvc, gear, power, track⟩
    exact ⟨⟨waits, rvc, gear, power, fun f _ => ports f, hl, hp, hs, track, hf⟩,
      fun h => ⟨⟨(front h).1, (front h).2, plane h⟩, banners h .s1, banners h .s2⟩⟩
  · rintro ⟨⟨waits, rvc, gear, power, ports, hl, hp, hs, track, hf⟩, shows⟩
    refine ⟨⟨fun f => ports f ?_, ⟨hl, hp, hs, hf⟩, fun h => (shows h).1.2.2, fun h i => ?_⟩, fun h => ⟨(shows h).1.1, (shows h).1.2.1⟩, waits,
      rvc, gear, power, track⟩
    · cases f <;> decide
    · cases i with
      | s1 => exact (shows h).2.1
      | s2 => exact (shows h).2.2

variable {shown : Prop}

/-! ## What touches leave -/

theorem Rvc.forgets.fields {r' r : Rvc} (h : r'.forgets r) :
    r'.state = r.state ∧ r'.heldView = r.heldView ∧ r'.cueDeadline = r.cueDeadline ∧ r'.holdTimer = r.holdTimer
    ∧ (r'.faultChime.isSome = true → r.faultChime.isSome = true) := by
  rcases h with rfl | rfl
  · exact ⟨rfl, rfl, rfl, rfl, id⟩
  · exact ⟨rfl, rfl, rfl, rfl, fun h => by cases h⟩

theorem State.frontLaw_of_fore {s' s : State} (h : s.frontLaw) (hf : s'.cmp.front = s.cmp.front) (hv : s'.cmp.frontView = s.cmp.frontView)
    (hs : s'.rvc.state = s.rvc.state) (hh : s'.rvc.heldView = s.rvc.heldView) : s'.frontLaw := by
  unfold State.frontLaw State.rvcOff
  rw [hf, hv, hs, hh]
  exact h

/-- What the controller, the gear line and the ports agree on is read from these fields alone. -/
theorem State.viewHolds_of_calm {s' s : State} (h : s.viewHolds shown) (k : s'.calmAs s) (hb : s.bannersLaw → s'.bannersLaw) : s'.viewHolds shown := by
  obtain ⟨hstate, hheld, hcue, hhold, hchime⟩ := k.rvc.fields
  have hfore := k.fore
  simp only [Cmp.fore, Prod.mk.injEq] at hfore
  obtain ⟨hf, hv, -, -, hp⟩ := hfore
  have hport (f : Feed) : s'.port f = s.port f := by rw [State.port, k.fdp]; rfl
  refine ⟨State.feedLaw_of_same h.feed k.fdp k.gle k.fore hb, fun hs => State.frontLaw_of_fore (h.front hs) hf hv hstate hheld, ?_, ?_, ?_, ?_, ?_⟩
  · rw [k.phase, k.mode, hstate]
    exact h.waits
  · obtain ⟨cue, hold, view, chime, rest⟩ := h.rvc
    unfold State.rvcLaw
    rw [hcue, hhold, hheld, hstate, hport, k.mode]
    exact ⟨cue, hold, view, fun hc => chime (hchime hc), rest⟩
  · unfold State.gearLaw
    rw [k.vin, hstate]
    exact h.gear
  · unfold State.portLaw State.rvcOff State.inRun
    rw [k.fdp, hp, hstate, k.mode]
    exact h.power
  · unfold State.trackLaw
    rw [k.gle, hstate]
    exact h.track

theorem State.MovesIn.viewHolds {s s' : State} (m : s.Touches s') (h : s.viewHolds shown) : s'.viewHolds shown :=
  State.viewHolds_of_calm h m.calm m.banners

/-- Only what the laws do not speak of has changed. -/
theorem State.viewHolds_of_same {s' s : State} (h : s.viewHolds shown) (k : s'.calmAs s) (hr : s'.cmp.rear = s.cmp.rear := by simp)
    (hl : s'.rsl = s.rsl := by simp) : s'.viewHolds shown :=
  State.viewHolds_of_calm h k (fun hb => State.bannersLaw_of_same hb hr (fun i => by rw [State.link, hl]; rfl) k.fdp)

/-! ## Camera power (R26) -/

/-- R26: camera power stays, goes on or goes off. -/
theorem State.judgeCameraPower_cases (s : State) :
    ((!s.rvcOff || s.cmp.preview) = s.fdp.camPower ∧ s.judgeCameraPower = s)
    ∨ ((!s.rvcOff || s.cmp.preview) = true ∧ s.fdp.camPower = false
      ∧ s.judgeCameraPower = ({ s with fdp := { s.fdp with camPower := true } } : State).enablePort .cam)
    ∨ ((!s.rvcOff || s.cmp.preview) = false ∧ s.fdp.camPower = true
      ∧ s.judgeCameraPower = ({ s with fdp := { s.fdp with camPower := false } } : State).disablePort .cam) := by
  unfold State.judgeCameraPower
  dsimp only
  generalize (!s.rvcOff || s.cmp.preview) = want
  cases want <;> cases hp : s.fdp.camPower
  · exact .inl ⟨rfl, by simp⟩
  · exact .inr (.inr ⟨rfl, rfl, by simp⟩)
  · exact .inr (.inl ⟨rfl, rfl, by simp⟩)
  · exact .inl ⟨rfl, by simp⟩

theorem State.setCamPower_feedLaw {s : State} (h : s.feedLaw shown) (on : Bool) :
    ({ s with fdp := { s.fdp with camPower := on } } : State).feedLaw shown := by
  have hport (f : Feed) : ({ s with fdp := { s.fdp with camPower := on } } : State).port f = s.port f := by cases f <;> rfl
  exact ⟨fun f => by rw [hport]; exact h.ports f, State.guideCore_of_same h.guide rfl rfl (by rw [hport]),
    fun hs => State.planeLaw_of_fore (h.plane hs) rfl (by rw [hport]),
    fun hs => State.bannersLaw_of_as (h.banners hs) (fun _ => Row.bannerAs_refl _) (fun _ => Iff.rfl) (fun f => by rw [hport])⟩

theorem State.judgeCameraPower_feedLaw {s : State} (h : s.feedLaw shown) (hc : s.fdp.cam.enabled = s.fdp.camPower) :
    s.judgeCameraPower.feedLaw shown := by
  rcases s.judgeCameraPower_cases with ⟨-, he⟩ | ⟨-, hp, he⟩ | ⟨-, -, he⟩ <;> rw [he]
  · exact h
  · exact State.enablePort_feedLaw (State.setCamPower_feedLaw h true) (hc.trans hp)
  · exact State.clearPort_feedLaw (State.setCamPower_feedLaw h false) .cam false

/-- R26: camera power is what it should be, and the CAM port goes with it. -/
theorem State.judgeCameraPower_fdp {s : State} (hc : s.fdp.cam.enabled = s.fdp.camPower) :
    s.judgeCameraPower.fdp.camPower = (!s.rvcOff || s.cmp.preview) ∧ s.judgeCameraPower.fdp.cam.enabled = s.judgeCameraPower.fdp.camPower
    ∧ s.judgeCameraPower.fdp.uif = s.fdp.uif ∧ s.judgeCameraPower.fdp.ff1 = s.fdp.ff1 ∧ s.judgeCameraPower.fdp.ff2 = s.fdp.ff2 := by
  rcases s.judgeCameraPower_cases with ⟨hw, he⟩ | ⟨hw, hp, he⟩ | ⟨hw, hp, he⟩ <;> rw [he]
  · exact ⟨hw.symm, hc, rfl, rfl, rfl⟩
  · rw [hw]
    exact ⟨rfl, rfl, rfl, rfl, rfl⟩
  · rw [hw, State.disablePort, State.clearPort_eq, State.takesPort_fdp]
    exact ⟨rfl, rfl, rfl, rfl, rfl⟩

/-- While power is wanted, the lock of CAM stays: a port without power is in NO_SIGNAL before and after it is enabled. -/
theorem State.judgeCameraPower_lock {s : State} (hl : s.portsLaw) (hc : s.fdp.cam.enabled = s.fdp.camPower) (hw : s.rvc.state ≠ .off) :
    (s.judgeCameraPower.port .cam).lock = (s.port .cam).lock := by
  have want : (!s.rvcOff || s.cmp.preview) = true := by
    unfold State.rvcOff
    rw [decide_eq_false hw]
    rfl
  rcases s.judgeCameraPower_cases with ⟨-, he⟩ | ⟨-, hp, he⟩ | ⟨hn, -, -⟩
  · rw [he]
  · rw [he, (hl .cam).1 (hc.trans hp)]
    rfl
  · rw [want] at hn
    cases hn

theorem State.judgeCameraPower_facing (s : State) : s.judgeCameraPower.facing = s.facing := by
  rcases s.judgeCameraPower_cases with ⟨-, he⟩ | ⟨-, -, he⟩ | ⟨-, -, he⟩ <;> rw [he]
  · rfl
  · rw [State.disablePort, State.clearPort_eq]
    exact State.takesPort_facing _ _ _

/-! ## A change of the controller (R36) -/

/-- What the record holds fits the state it is in, and a state fits the gear, the lock and the mode (Table 3-1). -/
structure RvcChange.fits (c : RvcChange) (s : State) : Prop where
  cue : c.cueDeadline.isSome = true ↔ c.state = .cueing
  hold : c.holdTimer.isSome = true ↔ c.state = .held
  view : c.heldView ≠ .none ↔ c.state = .held
  gear : s.vin.gear = .reverse ↔ c.state = .cueing ∨ c.state = .live ∨ c.state = .fault
  live : c.state = .live → (s.port .cam).lock = .locked
  dark : c.state = .cueing ∨ c.state = .fault → (s.port .cam).lock ≠ .locked
  standby : s.cli.mode = .standby → c.state = .off

/-- What holds between a cause of a change and the change: the laws that the controller does not restore. -/
structure State.nearHolds (shown : Prop) (s : State) : Prop where
  feed : s.feedLaw shown
  running : s.phase = .running
  candidate : ∀ c ∈ s.vin.candidate, c.level ≠ s.vin.gear
  chime : s.rvc.faultChime.isSome = true → s.rvc.state = .fault
  cam : s.fdp.cam.enabled = s.fdp.camPower
  feeds : s.fdp.uif.enabled = s.inRun ∧ s.fdp.ff1.enabled = s.inRun ∧ s.fdp.ff2.enabled = s.inRun
  preview : s.cli.mode = .standby → s.cmp.preview = false
  track : s.trackLaw

theorem State.viewHolds.near {s : State} (h : s.viewHolds shown) (hp : s.phase = .running) : s.nearHolds shown := by
  obtain ⟨-, -, -, chime, -⟩ := h.rvc
  obtain ⟨-, cam, uif, ff1, ff2, preview⟩ := h.power
  exact ⟨h.feed, hp, h.gear.1, chime, cam, ⟨uif, ff1, ff2⟩, preview, h.track⟩

/-- R36: whether a change leaves or enters OFF. -/
def State.crosses (s : State) (c : RvcChange) : Bool := !decide (decide (s.rvc.state = .off) = decide (c.state = .off))

/-- R36: the part when the record is set, the fault chime cancelled and the REVERSE notice posted. -/
def State.recorded (s : State) (c : RvcChange) : State :=
  let x := if s.rvc.state = .fault then ({ s with rvc := s.rvc.changed c } : State).cancelFaultChime else { s with rvc := s.rvc.changed c }
  x.post 0 x.rvc.notice

/-- R36: the part when the compositor, the ports and the engine have taken the change. -/
def State.turned (s : State) (c : RvcChange) : State :=
  (((s.recorded c).reverseToCompositor (s.crosses c)).judgeCameraPower).reverseToGuide (s.crosses c)

theorem State.changeRvc_eq (s : State) (c : RvcChange) :
    s.changeRvc c = (if s.crosses c then (s.turned c).judgePark else s.turned c).reverseChime s.rvc.state c.state := rfl

/-- The record holds no fault chime: only FAULT has one, and its exit cancels it. -/
theorem State.recorded_rvc {s : State} (h : s.rvc.faultChime.isSome = true → s.rvc.state = .fault) (c : RvcChange) :
    (s.recorded c).rvc = { s.rvc.changed c with faultChime := none } := by
  unfold State.recorded
  dsimp only
  rw [State.post_rvc]
  split
  · unfold State.cancelFaultChime
    split
    · next hn => exact congrArg (fun f => { s.rvc.changed c with faultChime := f }) hn
    · exact State.removeChime_keeps _ _
  · next hf =>
    have hn : s.rvc.faultChime = none := by
      cases hc : s.rvc.faultChime with
      | none => rfl
      | some x => exact absurd (h (by rw [hc]; rfl)) hf
    exact congrArg (fun f => { s.rvc.changed c with faultChime := f }) hn

section
variable (s : State) (c : RvcChange)

theorem State.recorded_phase : (s.recorded c).phase = s.phase := by
  unfold State.recorded
  dsimp only
  split <;> simp

theorem State.recorded_mode : (s.recorded c).cli.mode = s.cli.mode := by
  unfold State.recorded
  dsimp only
  split <;> simp

theorem State.recorded_vin : (s.recorded c).vin = s.vin := by
  unfold State.recorded
  dsimp only
  split <;> simp

theorem State.recorded_fdp : (s.recorded c).fdp = s.fdp := by
  unfold State.recorded
  dsimp only
  split <;> simp

theorem State.recorded_gle : (s.recorded c).gle = s.gle := by
  unfold State.recorded
  dsimp only
  split <;> simp

theorem State.recorded_cmp : (s.recorded c).cmp = s.cmp := by
  unfold State.recorded
  dsimp only
  split <;> simp

theorem State.recorded_rsl : (s.recorded c).rsl = s.rsl := by
  unfold State.recorded
  dsimp only
  split <;> simp

end

theorem State.recorded_feedLaw {s : State} (h : s.feedLaw shown) (c : RvcChange) : (s.recorded c).feedLaw shown :=
  State.feedLaw_of_same h (s.recorded_fdp c) (s.recorded_gle c) (by rw [s.recorded_cmp c])
    (fun hb => State.bannersLaw_of_same hb (by rw [s.recorded_cmp c]) (fun i => by rw [State.link, s.recorded_rsl c]; rfl) (s.recorded_fdp c))

/-! ### The compositor -/

theorem State.judgeFront_faces (s : State) :
    s.judgeFront.cmp.frontView = s.cmp.frontView ∧ s.judgeFront.cmp.preview = s.cmp.preview ∧ s.judgeFront.cmp.front.hostBanner = s.cmp.front.hostBanner
    ∧ s.judgeFront.cmp.front.shown = s.cmp.front.shown ∧ s.judgeFront.cmp.rear = s.cmp.rear ∧ s.judgeFront.cmp.guideSet = s.cmp.guideSet := by
  unfold State.judgeFront
  dsimp only
  split <;> exact ⟨rfl, rfl, rfl, rfl, rfl, rfl⟩

theorem State.reverseToCompositor_frontLaw (s : State) (crossed : Bool) : (s.reverseToCompositor crossed).frontLaw := by
  unfold State.reverseToCompositor
  dsimp only
  cases crossed with
  | false => exact ⟨rfl, rfl⟩
  | true =>
    obtain ⟨hv, -, hb, -⟩ := State.judgeFront_faces
      ({ s with cmp := { s.cmp with frontView := frontViewOf s.rvc.state s.rvc.heldView, preview := s.cmp.preview && (!true || s.rvcOff) } } : State)
    refine ⟨?_, ?_⟩
    · rw [if_pos rfl, State.judgeGuidePlane_rvc, State.judgeFrontBanner_rvc, State.judgeFront_rvc]
      exact hv
    · rfl

theorem State.reverseToCompositor_preview (s : State) (crossed : Bool) :
    (s.reverseToCompositor crossed).cmp.preview = (s.cmp.preview && (!crossed || s.rvcOff)) := by
  unfold State.reverseToCompositor
  dsimp only
  cases crossed with
  | false => rfl
  | true => exact (State.judgeFront_faces _).2.1

theorem State.reverseToCompositor_feedLaw {s : State} (h : s.feedLaw shown) (crossed : Bool) : (s.reverseToCompositor crossed).feedLaw shown := by
  have hcmp : (s.reverseToCompositor crossed).cmp.rear = s.cmp.rear ∧ (s.reverseToCompositor crossed).cmp.guideSet = s.cmp.guideSet := by
    unfold State.reverseToCompositor
    dsimp only
    cases crossed with
    | false => exact ⟨rfl, rfl⟩
    | true =>
      obtain ⟨-, -, -, -, hr, hg⟩ := State.judgeFront_faces
        ({ s with cmp := { s.cmp with frontView := frontViewOf s.rvc.state s.rvc.heldView, preview := s.cmp.preview && (!true || s.rvcOff) } } : State)
      exact ⟨hr, hg⟩
  have hport (f : Feed) : (s.reverseToCompositor crossed).port f = s.port f := by rw [State.port, State.reverseToCompositor_fdp]; rfl
  refine ⟨fun f => by rw [hport]; exact h.ports f, State.guideCore_of_same h.guide (by simp) hcmp.2 (by rw [hport]), fun _ => ?_, fun hs => ?_⟩
  · exact State.judgeGuidePlane_planeLaw _
  · exact State.bannersLaw_of_same (h.banners hs) hcmp.1

/-! ### The engine -/

theorem State.guideTrigger_mode (s : State) : s.guideTrigger.gle.mode = s.gle.mode := by
  unfold State.guideTrigger
  split <;> rfl

theorem State.reverseToGuide_mode (s : State) (crossed : Bool) :
    (s.reverseToGuide crossed).gle.mode = if crossed then (if s.rvcOff then .idle else .tracking) else s.gle.mode := by
  unfold State.reverseToGuide
  split
  · split
    · rfl
    · exact State.guideTrigger_mode _
  · rfl

/-! ### The whole change -/

theorem State.turned_viewHolds {s : State} (h : s.nearHolds shown) {c : RvcChange} (hc : c.fits s) :
    (s.turned c).viewHolds shown ∧ (s.turned c).rvc.state = c.state := by
  have hr := State.recorded_rvc h.chime c
  have hrec := State.recorded_feedLaw h.feed c
  have hview := State.reverseToCompositor_feedLaw hrec (s.crosses c)
  have hfront := (s.recorded c).reverseToCompositor_frontLaw (s.crosses c)
  have hprev := (s.recorded c).reverseToCompositor_preview (s.crosses c)
  have hxr : ((s.recorded c).reverseToCompositor (s.crosses c)).rvc = { s.rvc.changed c with faultChime := none } := by rw [State.reverseToCompositor_rvc, hr]
  have hxd : ((s.recorded c).reverseToCompositor (s.crosses c)).fdp = s.fdp := by rw [State.reverseToCompositor_fdp, s.recorded_fdp]
  have hxv : ((s.recorded c).reverseToCompositor (s.crosses c)).vin = s.vin := by rw [State.reverseToCompositor_vin, s.recorded_vin]
  have hxp : ((s.recorded c).reverseToCompositor (s.crosses c)).phase = s.phase := by rw [State.reverseToCompositor_phase, s.recorded_phase]
  have hxm : ((s.recorded c).reverseToCompositor (s.crosses c)).cli.mode = s.cli.mode := by rw [State.reverseToCompositor_cli_mode, s.recorded_mode]
  have hxg : ((s.recorded c).reverseToCompositor (s.crosses c)).gle = s.gle := by rw [State.reverseToCompositor_gle, s.recorded_gle]
  rw [s.recorded_cmp c] at hprev
  unfold State.turned
  generalize (s.recorded c).reverseToCompositor (s.crosses c) = x at hview hfront hprev hxr hxd hxv hxp hxm hxg ⊢
  have hxs : x.rvc.state = c.state := by rw [hxr]; rfl
  have hcam : x.fdp.cam.enabled = x.fdp.camPower := by rw [hxd]; exact h.cam
  obtain ⟨hpow, hen, huif, hff1, hff2⟩ := State.judgeCameraPower_fdp hcam
  have hfacing := x.judgeCameraPower_facing
  simp only [State.facing, Prod.mk.injEq] at hfacing
  obtain ⟨hyf, hyv, hyp, hym⟩ := hfacing
  have hlock : c.state ≠ .off → (x.judgeCameraPower.port .cam).lock = (s.port .cam).lock := by
    intro hn
    rw [State.judgeCameraPower_lock hview.ports hcam (by rw [hxs]; exact hn), State.port, hxd]
    rfl
  have hfeed := State.reverseToGuide_feedLaw (State.judgeCameraPower_feedLaw hview hcam) (s.crosses c)
  have hmode := x.judgeCameraPower.reverseToGuide_mode (s.crosses c)
  have hport : (x.judgeCameraPower.reverseToGuide (s.crosses c)).port .cam = x.judgeCameraPower.port .cam := by
    rw [State.port, State.reverseToGuide_fdp]
    rfl
  have hstate : (x.judgeCameraPower.reverseToGuide (s.crosses c)).rvc = { s.rvc.changed c with faultChime := none } := by
    rw [State.reverseToGuide_rvc, State.judgeCameraPower_rvc, hxr]
  refine ⟨⟨hfeed, fun _ => ?_, fun hp => ?_, ?_, ?_, ?_, ?_⟩, by rw [hstate]; rfl⟩
  · refine State.frontLaw_of_fore hfront ?_ ?_ ?_ ?_ <;> simp only [State.reverseToGuide_cmp, State.reverseToGuide_rvc, State.judgeCameraPower_rvc]
    · exact hyf
    · exact hyv
  · rw [State.reverseToGuide_phase, State.judgeCameraPower_phase, hxp] at hp
    exact absurd h.running hp
  · unfold State.rvcLaw
    rw [hstate, hport, State.reverseToGuide_cli, State.judgeCameraPower_cli_mode, hxm]
    refine ⟨hc.cue, hc.hold, hc.view, fun hn => absurd hn Bool.false_ne_true, fun hs => ?_, fun hs => ?_, fun hs => ?_, hc.standby⟩
    · have hs' : c.state = .live := hs
      rw [hlock (by rw [hs']; decide)]
      exact hc.live hs'
    · have hs' : c.state = .cueing := hs
      rw [hlock (by rw [hs']; decide)]
      exact hc.dark (.inl hs')
    · have hs' : c.state = .fault := hs
      rw [hlock (by rw [hs']; decide)]
      exact hc.dark (.inr hs')
  · unfold State.gearLaw
    rw [hstate, State.reverseToGuide_vin, State.judgeCameraPower_vin, hxv]
    exact ⟨h.candidate, hc.gear⟩
  · unfold State.portLaw State.rvcOff State.inRun
    rw [hstate, State.reverseToGuide_fdp, State.reverseToGuide_cmp, State.reverseToGuide_cli, State.judgeCameraPower_cli_mode, hxm, hpow, huif, hff1, hff2, hyp, hxd, ← hpow, hen]
    refine ⟨?_, rfl, h.feeds.1, h.feeds.2.1, h.feeds.2.2, fun hm => ?_⟩
    · rw [hpow, State.rvcOff, hxs]
      rfl
    · rw [hprev, h.preview hm]
      rfl
  · unfold State.trackLaw
    have htrack := h.track
    unfold State.trackLaw at htrack
    rw [hmode, hstate, State.rvcOff, State.judgeCameraPower_rvc, hxs, hym, hxg]
    show _ ↔ c.state ≠ .off
    unfold State.crosses
    by_cases ho : c.state = .off <;> by_cases hb : s.rvc.state = .off <;> simp [ho, hb, htrack]

/-- R42: an entry to FAULT may leave the handle of its chime in the record. -/
theorem State.setFaultChime_viewHolds {s : State} (h : s.viewHolds shown) (hf : s.rvc.state = .fault) (handle : Option Nat) :
    ({ s with rvc := { s.rvc with faultChime := handle } } : State).viewHolds shown := by
  obtain ⟨cue, hold, view, -, rest⟩ := h.rvc
  exact ⟨State.feedLaw_of_same h.feed rfl rfl rfl (fun hb => State.bannersLaw_of_same hb (hr := rfl)), fun hs => h.front hs, h.waits,
    ⟨cue, hold, view, fun _ => hf, rest⟩, h.gear, h.power, h.track⟩

theorem State.reverseChime_viewHolds {s : State} (h : s.viewHolds shown) (before : RvcState) : (s.reverseChime before s.rvc.state).viewHolds shown := by
  have arrives (r : ChimeRequest) (hr : r.origin ≠ .park) : (s.arrive r).1.viewHolds shown := State.MovesIn.viewHolds (.single (.arrives r hr)) h
  have engage : s.engageChime.viewHolds shown := by
    unfold State.engageChime
    split
    · exact arrives _ (by decide)
    · exact h
  have fault (hs : s.rvc.state = .fault) : s.faultChime.viewHolds shown :=
    State.setFaultChime_viewHolds (arrives ⟨3, ZoneSet.frontOnly, 7, .repeat, .reverse⟩ (by decide)) (by rw [State.arrive_rvc_state, hs]) _
  unfold State.reverseChime
  split
  · exact engage
  · exact engage
  · next ha => exact fault ha
  · next ha => exact fault ha
  · exact h

theorem State.changeRvc_viewHolds {s : State} (h : s.nearHolds shown) {c : RvcChange} (hc : c.fits s) : (s.changeRvc c).viewHolds shown := by
  obtain ⟨ht, hs⟩ := State.turned_viewHolds h hc
  have parked : (if s.crosses c then (s.turned c).judgePark else s.turned c).viewHolds shown
      ∧ (if s.crosses c then (s.turned c).judgePark else s.turned c).rvc.state = c.state := by
    split
    · exact ⟨State.MovesIn.viewHolds (.single .parks) ht, by rw [State.judgePark_rvc_state, hs]⟩
    · exact ⟨ht, hs⟩
  rw [State.changeRvc_eq]
  generalize (if s.crosses c then (s.turned c).judgePark else s.turned c) = x at parked ⊢
  rw [← parked.2]
  exact State.reverseChime_viewHolds parked.1 _

end Sys2Proof.Machine
end

section
/-! # Proofs: the events that reach the reverse view (R22, R29, R33, R37 to R47, R97 to R101, R107) -/

namespace Sys2Proof.Machine

variable {shown : Prop}

/-! ## What leaves the controller as it is -/

theorem State.frontLaw_of_shown {s' s : State} (h : s.frontLaw) (hs : s'.cmp.front.shown = s.cmp.front.shown)
    (hb : s'.cmp.front.hostBanner = s.cmp.front.hostBanner) (hv : s'.cmp.frontView = s.cmp.frontView) (hr : s'.rvc = s.rvc) : s'.frontLaw := by
  unfold State.frontLaw State.rvcOff
  rw [hs, hb, hv, hr]
  exact h

/-- What leaves the controller, the gear line, the flags of the ports and preview. -/
theorem State.viewHolds_of_still {s' s : State} (h : s.viewHolds shown) (feed : s'.feedLaw shown) (front : shown → s'.frontLaw)
    (track : s'.gle.mode = s.gle.mode) (preview : s'.cmp.preview = s.cmp.preview)
    (lock : (s'.port .cam).lock = (s.port .cam).lock := by simp [State.port]) (power : s'.fdp.camPower = s.fdp.camPower := by simp)
    (enabled : ∀ f, (s'.port f).enabled = (s.port f).enabled := by simp [State.port])
    (rvc : s'.rvc = s.rvc := by simp) (vin : s'.vin = s.vin := by simp) (mode : s'.cli.mode = s.cli.mode := by simp)
    (phase : s'.phase = s.phase := by simp) : s'.viewHolds shown := by
  refine ⟨feed, front, ?_, ?_, ?_, ?_, ?_⟩
  · rw [phase, mode, rvc]
    exact h.waits
  · unfold State.rvcLaw
    rw [rvc, lock, mode]
    exact h.rvc
  · unfold State.gearLaw
    rw [vin, rvc]
    exact h.gear
  · obtain ⟨hp, hc, hu, h1, h2, hm⟩ := h.power
    unfold State.portLaw State.rvcOff State.inRun
    rw [power, rvc, preview, mode]
    exact ⟨hp, (enabled .cam).trans hc, (enabled .uif).trans hu, (enabled .ff1).trans h1, (enabled .ff2).trans h2, hm⟩
  · unfold State.trackLaw
    rw [track, rvc]
    exact h.track

theorem State.guideTrigger_viewHolds {s : State} (h : s.viewHolds shown) : s.guideTrigger.viewHolds shown :=
  State.viewHolds_of_still h (State.guideTrigger_feedLaw h.feed)
    (fun hs => State.frontLaw_of_shown (h.front hs) (by simp) (by simp) (by simp) (by simp)) s.guideTrigger_mode (by simp)

theorem State.trackingTrigger_viewHolds {s : State} (h : s.viewHolds shown) : s.trackingTrigger.viewHolds shown := by
  unfold State.trackingTrigger
  split
  · exact State.guideTrigger_viewHolds h
  · exact h

theorem State.install_viewHolds {s : State} (h : s.viewHolds shown) : s.install.viewHolds shown := by
  have hf := s.install_facing
  simp only [State.facing, Prod.mk.injEq] at hf
  obtain ⟨hfront, hview, hprev, hmode⟩ := hf
  exact State.viewHolds_of_still h (State.install_feedLaw h.feed)
    (fun hs => State.frontLaw_of_shown (h.front hs) (by rw [hfront]) (by rw [hfront]) hview (by simp)) hmode hprev

theorem State.computationDone_facing (s : State) : s.computationDone.facing = s.facing := by
  unfold State.computationDone
  split
  · rfl
  · dsimp only
    split
    · rfl
    · exact State.install_facing _

theorem State.computationDone_viewHolds {s : State} (h : s.viewHolds shown) : s.computationDone.viewHolds shown := by
  have hf := s.computationDone_facing
  simp only [State.facing, Prod.mk.injEq] at hf
  obtain ⟨hfront, hview, hprev, hmode⟩ := hf
  exact State.viewHolds_of_still h (State.computationDone_feedLaw h.feed)
    (fun hs => State.frontLaw_of_shown (h.front hs) (by rw [hfront]) (by rw [hfront]) hview (by simp)) hmode hprev

/-! ## The front row (R97 to R102, R107) -/

theorem State.judgeFront_viewHolds {s : State} (h : s.viewHolds shown) : s.judgeFront.viewHolds shown := by
  obtain ⟨hv, hp, hb, hsh, -, -⟩ := s.judgeFront_faces
  exact State.viewHolds_of_still h (State.judgeFront_feedLaw h.feed) (fun hs => State.frontLaw_of_shown (h.front hs) hsh hb hv (by simp)) (by simp) hp

/-- A front row that keeps its source, its cause and its banners. -/
theorem State.setFront_viewHolds {s : State} (h : s.viewHolds shown) {r : Row} (he : r.effective = s.cmp.front.effective)
    (hc : r.cause = s.cmp.front.cause) (hs : r.shown = s.cmp.front.shown) (hb : r.hostBanner = s.cmp.front.hostBanner) :
    (s.setFront r).viewHolds shown :=
  State.viewHolds_of_still h (State.setFront_feedLaw h.feed he hc) (fun hsh => State.frontLaw_of_shown (h.front hsh) hs hb rfl rfl) rfl rfl
    (lock := rfl) (power := rfl) (enabled := fun _ => rfl) (rvc := rfl) (vin := rfl) (mode := rfl) (phase := rfl)

theorem Row.takePending_source (r : Row) :
    r.takePending.effective = r.effective ∧ r.takePending.cause = r.cause ∧ r.takePending.shown = r.shown ∧ r.takePending.hostBanner = r.hostBanner := by
  unfold Row.takePending
  split <;> exact ⟨rfl, rfl, rfl, rfl⟩

theorem State.frontRouteTakesEffect_viewHolds {s : State} (h : s.viewHolds shown) : s.frontRouteTakesEffect.viewHolds shown := by
  obtain ⟨he, hc, hs, hb⟩ := s.cmp.front.takePending_source
  exact State.judgeFront_viewHolds (State.setFront_viewHolds h he hc hs hb)

theorem State.frontFrame_viewHolds {s : State} (h : s.viewHolds shown) : s.frontFrame.viewHolds shown :=
  State.setFront_viewHolds (State.setFront_viewHolds (State.frontRouteTakesEffect_viewHolds h) rfl rfl rfl rfl) rfl rfl rfl rfl

theorem State.rearFrame_viewHolds {s : State} (h : s.viewHolds shown) (i : Seat) : (s.rearFrame i).viewHolds shown :=
  State.viewHolds_of_calm h State.calmAs_of_same (fun hb => State.rearFrame_banners hb i)

theorem State.outputFrame_viewHolds {s : State} (h : s.viewHolds shown) (o : Output) : (s.outputFrame o).viewHolds shown := by
  unfold State.outputFrame
  split
  · split
    · exact State.frontFrame_viewHolds h
    · exact h
  · split
    · exact State.rearFrame_viewHolds h _
    · exact h

theorem State.setPending_viewHolds {s : State} (h : s.viewHolds shown) (o : Output) (src : Source) : (s.setPending o src).viewHolds shown := by
  cases o with
  | fro => exact State.setFront_viewHolds h rfl rfl rfl rfl
  | ro i =>
    have set : (s.setRearRow i { s.rearRow i with pending := some src }).viewHolds shown :=
      State.viewHolds_of_calm h State.calmAs_of_same (fun hb => State.setRearRow_banners hb ⟨rfl, rfl, rfl⟩)
    unfold State.setPending
    dsimp only
    split
    · exact set
    · exact State.viewHolds_of_calm set State.calmAs_of_same (fun hb => State.rearRouteTakesEffect_banners hb i)

theorem State.setBanner_viewHolds {s : State} (h : s.viewHolds shown) (o : Output) (on : Bool) : (s.setBanner o on).viewHolds shown := by
  cases o with
  | fro =>
    refine State.viewHolds_of_still h (State.setFront_feedLaw (State.setFront_feedLaw h.feed rfl rfl) rfl rfl) (fun hs => ⟨(h.front hs).1, rfl⟩) rfl rfl
      (lock := rfl) (power := rfl) (enabled := fun _ => rfl) (rvc := rfl) (vin := rfl) (mode := rfl) (phase := rfl)
  | ro i =>
    refine State.viewHolds_of_calm h (State.calmAs_of_same (s' := (s.setRearRow i { s.rearRow i with hostBanner := on }).judgeRearBanner i)) (fun hb => ?_)
    refine State.judgeRearBanner_banners (fun j hj => State.rearBannerLaw_of_as (hb j) ?_ Iff.rfl (State.locksAs_of_eq rfl))
    rw [State.rearRow_setRearRow_other _ hj]
    exact Row.bannerAs_refl _

theorem State.setFilmLock_viewHolds {s : State} (h : s.viewHolds shown) (engaged : Bool) : (s.setFilmLock engaged).viewHolds shown := by
  unfold State.setFilmLock
  split
  · exact h
  · exact State.judgeFront_viewHolds (State.viewHolds_of_same h (State.calmAs_of_same (fore := rfl)) (hr := rfl))

/-- R26, R101: camera power that is judged while the controller is OFF. -/
theorem State.judgeCameraPower_viewHolds {s : State} (feed : s.feedLaw shown) (front : shown → s.frontLaw) (running : s.phase = .running)
    (rvc : s.rvcLaw) (gear : s.gearLaw) (off : s.rvc.state = .off) (cam : s.fdp.cam.enabled = s.fdp.camPower)
    (feeds : s.fdp.uif.enabled = s.inRun ∧ s.fdp.ff1.enabled = s.inRun ∧ s.fdp.ff2.enabled = s.inRun)
    (preview : s.cli.mode = .standby → s.cmp.preview = false) (track : s.trackLaw) : s.judgeCameraPower.viewHolds shown := by
  obtain ⟨hpow, hen, huif, hff1, hff2⟩ := State.judgeCameraPower_fdp cam
  have hf := s.judgeCameraPower_facing
  simp only [State.facing, Prod.mk.injEq] at hf
  obtain ⟨hfront, hview, hprev, hmode⟩ := hf
  refine ⟨State.judgeCameraPower_feedLaw feed cam, fun hs => ?_, fun hp => ?_, ?_, ?_, ?_, ?_⟩
  · exact State.frontLaw_of_shown (front hs) (by rw [hfront]) (by rw [hfront]) hview (by simp)
  · rw [State.judgeCameraPower_phase] at hp
    exact absurd running hp
  · obtain ⟨cue, hold, view, chime, -⟩ := rvc
    unfold State.rvcLaw
    rw [State.judgeCameraPower_rvc, State.judgeCameraPower_cli_mode, off]
    rw [off] at cue hold view chime
    exact ⟨cue, hold, view, chime, fun hn => absurd hn (by decide), fun hn => absurd hn (by decide), fun hn => absurd hn (by decide), fun _ => rfl⟩
  · unfold State.gearLaw
    rw [State.judgeCameraPower_vin, State.judgeCameraPower_rvc]
    exact gear
  · unfold State.portLaw State.rvcOff State.inRun
    rw [State.judgeCameraPower_rvc, State.judgeCameraPower_cli_mode, huif, hff1, hff2, hprev]
    exact ⟨hpow, hen, feeds.1, feeds.2.1, feeds.2.2, preview⟩
  · unfold State.trackLaw
    rw [hmode, State.judgeCameraPower_rvc]
    exact track

theorem State.setPreview_viewHolds {s : State} (h : s.viewHolds shown) (hp : s.phase = .running) (off : s.rvc.state = .off) (hm : s.cli.mode = .run)
    (on : Bool) : (s.setPreview on).viewHolds shown := by
  have set : ({ s with cmp := { s.cmp with preview := on } } : State).feedLaw shown :=
    ⟨h.feed.ports, h.feed.guide, h.feed.plane, fun hs => State.bannersLaw_of_same (h.feed.banners hs) (hr := rfl)⟩
  obtain ⟨hv, -, hb, hsh, -, -⟩ := ({ s with cmp := { s.cmp with preview := on } } : State).judgeFront_faces
  obtain ⟨-, cam, uif, ff1, ff2, -⟩ := h.power
  unfold State.setPreview
  refine State.judgeCameraPower_viewHolds (State.judgeFront_feedLaw set) (fun hs => State.frontLaw_of_shown (h.front hs) hsh hb hv (by simp)) ?_ ?_ ?_ ?_ ?_ ?_ ?_ ?_
  · simp [hp]
  · unfold State.rvcLaw
    rw [State.judgeFront_rvc, State.judgeFront_cli_mode, State.port, State.judgeFront_fdp]
    exact h.rvc
  · unfold State.gearLaw
    rw [State.judgeFront_rvc, State.judgeFront_vin]
    exact h.gear
  · simp [off]
  · rw [State.judgeFront_fdp]
    exact cam
  · unfold State.inRun
    rw [State.judgeFront_fdp, State.judgeFront_cli_mode]
    exact ⟨uif, ff1, ff2⟩
  · rw [State.judgeFront_cli_mode]
    intro hs
    have hs' : s.cli.mode = .standby := hs
    rw [hm] at hs'
    cases hs'
  · unfold State.trackLaw
    rw [State.judgeFront_rvc, State.judgeFront_gle]
    exact h.track

/-! ## A port takes a record (R20 to R22) -/

section
variable (s : State) (f : Feed) (q : Port)

theorem State.takesPort_rvc : (s.takesPort f q).rvc = s.rvc := by
  unfold State.takesPort
  split
  · rfl
  · rw [State.lockChanged_rvc]
    rfl

theorem State.takesPort_vin : (s.takesPort f q).vin = s.vin := by
  unfold State.takesPort
  split
  · rfl
  · rw [State.lockChanged_vin]
    rfl

theorem State.takesPort_mode : (s.takesPort f q).cli.mode = s.cli.mode := by
  unfold State.takesPort
  split
  · rfl
  · rw [State.lockChanged_cli_mode]
    rfl

theorem State.takesPort_phase : (s.takesPort f q).phase = s.phase := by
  unfold State.takesPort
  split
  · rfl
  · rw [State.lockChanged_phase]
    rfl

theorem State.takesPort_port_same : (s.takesPort f q).port f = q := by
  rw [State.port, State.takesPort_fdp, Fdp.port_setPort_same]

theorem State.takesPort_port_other {g : Feed} (h : g ≠ f) : (s.takesPort f q).port g = s.port g := by
  rw [State.port, State.takesPort_fdp, Fdp.port_setPort_other _ h]
  rfl

end

theorem State.takesPort_enabled {s : State} {f : Feed} {q : Port} (he : q.enabled = (s.port f).enabled) (g : Feed) :
    ((s.takesPort f q).port g).enabled = (s.port g).enabled := by
  by_cases hg : g = f
  · rw [hg, State.takesPort_port_same, he]
  · rw [State.takesPort_port_other _ _ _ hg]

theorem State.takesPort_near {s : State} (h : s.nearHolds shown) {f : Feed} {q : Port} (hq : q.law) (he : q.enabled = (s.port f).enabled) :
    (s.takesPort f q).nearHolds shown := by
  have hf := s.takesPort_facing f q
  simp only [State.facing, Prod.mk.injEq] at hf
  obtain ⟨-, -, hprev, hmode⟩ := hf
  have hen := State.takesPort_enabled he
  have hpow : (s.takesPort f q).fdp.camPower = s.fdp.camPower := by rw [State.takesPort_fdp, Fdp.camPower_setPort]
  refine ⟨State.takesPort_feedLaw h.feed hq, ?_, ?_, ?_, ?_, ?_, ?_, ?_⟩
  · rw [State.takesPort_phase, h.running]
  · rw [State.takesPort_vin]
    exact h.candidate
  · rw [State.takesPort_rvc]
    exact h.chime
  · exact (hen .cam).trans (h.cam.trans hpow.symm)
  · unfold State.inRun
    rw [State.takesPort_mode]
    exact ⟨(hen .uif).trans h.feeds.1, (hen .ff1).trans h.feeds.2.1, (hen .ff2).trans h.feeds.2.2⟩
  · rw [State.takesPort_mode, hprev]
    exact h.preview
  · unfold State.trackLaw
    rw [hmode, State.takesPort_rvc]
    exact h.track

/-- A lock that fits the controller's state leaves the laws. -/
theorem State.takesPort_viewHolds {s : State} (h : s.viewHolds shown) {f : Feed} {q : Port} (hq : q.law)
    (he : q.enabled = (s.port f).enabled)
    (hl : f = .cam → (s.rvc.state = .live → q.lock = .locked) ∧ (s.rvc.state = .cueing ∨ s.rvc.state = .fault → q.lock ≠ .locked)) :
    (s.takesPort f q).viewHolds shown := by
  have hf := s.takesPort_facing f q
  simp only [State.facing, Prod.mk.injEq] at hf
  obtain ⟨hfront, hview, hprev, hmode⟩ := hf
  have hen := State.takesPort_enabled he
  obtain ⟨cue, hold, view, chime, live, cueing, fault, standby⟩ := h.rvc
  obtain ⟨hp, hc, hu, h1, h2, hm⟩ := h.power
  refine ⟨State.takesPort_feedLaw h.feed hq, fun hs => ?_, ?_, ?_, ?_, ?_, ?_⟩
  · exact State.frontLaw_of_shown (h.front hs) (by rw [hfront]) (by rw [hfront]) hview (s.takesPort_rvc f q)
  · rw [State.takesPort_phase, State.takesPort_mode, State.takesPort_rvc]
    exact h.waits
  · unfold State.rvcLaw
    rw [State.takesPort_rvc, State.takesPort_mode]
    by_cases hcam : f = .cam
    · obtain ⟨hlive, hdark⟩ := hl hcam
      subst hcam
      rw [State.takesPort_port_same]
      exact ⟨cue, hold, view, chime, hlive, fun hs => hdark (.inl hs), fun hs => hdark (.inr hs), standby⟩
    · rw [State.takesPort_port_other _ _ _ (Ne.symm hcam)]
      exact ⟨cue, hold, view, chime, live, cueing, fault, standby⟩
  · unfold State.gearLaw
    rw [State.takesPort_rvc, State.takesPort_vin]
    exact h.gear
  · unfold State.portLaw State.rvcOff State.inRun
    rw [State.takesPort_rvc, State.takesPort_mode, hprev]
    have hpow : (s.takesPort f q).fdp.camPower = s.fdp.camPower := by rw [State.takesPort_fdp, Fdp.camPower_setPort]
    rw [hpow]
    exact ⟨hp, (hen .cam).trans hc, (hen .uif).trans hu, (hen .ff1).trans h1, (hen .ff2).trans h2, hm⟩
  · unfold State.trackLaw
    rw [hmode, State.takesPort_rvc]
    exact h.track

/-! ## The controller's changes -/

/-- In STANDBY the controller is OFF, so that a part whose controller is not OFF is in RUN. -/
theorem State.viewHolds.not_standby {s : State} (h : s.viewHolds shown) (hs : s.rvc.state ≠ .off) : s.cli.mode ≠ .standby := by
  obtain ⟨-, -, -, -, -, -, -, standby⟩ := h.rvc
  exact fun hm => hs (standby hm)

theorem State.enterOff_viewHolds {s : State} (h : s.nearHolds shown) (hg : s.vin.gear ≠ .reverse) (reason : RvcReason) :
    (s.enterOff reason).viewHolds shown :=
  State.changeRvc_viewHolds h ⟨by simp, by simp, by simp, by simp [hg], by simp, by simp, by simp⟩

theorem State.enterLive_viewHolds {s : State} (h : s.nearHolds shown) (hg : s.vin.gear = .reverse) (hl : (s.port .cam).lock = .locked)
    (hm : s.cli.mode ≠ .standby) (reason : RvcReason) : (s.enterLive reason).viewHolds shown :=
  State.changeRvc_viewHolds h ⟨by simp, by simp, by simp, by simp [hg], fun _ => hl, by simp, fun hs => absurd hs hm⟩

theorem State.enterFault_viewHolds {s : State} (h : s.nearHolds shown) (hg : s.vin.gear = .reverse) (hl : (s.port .cam).lock ≠ .locked)
    (hm : s.cli.mode ≠ .standby) (reason : RvcReason) : (s.enterFault reason).viewHolds shown :=
  State.changeRvc_viewHolds h ⟨by simp, by simp, by simp, by simp [hg], by simp, fun _ => hl, fun hs => absurd hs hm⟩

theorem State.enterCueing_viewHolds {s : State} (h : s.nearHolds shown) (hg : s.vin.gear = .reverse) (hl : (s.port .cam).lock ≠ .locked)
    (hm : s.cli.mode ≠ .standby) : s.enterCueing.viewHolds shown :=
  State.changeRvc_viewHolds h ⟨by simp, by simp, by simp, by simp [hg], by simp, fun _ => hl, fun hs => absurd hs hm⟩

theorem State.enterHeld_viewHolds {s : State} (h : s.nearHolds shown) (hg : s.vin.gear ≠ .reverse) (hm : s.cli.mode ≠ .standby) {view : HeldView}
    (hv : view ≠ .none) : (s.enterHeld view).viewHolds shown :=
  State.changeRvc_viewHolds h ⟨by simp, by simp, by simp [hv], by simp [hg], by simp, by simp, fun hs => absurd hs hm⟩

/-- R40, R41: what the controller does when the lock of CAM has changed. -/
theorem State.takesPort_cam_viewHolds {s : State} (h : s.viewHolds shown) (hp : s.phase = .running) {q : Port} (hq : q.law)
    (he : q.enabled = (s.port .cam).enabled) :
    (if q.lock = .locked then (s.takesPort .cam q).camLocked
      else if (s.port .cam).lock = .locked then (s.takesPort .cam q).camLeft else s.takesPort .cam q).viewHolds shown := by
  obtain ⟨-, -, -, -, live, cueing, fault, -⟩ := h.rvc
  have near := State.takesPort_near (h.near hp) hq he
  have lock : ((s.takesPort .cam q).port .cam).lock = q.lock := by rw [State.takesPort_port_same]
  have still := State.takesPort_viewHolds h (f := .cam) hq he
  have hrvc := s.takesPort_rvc .cam q
  have hvin := s.takesPort_vin .cam q
  have hmode := s.takesPort_mode .cam q
  have hgear : s.rvc.state = .cueing ∨ s.rvc.state = .live ∨ s.rvc.state = .fault → (s.takesPort .cam q).vin.gear = .reverse := by
    rw [hvin]
    exact h.gear.2.2
  split
  · next hl =>
    have enters (hs : s.rvc.state = .cueing ∨ s.rvc.state = .fault) (reason : RvcReason) : ((s.takesPort .cam q).enterLive reason).viewHolds shown := by
      refine State.enterLive_viewHolds near (hgear (hs.imp_right .inr)) (lock.trans hl) ?_ reason
      rw [hmode]
      exact h.not_standby (by rcases hs with hs | hs <;> rw [hs] <;> decide)
    have stays (hs : s.rvc.state ≠ .cueing) (hs' : s.rvc.state ≠ .fault) : (s.takesPort .cam q).viewHolds shown :=
      still (fun _ => ⟨fun _ => hl, fun hd => absurd hd (by simp [hs, hs'])⟩)
    unfold State.camLocked
    rw [hrvc]
    split
    · next hs => exact enters (.inl hs) _
    · next hs => exact enters (.inr hs) _
    · next hs => exact stays (by rw [hs]; decide) (by rw [hs]; decide)
    · next hs => exact stays (by rw [hs]; decide) (by rw [hs]; decide)
    · next hs => exact stays (by rw [hs]; decide) (by rw [hs]; decide)
  · next hl =>
    split
    · next hb =>
      unfold State.camLeft
      rw [hrvc]
      split
      · next hs =>
        refine State.enterFault_viewHolds near (hgear (.inr (.inl hs))) (by rw [lock]; exact hl) ?_ _
        rw [hmode]
        exact h.not_standby (by rw [hs]; decide)
      · next hs => exact still (fun _ => ⟨fun hs' => absurd hs' hs, fun _ => hl⟩)
    · next hb => exact still (fun _ => ⟨fun hs => absurd (live hs) hb, fun _ => hl⟩)

theorem State.handLock_viewHolds {s : State} (h : s.viewHolds shown) (hp : s.phase = .running) {f : Feed} {q : Port} (hq : q.law)
    (he : q.enabled = (s.port f).enabled) : ((s.setPort f q).handLock f (s.port f).lock q.lock).viewHolds shown := by
  obtain ⟨-, -, -, -, live, cueing, fault, -⟩ := h.rvc
  have taken : (s.setPort f q).handLock f (s.port f).lock q.lock
      = if (s.port f).lock = q.lock then s.takesPort f q
        else if f ≠ .cam then s.takesPort f q
        else if q.lock = .locked then (s.takesPort f q).camLocked
        else if (s.port f).lock = .locked then (s.takesPort f q).camLeft else s.takesPort f q := by
    unfold State.handLock State.takesPort
    split <;> rfl
  rw [taken]
  split
  · next hl =>
    refine State.takesPort_viewHolds h hq he (fun hf => ?_)
    subst hf
    rw [← hl]
    exact ⟨live, fun hd => hd.elim cueing fault⟩
  next hl =>
  split
  · next hf => exact State.takesPort_viewHolds h hq he (fun hf' => absurd hf' hf)
  · next hf =>
    have hf' : f = .cam := not_not.1 hf
    subst hf'
    exact State.takesPort_cam_viewHolds h hp hq he

/-! ### The lock machine (R19 to R21, R24) -/

/-- R20, R21: a port that waits for its lock or holds it has a last stamp and a watch. -/
theorem Port.law_of_watched {q : Port} (he : q.enabled = true) (hs : q.lastStamp.isSome = true) (hw : q.watch.isSome = true)
    (hl : q.lock = .acquiring ∧ q.good ≤ 3 ∧ q.bad ≤ 3 ∨ q.lock = .locked ∧ q.bad ≤ 2 ∧ q.good ≤ 4) : q.law := by
  refine ⟨fun hn => absurd (he.symm.trans hn) (by decide), fun hd => ?_, fun _ => ⟨hs, hw⟩, fun ha => ?_, fun hk => ?_, ?_, ?_⟩ <;>
    rcases hl with ⟨hl, hg, hb⟩ | ⟨hl, hb, hg⟩
  · rw [hl] at hd
    simp at hd
  · rw [hl] at hd
    simp at hd
  · exact hg
  · rw [hl] at ha
    cases ha
  · rw [hl] at hk
    cases hk
  · exact hb
  · omega
  · exact hg
  · exact hb
  · omega

theorem Port.framed_enabled (p : Port) (now : Stamp) : (p.framed now).enabled = p.enabled := by
  unfold Port.framed
  dsimp only
  (repeat' split) <;> rfl

theorem Port.framed_law {p : Port} (h : p.law) (he : p.enabled = true) (now : Stamp) : (p.framed now).law := by
  obtain ⟨-, -, -, hgood, hbad, hg, hb⟩ := h
  unfold Port.framed
  dsimp only
  split
  · exact Port.law_of_watched he rfl rfl (.inl ⟨rfl, Nat.zero_le _, Nat.zero_le _⟩)
  · exact Port.law_of_watched he rfl rfl (.inl ⟨rfl, Nat.zero_le _, Nat.zero_le _⟩)
  · next hl _ =>
    split
    · exact Port.law_of_watched he rfl rfl (.inr ⟨rfl, Nat.zero_le _, Nat.succ_le_succ (hgood hl)⟩)
    · next hn => exact Port.law_of_watched he rfl rfl (.inl ⟨hl, Nat.lt_succ_iff.1 (not_le.1 hn), hb⟩)
  · next hl _ => exact Port.law_of_watched he rfl rfl (.inl ⟨hl, Nat.zero_le _, hb⟩)
  · next hl _ => exact Port.law_of_watched he rfl rfl (.inr ⟨hl, Nat.zero_le _, hg⟩)
  · next hl _ =>
    split
    · exact Port.law_of_watched he rfl rfl (.inl ⟨rfl, Nat.zero_le _, Nat.succ_le_succ (hbad hl)⟩)
    · next hn => exact Port.law_of_watched he rfl rfl (.inr ⟨hl, Nat.lt_succ_iff.1 (not_le.1 hn), hg⟩)
  · next hl _ => exact Port.law_of_watched he rfl rfl (.inl ⟨hl, hgood hl, hb⟩)
  · next hl _ => exact Port.law_of_watched he rfl rfl (.inr ⟨hl, hbad hl, hg⟩)

theorem Port.reformed_enabled (p : Port) (fmt : Format) (now : Stamp) : (p.reformed fmt now).enabled = p.enabled := by
  unfold Port.reformed
  dsimp only
  split <;> rfl

theorem Port.reformed_law {p : Port} (h : p.law) (fmt : Format) (now : Stamp) : (p.reformed fmt now).law := by
  obtain ⟨disabled, idle, watched, hgood, hbad, hg, hb⟩ := h
  have enabled (hl : p.lock ≠ .noSignal) : p.enabled = true := by
    cases he : p.enabled with
    | true => rfl
    | false => exact absurd (disabled he) hl
  unfold Port.reformed
  dsimp only
  split
  · next hl => exact Port.law_of_watched (enabled (by rw [hl]; decide)) (watched (.inr hl)).1 rfl (.inl ⟨rfl, Nat.zero_le _, Nat.zero_le _⟩)
  · next hl => exact Port.law_of_watched (enabled (by rw [hl]; decide)) (watched (.inl hl)).1 rfl (.inl ⟨hl, Nat.zero_le _, hb⟩)
  · exact ⟨disabled, idle, watched, hgood, hbad, hg, hb⟩
  · exact ⟨disabled, idle, watched, hgood, hbad, hg, hb⟩

theorem Lock.afterWatch_idle (l : Lock) : l.afterWatch = .noSignal ∨ l.afterWatch = .lost := by
  cases l <;> simp [Lock.afterWatch]

theorem Port.watched_law {p : Port} (h : p.law) : ({ p.cleared with lock := p.lock.afterWatch } : Port).law := by
  refine ⟨fun hd => ?_, fun _ => ⟨rfl, rfl⟩, fun hn => ?_, fun _ => Nat.zero_le _, fun _ => Nat.zero_le _, Nat.zero_le _, Nat.zero_le _⟩
  · have hd' : p.enabled = false := hd
    show p.lock.afterWatch = .noSignal
    rw [h.1 hd']
    rfl
  · have hn' : p.lock.afterWatch = .acquiring ∨ p.lock.afterWatch = .locked := hn
    rcases p.lock.afterWatch_idle with hl | hl <;> rw [hl] at hn' <;> simp at hn'

theorem State.frameStart_viewHolds {s : State} (h : s.viewHolds shown) (hp : s.phase = .running) (f : Feed) : (s.frameStart f).viewHolds shown := by
  unfold State.frameStart State.frameToGuide
  dsimp only
  split
  · next he =>
    have handed := State.handLock_viewHolds h hp (Port.framed_law (h.feed.ports f) he s.timebase) (Port.framed_enabled _ _)
    split
    · split
      · exact State.install_viewHolds handed
      · exact handed
    · exact handed
  · exact h

theorem State.frameWatchExpired_viewHolds {s : State} (h : s.viewHolds shown) (hp : s.phase = .running) (f : Feed) :
    (s.frameWatchExpired f).viewHolds shown := by
  unfold State.frameWatchExpired
  dsimp only
  split
  · exact State.handLock_viewHolds h hp (Port.watched_law (h.feed.ports f)) rfl
  · exact h

/-! ### Confirmed levels (R29, R37, R38, R43) -/

theorem State.nearHolds_of_same {s' s : State} (h : s.nearHolds shown) (phase : s'.phase = s.phase) (vin : ∀ c ∈ s'.vin.candidate, c.level ≠ s'.vin.gear)
    (chime : s'.rvc.faultChime = s.rvc.faultChime) (state : s'.rvc.state = s.rvc.state) (fdp : s'.fdp = s.fdp) (mode : s'.cli.mode = s.cli.mode)
    (cmp : s'.cmp = s.cmp) (gle : s'.gle = s.gle) (rsl : s'.rsl = s.rsl) : s'.nearHolds shown := by
  refine ⟨State.feedLaw_of_same h.feed fdp gle (by rw [cmp]) (fun hb => State.bannersLaw_of_same hb (by rw [cmp]) (fun i => by rw [State.link, rsl]; rfl) fdp),
    phase.trans h.running, vin, ?_, ?_, ?_, ?_, ?_⟩
  · rw [chime, state]
    exact h.chime
  · rw [fdp]
    exact h.cam
  · unfold State.inRun
    rw [fdp, mode]
    exact h.feeds
  · rw [mode, cmp]
    exact h.preview
  · unfold State.trackLaw
    rw [gle, state]
    exact h.track

theorem Rvc.record_keeps (r : Rvc) (level : Gear) (edge : Stamp) :
    (r.record level edge).state = r.state ∧ (r.record level edge).faultChime = r.faultChime := by
  cases level <;> exact ⟨rfl, rfl⟩

/-- R38, R46: a confirmed REVERSE of a running part in OFF or HELD. -/
theorem State.takeLevel_reverse_viewHolds {s : State} (h : s.nearHolds shown) (hg : s.vin.gear = .reverse) (hm : s.cli.mode ≠ .standby)
    (hs : s.rvc.state = .off ∨ s.rvc.state = .held) (edge : Stamp) : (s.takeLevel .reverse edge).viewHolds shown := by
  have near : ({ s with rvc := s.rvc.record .reverse edge } : State).nearHolds shown :=
    State.nearHolds_of_same h rfl h.candidate rfl rfl rfl rfl rfl rfl rfl
  have engage : (if (({ s with rvc := s.rvc.record .reverse edge } : State).port .cam).lock = .locked
      then ({ s with rvc := s.rvc.record .reverse edge } : State).enterLive .gearReverse
      else ({ s with rvc := s.rvc.record .reverse edge } : State).enterCueing).viewHolds shown := by
    split
    · next hl => exact State.enterLive_viewHolds near hg hl hm _
    · next hl => exact State.enterCueing_viewHolds near hg hl hm
  have state : ({ s with rvc := s.rvc.record .reverse edge } : State).rvc.state = s.rvc.state := rfl
  unfold State.takeLevel State.confirmedReverse
  dsimp only
  rcases hs with hs | hs <;> rw [state, hs] <;> exact engage

/-- R43: a confirmed NOT_REVERSE in CUEING, LIVE or FAULT. -/
theorem State.takeLevel_notReverse_viewHolds {s : State} (h : s.nearHolds shown) (hg : s.vin.gear ≠ .reverse) (hm : s.cli.mode ≠ .standby)
    (hs : s.rvc.state = .cueing ∨ s.rvc.state = .live ∨ s.rvc.state = .fault) (edge : Stamp) : (s.takeLevel .notReverse edge).viewHolds shown := by
  have near : ({ s with rvc := s.rvc.record .notReverse edge } : State).nearHolds shown :=
    State.nearHolds_of_same h rfl h.candidate rfl rfl rfl rfl rfl rfl rfl
  have released {view : HeldView} (hv : view ≠ .none) : (({ s with rvc := s.rvc.record .notReverse edge } : State).release view).viewHolds shown := by
    unfold State.release
    split
    · exact State.enterOff_viewHolds near hg _
    split
    · exact State.enterOff_viewHolds near hg _
    · exact State.enterHeld_viewHolds near hg hm hv
  have state : ({ s with rvc := s.rvc.record .notReverse edge } : State).rvc.state = s.rvc.state := rfl
  unfold State.takeLevel State.confirmedNotReverse
  dsimp only
  rcases hs with hs | hs | hs <;> rw [state, hs]
  · exact State.enterOff_viewHolds near hg _
  · exact released (by decide)
  · exact released (by decide)

theorem State.setGear_viewHolds {s : State} (h : s.viewHolds shown) (raw : Bool) (candidate : Option GearCandidate)
    (hc : ∀ c ∈ candidate, c.level ≠ s.vin.gear) : (s.setGear raw s.vin.gear candidate).viewHolds shown :=
  ⟨State.feedLaw_of_same h.feed rfl rfl rfl (fun hb => State.bannersLaw_of_same hb (hr := rfl) (hs := fun _ => rfl) (hd := rfl)), h.front, h.waits, h.rvc,
    ⟨hc, h.gear.2⟩, h.power, h.track⟩

theorem State.gearEdge_viewHolds {s : State} (h : s.viewHolds shown) (raw : Bool) : (s.gearEdge raw).viewHolds shown := by
  unfold State.gearEdge
  split
  · exact h
  split
  · exact State.setGear_viewHolds h raw none (by simp)
  · refine State.setGear_viewHolds h raw _ (fun c hc => ?_)
    split at hc
    · cases hc
    · next hl =>
      cases hc
      exact hl

/-! ### Timers, the dismissal and the speed (R39, R44, R45, R47) -/

theorem State.viewHolds.gear_held {s : State} (h : s.viewHolds shown) (hs : s.rvc.state = .held) : s.vin.gear ≠ .reverse := by
  intro hg
  have := h.gear.2.1 hg
  rw [hs] at this
  simp at this

theorem State.cueExpired_viewHolds {s : State} (h : s.viewHolds shown) (hp : s.phase = .running) : s.cueExpired.viewHolds shown := by
  obtain ⟨-, -, -, -, -, cueing, -, -⟩ := h.rvc
  unfold State.cueExpired
  split
  · next hs => exact State.enterFault_viewHolds (h.near hp) (h.gear.2.2 (.inl hs.1)) (cueing hs.1) (h.not_standby (by rw [hs.1]; decide)) _
  · exact h

theorem State.holdExpired_viewHolds {s : State} (h : s.viewHolds shown) (hp : s.phase = .running) : s.holdExpired.viewHolds shown := by
  unfold State.holdExpired
  split
  · next hs => exact State.enterOff_viewHolds (h.near hp) (h.gear_held hs.1) _
  · exact h

theorem State.freshSpeed_viewHolds {s : State} (h : s.viewHolds shown) (hp : s.phase = .running) : s.freshSpeed.viewHolds shown := by
  unfold State.freshSpeed
  split
  · next hs => exact State.enterOff_viewHolds (h.near hp) (h.gear_held hs.1) _
  · exact h

/-! ## Vehicle values (R32, R33) -/

/-- The vehicle values but for the gear. -/
theorem State.setVin_viewHolds {s : State} (h : s.viewHolds shown) {v : Vin} (hg : v.gear = s.vin.gear) (hc : v.candidate = s.vin.candidate) :
    ({ s with vin := v } : State).viewHolds shown := by
  refine ⟨State.feedLaw_of_same h.feed rfl rfl rfl (fun hb => State.bannersLaw_of_same hb (hr := rfl)), h.front, h.waits, h.rvc, ?_, h.power, h.track⟩
  unfold State.gearLaw
  rw [hg, hc]
  exact h.gear

theorem State.deliver_viewHolds {s : State} (h : s.viewHolds shown) (hp : s.phase = .running) (r : Report) : (s.deliver r).viewHolds shown := by
  have speed : (if r.speed.isSome then s.speedToCompositor.freshSpeed else s).viewHolds shown := by
    split
    · exact State.freshSpeed_viewHolds (State.setFilmLock_viewHolds h _) (by rw [State.speedToCompositor]; simp [hp])
    · exact h
  have steering {x : State} (hx : x.viewHolds shown) : (if r.steering.isSome then x.trackingTrigger else x).viewHolds shown := by
    split
    · exact State.trackingTrigger_viewHolds hx
    · exact hx
  have dimmer {x : State} (hx : x.viewHolds shown) : (match r.dimmer with | some d => x.takeDimmer d | none => x).viewHolds shown := by
    split
    · exact State.MovesIn.viewHolds (x.takeDimmer_moves _) hx
    · exact hx
  have obstacle {x : State} (hx : x.viewHolds shown) : (if r.obstacle.isSome then x.judgePark else x).viewHolds shown := by
    split
    · exact State.MovesIn.viewHolds (.single .parks) hx
    · exact hx
  exact obstacle (dimmer (steering speed))

theorem State.watchExpired_viewHolds {s : State} (h : s.viewHolds shown) (w : Watched) : (s.watchExpired w).viewHolds shown := by
  unfold State.watchExpired State.deliverStale
  split
  · have stale : ({ s with vin := s.vin.stale w } : State).viewHolds shown := State.setVin_viewHolds h (by cases w <;> rfl) (by cases w <;> rfl)
    split
    · exact State.setFilmLock_viewHolds stale true
    · exact State.trackingTrigger_viewHolds stale
    · exact State.MovesIn.viewHolds (.single .parks) stale
  · exact h

/-! ## Calibration (R166) -/

theorem State.writeField_viewHolds {s : State} (h : s.viewHolds shown) (no index : Nat) (v : Int) : (s.writeField no index v).viewHolds shown := by
  have set : ({ s with cal := { s.cal with working := setField s.image no index v } } : State).viewHolds shown :=
    State.viewHolds_of_same h (State.calmAs_of_same (fore := rfl)) (hr := rfl)
  unfold State.writeField
  dsimp only
  split
  · exact State.trackingTrigger_viewHolds set
  split
  · exact State.viewHolds_of_same set State.calmAs_of_same
  · exact set

end Sys2Proof.Machine
end

section
/-! # Proofs: part mode, restarts and every step of the reverse view (R7, R9, R12, R30, R170) -/

namespace Sys2Proof.Machine

variable {shown : Prop}

/-! ## While the controller is OFF -/

/-- The timers, the held view and the fault chime belong to their states (Table 3-1). -/
def Rvc.timed (r : Rvc) : Prop :=
  (r.cueDeadline.isSome = true ↔ r.state = .cueing) ∧ (r.holdTimer.isSome = true ↔ r.state = .held) ∧ (r.heldView ≠ .none ↔ r.state = .held)
  ∧ (r.faultChime.isSome = true → r.state = .fault)

/-- What holds while the controller is OFF, whatever the part mode, the gear line and the flags of the ports. -/
structure State.offHolds (shown : Prop) (s : State) : Prop where
  feed : s.feedLaw shown
  front : shown → s.frontLaw
  running : s.phase = .running
  timed : s.rvc.timed
  off : s.rvc.state = .off
  track : s.trackLaw

theorem State.viewHolds.offHolds {s : State} (h : s.viewHolds shown) (hp : s.phase = .running) (ho : s.rvc.state = .off) : s.offHolds shown := by
  obtain ⟨cue, hold, view, chime, -⟩ := h.rvc
  exact ⟨h.feed, h.front, hp, ⟨cue, hold, view, chime⟩, ho, h.track⟩

theorem State.offHolds.view {s : State} (h : s.offHolds shown) (gear : s.gearLaw) (power : s.portLaw) : s.viewHolds shown := by
  obtain ⟨cue, hold, view, chime⟩ := h.timed
  have off := h.off
  refine ⟨h.feed, h.front, fun hp => absurd h.running hp, ⟨cue, hold, view, chime, fun hs => ?_, fun hs => ?_, fun hs => ?_, fun _ => off⟩, gear, power,
    h.track⟩ <;> rw [off] at hs <;> cases hs

theorem State.offHolds.near {s : State} (h : s.offHolds shown) (candidate : ∀ c ∈ s.vin.candidate, c.level ≠ s.vin.gear) (power : s.portLaw) :
    s.nearHolds shown := by
  obtain ⟨-, cam, uif, ff1, ff2, preview⟩ := power
  obtain ⟨-, -, -, chime⟩ := h.timed
  exact ⟨h.feed, h.running, candidate, chime, cam, ⟨uif, ff1, ff2⟩, preview, h.track⟩

/-- What leaves the controller and the face of the front output, but for a fault chime that ends. -/
theorem State.offHolds_of {s' s : State} (h : s.offHolds shown) (feed : s'.feedLaw shown) (front : shown → s'.frontLaw)
    (track : s'.gle.mode = s.gle.mode := by simp) (rvc : s'.rvc.forgets s.rvc := by simp [Rvc.forgets]) (phase : s'.phase = s.phase := by simp) :
    s'.offHolds shown := by
  obtain ⟨cue, hold, view, chime⟩ := h.timed
  obtain ⟨hstate, hheld, hcue, hhold, hchime⟩ := rvc.fields
  refine ⟨feed, front, phase.trans h.running, ?_, hstate.trans h.off, ?_⟩
  · unfold Rvc.timed
    rw [hstate, hheld, hcue, hhold]
    exact ⟨cue, hold, view, fun hs => chime (hchime hs)⟩
  · unfold State.trackLaw
    rw [track, hstate]
    exact h.track

theorem State.frontLaw_of_face {s' s : State} (h : s.frontLaw) (hs : s'.cmp.front.shown = s.cmp.front.shown)
    (hb : s'.cmp.front.hostBanner = s.cmp.front.hostBanner) (hv : s'.cmp.frontView = s.cmp.frontView) (hr : s'.rvc.forgets s.rvc) : s'.frontLaw := by
  obtain ⟨hstate, hheld, -⟩ := hr.fields
  unfold State.frontLaw State.rvcOff
  rw [hs, hb, hv, hstate, hheld]
  exact h

theorem State.MovesIn.offHolds {s s' : State} (m : s.Touches s') (h : s.offHolds shown) : s'.offHolds shown := by
  have k := m.calm
  have hf := k.fore
  simp only [Cmp.fore, Prod.mk.injEq] at hf
  obtain ⟨hfront, hview, -⟩ := hf
  exact State.offHolds_of h (m.feedLaw h.feed) (fun hs => State.frontLaw_of_face (h.front hs) (by rw [hfront]) (by rw [hfront]) hview k.rvc)
    (by rw [k.gle]) k.rvc k.phase

theorem State.setMode_offHolds {s : State} (h : s.offHolds shown) (m : PartMode) : (s.setMode m).offHolds shown :=
  State.offHolds_of h (State.feedLaw_of_same h.feed rfl rfl rfl (fun hb => State.bannersLaw_of_same hb (hr := rfl) (hs := fun _ => rfl) (hd := rfl)))
    (fun hs => h.front hs) rfl (.inl rfl) rfl

/-! ## Entry to RUN (R7, R23, R76, R97) -/

/-- The ports UIF, FF1 and FF2 are disabled. -/
def State.feedsOff (s : State) : Prop := s.fdp.uif.enabled = false ∧ s.fdp.ff1.enabled = false ∧ s.fdp.ff2.enabled = false

theorem State.runEffects_cmp (s : State) :
    s.runEffects.cmp = { s.cmp with front := { s.cmp.front with nextFrame := some (afterUs s.timebase (outputPeriod (calPanelMode s.image).refresh)) } } := by
  unfold State.runEffects State.startFrontFrames State.setFront State.image
  simp

theorem State.runEffects_fdp (s : State) : s.runEffects.fdp = s.enableFeeds.fdp := by
  unfold State.runEffects
  simp

theorem State.runEffects_feedLaw {s : State} (h : s.feedLaw shown) (hd : s.feedsOff) : s.runEffects.feedLaw shown := by
  obtain ⟨hu, h1, h2⟩ := hd
  have feeds : s.enableFeeds.feedLaw shown :=
    State.enablePort_feedLaw (State.enablePort_feedLaw (State.enablePort_feedLaw h hu) h1) h2
  have hailed := State.MovesIn.feedLaw ((s.enableFeeds.judgeHailing_moves .s1).trans (State.judgeHailing_moves _ .s2)) feeds
  exact State.setFront_feedLaw hailed rfl rfl

theorem State.runEffects_offHolds {s : State} (h : s.offHolds shown) (hd : s.feedsOff) : s.runEffects.offHolds shown := by
  have hc := s.runEffects_cmp
  exact State.offHolds_of h (State.runEffects_feedLaw h.feed hd)
    (fun hs => State.frontLaw_of_face (h.front hs) (by rw [hc]) (by rw [hc]) (by rw [hc]) (by simp [Rvc.forgets]))

theorem State.runEffects_portLaw {s : State} (off : s.rvc.state = .off) (hm : s.cli.mode = .run) (hp : s.fdp.camPower = s.cmp.preview)
    (hc : s.fdp.cam.enabled = s.fdp.camPower) : s.runEffects.portLaw := by
  unfold State.portLaw State.rvcOff State.inRun
  rw [s.runEffects_fdp, s.runEffects_cmp, State.runEffects_rvc, State.runEffects_cli_mode, off, hm]
  exact ⟨hp, hc, rfl, rfl, rfl, fun hs => absurd hs (by decide)⟩

/-- In STANDBY the controller, preview and the ports are off. -/
theorem State.viewHolds.standby {s : State} (h : s.viewHolds shown) (hm : s.cli.mode = .standby) :
    s.rvc.state = .off ∧ s.cmp.preview = false ∧ s.fdp.camPower = s.cmp.preview ∧ s.fdp.cam.enabled = s.fdp.camPower ∧ s.feedsOff := by
  obtain ⟨-, -, -, -, -, -, -, standby⟩ := h.rvc
  obtain ⟨hp, hc, hu, h1, h2, hprev⟩ := h.power
  have run : s.inRun = false := by
    unfold State.inRun
    rw [hm]
    rfl
  rw [State.rvcOff, standby hm] at hp
  exact ⟨standby hm, hprev hm, hp, hc, hu.trans run, h1.trans run, h2.trans run⟩

theorem State.post_portLaw {s : State} (h : s.portLaw) (n : Nat) (b : NoticeBody) : (s.post n b).portLaw := by
  unfold State.portLaw State.inRun
  rw [State.post_cli_mode]
  exact h

theorem State.enterRun_holds {s : State} (h : s.offHolds shown) (hd : s.feedsOff) (hp : s.fdp.camPower = s.cmp.preview)
    (hc : s.fdp.cam.enabled = s.fdp.camPower) (cause : ModeCause) : (s.enterRun cause).offHolds shown ∧ (s.enterRun cause).portLaw :=
  ⟨State.MovesIn.offHolds (State.post_moves _ _ _) (State.runEffects_offHolds (State.setMode_offHolds h .run) hd),
    State.post_portLaw (State.runEffects_portLaw (s := s.setMode .run) h.off rfl hp hc) _ _⟩

theorem State.enterRun_viewHolds {s : State} (h : s.viewHolds shown) (hp : s.phase = .running) (hm : s.cli.mode = .standby) (cause : ModeCause) :
    (s.enterRun cause).viewHolds shown := by
  obtain ⟨off, -, hpow, hcam, hd⟩ := h.standby hm
  obtain ⟨hoff, hport⟩ := State.enterRun_holds (h.offHolds hp off) hd hpow hcam cause
  refine hoff.view ?_ hport
  unfold State.gearLaw
  rw [State.enterRun_vin, State.enterRun_rvc]
  exact h.gear

/-! ## Confirmed levels (R9, R29) -/

theorem State.setGear_offHolds {s : State} (h : s.offHolds shown) (raw : Bool) (gear : Gear) (candidate : Option GearCandidate) :
    (s.setGear raw gear candidate).offHolds shown :=
  State.offHolds_of h (State.feedLaw_of_same h.feed rfl rfl rfl (fun hb => State.bannersLaw_of_same hb (hr := rfl) (hs := fun _ => rfl) (hd := rfl)))
    (fun hs => h.front hs) rfl (.inl rfl) rfl

theorem State.setGear_near {s : State} (h : s.viewHolds shown) (hp : s.phase = .running) (raw : Bool) (gear : Gear) :
    (s.setGear raw gear none).nearHolds shown :=
  State.nearHolds_of_same (h.near hp) rfl (fun _ hc => by cases hc) rfl rfl rfl rfl rfl rfl rfl

/-- R9: the part is in RUN when the controller acts on a confirmed REVERSE. -/
theorem State.reverseWake_near {s : State} (h : s.viewHolds shown) (hp : s.phase = .running) (raw : Bool) :
    ((s.setGear raw .reverse none).reverseWake .reverse).nearHolds shown
    ∧ ((s.setGear raw .reverse none).reverseWake .reverse).cli.mode ≠ .standby
    ∧ ((s.setGear raw .reverse none).reverseWake .reverse).rvc = s.rvc
    ∧ ((s.setGear raw .reverse none).reverseWake .reverse).vin.gear = .reverse := by
  unfold State.reverseWake
  split
  · next hs =>
    have hm : s.cli.mode = .standby := hs.2
    obtain ⟨off, -, hpow, hcam, hd⟩ := h.standby hm
    obtain ⟨hoff, hport⟩ := State.enterRun_holds (State.setGear_offHolds (h.offHolds hp off) raw .reverse none) hd hpow hcam .reverseWake
    refine ⟨hoff.near ?_ hport, ?_, ?_, ?_⟩
    · rw [State.enterRun_vin]
      exact fun _ hc => by cases hc
    · rw [State.enterRun_mode]
      decide
    · rw [State.enterRun_rvc]
      rfl
    · rw [State.enterRun_vin]
      rfl
  · next hs => exact ⟨State.setGear_near h hp raw .reverse, fun hm => hs ⟨rfl, hm⟩, rfl, rfl⟩

theorem State.debounceExpired_viewHolds {s : State} (h : s.viewHolds shown) (hp : s.phase = .running) : s.debounceExpired.viewHolds shown := by
  obtain ⟨hcand, hgear⟩ := h.gear
  unfold State.debounceExpired
  split
  · exact h
  next c hc =>
  split
  · have hl := hcand c hc
    cases hlev : c.level with
    | reverse =>
      obtain ⟨near, mode, rvc, gear⟩ := State.reverseWake_near h hp s.vin.gearRaw
      have hn : s.vin.gear ≠ .reverse := fun hg => hl (hlev.trans hg.symm)
      refine State.takeLevel_reverse_viewHolds near gear mode ?_ c.edge
      rw [rvc]
      cases hs : s.rvc.state with
      | off => exact .inl rfl
      | held => exact .inr rfl
      | cueing => exact absurd (hgear.2 (.inl hs)) hn
      | live => exact absurd (hgear.2 (.inr (.inl hs))) hn
      | fault => exact absurd (hgear.2 (.inr (.inr hs))) hn
    | notReverse =>
      have hr : s.vin.gear = .reverse := by
        cases hg : s.vin.gear with
        | reverse => rfl
        | notReverse => exact absurd (hlev.trans hg.symm) hl
      have hs := hgear.1 hr
      have wake : (s.setGear s.vin.gearRaw .notReverse none).reverseWake .notReverse = s.setGear s.vin.gearRaw .notReverse none :=
        if_neg (fun hw => by cases hw.1)
      rw [wake]
      refine State.takeLevel_notReverse_viewHolds (State.setGear_near h hp s.vin.gearRaw .notReverse) (by exact fun hg => by cases hg) ?_ hs c.edge
      exact h.not_standby (fun ho => by rw [ho] at hs; simp at hs)
  · exact h

/-! ## Entry to STANDBY (R7, R114) -/

theorem State.compositorStandby_faces (s : State) :
    s.compositorStandby.cmp.preview = false ∧ s.compositorStandby.cmp.front.shown = s.cmp.front.shown
    ∧ s.compositorStandby.cmp.front.hostBanner = s.cmp.front.hostBanner ∧ s.compositorStandby.cmp.frontView = s.cmp.frontView := by
  obtain ⟨-, -, hs, hb⟩ := s.cmp.front.takePending_source
  obtain ⟨fv, fp, fh, fs, -, -⟩ := State.judgeFront_faces (({ s with cmp := { s.cmp with preview := false } } : State).setFront s.cmp.front.takePending)
  exact ⟨fp, fs.trans hs, fh.trans hb, fv⟩

theorem State.compositorStandby_offHolds {s : State} (h : s.offHolds shown) : s.compositorStandby.offHolds shown := by
  obtain ⟨-, hs, hb, hv⟩ := s.compositorStandby_faces
  have off : ({ s with cmp := { s.cmp with preview := false } } : State).feedLaw shown :=
    ⟨h.feed.ports, h.feed.guide, h.feed.plane, fun hs => State.bannersLaw_of_same (h.feed.banners hs) (hr := rfl)⟩
  obtain ⟨he, hc, -, -⟩ := s.cmp.front.takePending_source
  exact State.offHolds_of h (State.setFront_feedLaw (State.judgeFront_feedLaw (State.setFront_feedLaw off he hc)) rfl rfl)
    (fun hsh => State.frontLaw_of_face (h.front hsh) hs hb hv (by simp [Rvc.forgets]))

theorem State.judgeCameraPower_offHolds {s : State} (h : s.offHolds shown) (cam : s.fdp.cam.enabled = s.fdp.camPower) :
    s.judgeCameraPower.offHolds shown := by
  have hf := s.judgeCameraPower_facing
  simp only [State.facing, Prod.mk.injEq] at hf
  obtain ⟨hfront, hview, -, hmode⟩ := hf
  exact State.offHolds_of h (State.judgeCameraPower_feedLaw h.feed cam)
    (fun hs => State.frontLaw_of_face (h.front hs) (by rw [hfront]) (by rw [hfront]) hview (by simp [Rvc.forgets])) hmode

theorem State.clearPort_offHolds {s : State} (h : s.offHolds shown) (f : Feed) (e : Bool) : (s.clearPort f e).offHolds shown := by
  have hf := s.takesPort_facing f { (s.port f).cleared with enabled := e }
  rw [← State.clearPort_eq] at hf
  simp only [State.facing, Prod.mk.injEq] at hf
  obtain ⟨hfront, hview, -, hmode⟩ := hf
  exact State.offHolds_of h (State.clearPort_feedLaw h.feed f e)
    (fun hs => State.frontLaw_of_face (h.front hs) (by rw [hfront]) (by rw [hfront]) hview (by simp [Rvc.forgets])) hmode

theorem State.disableFeeds_fdp (s : State) :
    s.disableFeeds.feedsOff ∧ s.disableFeeds.fdp.cam = s.fdp.cam ∧ s.disableFeeds.fdp.camPower = s.fdp.camPower := by
  unfold State.feedsOff State.disableFeeds State.disablePort
  simp only [State.clearPort_eq, State.takesPort_fdp]
  exact ⟨⟨rfl, rfl, rfl⟩, rfl, rfl⟩

theorem State.disableFeeds_preview (s : State) : s.disableFeeds.cmp.preview = s.cmp.preview := by
  have one (x : State) (f : Feed) : (x.disablePort f).cmp.preview = x.cmp.preview := by
    have hf := x.takesPort_facing f { (x.port f).cleared with enabled := false }
    simp only [State.facing, Prod.mk.injEq] at hf
    exact hf.2.2.1
  exact (one _ .ff2).trans ((one _ .ff1).trans (one s .uif))

/-- The links, the menus, the keys and the chimes at an entry to STANDBY. -/
def State.quieted (s : State) : State :=
  (((((((s.setMode .standby).detach .s1 .detached false).detach .s2 .detached false).closeMenu .s1 .standby false).closeMenu .s2 .standby
    false).releaseKey .s1 false).releaseKey .s2 false).chimesStandby

theorem State.enterStandby_eq (s : State) : s.enterStandby = s.quieted.compositorStandby.judgeCameraPower.disableFeeds.postMode .request := rfl

theorem State.quieted_touches (s : State) : (s.setMode .standby).Touches s.quieted := by
  have links := ((s.setMode .standby).detach_moves (deep := False) .s1 .detached false).trans (State.detach_moves _ .s2 .detached false)
  exact (((links.trans (State.closeBoth_moves _ .standby false)).tail (.release .s1 false)).tail (.release .s2 false)).tail .chimesOff

theorem State.enterStandby_viewHolds {s : State} (h : s.viewHolds shown) (hp : s.phase = .running) (ho : s.rvc.state = .off) :
    s.enterStandby.viewHolds shown := by
  have touched := s.quieted_touches
  have k := touched.calm
  have quiet := touched.offHolds (State.setMode_offHolds (h.offHolds hp ho) .standby)
  obtain ⟨-, hcam, -⟩ := h.power
  have cam : s.quieted.compositorStandby.fdp.cam.enabled = s.quieted.compositorStandby.fdp.camPower := by
    rw [State.compositorStandby_fdp, k.fdp]
    exact hcam
  have powered := State.judgeCameraPower_offHolds (State.compositorStandby_offHolds quiet) cam
  obtain ⟨hpow, hen, -⟩ := State.judgeCameraPower_fdp cam
  obtain ⟨hprev, -⟩ := s.quieted.compositorStandby_faces
  have hf := s.quieted.compositorStandby.judgeCameraPower_facing
  simp only [State.facing, Prod.mk.injEq] at hf
  obtain ⟨-, -, hprev', -⟩ := hf
  have disabled : s.quieted.compositorStandby.judgeCameraPower.disableFeeds.offHolds shown :=
    State.clearPort_offHolds (State.clearPort_offHolds (State.clearPort_offHolds powered .uif false) .ff1 false) .ff2 false
  obtain ⟨⟨hu, h1, h2⟩, hc, hcp⟩ := s.quieted.compositorStandby.judgeCameraPower.disableFeeds_fdp
  have mode : s.quieted.compositorStandby.judgeCameraPower.disableFeeds.cli.mode = .standby := by
    rw [State.disableFeeds_cli_mode, State.judgeCameraPower_cli_mode, State.compositorStandby_cli_mode, k.mode]
    rfl
  have off : s.quieted.compositorStandby.rvcOff = true := by
    unfold State.rvcOff
    rw [State.compositorStandby_rvc, quiet.off]
    rfl
  have preview : s.quieted.compositorStandby.judgeCameraPower.disableFeeds.cmp.preview = false := by
    rw [State.disableFeeds_preview, hprev', hprev]
  have view : s.quieted.compositorStandby.judgeCameraPower.disableFeeds.viewHolds shown := by
    refine disabled.view ?_ ?_
    · have state : s.quieted.rvc.state = s.rvc.state := quiet.off.trans ho.symm
      unfold State.gearLaw
      simp only [State.disableFeeds_vin, State.disableFeeds_rvc, State.judgeCameraPower_vin, State.judgeCameraPower_rvc, State.compositorStandby_vin,
        State.compositorStandby_rvc]
      rw [k.vin, state]
      exact h.gear
    · have state : s.quieted.compositorStandby.judgeCameraPower.disableFeeds.rvcOff = true := decide_eq_true disabled.off
      have run : s.quieted.compositorStandby.judgeCameraPower.disableFeeds.inRun = false := by
        unfold State.inRun
        rw [mode]
        rfl
      unfold State.portLaw
      rw [state, preview, run, hc, hcp, hpow, off, hprev]
      refine ⟨rfl, ?_, hu, h1, h2, fun _ => rfl⟩
      rw [hen, hpow, off, hprev]
  rw [State.enterStandby_eq]
  exact State.MovesIn.viewHolds (State.post_moves _ _ _) view

/-! ## The start mode (R30, R170) -/

theorem State.startMode_viewHolds {s : State} (h : s.viewHolds shown) (hp : s.phase = .loading) : s.startMode.viewHolds shown := by
  obtain ⟨hm, ho⟩ := h.waits (by rw [hp]; decide)
  obtain ⟨-, hprev, hpow, hcam, hd⟩ := h.standby hm
  obtain ⟨cue, hold, view, chime, -⟩ := h.rvc
  have began (m : PartMode) (map : List LineSetting) :
      ({ s with phase := .running, cli := { s.cli with mode := m, lineMap := map } } : State).offHolds shown :=
    ⟨State.feedLaw_of_same h.feed rfl rfl rfl (fun hb => State.bannersLaw_of_same hb (hr := rfl)), fun hs => h.front hs, rfl, ⟨cue, hold, view, chime⟩,
      ho, h.track⟩
  have posted := State.MovesIn.offHolds (State.post_moves _ 0 (.start s.cli.startCause.notice)) (began (calStartMode s.image) (calLineMap s.image))
  have watched : ((({ s with phase := .running, cli := { s.cli with mode := calStartMode s.image, lineMap := calLineMap s.image } } : State).post 0
      (.start s.cli.startCause.notice)).watchGear).offHolds shown := State.setGear_offHolds posted _ _ _
  have gear (x : State) (hx : x.rvc.state = .off) : x.watchGear.gearLaw := by
    refine ⟨fun c hc => ?_, ?_⟩
    · have hc' : (if x.vin.gearRaw then some (x.newCandidate .reverse) else none) = some c := hc
      split at hc'
      · injection hc' with hc'
        rw [← hc']
        exact fun he => by cases he
      · cases hc'
    · show Gear.notReverse = .reverse ↔ x.rvc.state = .cueing ∨ x.rvc.state = .live ∨ x.rvc.state = .fault
      rw [hx]
      decide
  unfold State.startMode
  dsimp only
  split
  · next hr =>
    refine (State.runEffects_offHolds watched hd).view ?_ (State.runEffects_portLaw watched.off (of_decide_eq_true hr) hpow hcam)
    unfold State.gearLaw
    rw [State.runEffects_vin, State.runEffects_rvc]
    exact gear _ ho
  · next hr =>
    refine watched.view (gear _ ho) ?_
    have run : (({ s with phase := .running, cli := { s.cli with mode := calStartMode s.image, lineMap := calLineMap s.image } } : State).post 0
      (.start s.cli.startCause.notice)).watchGear.inRun = false := Bool.eq_false_iff.2 hr
    unfold State.portLaw
    rw [run]
    refine ⟨?_, hcam, hd.1, hd.2.1, hd.2.2, fun _ => hprev⟩
    have off : (({ s with phase := .running, cli := { s.cli with mode := calStartMode s.image, lineMap := calLineMap s.image } } : State).post 0
      (.start s.cli.startCause.notice)).watchGear.rvcOff = true := decide_eq_true ho
    rw [off]
    exact hpow

/-! ## The warm restart (R12, R25, R114) -/

/-- R114: the last judgements of the rear rows at a warm restart leave both banners as they should be. -/
theorem State.judgeBothRear_banners (s : State) :
    ((((s.judgeRear .s1).judgeRearBanner .s1).judgeRear .s2).judgeRearBanner .s2).bannersLaw := by
  refine State.judgeRearBanner_banners (fun j hj => ?_)
  cases j with
  | s2 => exact absurd rfl hj
  | s1 =>
    refine State.rearBannerLaw_of_as ((s.judgeRear .s1).judgeRearBanner_law .s1) ?_ ?_ (State.locksAs_of_eq ?_)
    · rw [State.judgeRear_other _ (by decide)]
      exact Row.bannerAs_refl _
    · rw [State.link, State.judgeRear_rsl]
      exact Iff.rfl
    · exact State.judgeRear_fdp _ _

/-- The judgements of the front row do not read the rear rows. -/
theorem State.judgeFront_setRearRow (s : State) (i : Seat) (r : Row) :
    (s.setRearRow i r).judgeFront.judgeFrontBanner = s.judgeFront.judgeFrontBanner.setRearRow i r := by
  have same : (s.setRearRow i r).judgeFront = s.judgeFront.setRearRow i r := by
    unfold State.judgeFront
    rw [apply_ite (fun x : State => x.setRearRow i r)]
    rfl
  rw [same]
  rfl

theorem State.frontWarm_viewHolds {s : State} (h : s.viewHolds shown) (src : Source) :
    (s.setFront (s.cmp.front.warm src)).judgeFront.judgeFrontBanner.viewHolds shown := by
  obtain ⟨hv, hp, -⟩ := (s.setFront (s.cmp.front.warm src)).judgeFront_faces
  have feed : (s.setFront (s.cmp.front.warm src)).judgeFront.judgeFrontBanner.feedLaw shown :=
    State.setFront_feedLaw (State.judgeFront_feedLaw (State.setFront_feedLaw h.feed (r := s.cmp.front.warm src) rfl rfl)) rfl rfl
  refine State.viewHolds_of_still h feed (fun hs => ⟨?_, rfl⟩) (by simp) hp
  rw [State.judgeFrontBanner_rvc, State.judgeFront_rvc]
  exact hv.trans (h.front hs).1

/-- R114: the rear rows' banners are judged last, whatever they were before. -/
theorem State.rearWarm_viewHolds {s : State} (h : s.viewHolds shown) (r1 r2 : Row) :
    (((((s.setRearRow .s1 r1).setRearRow .s2 r2).judgeRear .s1).judgeRearBanner .s1).judgeRear .s2).judgeRearBanner .s2 |>.viewHolds shown :=
  State.viewHolds_of_calm h (State.calmAs_of_same) (fun _ => State.judgeBothRear_banners _)

theorem State.compositorWarm_viewHolds {s : State} (h : s.viewHolds shown) : s.compositorWarm.viewHolds shown := by
  have front := State.rearWarm_viewHolds (State.frontWarm_viewHolds h (calRoute s.image 1)) ((s.rearRow .s1).warm (calRoute s.image 2))
    ((s.rearRow .s2).warm (calRoute s.image 3))
  rw [← State.judgeFront_setRearRow, ← State.judgeFront_setRearRow] at front
  exact front

/-- R25: a port that is set to NO_SIGNAL and stays enabled as it was. -/
theorem State.resetPort_viewHolds {s : State} (h : s.viewHolds shown) {f : Feed} (hf : f ≠ .cam) :
    (s.clearPort f (s.port f).enabled).viewHolds shown := by
  rw [State.clearPort_eq]
  exact State.takesPort_viewHolds h ((s.port f).cleared_law _) rfl (fun hc => absurd hc hf)

theorem State.feedsWarm_viewHolds {s : State} (h : s.viewHolds shown) : s.feedsWarm.viewHolds shown :=
  State.resetPort_viewHolds (State.resetPort_viewHolds (State.resetPort_viewHolds h (f := .uif) (by decide)) (f := .ff1) (by decide)) (f := .ff2) (by decide)

/-- The control link alone has changed, and the part mode is as it was. -/
theorem State.setCli_viewHolds {s : State} (h : s.viewHolds shown) {c : Cli} (hm : c.mode = s.cli.mode) : ({ s with cli := c } : State).viewHolds shown :=
  State.viewHolds_of_same h (State.calmAs_of_same (mode := hm) (fore := rfl)) (hr := rfl) (hl := rfl)

theorem State.warmRestart_viewHolds {s : State} (h : s.viewHolds shown) : s.warmRestart.viewHolds shown := by
  have cleared : ({ s with cli := s.cli.warm } : State).viewHolds shown := State.setCli_viewHolds h rfl
  have seats := State.MovesIn.viewHolds ((State.menusWarm_moves _).trans ((State.seatWarm_moves _ .s1).trans (State.seatWarm_moves _ .s2))) cleared
  have outputs := State.feedsWarm_viewHolds (State.compositorWarm_viewHolds seats)
  refine State.MovesIn.viewHolds ?_ outputs
  have links := (State.linkWarm_moves (deep := False) ((({ s with cli := s.cli.warm } : State).menusWarm.seatWarm .s1).seatWarm .s2).compositorWarm.feedsWarm
    .s1).trans (State.linkWarm_moves _ .s2)
  exact (((links.tail (.retarget .s1)).tail (.retarget .s2)).tail .chimesWarm).trans (State.post_moves _ _ _)

theorem State.replySent_viewHolds {s : State} (h : s.viewHolds shown) : s.replySent.viewHolds shown := by
  unfold State.replySent
  split
  · exact h
  dsimp only
  split
  · exact State.warmRestart_viewHolds (State.setCli_viewHolds h rfl)
  · exact State.setCli_viewHolds h rfl

theorem State.frameEnded_viewHolds {s : State} (h : s.viewHolds shown) : s.frameEnded.viewHolds shown := by
  unfold State.frameEnded
  split
  · exact h
  split
  · dsimp only
    split
    · exact State.replySent_viewHolds (State.setCli_viewHolds h rfl)
    · exact State.setCli_viewHolds h rfl
    · exact State.setCli_viewHolds h rfl
  · exact h

/-! ## The control link's events -/

theorem Cli.receive_mode (c : Cli) (now : Stamp) (b : Byte) (high : Bool) : (c.receive now b high).mode = c.mode := by
  unfold Cli.receive Cli.assemble
  split
  · split <;> rfl
  · split
    · split
      · rfl
      · split <;> rfl
    · rfl

theorem State.byteWatchExpired_mode (s : State) : s.byteWatchExpired.cli.mode = s.cli.mode := by
  unfold State.byteWatchExpired
  split
  · rfl
  · split <;> rfl

theorem State.checkFrame_mode (s : State) : s.checkFrame.cli.mode = s.cli.mode := by
  unfold State.checkFrame Cli.joinRequest
  split
  · rfl
  · dsimp only
    split
    · split <;> rfl
    · rfl

theorem State.dispatchUnknown_mode (s : State) : s.dispatchUnknown.cli.mode = s.cli.mode := by
  unfold State.dispatchUnknown
  split
  · rfl
  · split <;> rfl

/-! ## Every event, and every request -/

theorem eventOf_viewHolds (c : Instr) {s : State} (h : s.viewHolds shown) (hp : s.phase = .running) : (eventOf c s).viewHolds shown := by
  have touches {x : State} (m : s.Touches x) : x.viewHolds shown := State.MovesIn.viewHolds m h
  have calm {x : State} (k : x.calmAs s) (hr : x.cmp.rear = s.cmp.rear) (hl : x.rsl = s.rsl) : x.viewHolds shown := State.viewHolds_of_same h k hr hl
  cases c with
  | receiveByte t b high =>
    exact calm (x := s.receiveByte b high) (State.calmAs_of_same (mode := s.cli.receive_mode _ _ _)) (by simp) (by simp)
  | interByteWatchExpiry t => exact calm (x := s.byteWatchExpired) (State.calmAs_of_same (mode := s.byteWatchExpired_mode)) (by simp) (by simp)
  | candidateFrameComplete t => exact calm (x := s.checkFrame) (State.calmAs_of_same (mode := s.checkFrame_mode)) (by simp) (by simp)
  | unknownRequest t => exact calm (x := s.dispatchUnknown) (State.calmAs_of_same (mode := s.dispatchUnknown_mode)) (by simp) (by simp)
  | transmitFrameEnd t => exact State.frameEnded_viewHolds h
  | vehicleWatchExpiry t w => exact State.watchExpired_viewHolds h w
  | frameStart t f => exact State.frameStart_viewHolds h hp f
  | frameWatchExpiry t f => exact State.frameWatchExpired_viewHolds h hp f
  | gearEdge t high => exact State.gearEdge_viewHolds h high
  | gearDebounceExpiry t => exact State.debounceExpired_viewHolds h hp
  | cueDeadlineExpiry t => exact State.cueExpired_viewHolds h hp
  | holdTimerExpiry t => exact State.holdExpired_viewHolds h hp
  | computationComplete t => exact State.computationDone_viewHolds h
  | badLinkMessage t i m => exact touches (s.takeMessage_moves i m)
  | presenceGained t i => exact touches ((s.setPresent_moves i true).trans (State.judgeHailing_moves _ i))
  | presenceLost t i => exact touches ((s.setPresent_moves i false).trans (State.detach_moves _ i _ _))
  | hailTimerExpiry t i => exact touches (s.hailExpired_moves i)
  | offers t i body => exact touches (s.takeOffers_moves i body)
  | accept t i => exact touches (s.takeAccept_moves i)
  | reject t i => exact touches (s.takeReject_moves i)
  | claimTimerExpiry t i => exact touches (s.claimExpired_moves i)
  | pollTimerExpiry t i => exact touches (s.pollExpired_moves i)
  | status t i body => exact touches (s.takeStatus_moves i body)
  | partnerReset t i => exact touches (s.takeReset_moves i _)
  | holdOffTimerExpiry t i => exact touches (s.holdOffExpired_moves i)
  | settleTimerExpiry t i => exact touches (s.settleExpired_moves i)
  | outputFrameStart t o => exact State.outputFrame_viewHolds h o
  | idleTimerExpiry t i => exact touches (s.idleExpired_moves i)
  | repeatTimerExpiry t i => exact touches (s.keyRepeat_moves i)
  | stepEnd t v => exact touches (.single (.stepEnds v))
  | beepStart t => exact touches (.single .beeps)
  | duckStep t i => exact touches (.single (.ducks i))
  | programmingComplete t fault => exact touches (.single (.programmed fault))
  | _ => exact h

/-- R16: a request that a part in STANDBY refuses reaches its owner in RUN alone. -/
theorem Acts.viewHolds {p : List Byte} {s s' : State} {c : Instr} (ha : Acts p s c s') {row : RequestRow} (hrow : requestRow c = some row)
    (hm : s.cli.mode = .run ∨ row.inStandby = true) (h : s.viewHolds shown) (hp : s.phase = .running) : s'.viewHolds shown := by
  have touches {x : State} (m : s.Touches x) : x.viewHolds shown := State.MovesIn.viewHolds m h
  cases ha with
  | nothing => exact h
  | toRun t hm' => exact State.enterRun_viewHolds h hp hm' _
  | toStandby t hm' ho => exact State.enterStandby_viewHolds h hp ho
  | restart => exact State.setCli_viewHolds h rfl
  | noticeSelect => exact State.setCli_viewHolds h rfl
  | statusLineMap => exact State.setCli_viewHolds h rfl
  | vehicleReport =>
    have taken : ({ s with vin := s.vin.take (readReport p) s.timebase } : State).viewHolds shown := State.setVin_viewHolds h rfl rfl
    exact State.deliver_viewHolds taken hp _
  | feedFormat t f fmt => exact State.handLock_viewHolds h hp (Port.reformed_law (h.feed.ports f) fmt _) (Port.reformed_enabled _ _ _)
  | reverseDismiss t ho => exact State.enterOff_viewHolds (h.near hp) (h.gear_held ho) _
  | guideQuery => exact State.guideTrigger_viewHolds h
  | linkPolicySet t i m => exact touches (State.setLink_moves ⟨rfl, rfl, rfl, rfl, rfl, rfl, .refl _⟩)
  | linkReoffer t i => exact touches (s.reoffer_moves i)
  | linkRestart t i => exact touches (s.enterRecovery_moves i _)
  | linkCommand t i kind hk hs hq => exact touches (.single (.command i kind (hostCommand_noBacklight hk) hs hq))
  | descriptorReadStart t i n => exact touches (State.setLink_moves ⟨rfl, rfl, rfl, rfl, rfl, rfl, .refl _⟩)
  | descriptorReadContinue t i n => exact touches (State.setLink_moves ⟨rfl, rfl, rfl, rfl, rfl, rfl, .refl _⟩)
  | routeSet t o => exact State.setPending_viewHolds h o _
  | cameraPreview t on ho =>
    cases hrow
    exact State.setPreview_viewHolds h hp ho (hm.resolve_right (by decide)) on
  | bannerSet t o on => exact State.setBanner_viewHolds h o on
  | pageLoadNew t page hc hs => exact touches (.single (.put page hs))
  | pageLoadPresent t page old hc hs => exact touches (.trans (.single (.put page hs)) (State.adjustBoth_moves _ _))
  | pageRemove t id => exact touches (.single (.remove id))
  | pageClear => exact touches (.single .clear)
  | itemSet t page n it kind enabled id => exact touches (s.changeItem_moves _ _ _ _)
  | seatRootSet t i id => exact touches (.single (.roots _))
  | menuOpen t i id page =>
    exact State.viewHolds_of_calm h (State.calmAs_of_same (s' := s.openMenu i page)) (fun hb => State.bannersLaw_of_same hb)
  | menuClose t i => exact touches (.single (.closes i .request false))
  | zoneLevelSet t i v hv => exact touches (.trans (.single (.level i v hv)) (State.post_moves _ _ _))
  | backlightPolicySet t i policy threshold =>
    have set : s.Touches (s.setSeat i { s.seat i with policy := policy, threshold := threshold }) :=
      .single (.seat i _ ⟨rfl, rfl, rfl, rfl, rfl, rfl, .inl rfl⟩)
    exact touches (set.tail (.retarget i))
  | chimePatternLoad t slot pat => exact touches (.single (.pattern slot pat))
  | chimePlay t r hr => exact touches (.single (.arrives r (by simp [readPlay_origin hr])))
  | chimeCancel t k ch hf =>
    have host : ch.origin = .host := of_decide_eq_true (Bool.and_eq_true_iff.1 (List.find?_some (p := isHost k) hf)).2
    rw [State.endChime_host host]
    exact touches (.trans (.single (.removes (isHost k))) (State.post_moves _ _ _))
  | frontLevelSet t v hv => exact touches (.single (.frontLevel v hv))
  | calibrationWrite t no index v => exact State.writeField_viewHolds h no index v
  | calibrationProgram t n => exact touches (.single (.programs n))

/-! ## A part that does not run -/

theorem State.coldBlocks_viewHolds (s : State) (cause : StartCause) (cal : Cal) (phase : Phase) (high : Bool) :
    ({ s.coldBlocks cause cal with phase := phase, resetN := high } : State).viewHolds shown := by
  generalize hx : ({ s.coldBlocks cause cal with phase := phase, resetN := high } : State) = x
  have cli : x.cli = coldCli cause := hx ▸ rfl
  have fdp : x.fdp = coldFdp := hx ▸ rfl
  have vin : x.vin = coldVin s.vin.gearRaw := hx ▸ rfl
  have rvc : x.rvc = coldRvc := hx ▸ rfl
  have gle : x.gle = coldGle := hx ▸ rfl
  have rsl (i : Seat) : (x.link i).state = .detached := by
    cases i <;> exact hx ▸ rfl
  have cmp : x.cmp = coldCmp cal.working := hx ▸ rfl
  clear hx
  have port (f : Feed) : (x.port f).law ∧ (x.port f).lock = .noSignal := by
    rw [State.port, fdp]
    cases f <;> exact ⟨Port.cleared_law (coldPort _) false, rfl⟩
  refine ⟨⟨fun f => (port f).1, ?_, fun _ => ?_, fun _ i => ?_⟩, fun _ => ?_, fun _ => ?_, ?_, ?_, ?_, ?_⟩
  · unfold State.guideCore
    rw [gle, cmp, (port .cam).2]
    simp [coldGle, coldCmp]
  · unfold State.planeLaw
    rw [cmp, (port .cam).2]
    simp [coldCmp]
  · unfold State.rearBannerLaw State.rearRow
    rw [rsl, cmp]
    cases i <;> rfl
  · unfold State.frontLaw State.rvcOff
    rw [cmp, rvc]
    exact ⟨rfl, rfl⟩
  · rw [cli, rvc]
    exact ⟨rfl, rfl⟩
  · unfold State.rvcLaw
    rw [rvc, (port .cam).2]
    simp [coldRvc]
  · unfold State.gearLaw
    rw [vin, rvc]
    simp [coldVin, coldRvc]
  · unfold State.portLaw State.rvcOff State.inRun
    rw [fdp, rvc, cmp, cli]
    exact ⟨rfl, rfl, rfl, rfl, rfl, fun _ => rfl⟩
  · unfold State.trackLaw
    rw [gle, rvc]
    decide

theorem recordOf_viewHolds (c : Instr) {s : State} (h : s.viewHolds shown) : (recordOf c s).viewHolds shown := by
  cases c with
  | gearEdge t high => exact State.setVin_viewHolds h rfl rfl
  | presenceGained t i => exact State.MovesIn.viewHolds (s.setPresent_moves i true) h
  | presenceLost t i => exact State.MovesIn.viewHolds (s.setPresent_moves i false) h
  | _ => exact h

theorem viewHolds_keepsLaw (shown : Prop) (c : Instr) : KeepsLaw (State.viewHolds shown) (State.viewHolds shown) c where
  time s t h := State.viewHolds_of_same h (State.calmAs_of_same (s' := s.atTime t))
  opens _ h := h
  settles s h := State.viewHolds_of_same h (State.calmAs_of_same (s' := s.settle) (mode := Cli.sendNext_mode _ _))
  answers s r h := State.viewHolds_of_same h (State.calmAs_of_same (s' := s.answer r) (mode := rfl))
  event _ hp h := eventOf_viewHolds c h hp
  owner _ hrow _ _ _ hp hm h _ ha := ha.viewHolds hrow hm h hp
  record _ _ h := recordOf_viewHolds c h
  starts _ hp h := State.startMode_viewHolds h hp
  cold _ s h := by
    rcases coldOf_cases c s with he | ⟨cause, he⟩ | ⟨cause, he⟩
    · rw [he]
      exact h
    · rw [he]
      exact s.coldBlocks_viewHolds cause _ _ _
    · rw [he]
      exact s.coldBlocks_viewHolds cause _ _ _

theorem step_viewHolds {s s' : State} (h : s.viewHolds shown) (hstep : step s = .next s') : s'.viewHolds shown :=
  step_keepsLaw (fun s t h => State.viewHolds_of_same h (State.calmAs_of_same (s' := s.atTime t)))
    (fun s l h => State.viewHolds_of_same h (State.calmAs_of_same (s' := { s with pending := l }) (fore := rfl)) (hr := rfl) (hl := rfl))
    (fun c _ _ h hex => (viewHolds_keepsLaw shown c).exec h hex) h hstep

end Sys2Proof.Machine

open Sys2Proof Sys2Proof.Machine

/-- Settles O53: every event keeps what the controller, the ports, the engine and the rows agree on. The two parts are one law, `State.viewHolds`,
read without and with what the rows show. -/
theorem reverseViewLawsAreKept : Obligations.ReverseViewLawsAreKept := by
  refine ⟨fun s s' h hstep => ?_, fun s s' h hshown hstep => ?_⟩
  · exact ((s'.viewHolds_iff False).1 (step_viewHolds ((s.viewHolds_iff False).2 ⟨h, False.elim⟩) hstep)).1
  · exact ((s'.viewHolds_iff True).1 (step_viewHolds ((s.viewHolds_iff True).2 ⟨h, fun _ => hshown⟩) hstep)).2 trivial

end

section
/-! # Proofs: when the installed guide set changes (R68) -/

namespace Sys2Proof.Machine

/-- Where CAM is LOCKED, it was LOCKED before and the installed set is as it was. -/
def State.keepsSet (s' s : State) : Prop :=
  (s'.port .cam).lock = .locked → s'.gle.installed = s.gle.installed ∧ (s.port .cam).lock = .locked

theorem State.keepsSet_refl (s : State) : s.keepsSet s := fun h => ⟨rfl, h⟩

theorem State.keepsSet.trans {a b c : State} (h : a.keepsSet b) (k : b.keepsSet c) : a.keepsSet c := by
  intro hl
  obtain ⟨hi, hb⟩ := h hl
  obtain ⟨hj, hc⟩ := k hb
  exact ⟨hi.trans hj, hc⟩

theorem State.keepsSet_of_same {s' s : State} (fdp : s'.fdp = s.fdp := by simp) (set : s'.gle.installed = s.gle.installed := by simp) :
    s'.keepsSet s := by
  intro hl
  rw [State.port, fdp] at hl
  exact ⟨set, hl⟩

theorem State.keepsSet_of_dark {s' s : State} (h : (s'.port .cam).lock ≠ .locked) : s'.keepsSet s := fun hl => absurd hl h

theorem State.MovesIn.keepsSet {s s' : State} (m : s.Touches s') : s'.keepsSet s :=
  State.keepsSet_of_same m.calm.fdp (by rw [m.calm.gle])

/-! ## The engine and the ports -/

theorem State.guideTrigger_installed (s : State) : s.guideTrigger.gle.installed = s.gle.installed := by
  unfold State.guideTrigger
  split <;> rfl

theorem State.trackingTrigger_keepsSet (s : State) : s.trackingTrigger.keepsSet s := by
  unfold State.trackingTrigger
  split
  · exact State.keepsSet_of_same (set := s.guideTrigger_installed)
  · exact s.keepsSet_refl

theorem State.reverseToGuide_installed (s : State) (crossed : Bool) : (s.reverseToGuide crossed).gle.installed = s.gle.installed := by
  unfold State.reverseToGuide
  split
  · split
    · rfl
    · exact State.guideTrigger_installed _
  · rfl

/-- R67: what completes while CAM is LOCKED waits for a frame start. -/
theorem State.computationDone_keepsSet {s : State} (h : s.guideCore) : s.computationDone.keepsSet s := by
  intro hl
  rw [State.port, State.computationDone_fdp] at hl
  refine ⟨?_, hl⟩
  unfold State.computationDone
  split
  · rfl
  · dsimp only
    rw [if_pos (h.1.2 hl)]

/-- R22: only CAM's lock reaches the engine. -/
theorem State.takesPort_keepsSet {s : State} {f : Feed} {q : Port} (hq : f = .cam → q.lock ≠ .locked) : (s.takesPort f q).keepsSet s := by
  by_cases hf : f = .cam
  · refine State.keepsSet_of_dark ?_
    subst hf
    rw [State.takesPort_port_same]
    exact hq rfl
  · intro hl
    rw [State.takesPort_port_other _ _ _ (Ne.symm hf)] at hl
    refine ⟨?_, hl⟩
    unfold State.takesPort State.lockChanged
    dsimp only
    split
    · rfl
    · rw [State.lockToCompositor_gle]
      rfl

theorem State.clearPort_keepsSet (s : State) (f : Feed) (enabled : Bool) : (s.clearPort f enabled).keepsSet s :=
  State.takesPort_keepsSet (q := { (s.port f).cleared with enabled := enabled }) (fun _ hl => by cases hl)

theorem State.judgeCameraPower_keepsSet (s : State) : s.judgeCameraPower.keepsSet s := by
  rcases s.judgeCameraPower_cases with ⟨-, he⟩ | ⟨-, -, he⟩ | ⟨-, -, he⟩ <;> rw [he]
  · exact s.keepsSet_refl
  · exact State.keepsSet_of_dark (fun hl => by cases hl)
  · refine State.keepsSet_of_dark (fun hl => ?_)
    rw [State.disablePort, State.clearPort_eq, State.takesPort_port_same] at hl
    cases hl

/-! ## The controller -/

theorem State.changeRvc_keepsSet (s : State) (c : RvcChange) : (s.changeRvc c).keepsSet s := by
  have recorded : (s.recorded c).keepsSet s := State.keepsSet_of_same (s.recorded_fdp c) (by rw [s.recorded_gle c])
  have shown : ((s.recorded c).reverseToCompositor (s.crosses c)).keepsSet s := (State.keepsSet_of_same).trans recorded
  have turned : (s.turned c).keepsSet s :=
    (State.keepsSet_of_same (by simp) (State.reverseToGuide_installed _ _)).trans ((State.judgeCameraPower_keepsSet _).trans shown)
  rw [State.changeRvc_eq]
  refine (State.keepsSet_of_same).trans (b := if s.crosses c then (s.turned c).judgePark else s.turned c) ?_
  split
  · exact (State.keepsSet_of_same).trans turned
  · exact turned

theorem State.release_keepsSet (s : State) (view : HeldView) : (s.release view).keepsSet s := by
  unfold State.release
  split
  · exact s.changeRvc_keepsSet _
  split
  · exact s.changeRvc_keepsSet _
  · exact s.changeRvc_keepsSet _

theorem State.takeLevel_keepsSet (s : State) (level : Gear) (edge : Stamp) : (s.takeLevel level edge).keepsSet s := by
  have engage (x : State) : (if (x.port .cam).lock = .locked then x.enterLive .gearReverse else x.enterCueing).keepsSet x := by
    split
    · exact x.changeRvc_keepsSet _
    · exact x.changeRvc_keepsSet _
  have reverse (x : State) : x.confirmedReverse.keepsSet x := by
    unfold State.confirmedReverse
    dsimp only
    split
    · exact engage x
    · exact engage x
    all_goals exact x.keepsSet_refl
  have notReverse (x : State) : x.confirmedNotReverse.keepsSet x := by
    unfold State.confirmedNotReverse
    split
    · exact x.changeRvc_keepsSet _
    · exact x.release_keepsSet _
    · exact x.release_keepsSet _
    all_goals exact x.keepsSet_refl
  have recorded : ({ s with rvc := s.rvc.record level edge } : State).keepsSet s := State.keepsSet_of_same rfl rfl
  unfold State.takeLevel
  dsimp only
  split
  · exact (reverse _).trans recorded
  · exact (notReverse _).trans recorded

theorem State.handLock_keepsSet {s : State} {f : Feed} {q : Port} (hq : f = .cam → q.lock ≠ .locked) :
    ((s.setPort f q).handLock f (s.port f).lock q.lock).keepsSet s := by
  have taken := State.takesPort_keepsSet (s := s) hq
  unfold State.takesPort at taken
  unfold State.handLock
  split
  · next hl => rwa [if_pos hl] at taken
  next hl =>
  rw [if_neg hl] at taken
  dsimp only
  split
  · exact taken
  next hf =>
  have hf' : f = .cam := not_not.1 hf
  rw [if_neg (hq hf')]
  split
  · unfold State.camLeft
    split
    · exact (State.changeRvc_keepsSet _ _).trans taken
    · exact taken
  · exact taken

/-- A frame start at another port than CAM. -/
theorem State.frameStart_keepsSet {s : State} {f : Feed} (hf : f ≠ .cam) : (s.frameStart f).keepsSet s := by
  unfold State.frameStart
  dsimp only
  split
  · exact State.handLock_keepsSet (fun hc => absurd hc hf)
  · exact s.keepsSet_refl

theorem State.frameWatchExpired_keepsSet (s : State) (f : Feed) : (s.frameWatchExpired f).keepsSet s := by
  unfold State.frameWatchExpired
  dsimp only
  split
  · refine State.handLock_keepsSet (q := { (s.port f).cleared with lock := (s.port f).lock.afterWatch }) (fun _ hl => ?_)
    have hl' : (s.port f).lock.afterWatch = .locked := hl
    rcases (s.port f).lock.afterWatch_idle with h | h <;> rw [h] at hl' <;> cases hl'
  · exact s.keepsSet_refl

theorem formatFeed_ne_cam {n : Nat} {f : Feed} (h : formatFeed n = some f) : f ≠ .cam := by
  unfold formatFeed at h
  split at h <;> cases h <;> decide

theorem State.deliver_keepsSet (s : State) (r : Report) : (s.deliver r).keepsSet s := by
  have speed : (if r.speed.isSome then s.speedToCompositor.freshSpeed else s).keepsSet s := by
    split
    · have film : s.speedToCompositor.keepsSet s := State.keepsSet_of_same
      unfold State.freshSpeed
      split
      · exact (State.changeRvc_keepsSet _ _).trans film
      · exact film
    · exact s.keepsSet_refl
  have steering (x : State) : (if r.steering.isSome then x.trackingTrigger else x).keepsSet x := by
    split
    · exact x.trackingTrigger_keepsSet
    · exact x.keepsSet_refl
  have dimmer (x : State) : (match r.dimmer with | some d => x.takeDimmer d | none => x).keepsSet x := by
    split
    · exact State.keepsSet_of_same
    · exact x.keepsSet_refl
  have obstacle (x : State) : (if r.obstacle.isSome then x.judgePark else x).keepsSet x := by
    split
    · exact State.keepsSet_of_same
    · exact x.keepsSet_refl
  exact (obstacle _).trans ((dimmer _).trans ((steering _).trans speed))

theorem State.watchExpired_keepsSet (s : State) (w : Watched) : (s.watchExpired w).keepsSet s := by
  have stale : ({ s with vin := s.vin.stale w } : State).keepsSet s := State.keepsSet_of_same rfl rfl
  unfold State.watchExpired State.deliverStale
  split
  · split
    · exact (State.keepsSet_of_same).trans stale
    · exact (State.trackingTrigger_keepsSet _).trans stale
    · exact (State.keepsSet_of_same).trans stale
  · exact s.keepsSet_refl

/-! ## Part mode and restarts -/

theorem State.enterRun_keepsSet (s : State) (cause : ModeCause) : (s.enterRun cause).keepsSet s := by
  intro hl
  have fdp : (s.enterRun cause).fdp = (s.setMode .run).enableFeeds.fdp := by
    unfold State.enterRun State.postMode
    rw [State.post_fdp, State.runEffects_fdp]
  rw [State.port, fdp] at hl
  exact ⟨by simp, hl⟩

theorem State.disableFeeds_keepsSet (s : State) : s.disableFeeds.keepsSet s :=
  (State.clearPort_keepsSet _ .ff2 false).trans ((State.clearPort_keepsSet _ .ff1 false).trans (s.clearPort_keepsSet .uif false))

theorem State.enterStandby_keepsSet (s : State) : s.enterStandby.keepsSet s := by
  have quiet : s.quieted.keepsSet s := (State.MovesIn.keepsSet s.quieted_touches).trans (State.keepsSet_of_same rfl rfl)
  have compositor : s.quieted.compositorStandby.keepsSet s.quieted := State.keepsSet_of_same
  rw [State.enterStandby_eq]
  exact (State.MovesIn.keepsSet (State.post_moves _ _ _)).trans ((State.disableFeeds_keepsSet _).trans
    ((State.judgeCameraPower_keepsSet _).trans (compositor.trans quiet)))

theorem State.debounceExpired_keepsSet (s : State) : s.debounceExpired.keepsSet s := by
  unfold State.debounceExpired
  split
  · exact s.keepsSet_refl
  split
  · next c _ _ =>
    have set : (s.setGear s.vin.gearRaw c.level none).keepsSet s := State.keepsSet_of_same rfl rfl
    refine (State.takeLevel_keepsSet _ _ _).trans ?_
    unfold State.reverseWake
    split
    · exact (State.enterRun_keepsSet _ _).trans set
    · exact set
  · exact s.keepsSet_refl

theorem State.feedsWarm_keepsSet (s : State) : s.feedsWarm.keepsSet s :=
  (State.clearPort_keepsSet _ .ff2 _).trans ((State.clearPort_keepsSet _ .ff1 _).trans (s.clearPort_keepsSet .uif _))

theorem State.warmRestart_keepsSet (s : State) : s.warmRestart.keepsSet s := by
  have seats : ((({ s with cli := s.cli.warm } : State).menusWarm.seatWarm .s1).seatWarm .s2).keepsSet s := State.keepsSet_of_same
  unfold State.warmRestart
  dsimp only
  generalize (({ s with cli := s.cli.warm } : State).menusWarm.seatWarm .s1).seatWarm .s2 = x at seats ⊢
  have compositor : x.compositorWarm.keepsSet x := State.keepsSet_of_same
  have rest (y : State) : ((((((y.linkWarm .s1).linkWarm .s2).recomputeTarget .s1).recomputeTarget .s2).chimesWarm).post 0 (.start .warm)).keepsSet y :=
    State.keepsSet_of_same
  exact (rest _).trans ((State.feedsWarm_keepsSet _).trans (compositor.trans seats))

theorem State.frameEnded_keepsSet (s : State) : s.frameEnded.keepsSet s := by
  have link (c : Cli) : ({ s with cli := c } : State).keepsSet s := State.keepsSet_of_same rfl rfl
  have sent (x : State) : x.replySent.keepsSet x := by
    unfold State.replySent
    split
    · exact x.keepsSet_refl
    · dsimp only
      split
      · exact (State.warmRestart_keepsSet _).trans (State.keepsSet_of_same rfl rfl)
      · exact State.keepsSet_of_same rfl rfl
  unfold State.frameEnded
  split
  · exact s.keepsSet_refl
  split
  · dsimp only
    split
    · exact (sent _).trans (link _)
    · exact link _
    · exact link _
  · exact s.keepsSet_refl

/-! ## Every event, and every request -/

theorem eventOf_keepsSet {c : Instr} (hc : ∀ t, c ≠ .frameStart t .cam) {s : State} (h : s.guideCore) : (eventOf c s).keepsSet s := by
  have touches {x : State} (m : s.Touches x) : x.keepsSet s := State.MovesIn.keepsSet m
  cases c with
  | receiveByte t b high => exact State.keepsSet_of_same (s' := s.receiveByte b high)
  | interByteWatchExpiry t => exact State.keepsSet_of_same (s' := s.byteWatchExpired)
  | candidateFrameComplete t => exact State.keepsSet_of_same (s' := s.checkFrame)
  | unknownRequest t => exact State.keepsSet_of_same (s' := s.dispatchUnknown)
  | transmitFrameEnd t => exact s.frameEnded_keepsSet
  | vehicleWatchExpiry t w => exact s.watchExpired_keepsSet w
  | frameStart t f => exact State.frameStart_keepsSet (fun hf => hc t (by rw [hf]))
  | frameWatchExpiry t f => exact s.frameWatchExpired_keepsSet f
  | gearEdge t high => exact State.keepsSet_of_same (s' := s.gearEdge high)
  | gearDebounceExpiry t => exact s.debounceExpired_keepsSet
  | cueDeadlineExpiry t =>
    show s.cueExpired.keepsSet s
    unfold State.cueExpired
    split
    · exact s.changeRvc_keepsSet _
    · exact s.keepsSet_refl
  | holdTimerExpiry t =>
    show s.holdExpired.keepsSet s
    unfold State.holdExpired
    split
    · exact s.changeRvc_keepsSet _
    · exact s.keepsSet_refl
  | computationComplete t => exact State.computationDone_keepsSet h
  | badLinkMessage t i m => exact touches (s.takeMessage_moves i m)
  | presenceGained t i => exact touches ((s.setPresent_moves i true).trans (State.judgeHailing_moves _ i))
  | presenceLost t i => exact touches ((s.setPresent_moves i false).trans (State.detach_moves _ i _ _))
  | hailTimerExpiry t i => exact touches (s.hailExpired_moves i)
  | offers t i body => exact touches (s.takeOffers_moves i body)
  | accept t i => exact touches (s.takeAccept_moves i)
  | reject t i => exact touches (s.takeReject_moves i)
  | claimTimerExpiry t i => exact touches (s.claimExpired_moves i)
  | pollTimerExpiry t i => exact touches (s.pollExpired_moves i)
  | status t i body => exact touches (s.takeStatus_moves i body)
  | partnerReset t i => exact touches (s.takeReset_moves i _)
  | holdOffTimerExpiry t i => exact touches (s.holdOffExpired_moves i)
  | settleTimerExpiry t i => exact touches (s.settleExpired_moves i)
  | outputFrameStart t o => exact State.keepsSet_of_same (s' := s.outputFrame o)
  | idleTimerExpiry t i => exact touches (s.idleExpired_moves i)
  | repeatTimerExpiry t i => exact touches (s.keyRepeat_moves i)
  | stepEnd t v => exact touches (.single (.stepEnds v))
  | beepStart t => exact touches (.single .beeps)
  | duckStep t i => exact touches (.single (.ducks i))
  | programmingComplete t fault => exact touches (.single (.programmed fault))
  | _ => exact s.keepsSet_refl

theorem Acts.keepsSet {p : List Byte} {s s' : State} {c : Instr} (ha : Acts p s c s') : s'.keepsSet s := by
  cases ha with
  | nothing => exact s.keepsSet_refl
  | toRun => exact s.enterRun_keepsSet _
  | toStandby => exact s.enterStandby_keepsSet
  | restart => exact State.keepsSet_of_same rfl rfl
  | noticeSelect => exact State.keepsSet_of_same rfl rfl
  | statusLineMap => exact State.keepsSet_of_same rfl rfl
  | vehicleReport => exact (State.deliver_keepsSet _ _).trans (State.keepsSet_of_same rfl rfl)
  | feedFormat t f fmt hf => exact State.handLock_keepsSet (fun hc => absurd hc (formatFeed_ne_cam hf))
  | reverseDismiss => exact s.changeRvc_keepsSet _
  | guideQuery => exact State.keepsSet_of_same (set := s.guideTrigger_installed)
  | cameraPreview t on =>
    have judged : (({ s with cmp := { s.cmp with preview := on } } : State).judgeFront).keepsSet s := State.keepsSet_of_same
    exact (State.judgeCameraPower_keepsSet _).trans judged
  | calibrationWrite t no index v =>
    have written : ({ s with cal := { s.cal with working := setField s.image no index v } } : State).keepsSet s := State.keepsSet_of_same rfl rfl
    unfold State.writeField
    dsimp only
    split
    · exact (State.trackingTrigger_keepsSet _).trans written
    split
    · exact (State.keepsSet_of_same).trans written
    · exact written
  | _ => exact State.keepsSet_of_same

theorem coldOf_keepsSet (c : Instr) (s : State) : (coldOf c s).keepsSet s := by
  rcases coldOf_cases c s with he | ⟨cause, he⟩ | ⟨cause, he⟩
  · rw [he]
    exact s.keepsSet_refl
  · rw [he]
    exact State.keepsSet_of_dark (fun hl => by cases hl)
  · rw [he]
    exact State.keepsSet_of_dark (fun hl => by cases hl)

theorem recordOf_keepsSet (c : Instr) (s : State) : (recordOf c s).keepsSet s := by
  cases c <;> exact State.keepsSet_of_same rfl rfl

theorem State.startMode_keepsSet (s : State) : s.startMode.keepsSet s := by
  have cam : s.startMode.fdp.cam = s.fdp.cam := by
    unfold State.startMode
    dsimp only
    split
    · rw [State.runEffects_fdp]
      rfl
    · rfl
  intro hl
  have hl' : s.startMode.fdp.cam.lock = .locked := hl
  rw [cam] at hl'
  exact ⟨by simp, hl'⟩

/-- Every command but a CAM frame start, from a state that meets the laws. -/
theorem exec_keepsSet {c : Instr} (hc : ∀ t, c ≠ .frameStart t .cam) {s s' : State} (h : s.reverseLaw) (hex : exec c s = .next s') : s'.keepsSet s := by
  have view := (s.viewHolds_iff False).2 ⟨h, False.elim⟩
  have time : (s.atTime (stampOf c)).keepsSet s := State.keepsSet_of_same
  refine State.keepsSet.trans (b := s.atTime (stampOf c)) ?_ time
  have settled (x : State) : x.settle.keepsSet x := State.keepsSet_of_same
  have answered (x : State) (r : Reply) : (x.answer r).keepsSet x := State.keepsSet_of_same
  cases exec_outcomes hex with
  | cold => exact coldOf_keepsSet c _
  | starts t hc' hp =>
    exact (settled _).trans (State.startMode_keepsSet _)
  | waits => exact recordOf_keepsSet c _
  | keeps => exact State.keepsSet_refl _
  | event hp => exact (settled _).trans (eventOf_keepsSet hc view.feed.guide)
  | refused row hrow hp r => exact (settled _).trans (answered _ r)
  | owner row hrow hp hm p r hl => exact (settled _).trans ((answered _ r).trans (ownerOf_acts p _ c).keepsSet)

end Sys2Proof.Machine

open Sys2Proof Sys2Proof.Machine

/-- Settles O54: every other command leaves CAM out of LOCKED, or the installed set as it was. -/
theorem lockedGuideSetChangesOnlyAtACameraFrame : Obligations.LockedGuideSetChangesOnlyAtACameraFrame := by
  intro c s s' h hex _ hl hset
  by_contra hc
  exact hset (exec_keepsSet (fun t he => hc ⟨t, he⟩) h hex hl).1

end

section
/-! # Proofs: the step, what every command keeps, and reset -/

namespace Sys2Proof.Machine

/-! ## What no command touches -/

/-- No event moves the timebase or the commands that wait. -/
theorem eventOf_keepsTime (c : Instr) (s : State) : (eventOf c s).timebase = s.timebase ∧ (eventOf c s).pending = s.pending := by
  cases c <;> exact ⟨by simp [eventOf], by simp [eventOf]⟩

theorem recordOf_keepsTime (c : Instr) (s : State) : (recordOf c s).timebase = s.timebase ∧ (recordOf c s).pending = s.pending := by
  cases c <;> exact ⟨rfl, rfl⟩

theorem coldOf_keepsTime (c : Instr) (s : State) : (coldOf c s).timebase = s.timebase ∧ (coldOf c s).pending = s.pending := by
  rcases coldOf_cases c s with h | ⟨cause, h⟩ | ⟨cause, h⟩ <;> rw [h] <;> exact ⟨rfl, rfl⟩

theorem Acts.keepsTime {p : List Byte} {s s' : State} {c : Instr} (h : Acts p s c s') :
    s'.timebase = s.timebase ∧ s'.pending = s.pending := by
  cases h <;> exact ⟨by simp, by simp⟩

theorem Outcomes.keepsTime {c : Instr} {s s' : State} (h : Outcomes c s s') : s'.timebase = s.timebase ∧ s'.pending = s.pending := by
  cases h with
  | cold h => exact coldOf_keepsTime c s
  | starts t h hp => exact ⟨s.startMode_timebase, s.startMode_pending⟩
  | waits hp => exact recordOf_keepsTime c s
  | keeps => exact ⟨rfl, rfl⟩
  | event hp => exact eventOf_keepsTime c s
  | refused row hrow hp r => exact ⟨rfl, rfl⟩
  | owner row hrow hp hmode p r hl => exact (ownerOf_acts p s c).keepsTime

/-- Every command has a next state: the model raises no fault and refuses nothing. -/
theorem exec_next (c : Instr) (s : State) : ∃ s', exec c s = .next s' := by
  have pin (c : Instr) (t : Stamp) : ∃ s', s.pinEvent t (recordOf c) (eventOf c) = .next s' := by
    unfold State.pinEvent
    split <;> exact ⟨_, rfl⟩
  cases c with
  | gearEdge t high => exact pin (.gearEdge t high) t
  | presenceGained t link => exact pin (.presenceGained t link) t
  | presenceLost t link => exact pin (.presenceLost t link) t
  | startModeEntry t =>
    show ∃ s', execStartModeEntry t s = .next s'
    unfold execStartModeEntry
    split <;> exact ⟨_, rfl⟩
  | _ => exact ⟨_, rfl⟩

/-! ## Reset -/

theorem State.reset_eq : State.reset = { State.reset.coldBlocks .powerOn blankCal with phase := .loading, resetN := true } := rfl

theorem State.reset_controlLaw : State.reset.controlLaw := by
  refine ⟨⟨?_, ?_⟩, ?_, fun h => absurd h (by decide), rfl⟩ <;> decide

theorem blankCal_rangeLaw : blankCal.rangeLaw :=
  blankCal.rangeLaw_iff.2 ⟨imageLaw_builtin, fun f hf => absurd (show none = some f from hf) (by simp), fun n =>
    Slot.fits_of_unwritten (by cases n <;> exact fun im check h => by cases h)⟩

/-! ## A part that does not run (R30, R170; log entries 4 and 12) -/

/-- Before the start mode an event or a request moves the timebase, and only the pins are followed. -/
theorem exec_quiet {c : Instr} {s : State} (hp : s.phase ≠ .running) (hc : ¬ isColdStart c) (hs : ∀ t, c ≠ .startModeEntry t) :
    exec c s = .next (recordOf c (s.atTime (stampOf c))) := by
  have pin (c : Instr) (t : Stamp) : s.pinEvent t (recordOf c) (eventOf c) = .next (recordOf c (s.atTime t)) := by
    rw [State.pinEvent, if_neg hp]
  cases c with
  | powerOn t high => exact absurd (.inl ⟨t, high, rfl⟩) hc
  | resetNFall t => exact absurd (.inr (.inl ⟨t, rfl⟩)) hc
  | resetNRise t => exact absurd (.inr (.inr ⟨t, rfl⟩)) hc
  | startModeEntry t => exact absurd rfl (hs t)
  | gearEdge t high => exact pin (.gearEdge t high) t
  | presenceGained t link => exact pin (.presenceGained t link) t
  | presenceLost t link => exact pin (.presenceLost t link) t
  | receiveByte _ _ _ | interByteWatchExpiry _ | candidateFrameComplete _ | unknownRequest _ | transmitFrameEnd _
  | vehicleWatchExpiry _ _ | frameStart _ _ | frameWatchExpiry _ _ | gearDebounceExpiry _ | cueDeadlineExpiry _ | holdTimerExpiry _
  | computationComplete _ | badLinkMessage _ _ _ | hailTimerExpiry _ _ | offers _ _ _ | accept _ _ | reject _ _ | claimTimerExpiry _ _
  | pollTimerExpiry _ _ | status _ _ _ | partnerReset _ _ | holdOffTimerExpiry _ _ | settleTimerExpiry _ _ | outputFrameStart _ _
  | idleTimerExpiry _ _ | repeatTimerExpiry _ _ | stepEnd _ _ | beepStart _ | duckStep _ _ | programmingComplete _ _ =>
    exact State.happens_quiet hp _ _
  | _ => exact (exec_request rfl s).trans (congrArg _ (State.event_quiet hp _ _))

theorem exec_startModeEntry_quiet {s : State} {t : Stamp} (hp : s.phase ≠ .loading) : exec (.startModeEntry t) s = .next (s.atTime t) := by
  show execStartModeEntry t s = _
  rw [execStartModeEntry, if_neg hp]

/-! ## Cold start (R18, R165, R170) -/

theorem Slot.abandoned_writing {x : Slot} (h : x.cells = .writing) : x.abandoned.judged = .bad := by
  simp only [Slot.abandoned, h]

theorem judgeSlot_writing {x : Slot} (h : x.cells = .writing) : (judgeSlot x).judged = .bad := by
  simp only [judgeSlot, h]

/-- R164: a slot has a good image after the load exactly when it holds it with its check value and was not found BAD before. -/
theorem judgeSlot_goodImage_iff (x : Slot) (image : List Int) :
    (judgeSlot x).goodImage = some image ↔ x.judged ≠ .bad ∧ x.cells = .written image (imageCheck image) := by
  cases hc : x.cells with
  | written im check =>
    by_cases hg : x.judged ≠ .bad ∧ imageCheck im = check
    · simp only [judgeSlot, hc, if_pos hg, Slot.goodImage, Option.some.injEq]
      grind
    · simp only [judgeSlot, hc, if_neg hg, Slot.goodImage]
      grind
  | blank => simp [judgeSlot, hc, Slot.goodImage]
  | writing => simp [judgeSlot, hc, Slot.goodImage]
  | partly => simp [judgeSlot, hc, Slot.goodImage]

theorem Cal.loadable_iff (c : Cal) (n : SlotNo) (image : List Int) :
    c.loadable n image ↔ (judgeSlot (c.slot n)).goodImage = some image := (judgeSlot_goodImage_iff _ _).symm

/-- R165: the image of the GOOD slot with the highest number is loaded. -/
theorem Cal.load_newest {c : Cal} {n : SlotNo} {image : List Int} (h : c.loadable n image)
    (above : ∀ m im, n.number < m.number → ¬ c.loadable m im) : c.load.working = image ∧ c.load.loadedGen = n.number := by
  have bad (m : SlotNo) (hm : n.number < m.number) : (judgeSlot (c.slot m)).goodImage = none :=
    Option.eq_none_iff_forall_ne_some.2 fun im he => above m im hm ((c.loadable_iff m im).2 he)
  rw [c.loadable_iff] at h
  have newest : newestGood (judgeSlot c.slot1) (judgeSlot c.slot2) (judgeSlot c.slot3) = (image, n.number) := by
    cases n with
    | g3 => simp only [newestGood, show (judgeSlot c.slot3).goodImage = _ from h, SlotNo.number]
    | g2 =>
      have h3 : (judgeSlot c.slot3).goodImage = none := bad .g3 (by decide)
      simp only [newestGood, h3, show (judgeSlot c.slot2).goodImage = _ from h, SlotNo.number]
    | g1 =>
      have h3 : (judgeSlot c.slot3).goodImage = none := bad .g3 (by decide)
      have h2 : (judgeSlot c.slot2).goodImage = none := bad .g2 (by decide)
      simp only [newestGood, h3, h2, show (judgeSlot c.slot1).goodImage = _ from h, SlotNo.number]
  exact ⟨congrArg Prod.fst newest, congrArg Prod.snd newest⟩

/-- R165: without a GOOD slot the built-in defaults are loaded. -/
theorem Cal.load_builtin {c : Cal} (none_good : ∀ n image, ¬ c.loadable n image) : c.load.working = builtinImage ∧ c.load.loadedGen = 0 := by
  have bad (m : SlotNo) : (judgeSlot (c.slot m)).goodImage = none :=
    Option.eq_none_iff_forall_ne_some.2 fun im he => none_good m im ((c.loadable_iff m im).2 he)
  have newest : newestGood (judgeSlot c.slot1) (judgeSlot c.slot2) (judgeSlot c.slot3) = (builtinImage, 0) := by
    have h3 : (judgeSlot c.slot3).goodImage = none := bad .g3
    have h2 : (judgeSlot c.slot2).goodImage = none := bad .g2
    have h1 : (judgeSlot c.slot1).goodImage = none := bad .g1
    simp only [newestGood, h3, h2, h1]
  exact ⟨congrArg Prod.fst newest, congrArg Prod.snd newest⟩

/-- R18, R170: a part whose blocks take their cold-start values from a working copy. -/
theorem State.coldBlocks_coldFrom (s : State) (cause : StartCause) {cal : Cal} (hf : cal.flight = none)
    (hw : ∀ n, (s.cal.slot n).cells = .writing → (cal.slot n).judged = .bad) (phase : Phase) (high : Bool) :
    ({ s.coldBlocks cause cal with phase := phase, resetN := high } : State).coldFrom s cause :=
  ⟨rfl, rfl, rfl, rfl, rfl, fun i => by cases i <;> rfl, rfl, rfl, rfl, rfl, hf, hw, rfl⟩

theorem State.load_loadsFrom (s : State) (cause : StartCause) : (s.load cause).loadsFrom s cause :=
  ⟨rfl, rfl, s.coldBlocks_coldFrom cause rfl (fun n h => by cases n <;> exact judgeSlot_writing h) _ _,
    fun _ _ h above => Cal.load_newest h above, fun h => Cal.load_builtin h, rfl⟩

theorem State.hold_heldFrom (s : State) (cause : StartCause) : (s.hold cause).heldFrom s cause :=
  ⟨rfl, rfl, s.coldBlocks_coldFrom cause rfl (fun n h => by cases n <;> exact Slot.abandoned_writing h) _ _, rfl, rfl⟩

end Sys2Proof.Machine

open Sys2Proof Sys2Proof.Machine

/-- Settles O1. -/
theorem stepRunsTheFrontCommand : Obligations.StepRunsTheFrontCommand := by
  refine ⟨fun c rest s h => ?_, fun s h => ?_⟩
  · simp only [step, h]
  · have ticks : step s = .next s.tick := by simp only [step, h]
    exact ticks

/-- Settles O2: by what a command can leave (`exec_outcomes`). -/
theorem everyCommandAnswersNext : Obligations.EveryCommandAnswersNext := by
  intro c s
  obtain ⟨s', hex⟩ := exec_next c s
  exact ⟨s', hex, (exec_outcomes hex).keepsTime⟩

/-- Settles O3: the blocks of `State.reset` are read off; the values that come from the calibration are those of the built-in defaults. -/
theorem resetHoldsTheColdStartValues : Obligations.ResetHoldsTheColdStartValues := by
  refine ⟨rfl, rfl, rfl, rfl, rfl, rfl, rfl, rfl, rfl, rfl, fun line => rfl, rfl, ⟨rfl, rfl, rfl, rfl⟩, ⟨rfl, rfl, rfl⟩, rfl, rfl, fun i => ?_,
    ⟨rfl, rfl, rfl, rfl⟩, by decide, rfl, fun i => ?_, rfl, ?_, fun i => ?_, rfl, fun k h6 h16 => ?_, rfl, rfl, rfl⟩
  · cases i <;> decide
  · cases i <;> decide
  · decide
  · cases i <;> rfl
  · interval_cases k <;> rfl

/-- Settles O4: what a part that does not run does with a command (`exec_quiet`). -/
theorem blocksWaitForTheStartMode : Obligations.BlocksWaitForTheStartMode := by
  intro c s hp
  cases c with
  | powerOn t high => trivial
  | resetNFall t => trivial
  | resetNRise t => trivial
  | startModeEntry t =>
    intro held
    exact exec_startModeEntry_quiet (by rw [held]; decide)
  | _ => exact exec_quiet hp (by simp [isColdStart]) (by simp)

/-- Settles O5: a cold start either runs the sequence (`State.load_loadsFrom`) or holds the part (`State.hold_heldFrom`). -/
theorem coldStartEmptiesEveryBlock : Obligations.ColdStartEmptiesEveryBlock := by
  refine ⟨fun t s => ?_, fun t s low => ?_, fun t s => ?_, fun t s high => ?_, fun t s high => ?_, fun t s low => ?_⟩
  · exact ⟨(s.atTime t).load .powerOn, rfl, rfl, (s.atTime t).load_loadsFrom _⟩
  · exact ⟨(s.atTime t).load s.cli.startCause, congrArg _ (if_neg (Bool.eq_false_iff.1 low)), rfl, (s.atTime t).load_loadsFrom _⟩
  · exact ⟨(s.atTime t).hold .powerOn, rfl, rfl, (s.atTime t).hold_heldFrom _⟩
  · exact ⟨(s.atTime t).hold .resetLine, congrArg _ (if_pos high), rfl, (s.atTime t).hold_heldFrom _⟩
  · exact congrArg Host.Outcome.next (if_pos high)
  · exact congrArg Host.Outcome.next (if_neg (Bool.eq_false_iff.1 low))

/-- Settles O60: a part at reset has taken its cold-start values. -/
theorem lawsHoldAtReset : Obligations.LawsHoldAtReset := by
  have view := State.reset.coldBlocks_viewHolds (shown := True) .powerOn blankCal .loading true
  rw [← State.reset_eq] at view
  obtain ⟨reverse, shown⟩ := (State.reset.viewHolds_iff True).1 view
  refine ⟨State.reset_controlLaw, fun _ => ⟨rfl, rfl, rfl⟩, ?_, ?_, ?_, reverse, shown trivial, ?_, ?_, ?_, ?_⟩
  · exact State.reset.coldBlocks_linkLaw .powerOn blankCal .loading true
  · refine ⟨by decide, fun i _ => ?_⟩
    cases i <;> exact ⟨rfl, rfl⟩
  · exact fun h => absurd h (by decide)
  · exact State.reset.coldBlocks_seatLaw .powerOn blankCal .loading true
  · exact State.reset.coldBlocks_chimeLaw .powerOn blankCal .loading true
  · exact State.reset.coldBlocks_levelsLaw .powerOn blankCal_rangeLaw .loading true
  · decide

end

section
/-! # Proofs: frames, the receiver and the transmitter (R1 to R6) -/

namespace Sys2Proof.Machine

/-! ## Frames and messages (R2, R74) -/

theorem byteAt_length {n : Nat} (h : n ≤ 255) : (BitVec.ofNat 8 n).toNat = n := by
  rw [BitVec.toNat_ofNat]
  omega

theorem u16_length (n : Nat) : (u16 n).length = 2 := rfl

/-- Table 11-1: the length byte of a frame is the length of its payload. -/
theorem byteAt_frame_length {payload : List Byte} (h : payload.length ≤ 240) (kind tag code : Byte) :
    byteAt (frame kind tag code payload) 1 = payload.length :=
  byteAt_length (h.trans (by decide))

theorem frame_length (kind tag code : Byte) (payload : List Byte) : (frame kind tag code payload).length = payload.length + 7 := by
  simp [frame, u16]

/-- R2: the CRC-16 of a frame is taken over its length, kind, tag, code and payload. -/
theorem checkedBytes_frame {payload : List Byte} (h : payload.length ≤ 240) (kind tag code : Byte) :
    checkedBytes (frame kind tag code payload) = [BitVec.ofNat 8 payload.length, kind, tag, code] ++ payload := by
  rw [checkedBytes, byteAt_frame_length h]
  simp [frame]

theorem checkBytes_frame {payload : List Byte} (h : payload.length ≤ 240) (kind tag code : Byte) :
    checkBytes (frame kind tag code payload) = u16 (crc16 ([BitVec.ofNat 8 payload.length, kind, tag, code] ++ payload)).toNat := by
  rw [checkBytes, byteAt_frame_length h]
  simp [frame]

theorem framePayload_frame {payload : List Byte} (h : payload.length ≤ 240) (kind tag code : Byte) :
    framePayload (frame kind tag code payload) = payload := by
  rw [framePayload, byteAt_frame_length h]
  simp [frame]

theorem openMessage_message {body : List Byte} (h : body.length ≤ 255) (kind : Byte) :
    openMessage (message kind body) = some (kind, body) := by
  have length : (BitVec.ofNat 8 body.length).toNat = body.length := byteAt_length h
  simp [message, openMessage, length, u16_length]

/-! ## Events and requests of a running part -/

/-- What an event leaves, once it is known what it makes of the blocks. -/
theorem State.happens_leaves {s s1 : State} {t : Stamp} {act : State → State} (hp : s.phase = .running) (h : act (s.atTime t) = s1) :
    s.happens t act = .next s1.settle := by
  rw [State.happens_running hp, h]

/-- What a request leaves, once it is known what its owner makes of it. -/
theorem State.request_leaves {s s1 : State} {code : Byte} {p : List Byte} {lengthOk : List Byte → Bool} {inStandby : Bool} {t : Stamp}
    {owner : Owner} {r : Reply} (h : s.asks code p) (hl : lengthOk p = true) (hm : s.cli.mode = .run ∨ inStandby = true)
    (howner : owner p (s.atTime t) = (s1, r)) : s.request t code lengthOk inStandby owner = .next (s1.replied r) := by
  rw [State.request_ok h hl hm, howner]

/-! ## The receiver and the frame check (R1 to R3) -/

theorem Cli.receive_hunting {c : Cli} (h : c.receiver = .hunting) (now : Stamp) (b : Byte) (high : Bool) :
    c.receive now b high = { c with receiver := if high = true ∧ b = 0xA5 then .assembling [0xA5] (afterMs now 2) else .hunting } := by
  simp only [Cli.receive, h, byteWatch]
  split
  · next hb => rw [hb.2]
  · rw [← h]

theorem Cli.receive_framingError {c : Cli} {candidate : List Byte} {watch : Stamp} (h : c.receiver = .assembling candidate watch) (now : Stamp)
    (b : Byte) : c.receive now b false = { c with receiver := .hunting } := by
  simp [Cli.receive, h]

theorem Cli.receive_assembling {c : Cli} {candidate : List Byte} {watch : Stamp} (h : c.receiver = .assembling candidate watch) (now : Stamp)
    (b : Byte) : c.receive now b true = c.assemble now (candidate ++ [b]) := by
  simp [Cli.receive, h]

theorem candidateComplete_iff (c : List Byte) : candidateComplete c = true ↔ 2 ≤ c.length ∧ c.length = byteAt c 1 + 7 := by
  simp [candidateComplete]

theorem Cli.assemble_eq (c : Cli) (now : Stamp) (longer : List Byte) :
    c.assemble now longer = if longer.length = 2 ∧ 240 < byteAt longer 1 then { c with receiver := .hunting }
      else if 2 ≤ longer.length ∧ longer.length = byteAt longer 1 + 7 then
        { c with receiver := .hunting, complete := c.complete ++ [longer] }
      else { c with receiver := .assembling longer (afterMs now 2) } := by
  simp only [Cli.assemble, Config.maxPayload, candidateComplete_iff, byteWatch]

theorem isRequest_iff (f : List Byte) : isRequest f = true ↔ byteAt f 2 = 1 := by
  rw [isRequest, decide_eq_true_iff, byteAt, ← BitVec.toNat_inj]
  rfl

/-- R2, R3: what the frame check leaves of the oldest complete candidate. -/
theorem State.checkFrame_eq {s : State} {f : List Byte} {rest : List (List Byte)} (h : s.cli.complete = f :: rest) :
    s.checkFrame = { s with cli := if framePasses f = true ∧ byteAt f 2 = 1 then
        { s.cli with complete := rest }.joinRequest (requestOf f) else { s.cli with complete := rest } } := by
  simp only [State.checkFrame, h, Bool.and_eq_true, isRequest_iff]

/-! ## The checks of R4 -/

theorem requestRow_known {c : Instr} {row : RequestRow} (h : requestRow c = some row) : knownCode row.code = true := by
  cases c <;> cases h <;> decide

/-- One command for each row of Table 1-3, in the order of their codes. -/
def tableRequests : List Instr :=
  [.identify 0, .modeSet 0, .restart 0, .noticeSelect 0, .statusLineMap 0, .vehicleReport 0, .feedFormat 0, .cameraPreview 0,
   .reverseStatus 0, .reverseDismiss 0, .guideQuery 0, .linkPolicySet 0, .linkReoffer 0, .linkRestart 0, .linkCommand 0, .linkStatus 0,
   .descriptorReadStart 0, .descriptorReadContinue 0, .routeSet 0, .bannerSet 0, .pageLoad 0, .pageRemove 0,
   .pageClear 0, .itemSet 0, .seatRootSet 0, .menuOpen 0, .menuClose 0, .menuState 0, .zoneLevelSet 0, .backlightPolicySet 0,
   .chimePatternLoad 0, .chimePlay 0, .chimeCancel 0, .chimeStatus 0, .frontLevelSet 0, .calibrationRead 0, .calibrationWrite 0,
   .calibrationCheck 0, .calibrationProgram 0]

theorem tableRequests_codes : tableRequests.map (fun c => (requestRow c).map (·.code)) = requestCodes.map some := by decide

/-- Every code of the list stands in a row of Table 1-3. -/
theorem knownCode_row {code : Byte} (h : knownCode code = true) : ∃ c row, requestRow c = some row ∧ row.code = code := by
  have listed : some code ∈ requestCodes.map some := List.mem_map_of_mem (List.contains_iff_mem.1 h)
  rw [← tableRequests_codes] at listed
  obtain ⟨c, -, hc⟩ := List.mem_map.1 listed
  obtain ⟨row, hrow, hcode⟩ := Option.map_eq_some_iff.1 hc
  exact ⟨c, row, hrow, hcode⟩

/-- R4: the two checks that come before a request's owner. -/
theorem exec_badLength {c : Instr} {row : RequestRow} {s : State} {p : List Byte} (hrow : requestRow c = some row) (h : s.asks row.code p)
    (hl : row.lengthOk p = false) : exec c s = .next (s.onlyReplies (stampOf c) ⟨.badLength, []⟩) := by
  rw [exec_request hrow]
  exact State.request_badLength h hl _ _ _

theorem exec_notNow {c : Instr} {row : RequestRow} {s : State} {p : List Byte} (hrow : requestRow c = some row) (h : s.asks row.code p)
    (hl : row.lengthOk p = true) (hm : s.cli.mode = .standby) (hs : row.inStandby = false) :
    exec c s = .next (s.onlyReplies (stampOf c) ⟨.notNow, []⟩) := by
  rw [exec_request hrow, hs]
  exact State.request_notNow h hl hm _ _

/-! ## The end of an event (R6, R160) -/

/-- R160: a zone whose ducking does not change keeps its step, and the gain stands. -/
theorem Duck.follow_leaves (d : Duck) (now : Stamp) (ducking : Bool) (level : Int) :
    (d.follow now ducking level).ducking = ducking ∧ (d.follow now ducking level).gain = d.gain
      ∧ (d.ducking = ducking → d.follow now ducking level = d) := by
  unfold Duck.follow
  split
  · next h => exact ⟨h, rfl, fun _ => rfl⟩
  · next h =>
    split
    · next hd => exact ⟨hd.symm, rfl, fun he => absurd he h⟩
    · next hd => exact ⟨(Bool.eq_false_iff.2 hd).symm, rfl, fun he => absurd he h⟩

theorem State.followDucks_get (s : State) (i : Seat) :
    s.followDucks.chu.duck.get i = (s.chu.duck.get i).follow s.timebase (s.chu.ducks i) (calDuckLevel s.image) := by
  cases i <;> rfl

/-- R6: without refusals a reply that is ready goes when the last frame was a notice, or no notice waits. -/
theorem Cli.sendNext_reply {c : Cli} {q : Request} {rest : List Request} {r : Reply} (now : Stamp) (ht : c.tx = none) (hr : c.refusals = [])
    (hq : c.queue = q :: rest) (ha : q.reply = some r) (hb : c.board = [] ∨ c.prevSort = .notice) :
    c.sendNext now = c.beginReply now q.tag r := by
  have ready : c.readyReply = some (q.tag, r) := by simp only [Cli.readyReply, hq, ha, Option.map_some]
  cases board : c.board with
  | nil => simp only [Cli.sendNext, ht, hr, ready, board]
  | cons e es =>
    have sort : c.prevSort = .notice := hb.resolve_left (by rw [board]; exact List.cons_ne_nil _ _)
    simp only [Cli.sendNext, ht, hr, ready, board, sort, if_true]

theorem Cli.sendNext_notice {c : Cli} {e : BoardEntry} {rest : List BoardEntry} (now : Stamp) (ht : c.tx = none) (hr : c.refusals = [])
    (hb : c.board = e :: rest) (hq : c.readyReply = none ∨ c.prevSort = .reply) : c.sendNext now = c.beginNotice now e rest := by
  cases ready : c.readyReply with
  | none => simp only [Cli.sendNext, ht, hr, ready, hb]
  | some q =>
    have sort : c.prevSort = .reply := hq.resolve_left (by rw [ready]; exact Option.some_ne_none q)
    simp [Cli.sendNext, ht, hr, ready, hb, sort]

/-! ## The end of a frame (R6) -/

theorem State.frameEnded_due {s : State} {f : TxFrame} (ht : s.cli.tx = some f) (due : reached s.timebase f.ends = true) :
    s.frameEnded = if f.what = .reply then ({ s with cli := { s.cli with tx := none } } : State).replySent
      else { s with cli := { s.cli with tx := none } } := by
  simp only [State.frameEnded, ht, due, if_true]
  cases f.what <;> simp

theorem State.replySent_empty {s : State} (h : s.cli.queue = []) : s.replySent = s := by
  simp only [State.replySent, h]

/-- R11: the end of a reply that is not the RESTART's takes the entry from the queue and does no more. -/
theorem State.replySent_plain {s : State} {q : Request} {rest : List Request} (h : s.cli.queue = q :: rest)
    (hr : s.cli.isRestartReply q = false) : s.replySent = { s with cli := { s.cli with queue := rest } } := by
  simp [State.replySent, h, hr]

end Sys2Proof.Machine

open Sys2Proof Sys2Proof.Machine

/-- Settles O12: the choice of the next frame (`Cli.sendNext`), and the ducking that follows the voices. -/
theorem transmitterTakesRefusalsThenAlternates : Obligations.TransmitterTakesRefusalsThenAlternates := by
  intro s
  refine ⟨⟨s.followDucks.chu.duck, s.settle_eq, fun i => ?_⟩, fun h => ?_, fun r rest ht hr => ?_, fun ht hr => ⟨?_, ?_, fun hq hb => ?_⟩⟩
  · rw [State.followDucks_get]
    exact Duck.follow_leaves _ _ _ _
  · obtain ⟨f, hf⟩ := Option.ne_none_iff_exists'.1 h
    exact Cli.sendNext_busy _ hf
  · have length : (frame 0x02 r.tag r.result.code []).length = 7 := frame_length _ _ _ _
    simp only [State.settle_cli, Cli.sendNext, ht, hr, Cli.beginRefusal, Cli.beginFrame, kindReply, frameEnds, length]
  · exact fun q rest r hq ha hb => Cli.sendNext_reply _ ht hr hq ha hb
  · exact fun e rest hb hq => Cli.sendNext_notice _ ht hr hb hq
  · simp only [State.settle_cli, Cli.sendNext, ht, hr, hq, hb]

/-- Settles O13. -/
theorem sentFrameFreesTheTransmitter : Obligations.SentFrameFreesTheTransmitter := by
  intro t f s hp ht due
  have ended := State.frameEnded_due (s := s.atTime t) ht due
  refine ⟨fun hw => ?_, fun q rest hw hq hf => ?_, fun q rest hw hq hf hr => ?_, fun hw hq => ?_⟩
  · exact State.happens_leaves hp (ended.trans (if_neg hw))
  · exact State.happens_leaves hp ((ended.trans (if_pos hw)).trans (State.replySent_plain hq (by simp [Cli.isRestartReply, hf])))
  · refine State.happens_leaves hp ((ended.trans (if_pos hw)).trans (State.replySent_plain hq ?_))
    have parts (a b : Bool) (h : a = false ∨ b = false) : (s.cli.warmPending && a && b) = false := by
      rcases h with h | h <;> simp [h]
    exact parts _ _ (hr.imp decide_eq_false decide_eq_false)
  · exact State.happens_leaves hp ((ended.trans (if_pos hw)).trans (State.replySent_empty hq))

/-- Settles O9. -/
theorem framesAndMessagesReadBack : Obligations.FramesAndMessagesReadBack := by
  refine ⟨fun tag code payload h => ?_, fun kind body h => openMessage_message h kind⟩
  have length := frame_length 0x01 tag code payload
  refine ⟨length, ?_, ?_, rfl, ?_⟩
  · rw [candidateComplete_iff, byteAt_frame_length h, length]
    exact ⟨by omega, rfl⟩
  · rw [framePasses, decide_eq_true_iff, checkedBytes_frame h, checkBytes_frame h]
  · rw [requestOf, framePayload_frame h]
    rfl

/-- Settles O7: the two states of the receiver, one equation each. -/
theorem receiverHuntsAndAssembles : Obligations.ReceiverHuntsAndAssembles := by
  refine ⟨fun t b high s hp h => ?_, fun t b s candidate watch hp h => ?_, fun t b s candidate watch hp h => ?_,
    fun t s candidate watch hp h due => ?_⟩
  · exact State.happens_leaves hp (congrArg (fun c => { s with timebase := t, cli := c }) (Cli.receive_hunting h t b high))
  · exact State.happens_leaves hp (congrArg (fun c => { s with timebase := t, cli := c }) (Cli.receive_framingError h t b))
  · exact State.happens_leaves hp
      (congrArg (fun c => { s with timebase := t, cli := c }) ((Cli.receive_assembling h t b).trans (Cli.assemble_eq _ _ _)))
  · exact State.happens_leaves hp (by simp [State.byteWatchExpired, State.atTime, h, due])

/-- Settles O8. -/
theorem checkedRequestJoinsTheQueue : Obligations.CheckedRequestJoinsTheQueue := by
  intro t f rest s hp h
  exact State.happens_leaves hp (State.checkFrame_eq (s := s.atTime t) h)

/-- Settles O10. -/
theorem unknownCodeLengthAndModeAreChecked : Obligations.UnknownCodeLengthAndModeAreChecked := by
  refine ⟨fun t s code p h hk => exec_unknownRequest t h hk, fun c row h => requestRow_known h, fun code h => ?_, fun code => ?_,
    fun c row s p hrow h => ⟨exec_badLength hrow h, exec_notNow hrow h⟩⟩
  · rw [← Bool.not_eq_true]
    intro hk
    obtain ⟨c, row, hrow, hc⟩ := knownCode_row hk
    exact h c row hrow hc
  · exact List.contains_iff_mem

end

section
/-! # Proofs: the requests that report (Tables 1-5, 11-7 to 11-12) -/

namespace Sys2Proof.Machine

/-- A request whose owner leaves the state only gets its reply. -/
theorem State.request_onlyReplies {s : State} {code : Byte} {p : List Byte} {lengthOk : List Byte → Bool} {inStandby : Bool} {t : Stamp}
    {owner : Owner} {r : Reply} (h : s.asks code p) (hl : lengthOk p = true) (hm : s.cli.mode = .run ∨ inStandby = true)
    (howner : owner p (s.atTime t) = (s.atTime t, r)) : s.request t code lengthOk inStandby owner = .next (s.onlyReplies t r) :=
  State.request_leaves h hl hm howner

theorem fieldOffset_read {im : List Int} {no index k : Nat} (h : fieldOffset no index = some k) : field im no index = im.getD k 0 := by
  simp only [field, h]

theorem Cli.identity (s : State) : s.identifyBytes = [0x4C, 0x46, 3, BitVec.ofNat 8 s.cal.used, BitVec.ofNat 8 s.cal.loadedGen,
    (match s.cli.startCause with | .powerOn => 0 | .resetLine => 1), (match s.cli.mode with | .run => 0 | .standby => 1)] := by
  unfold State.identifyBytes
  cases s.cli.startCause <;> cases s.cli.mode <;> rfl

end Sys2Proof.Machine

open Sys2Proof Sys2Proof.Machine

/-- Settles O19: each of these owners leaves the state as it is. -/
theorem statusRequestsOnlyReply : Obligations.StatusRequestsOnlyReply := by
  refine ⟨fun t s h => ?_, fun t s h => ?_, fun s => ?_, fun t s n i h hm hn => ?_, fun t s n i h hm hn => ?_, fun t s h hm => ?_,
    fun t s no index k h hk => ?_, fun t s no index h hk => ?_, fun t s h => ?_, fun t s n flags h hn hf => ?_⟩
  · exact State.request_onlyReplies h rfl (.inr rfl) (congrArg (fun b => ((s.atTime t), ok b)) (Cli.identity (s.atTime t)))
  · exact State.request_onlyReplies h rfl (.inr rfl) rfl
  · simp [State.reverseStatusBytes, u8, u16, u32, flag]
    split <;> rfl
  · have seat : seatOf (byteAt [n] 0) = some i := by
      rw [show byteAt [n] 0 = n.toNat from rfl, hn, seatOf_seatNo]
    exact State.request_onlyReplies h rfl (.inl hm) (by simp only [ownLinkStatus, seat]; rfl)
  · have seat : seatOf (byteAt [n] 0) = some i := by
      rw [show byteAt [n] 0 = n.toNat from rfl, hn, seatOf_seatNo]
    exact State.request_onlyReplies h rfl (.inl hm) (by simp only [ownMenuState, seat]; rfl)
  · exact State.request_onlyReplies h rfl (.inl hm) rfl
  · have offset : fieldOffset (byteAt [no, index] 0) (byteAt [no, index] 1) = some k := hk
    exact State.request_onlyReplies h rfl (.inr rfl) (by simp only [ownCalibrationRead, offset, fieldOffset_read offset]; rfl)
  · have offset : fieldOffset (byteAt [no, index] 0) (byteAt [no, index] 1) = none := hk
    exact State.request_onlyReplies h rfl (.inr rfl) (by simp only [ownCalibrationRead, offset]; rfl)
  · exact State.request_onlyReplies h rfl (.inr rfl) rfl
  · have number : ¬ 5 < byteAt [n, flags] 0 := Nat.not_lt.2 hn
    have compute : bitAt [n, flags] 1 0 = false := hf
    exact State.request_onlyReplies h rfl (.inr rfl) (by simp only [ownGuideQuery, if_neg number, compute]; rfl)

end

section
/-! # Proofs: the lock of a feed port and its format (R19 to R24) -/

namespace Sys2Proof.Machine

section
variable (s : State) (f : Feed) (q : Port)

/-- R22: what the handing of a new lock state tells. -/
theorem State.takesPort_posts : ∃ rest, (s.takesPort f q).posted s ((s.takesPort f q).feedTold s s.timebase f ++ rest)
    ∧ ofKinds rest (· = .guide) ∧ (f ≠ .cam → rest = []) := by
  unfold State.feedTold
  rw [State.takesPort_port_same]
  unfold State.takesPort
  split
  · next h =>
    rw [if_pos h.symm]
    exact ⟨[], State.posted_nil rfl rfl, (fun n hn => by cases hn), fun _ => rfl⟩
  · next h =>
    obtain ⟨rest, told, kinds, other⟩ := State.lockChanged_posts (s.setPort f q) f q.lock
    rw [if_neg (fun he => h he.symm)]
    exact ⟨rest, State.posted_of told rfl rfl, kinds, other⟩

theorem State.takesPort_timebase : (s.takesPort f q).timebase = s.timebase := by
  unfold State.takesPort
  split <;> simp

theorem State.takesPort_queue : (s.takesPort f q).cli.queue = s.cli.queue := by
  unfold State.takesPort
  split <;> simp

theorem State.takesPort_rsl : (s.takesPort f q).rsl = s.rsl := by
  unfold State.takesPort
  split <;> simp

theorem State.takesPort_mnu : (s.takesPort f q).mnu = s.mnu := by
  unfold State.takesPort
  split <;> simp

theorem State.takesPort_sct : (s.takesPort f q).sct = s.sct := by
  unfold State.takesPort
  split <;> simp

theorem State.takesPort_chu : (s.takesPort f q).chu = s.chu := by
  unfold State.takesPort
  split <;> simp

theorem State.takesPort_cal : (s.takesPort f q).cal = s.cal := by
  unfold State.takesPort
  split <;> simp

theorem State.takesPort_pending : (s.takesPort f q).pending = s.pending := by
  unfold State.takesPort
  split <;> simp

/-- R22: only CAM's lock reaches the guide line engine. -/
theorem State.takesPort_gle (h : f ≠ .cam) : (s.takesPort f q).gle = s.gle := by
  unfold State.takesPort State.lockChanged
  dsimp only
  rw [if_neg h]
  split <;> simp

end

/-- R22: at another port than CAM no controller acts on the lock. -/
theorem State.handLock_other {f : Feed} (h : f ≠ .cam) (s : State) (q : Port) :
    (s.setPort f q).handLock f (s.port f).lock q.lock = s.takesPort f q := by
  unfold State.handLock State.takesPort
  dsimp only
  rw [if_pos h]

/-- The notice of a FEED FORMAT that takes a LOCKED port to ACQUIRING. -/
theorem Port.reformed_lock (p : Port) (fmt : Format) (now : Stamp) :
    (p.reformed fmt now).lock = if p.lock = .locked then .acquiring else p.lock := by
  unfold Port.reformed
  cases hl : p.lock <;> simp [hl]

theorem Port.reformed_eq (p : Port) (w h r : Nat) (now : Stamp) :
    p.reformed ⟨w, h, r⟩ now = (let q := { p with format := some ⟨w, h, r⟩ }
      let watch := some (afterUs now (3 * (1000000 / r)))
      match q.lock with
      | .locked => { q with lock := .acquiring, good := 0, bad := 0, watch := watch }
      | .acquiring => { q with good := 0, watch := watch }
      | .noSignal => q
      | .lost => q) := by
  unfold Port.reformed
  cases p.lock <;> rfl

theorem State.takesPort_reformed_cli (s : State) {f : Feed} (h : f ≠ .cam) (fmt : Format) :
    (s.takesPort f ((s.port f).reformed fmt s.timebase)).cli
      = if (s.port f).lock = .locked then s.cli.post s.timebase (feedNo f) (.feed .acquiring s.timebase) else s.cli := by
  obtain ⟨rest, told, -, other⟩ := s.takesPort_posts f ((s.port f).reformed fmt s.timebase)
  rw [other h, List.append_nil, State.feedTold, State.takesPort_port_same, Port.reformed_lock] at told
  rw [told.2]
  by_cases hl : (s.port f).lock = .locked
  · simp [hl, Cli.postAll]
  · simp [hl, Cli.postAll]

theorem formatFeed_feedNo {f : Feed} (h : f ≠ .cam) : formatFeed (feedNo f) = some f := by
  cases f with
  | cam => exact absurd rfl h
  | _ => rfl

theorem formatFeed_none {n : Nat} (h : n = 0 ∨ 3 < n) : formatFeed n = none := by
  rcases h with h | h
  · rw [h]
    rfl
  · obtain ⟨k, rfl⟩ := Nat.exists_eq_add_of_le h
    rw [Nat.add_comm]
    rfl

/-- R24: a value out of range changes nothing. -/
theorem ownFeedFormat_refuses {p : List Byte} (s : State)
    (h : byteAt p 0 = 0 ∨ 3 < byteAt p 0 ∨ u16At p 1 < 320 ∨ 1920 < u16At p 1 ∨ u16At p 3 < 240 ∨ 1080 < u16At p 3 ∨ byteAt p 5 < 24 ∨ 60 < byteAt p 5) :
    ownFeedFormat p s = (s, refuse .badValue) := by
  unfold ownFeedFormat
  cases hf : formatFeed (byteAt p 0) with
  | none => rfl
  | some f =>
    have known : ¬ (byteAt p 0 = 0 ∨ 3 < byteAt p 0) := fun hn => by
      rw [formatFeed_none hn] at hf
      cases hf
    dsimp only
    repeat' split
    · rfl
    · rfl
    · rfl
    · omega

theorem ownFeedFormat_sets {p : List Byte} {f : Feed} (s : State) (hf : byteAt p 0 = feedNo f) (hc : f ≠ .cam) (w1 : 320 ≤ u16At p 1) (w2 : u16At p 1 ≤ 1920)
    (h1 : 240 ≤ u16At p 3) (h2 : u16At p 3 ≤ 1080) (r1 : 24 ≤ byteAt p 5) (r2 : byteAt p 5 ≤ 60) :
    ownFeedFormat p s = (s.takesPort f ((s.port f).reformed ⟨u16At p 1, u16At p 3, byteAt p 5⟩ s.timebase), ok []) := by
  unfold ownFeedFormat
  rw [hf, formatFeed_feedNo hc]
  dsimp only
  rw [if_neg (by omega), if_neg (by omega), if_neg (by omega), State.handLock_other hc]

end Sys2Proof.Machine

open Sys2Proof Sys2Proof.Machine

/-- Settles O22. -/
theorem feedFormatSetsThePort : Obligations.FeedFormatSetsThePort := by
  intro t s p hask hlen hm
  refine ⟨fun bad => State.request_onlyReplies hask (lengthIs_true hlen) (.inl hm) (ownFeedFormat_refuses _ bad),
    fun f hf hc w1 w2 h1 h2 r1 r2 => ?_⟩
  let x := s.atTime t
  let q := (x.port f).reformed ⟨u16At p 1, u16At p 3, byteAt p 5⟩ t
  refine ⟨x.takesPort f q, State.request_leaves hask (lengthIs_true hlen) (.inl hm) (ownFeedFormat_sets x hf hc w1 w2 h1 h2 r1 r2),
    x.takesPort_timebase f q, ?_, x.takesPort_reformed_cli hc _, fun g hg => x.takesPort_port_other f q hg, ?_, x.takesPort_queue f q,
    x.takesPort_vin f q, x.takesPort_rvc f q, x.takesPort_gle f q hc, x.takesPort_rsl f q, x.takesPort_mnu f q, x.takesPort_sct f q,
    x.takesPort_chu f q, x.takesPort_cal f q, x.takesPort_pending f q⟩
  · rw [State.takesPort_port_same]
    exact Port.reformed_eq _ _ _ _ _
  · rw [State.takesPort_fdp, Fdp.camPower_setPort]
    rfl

end

section
/-! # Proofs: vehicle values grow stale (R33) -/

namespace Sys2Proof.Machine

/-! ## What a removal keeps of the park beep's judgement -/

@[simp] theorem State.place_parkJudged (s : State) (ch : Chime) : (s.place ch).chu.parkJudged = s.chu.parkJudged := by
  unfold State.place
  rw [State.startOn_begins]
  unfold State.withVoice
  split <;> rfl

@[simp] theorem State.fillOnce_parkJudged (s : State) : s.fillOnce.chu.parkJudged = s.chu.parkJudged := by
  unfold State.fillOnce
  split <;> simp

@[simp] theorem State.removeChime_parkJudged (s : State) (which : Chime → Bool) :
    (s.removeChime which).chu.parkJudged = s.chu.parkJudged := by
  unfold State.removeChime State.fill
  split
  · simp
  · split <;> simp

/-- R158: where the condition of the park beep is false, the beep is at most taken away. -/
theorem State.judgePark_inactive {s : State} (h : s.parkActive = false) :
    s.judgePark.chu.parkJudged = false ∧ s.judgePark.cli = s.cli ∧ s.judgePark.rvc = s.rvc := by
  unfold State.judgePark
  simp only [h, Bool.false_eq_true, if_false]
  split
  · exact ⟨by simp, by simp [State.removeChime_cli], State.removeChime_keeps _ _⟩
  · exact ⟨rfl, rfl, rfl⟩

theorem State.parkActive_of_stale {s : State} (h : s.vin.obstacleWatch = none) : s.parkActive = false := by
  rw [Bool.eq_false_iff]
  intro active
  obtain ⟨-, fresh, -⟩ := (State.parkActive_iff s).1 active
  exact fresh h

theorem State.judgePark_parkJudgedFrom (s : State) : s.judgePark.parkJudgedFrom s :=
  ⟨s, s.judgePark, rfl, ⟨by simp, by simp, by simp, by simp⟩, s.judgePark_parks, rfl⟩

/-! ## The film lock -/

@[simp] theorem State.judgeFront_filmLock (s : State) : s.judgeFront.cmp.filmLock = s.cmp.filmLock := by
  unfold State.judgeFront
  dsimp only
  split <;> rfl

@[simp] theorem State.setFilmLock_filmLock (s : State) (engaged : Bool) : (s.setFilmLock engaged).cmp.filmLock = engaged := by
  unfold State.setFilmLock
  split
  · assumption
  · simp

/-! ## The watches -/

theorem State.watchExpired_due {s : State} {value : Watched} {e : Stamp} (h : s.vin.watch value = some e) (due : reached s.timebase e = true) :
    s.watchExpired value = ({ s with vin := s.vin.stale value } : State).deliverStale value := by
  unfold State.watchExpired
  rw [if_pos (by rw [h]; exact due)]

/-- R65: a trigger in TRACKING begins a computation, or marks a follow-up while one is in flight. -/
theorem State.trackingTrigger_eq (s : State) :
    s.trackingTrigger = { s with gle := if s.gle.mode = .tracking then
        (match s.gle.inFlight with
          | none => { s.gle with inFlight := some s.guideInput }
          | some _ => { s.gle with followUp := true })
      else s.gle } := by
  unfold State.trackingTrigger State.guideTrigger
  split
  · cases s.gle.inFlight <;> rfl
  · rfl

end Sys2Proof.Machine

open Sys2Proof Sys2Proof.Machine

/-- Settles O26: what each stale value makes of its block (`State.deliverStale`). -/
theorem vehicleWatchMakesAValueStale : Obligations.VehicleWatchMakesAValueStale := by
  intro t s e hp due
  refine ⟨fun h => ?_, fun h => ?_, fun h => ?_⟩
  · let x : State := { s with timebase := t, vin := { s.vin with speedWatch := none } }
    have told := x.setFilmLock_posts true
    exact ⟨x.setFilmLock true, State.happens_leaves hp (State.watchExpired_due (s := s.atTime t) (value := .speed) h due), by simp [x], by simp [x],
      by simp, by simp [x], by simp [x], by simp [x], told.2, by simp [x], by simp [x], by simp [x], by simp [x], by simp [x], by simp [x]⟩
  · refine State.happens_leaves hp ((State.watchExpired_due (s := s.atTime t) (value := .steering) h due).trans ?_)
    exact State.trackingTrigger_eq _
  · let x : State := { s with timebase := t, vin := { s.vin with obstacleWatch := none } }
    obtain ⟨judged, cli, rvc⟩ := State.judgePark_inactive (s := x) (State.parkActive_of_stale rfl)
    obtain ⟨a, b, ha, hears, hb, hchu⟩ := x.judgePark_parkJudgedFrom
    exact ⟨x.judgePark, State.happens_leaves hp (State.watchExpired_due (s := s.atTime t) (value := .obstacle) h due), by simp [x], by simp [x],
      judged, ⟨a, b, ha, hears, hb, hchu⟩, cli, by simp [x], by simp [x], rvc, by simp [x], by simp [x], by simp [x], by simp [x], by simp [x],
      by simp [x]⟩

end

section
/-! # Proofs: what a change of the controller leaves and tells (R36, R48) -/

namespace Sys2Proof.Machine

/-! ## Camera power (R26) -/

theorem State.feedTold_none {s' s : State} {t : Stamp} {f : Feed} (h : (s'.port f).lock = (s.port f).lock) : s'.feedTold s t f = [] := if_pos h

theorem ofKind_feedTold (s' s : State) (t : Stamp) (f : Feed) : ofKind .feed (s'.feedTold s t f) = s'.feedTold s t f := by
  unfold State.feedTold
  split <;> rfl

theorem feedTold_kinds (s' s : State) (t : Stamp) (f : Feed) : ofKinds (s'.feedTold s t f) (· = .feed) := by
  unfold State.feedTold
  split
  · intro n hn
    cases hn
  · intro n hn
    rw [List.mem_singleton.1 hn]
    rfl

/-- R22, R26: a CAM port that loses power tells the change of its lock. -/
theorem State.judgeCameraPower_told (s : State) : ∃ ns, s.judgeCameraPower.posted s ns ∧ ofKinds ns powerKinds
    ∧ (s.fdp.camPower = true → ofKind .feed ns = s.judgeCameraPower.feedTold s s.timebase .cam) := by
  rcases s.judgeCameraPower_cases with ⟨-, he⟩ | ⟨-, hp, he⟩ | ⟨-, hp, he⟩ <;> rw [he]
  · exact ⟨[], State.posted_nil rfl rfl, (fun n hn => by cases hn), fun _ => (State.feedTold_none rfl).symm⟩
  · exact ⟨[], State.posted_nil (by simp) (by simp), (fun n hn => by cases hn), fun h => by rw [hp] at h; cases h⟩
  · rw [State.disablePort, State.clearPort_eq]
    obtain ⟨rest, told, kinds, -⟩ := State.takesPort_posts { s with fdp := { s.fdp with camPower := false } } .cam
      { (({ s with fdp := { s.fdp with camPower := false } } : State).port .cam).cleared with enabled := false }
    refine ⟨_, State.posted_of told rfl rfl, ofKinds_append (fun n hn => .inl (feedTold_kinds _ _ _ _ n hn)) (fun n hn => .inr (kinds n hn)), fun _ => ?_⟩
    rw [ofKind_append, ofKind_feedTold, ofKind_none kinds (by decide), List.append_nil]
    rfl

/-! ## What the chime unit leaves of a change -/

theorem State.turned_rvc (s : State) (c : RvcChange) : (s.turned c).rvc = (s.recorded c).rvc := by
  unfold State.turned
  rw [State.reverseToGuide_rvc, State.judgeCameraPower_rvc, State.reverseToCompositor_rvc]

/-- R36: the ports, the rows and the engine are those of the part when the compositor, the ports and the engine have taken the change. -/
theorem State.changeRvc_turned (s : State) (c : RvcChange) :
    (s.changeRvc c).fdp = (s.turned c).fdp ∧ (s.changeRvc c).cmp = (s.turned c).cmp ∧ (s.changeRvc c).gle = (s.turned c).gle := by
  rw [State.changeRvc_eq]
  split <;> exact ⟨by simp, by simp, by simp⟩

theorem State.crosses_iff {s : State} {c : RvcChange} (hc : c.state ≠ s.rvc.state) : s.crosses c = true ↔ (s.rvc.state = .off ∨ c.state = .off) := by
  unfold State.crosses
  by_cases h1 : s.rvc.state = .off <;> by_cases h2 : c.state = .off <;> simp [h1, h2]
  exact hc (h2.trans h1.symm)

theorem State.recorded_keeps (s : State) (c : RvcChange) : (s.recorded c).rvc.keeps (s.rvc.changed c) := by
  unfold State.recorded
  dsimp only
  rw [State.post_rvc]
  split
  · exact State.cancelFaultChime_keeps _
  · rfl

theorem State.recorded_state (s : State) (c : RvcChange) : (s.recorded c).rvc.state = c.state := by
  rw [State.recorded_keeps]
  rfl

theorem State.recorded_timebase (s : State) (c : RvcChange) : (s.recorded c).timebase = s.timebase := by
  unfold State.recorded
  dsimp only
  split <;> simp

/-- R42: the exit from FAULT leaves no fault chime. -/
theorem State.recorded_hushed {s : State} (h : s.rvc.state = .fault) (c : RvcChange) : (s.recorded c).rvc.faultChime = none := by
  unfold State.recorded
  dsimp only
  rw [if_pos h, State.post_rvc, State.cancelFaultChime]
  split
  · assumption
  · rw [State.removeChime_keeps]

/-- R36: the part when the compositor has taken the change. -/
def State.faced (s : State) (c : RvcChange) : State := (s.recorded c).reverseToCompositor (s.crosses c)

theorem State.turned_eq (s : State) (c : RvcChange) : s.turned c = (s.faced c).judgeCameraPower.reverseToGuide (s.crosses c) := rfl

theorem State.faced_rvcOff (s : State) (c : RvcChange) : (s.faced c).rvcOff = decide (c.state = .off) := by
  rw [State.faced, State.rvcOff, State.reverseToCompositor_rvc, State.recorded_state]

theorem State.faced_fdp (s : State) (c : RvcChange) : (s.faced c).fdp = s.fdp := by
  rw [State.faced, State.reverseToCompositor_fdp, State.recorded_fdp]

theorem State.faced_gle (s : State) (c : RvcChange) : (s.faced c).gle = s.gle := by
  rw [State.faced, State.reverseToCompositor_gle, State.recorded_gle]

theorem State.faced_preview (s : State) (c : RvcChange) :
    (s.faced c).cmp.preview = (s.cmp.preview && (!s.crosses c || decide (c.state = .off))) := by
  rw [State.faced, State.reverseToCompositor_preview, State.recorded_cmp, State.rvcOff, State.recorded_state]

/-! ## The notices of a change (R36, R49) -/

theorem State.recorded_posted (s : State) (c : RvcChange) :
    (s.recorded c).posted s [(0, .reverse c.state c.reason c.heldView s.rvc.edgeStamp)] := by
  have notice (x : State) (hk : x.rvc.keeps (s.rvc.changed c)) : x.rvc.notice = .reverse c.state c.reason c.heldView s.rvc.edgeStamp := by
    rw [hk]
    rfl
  unfold State.recorded
  dsimp only
  split
  · rw [notice _ (State.cancelFaultChime_keeps _)]
    exact State.posted_of (State.posted_one _ _ _) (by simp) (by simp)
  · rw [notice _ rfl]
    exact State.posted_of (State.posted_one _ _ _) rfl rfl

theorem State.turned_front (s : State) (c : RvcChange) : (s.turned c).cmp.front = (s.faced c).cmp.front := by
  unfold State.turned
  rw [State.reverseToGuide_cmp, State.judgeCameraPower_front]
  rfl

/-- R36, R104: what a change posts: the REVERSE notice, the ROUTE notice of a front row that changes, what camera power brings and what
the chime unit ends. -/
theorem State.changeRvc_told (s : State) (c : RvcChange) : ∃ power chime,
    (s.changeRvc c).posted s ((0, .reverse c.state c.reason c.heldView s.rvc.edgeStamp) ::
      ((s.changeRvc c).cmp.front.routeTold s.cmp.front .fro ++ (power ++ chime)))
    ∧ ofKinds power powerKinds ∧ ofKinds chime chimeOnly
    ∧ (s.fdp.camPower = true → ofKind .feed power = (s.changeRvc c).feedTold s s.timebase .cam) := by
  obtain ⟨hfdp, hcmp, -⟩ := s.changeRvc_turned c
  obtain ⟨power, told, kinds, feed⟩ := (s.faced c).judgeCameraPower_told
  have hposted : (s.faced c).posted s ([_] ++ (s.faced c).cmp.front.routeTold (s.recorded c).cmp.front .fro) :=
    State.posted_trans (s.recorded_posted c) ((s.recorded c).reverseToCompositor_posts (s.crosses c))
  have hturned : (s.turned c).posted (s.faced c) power := by
    rw [State.turned_eq]
    exact State.posted_same told (by simp) (by simp)
  have chimes : (s.changeRvc c).postedOnly (s.turned c) chimeOnly := by
    rw [State.changeRvc_eq]
    split
    · exact State.postedOnly_trans (State.judgePark_posts _) (State.reverseChime_posts _ _ _)
    · exact State.reverseChime_posts _ _ _
  obtain ⟨chime, sounded, hc⟩ := chimes
  refine ⟨power, chime, ?_, kinds, hc, fun hp => ?_⟩
  · rw [hcmp, State.turned_front]
    rw [State.recorded_cmp] at hposted
    simpa using State.posted_trans (State.posted_trans hposted hturned) sounded
  · rw [feed (by rw [State.faced_fdp]; exact hp)]
    have lock (x : State) (hx : x.fdp = (s.faced c).judgeCameraPower.fdp) (t : Stamp) :
        (s.faced c).judgeCameraPower.feedTold (s.faced c) t .cam = x.feedTold s t .cam := by
      simp only [State.feedTold, State.port, hx, State.faced_fdp]
    have time : (s.faced c).timebase = s.timebase := by
      rw [State.faced, State.reverseToCompositor_timebase, State.recorded_timebase]
    rw [time]
    exact lock _ (by rw [hfdp, State.turned, State.reverseToGuide_fdp]; rfl) _

/-! ## What a host is told of a change -/

/-- R49: the REVERSE notice of a change among other notices, of which the earlier are of no kind that the change brings. -/
theorem Rvc.tells_of {r' r : Rvc} {ns before after : List (Nat × NoticeBody)} (hne : r'.state ≠ r.state)
    (hns : ns = before ++ (0, .reverse r'.state r'.reason r'.heldView r.edgeStamp) :: after)
    (edge : r'.latestEdge = r.latestEdge ∧ r'.reverseStamp = r.reverseStamp ∧ r'.notReverseStamp = r.notReverseStamp)
    (hb : ∀ n ∈ before, n.2.kind ≠ .reverse ∧ n.2.kind ≠ .route ∧ n.2.kind ≠ .chime) (ha : ofKind .reverse after = []) : r'.tells r ns := by
  refine ⟨fun h => absurd h hne, fun _ => ⟨before, after, r.edgeStamp, hns, fun e he => ?_, hb, ha⟩⟩
  obtain ⟨h1, h2, h3⟩ := edge
  rw [Rvc.latestAt, h1, h2, h3] at he
  exact Rvc.edgeStamp_latest r e he

/-- Notices of other kinds around a change's own leave what it tells. -/
theorem Rvc.tells_within {r' r : Rvc} {ns before after : List (Nat × NoticeBody)} (h : r'.tells r ns)
    (hb : ∀ n ∈ before, n.2.kind ≠ .reverse ∧ n.2.kind ≠ .route ∧ n.2.kind ≠ .chime) (ha : ofKind .reverse after = []) :
    r'.tells r (before ++ ns ++ after) := by
  obtain ⟨same, changed⟩ := h
  refine ⟨fun he => ?_, fun hne => ?_⟩
  · have none : ofKind .reverse before = [] := ofKind_none (p := (· ≠ .reverse)) (fun n hn => (hb n hn).1) (by simp)
    rw [ofKind_append, ofKind_append, none, same he, ha]
    rfl
  · obtain ⟨b, a, edge, rfl, he, hk, hr⟩ := changed hne
    refine ⟨before ++ b, a ++ after, edge, by simp, he, fun n hn => ?_, by rw [ofKind_append, hr, ha]; rfl⟩
    rcases List.mem_append.1 hn with hn | hn
    · exact hb n hn
    · exact hk n hn

theorem routeTold_kinds (r' r : Row) (o : Output) : ofKinds (r'.routeTold r o) (· = .route) := by
  unfold Row.routeTold
  split
  · intro n hn
    cases hn
  · intro n hn
    rw [List.mem_singleton.1 hn]
    rfl

theorem ofMatter_routeTold (r' r : Row) (o : Output) : ofMatter .route (outputNo o) (r'.routeTold r o) = r'.routeTold r o := by
  unfold Row.routeTold
  split
  · rfl
  · simp [NoticeBody.kind]

/-- R36, R49, R104: the notices of a change of the controller, with those of the CAM port. -/
theorem State.changeRvc_tellsAll (s : State) (c : RvcChange) (hc : c.state ≠ s.rvc.state) : ∃ ns, (s.changeRvc c).posted s ns
    ∧ (s.changeRvc c).rvc.tells s.rvc ns ∧ ofMatter .route 1 ns = (s.changeRvc c).cmp.front.routeTold s.cmp.front .fro
    ∧ (s.fdp.camPower = true → ofKind .feed ns = (s.changeRvc c).feedTold s s.timebase .cam)
    ∧ ofKinds ns (fun k => k = .reverse ∨ k = .route ∨ answerKinds k) := by
  obtain ⟨power, chime, told, hp, hch, feed⟩ := s.changeRvc_told c
  have keeps := s.changeRvc_keeps c
  have hrest : ofKinds (power ++ chime) answerKinds :=
    ofKinds_append (fun n hn => (hp n hn).imp_right .inl) (fun n hn => .inr (.inr (hch n hn)))
  have hroute := routeTold_kinds (s.changeRvc c).cmp.front s.cmp.front .fro
  have hstate : (s.changeRvc c).rvc.state = c.state := by rw [keeps]; rfl
  refine ⟨_, told, Rvc.tells_of (before := []) (after := (s.changeRvc c).cmp.front.routeTold s.cmp.front .fro ++ (power ++ chime)) (by rw [hstate]; exact hc) ?_ ?_ (fun n hn => by cases hn) ?_, ?_, fun hpow => ?_, fun n hn => ?_⟩
  · rw [keeps]
    rfl
  · rw [keeps]
    exact ⟨rfl, rfl, rfl⟩
  · rw [ofKind_append, ofKind_none hroute (by decide), ofKind_none hrest (by decide)]
    rfl
  · rw [ofMatter_cons, if_neg (fun h => by cases h.1), ofMatter_append, ofMatter_none hrest (by decide), List.append_nil]
    exact ofMatter_routeTold _ _ .fro
  · rw [ofKind_cons, if_neg (fun h => by cases h), ofKind_append, ofKind_none hroute (by decide), ofKind_append, ofKind_none hch (by decide),
      feed hpow]
    simp
  · rcases List.mem_cons.1 hn with rfl | hn
    · exact .inl rfl
    · rcases List.mem_append.1 hn with hn | hn
      · exact .inr (.inl (hroute n hn))
      · exact .inr (.inr (hrest n hn))

/-! ## The views and the ports after a change -/

/-- R105: the front view that the controller demands, with its banner. -/
theorem State.changeRvc_frontView (s : State) (c : RvcChange) : (s.changeRvc c).cmp.frontView = frontViewOf c.state c.heldView
    ∧ (s.changeRvc c).cmp.front.shown = frontBanner (frontViewOf c.state c.heldView) (decide (c.state = .off)) (s.changeRvc c).cmp.front.hostBanner := by
  obtain ⟨-, hcmp, -⟩ := s.changeRvc_turned c
  obtain ⟨hview, hshown⟩ := (s.recorded c).reverseToCompositor_frontLaw (s.crosses c)
  have hview : (s.faced c).cmp.frontView = frontViewOf (s.faced c).rvc.state (s.faced c).rvc.heldView := hview
  have hshown : (s.faced c).cmp.front.shown = frontBanner (s.faced c).cmp.frontView (s.faced c).rvcOff (s.faced c).cmp.front.hostBanner := hshown
  have hrvc : (s.faced c).rvc.keeps (s.rvc.changed c) := by
    rw [State.faced, State.reverseToCompositor_rvc]
    exact s.recorded_keeps c
  have hstate : (s.faced c).rvc.state = c.state ∧ (s.faced c).rvc.heldView = c.heldView := by
    rw [hrvc]
    exact ⟨rfl, rfl⟩
  obtain ⟨front, view⟩ : (s.turned c).cmp.front = (s.faced c).cmp.front ∧ (s.turned c).cmp.frontView = (s.faced c).cmp.frontView := by
    have facing := (s.faced c).judgeCameraPower_facing
    simp only [State.facing, Prod.mk.injEq] at facing
    rw [State.turned_eq, State.reverseToGuide_cmp]
    exact ⟨facing.1, facing.2.1⟩
  rw [hcmp, front, view, hshown, hview, hstate.1, hstate.2, State.faced_rvcOff]
  exact ⟨rfl, rfl⟩

/-- R26: camera power is what the controller and preview ask for. -/
theorem State.judgeCameraPower_camPower (s : State) : s.judgeCameraPower.fdp.camPower = (!s.rvcOff || s.cmp.preview) := by
  rcases s.judgeCameraPower_cases with ⟨hw, he⟩ | ⟨hw, -, he⟩ | ⟨hw, -, he⟩ <;> rw [he, hw]
  · rfl
  · rw [State.disablePort, State.clearPort_eq, State.takesPort_fdp]
    rfl

theorem State.changeRvc_camPower (s : State) (c : RvcChange) :
    (s.changeRvc c).fdp.camPower = (decide (c.state ≠ .off) || s.cmp.preview) := by
  obtain ⟨hfdp, -, -⟩ := s.changeRvc_turned c
  rw [hfdp, State.turned_eq, State.reverseToGuide_fdp, State.judgeCameraPower_camPower, State.faced_rvcOff, State.faced_preview]
  by_cases hc : c.state = .off <;> simp [hc]

/-- Between two states that are not OFF, neither power nor the engine change. -/
theorem State.changeRvc_near {s : State} {c : RvcChange} (hs : s.rvc.state ≠ .off) (hc : c.state ≠ .off) (hp : s.fdp.camPower = true) :
    (s.changeRvc c).fdp = s.fdp ∧ (s.changeRvc c).gle = s.gle := by
  obtain ⟨hfdp, -, hgle⟩ := s.changeRvc_turned c
  have still : s.crosses c = false := by simp [State.crosses, hs, hc]
  have powered : (s.faced c).judgeCameraPower = s.faced c := by
    rcases (s.faced c).judgeCameraPower_cases with ⟨-, he⟩ | ⟨-, hn, -⟩ | ⟨hn, -, -⟩
    · exact he
    · rw [State.faced_fdp, hp] at hn
      cases hn
    · rw [State.faced_rvcOff, decide_eq_false hc] at hn
      cases hn
  have turned : s.turned c = s.faced c := by
    rw [State.turned_eq, powered, still]
    rfl
  rw [hfdp, hgle, turned]
  exact ⟨s.faced_fdp c, s.faced_gle c⟩

/-- R54: the engine of a controller that enters OFF is IDLE, without a follow-up. -/
theorem State.changeRvc_idle {s : State} {c : RvcChange} (hs : s.rvc.state ≠ .off) (hc : c.state = .off) :
    (s.changeRvc c).gle.mode = .idle ∧ (s.changeRvc c).gle.followUp = false := by
  obtain ⟨-, -, hgle⟩ := s.changeRvc_turned c
  have crossed : s.crosses c = true := by simp [State.crosses, hs, hc]
  have off : (s.faced c).judgeCameraPower.rvcOff = true := by
    have h := s.faced_rvcOff c
    rw [State.rvcOff, State.judgeCameraPower_rvc]
    rw [State.rvcOff] at h
    rw [h, decide_eq_true hc]
  rw [hgle, State.turned_eq, crossed, State.reverseToGuide, if_pos rfl, off]
  exact ⟨rfl, rfl⟩

/-- R102: a controller that leaves OFF takes the front row, and preview ends. -/
theorem State.changeRvc_engages {s : State} {c : RvcChange} (hs : s.rvc.state = .off) (hc : c.state ≠ .off) :
    (s.changeRvc c).cmp.front.effective = .cam ∧ (s.changeRvc c).cmp.front.cause = .reverse ∧ (s.changeRvc c).cmp.preview = false := by
  have view := s.changeRvc_view c
  have crossed : (!decide (decide (s.rvc.state = .off) = decide (c.state = .off))) = true := by simp [hs, hc]
  rw [crossed, decide_eq_false hc] at view
  exact ⟨congrArg (fun v => v.front.effective) view, congrArg (fun v => v.front.cause) view,
    (congrArg SourceView.preview view).trans (Bool.and_false _)⟩

end Sys2Proof.Machine
end

section
/-! # Proofs: the lock machine, and what the controller makes of the camera's lock (R19 to R22, R40, R41) -/

namespace Sys2Proof.Machine

/-! ## The record of a port after a frame start (R19 to R21) -/

theorem Port.periodGood_eq {p : Port} {st now : Stamp} (h : p.lastStamp = some st) :
    p.periodGood now = some (decide (10 * (((now - st).toNat : Int) - (nominalPeriod p.format : Int)).natAbs ≤ nominalPeriod p.format)) := by
  rw [Port.periodGood, h]
  rfl

/-- R21: a frame start becomes the last stamp and starts the watch. -/
theorem Port.framed_stamps (p : Port) (now : Stamp) :
    (p.framed now).enabled = p.enabled ∧ (p.framed now).format = p.format ∧ (p.framed now).lastStamp = some now
      ∧ (p.framed now).watch = some (afterUs now (3 * nominalPeriod p.format)) := by
  refine ⟨p.framed_enabled now, ?_⟩
  unfold Port.framed
  (repeat' split) <;> exact ⟨rfl, rfl, rfl⟩

theorem Port.framed_idle {p : Port} (now : Stamp) (h : p.lock = .noSignal ∨ p.lock = .lost) :
    (p.framed now).lock = .acquiring ∧ (p.framed now).good = 0 ∧ (p.framed now).bad = 0 := by
  unfold Port.framed
  rcases h with h | h <;> simp [h]

theorem Port.framed_acquiring_good {p : Port} {now : Stamp} (h : p.lock = .acquiring) (hg : p.periodGood now = some true) :
    (p.framed now).good = p.good + 1 ∧ (p.good < 3 → (p.framed now).lock = .acquiring ∧ (p.framed now).bad = p.bad)
      ∧ (3 ≤ p.good → (p.framed now).lock = .locked ∧ (p.framed now).bad = 0) := by
  unfold Port.framed
  simp only [h, hg]
  split
  · exact ⟨rfl, fun hlt => by omega, fun _ => ⟨rfl, rfl⟩⟩
  · exact ⟨rfl, fun _ => ⟨rfl, rfl⟩, fun hle => by omega⟩

theorem Port.framed_acquiring_bad {p : Port} {now : Stamp} (h : p.lock = .acquiring) (hg : p.periodGood now = some false) :
    (p.framed now).lock = .acquiring ∧ (p.framed now).good = 0 ∧ (p.framed now).bad = p.bad := by
  unfold Port.framed
  simp [h, hg]

theorem Port.framed_locked_good {p : Port} {now : Stamp} (h : p.lock = .locked) (hg : p.periodGood now = some true) :
    (p.framed now).lock = .locked ∧ (p.framed now).bad = 0 ∧ (p.framed now).good = p.good := by
  unfold Port.framed
  simp [h, hg]

theorem Port.framed_locked_bad {p : Port} {now : Stamp} (h : p.lock = .locked) (hg : p.periodGood now = some false) :
    (p.framed now).bad = p.bad + 1 ∧ (p.bad < 2 → (p.framed now).lock = .locked ∧ (p.framed now).good = p.good)
      ∧ (2 ≤ p.bad → (p.framed now).lock = .acquiring ∧ (p.framed now).good = 0) := by
  unfold Port.framed
  simp only [h, hg]
  split
  · exact ⟨rfl, fun hlt => by omega, fun _ => ⟨rfl, rfl⟩⟩
  · exact ⟨rfl, fun _ => ⟨rfl, rfl⟩, fun hle => by omega⟩

/-- R20: a LOCKED port keeps its lock up to the third bad period. -/
theorem Port.framed_keepsLock {p : Port} (now : Stamp) (h : p.lock = .locked) (hb : p.bad ≤ 1) : (p.framed now).lock = .locked := by
  cases hg : p.periodGood now with
  | none => simp [Port.framed, h, hg]
  | some good =>
    cases good with
    | true => exact (Port.framed_locked_good h hg).1
    | false => exact ((Port.framed_locked_bad h hg).2.1 (by omega)).1

/-! ## The controller's answer to the camera's lock -/

/-- What the controller does with a new lock of a powered camera: the ports and the engine stay, and a change is told. -/
structure State.answersLock (s' s : State) : Prop where
  fdp : s'.fdp = s.fdp
  gle : s'.gle = s.gle
  told : ∃ ns, s'.posted s ns ∧ s'.rvc.tells s.rvc ns ∧ ofKind .feed ns = []
  sounds : s'.soundsFrom s

theorem Rvc.tells_nil (r : Rvc) : r.tells r [] := ⟨fun _ => rfl, fun h => absurd rfl h⟩

theorem State.soundsFrom_still {s' s : State} (hr : s'.rvc = s.rvc) (hc : s'.chu = s.chu) : s'.soundsFrom s :=
  ⟨fun _ => ⟨hc, by rw [hr]⟩, fun h => absurd (by rw [hr]) h⟩

theorem State.answersLock_refl (s : State) : s.answersLock s :=
  ⟨rfl, rfl, ⟨[], State.posted_nil rfl rfl, Rvc.tells_nil _, rfl⟩, State.soundsFrom_still rfl rfl⟩

theorem State.changeRvc_answersLock {s : State} {c : RvcChange} (hne : c.state ≠ s.rvc.state) (hs : s.rvc.state ≠ .off) (hc : c.state ≠ .off)
    (hp : s.fdp.camPower = true) (hf : c.state = .fault → s.rvc.state = .cueing ∨ s.rvc.state = .live) : (s.changeRvc c).answersLock s := by
  obtain ⟨ns, posted, tells, -, feed, -⟩ := s.changeRvc_tellsAll c hne
  obtain ⟨fdp, gle⟩ := State.changeRvc_near hs hc hp
  refine ⟨fdp, gle, ⟨ns, posted, tells, ?_⟩, State.changeRvc_sounds s c hne hf⟩
  rw [feed hp]
  exact State.feedTold_none (by rw [State.port, fdp]; rfl)

theorem State.camLocked_answersLock {s : State} (hp : s.fdp.camPower = true) : s.camLocked.answersLock s := by
  have live (hne : RvcState.live ≠ s.rvc.state) (hs : s.rvc.state ≠ .off) : (s.enterLive .pictureUp).answersLock s :=
    State.changeRvc_answersLock hne hs (by decide) hp (fun h => by cases h)
  unfold State.camLocked
  cases h : s.rvc.state with
  | cueing => exact live (by rw [h]; decide) (by rw [h]; decide)
  | fault => exact live (by rw [h]; decide) (by rw [h]; decide)
  | off => exact s.answersLock_refl
  | live => exact s.answersLock_refl
  | held => exact s.answersLock_refl

theorem State.camLeft_answersLock {s : State} (hp : s.fdp.camPower = true) : s.camLeft.answersLock s := by
  unfold State.camLeft
  split
  · next h => exact State.changeRvc_answersLock (by rw [h]; decide) (by rw [h]; decide) (by decide) hp (fun _ => .inr h)
  · exact s.answersLock_refl

/-- R22, R40, R41: CAM takes a record: the controller is told when the lock is completed and when it is lost. -/
theorem State.handLock_cam (s : State) (q : Port) : (s.setPort .cam q).handLock .cam (s.port .cam).lock q.lock
    = if (s.port .cam).lock = q.lock then s.takesPort .cam q
      else if q.lock = .locked then (s.takesPort .cam q).camLocked
      else if (s.port .cam).lock = .locked then (s.takesPort .cam q).camLeft
      else s.takesPort .cam q := by
  unfold State.handLock State.takesPort
  dsimp only
  by_cases h : (s.port .cam).lock = q.lock
  · simp only [if_pos h]
  · simp only [if_neg h, ne_eq, not_true_eq_false, if_false]

theorem State.handLock_answers {s : State} (q : Port) (hp : s.fdp.camPower = true) :
    ((s.setPort .cam q).handLock .cam (s.port .cam).lock q.lock).answersLock (s.takesPort .cam q) := by
  have power : (s.takesPort .cam q).fdp.camPower = true := by rw [State.takesPort_fdp, Fdp.camPower_setPort, hp]
  rw [State.handLock_cam]
  (repeat' split)
  · exact State.answersLock_refl _
  · exact State.camLocked_answersLock power
  · exact State.camLeft_answersLock power
  · exact State.answersLock_refl _

/-! ## An event at the camera's port, whole -/

/-- What an event at the camera's port leaves: the port, the notices and the chimes asked for; the guide line engine may have installed
its set. -/
structure State.camEvent (s' s : State) (q : Port) : Prop where
  fdp : s'.fdp = s.fdp.setPort .cam q
  told : ∃ rest, s'.posted s (s'.feedTold s s.timebase .cam ++ rest) ∧ ofKind .feed rest = []
  tells : ∃ ns, s'.posted s ns ∧ s'.rvc.tells s.rvc ns
  sounds : s'.soundsFrom s

theorem State.feedTold_of_fdp {a b : State} (h : a.fdp = b.fdp) (s : State) (t : Stamp) (f : Feed) : a.feedTold s t f = b.feedTold s t f := by
  unfold State.feedTold State.port
  rw [h]

/-- What is asked of the chime unit depends on the controller, the chime unit and what it reads. -/
theorem State.soundsFrom_of {s' s x' x : State} (h : x'.soundsFrom x) (rvc' : s'.rvc = x'.rvc) (chu' : s'.chu = x'.chu)
    (time' : s'.timebase = x'.timebase) (vin' : s'.vin = x'.vin) (cal' : s'.cal = x'.cal)
    (rvc : s.rvc = x.rvc) (chu : s.chu = x.chu) (cal : s.cal = x.cal) : s'.soundsFrom s := by
  unfold State.soundsFrom State.hearsAs at *
  rw [rvc', chu', time', vin', cal', rvc, chu, cal]
  exact h

/-- R22: the port takes its record, the controller answers, and the engine at most installs its set. -/
theorem State.camEvent_of {s' z s : State} {q : Port} (answers : z.answersLock (s.takesPort .cam q)) (installs : s'.postedOnly z (· = .guide))
    (fdp : s'.fdp = z.fdp) (rvc : s'.rvc = z.rvc) (chu : s'.chu = z.chu) (vin : s'.vin = z.vin) (cal : s'.cal = z.cal) : s'.camEvent s q := by
  obtain ⟨first, told1, kinds1, -⟩ := s.takesPort_posts .cam q
  obtain ⟨change, told2, tells, feed⟩ := answers.told
  obtain ⟨last, told3, kinds3⟩ := installs
  have hfdp : s'.fdp = (s.takesPort .cam q).fdp := fdp.trans answers.fdp
  have whole := State.posted_trans (State.posted_trans told1 told2) told3
  have same : (s.takesPort .cam q).feedTold s s.timebase .cam = s'.feedTold s s.timebase .cam :=
    State.feedTold_of_fdp hfdp.symm s _ _
  rw [same] at whole
  have early (n : Nat × NoticeBody) (hn : n ∈ s'.feedTold s s.timebase .cam ++ first) :
      n.2.kind ≠ .reverse ∧ n.2.kind ≠ .route ∧ n.2.kind ≠ .chime := by
    have kind : n.2.kind = .feed ∨ n.2.kind = .guide := by
      rcases List.mem_append.1 hn with hn | hn
      · exact .inl (feedTold_kinds _ _ _ _ n hn)
      · exact .inr (kinds1 n hn)
    rcases kind with h | h <;> rw [h] <;> decide
  refine ⟨by rw [hfdp, State.takesPort_fdp], ⟨first ++ (change ++ last), by simpa using whole, ?_⟩, ⟨_, whole, ?_⟩, ?_⟩
  · rw [ofKind_append, ofKind_append, ofKind_none kinds1 (by decide), feed, ofKind_none kinds3 (by decide)]
    rfl
  · rw [rvc]
    have told := Rvc.tells_within tells early (after := last) (ofKind_none kinds3 (by decide))
    rwa [State.takesPort_rvc] at told
  · exact State.soundsFrom_of answers.sounds rvc chu told3.1 vin cal (State.takesPort_rvc _ _ _).symm
      (State.takesPort_chu _ _ _).symm (State.takesPort_cal _ _ _).symm

/-- R20, R22: a frame start at an enabled camera port with power. -/
theorem State.frameStart_cam {s : State} (he : (s.port .cam).enabled = true) (hp : s.fdp.camPower = true) :
    (s.frameStart .cam).camEvent s ((s.port .cam).framed s.timebase) := by
  unfold State.frameStart
  dsimp only
  rw [if_pos he, if_pos rfl]
  refine State.camEvent_of (State.handLock_answers _ hp) (State.frameToGuide_posts _ _) ?_ ?_ ?_ ?_ ?_ <;> simp

/-- R21, R22: the expiry of the camera port's watch. -/
theorem State.frameWatchExpired_cam {s : State} {e : Stamp} (hw : (s.port .cam).watch = some e) (due : reached s.timebase e = true)
    (hp : s.fdp.camPower = true) :
    (s.frameWatchExpired .cam).camEvent s { (s.port .cam).cleared with lock := (s.port .cam).lock.afterWatch } := by
  unfold State.frameWatchExpired
  dsimp only
  rw [if_pos (by rw [hw]; exact due)]
  exact State.camEvent_of (State.handLock_answers _ hp) (State.postedOnly_nil _ rfl rfl) rfl rfl rfl rfl rfl

theorem State.frameStart_other {f : Feed} (hf : f ≠ .cam) {s : State} (he : (s.port f).enabled = true) :
    s.frameStart f = s.takesPort f ((s.port f).framed s.timebase) := by
  unfold State.frameStart
  dsimp only
  rw [if_pos he, if_neg hf, State.handLock_other hf]

theorem State.frameWatchExpired_due {s : State} {f : Feed} {e : Stamp} (hw : (s.port f).watch = some e) (due : reached s.timebase e = true) :
    s.frameWatchExpired f = (s.setPort f { (s.port f).cleared with lock := (s.port f).lock.afterWatch }).handLock f (s.port f).lock
      (s.port f).lock.afterWatch := by
  unfold State.frameWatchExpired
  dsimp only
  rw [if_pos (by rw [hw]; exact due)]

/-- What an event at any port leaves of that port, and its notices. -/
structure State.portEvent (s' s : State) (f : Feed) (q : Port) : Prop where
  port : s'.port f = q
  told : ∃ rest, s'.posted s (s'.feedTold s s.timebase f ++ rest) ∧ ofKind .feed rest = [] ∧ (f ≠ .cam → rest = [])
  others : f ≠ .cam → (∀ g, g ≠ f → s'.port g = s.port g) ∧ s'.fdp.camPower = s.fdp.camPower ∧ s'.rvc = s.rvc ∧ s'.gle = s.gle ∧ s'.chu = s.chu

theorem State.camEvent.portEvent {s' s : State} {q : Port} (h : s'.camEvent s q) : s'.portEvent s .cam q := by
  obtain ⟨rest, told, feed⟩ := h.told
  exact ⟨by rw [State.port, h.fdp, Fdp.port_setPort_same], ⟨rest, told, feed, fun hn => absurd rfl hn⟩, fun hn => absurd rfl hn⟩

theorem State.takesPort_portEvent {f : Feed} (hf : f ≠ .cam) (s : State) (q : Port) : (s.takesPort f q).portEvent s f q := by
  obtain ⟨rest, told, kinds, other⟩ := s.takesPort_posts f q
  refine ⟨s.takesPort_port_same f q, ⟨rest, told, ofKind_none kinds (by decide), other⟩, fun _ => ⟨fun g hg => s.takesPort_port_other f q hg, ?_,
    s.takesPort_rvc f q, s.takesPort_gle f q hf, s.takesPort_chu f q⟩⟩
  rw [State.takesPort_fdp, Fdp.camPower_setPort]

theorem State.frameStart_portEvent {s : State} {f : Feed} (he : (s.port f).enabled = true) (hp : f = .cam → s.fdp.camPower = true) :
    (s.frameStart f).portEvent s f ((s.port f).framed s.timebase) := by
  by_cases hf : f = .cam
  · subst hf
    exact (State.frameStart_cam he (hp rfl)).portEvent
  · rw [State.frameStart_other hf he]
    exact State.takesPort_portEvent hf _ _

theorem State.frameWatchExpired_portEvent {s : State} {f : Feed} {e : Stamp} (hw : (s.port f).watch = some e) (due : reached s.timebase e = true)
    (hp : f = .cam → s.fdp.camPower = true) :
    (s.frameWatchExpired f).portEvent s f { (s.port f).cleared with lock := (s.port f).lock.afterWatch } := by
  by_cases hf : f = .cam
  · subst hf
    exact (State.frameWatchExpired_cam hw due (hp rfl)).portEvent
  · rw [State.frameWatchExpired_due hw due]
    have other := State.handLock_other hf s { (s.port f).cleared with lock := (s.port f).lock.afterWatch }
    dsimp only at other
    rw [other]
    exact State.takesPort_portEvent hf _ _

end Sys2Proof.Machine

open Sys2Proof Sys2Proof.Machine

/-- Settles O21: the record of the port (`Port.framed`), and the notices of a lock that changes (`State.portEvent`). -/
theorem frameStartsDriveTheLock : Obligations.FrameStartsDriveTheLock := by
  refine ⟨fun t f s hp hd => ?_, fun t f s hp he hpow => ?_, fun t f s e hp hw due hpow => ?_⟩
  · refine State.happens_leaves hp ?_
    unfold State.frameStart
    exact if_neg (Bool.eq_false_iff.1 hd)
  · let x := s.atTime t
    have event := State.frameStart_portEvent (s := x) he hpow
    obtain ⟨enabled, format, stamp, watch⟩ := (s.port f).framed_stamps t
    have port : (x.frameStart f).port f = (s.port f).framed t := event.port
    obtain ⟨rest, told, feed, none⟩ := event.told
    refine ⟨x.frameStart f, State.happens_leaves hp rfl, by simp [x], ?_, ⟨rest, told.2, feed, none⟩, event.others, by simp [x], by simp [x], by simp [x],
      by simp [x], by simp [x], by simp [x], by simp [x]⟩
    dsimp only
    rw [port]
    refine ⟨enabled.trans he, format, stamp, watch, fun h => ?_, fun st hst => ⟨fun h hg => ?_, fun h hg => ?_, fun h hg => ?_, fun h hg => ?_⟩⟩
    · exact Port.framed_idle t h
    · exact Port.framed_acquiring_good h ((Port.periodGood_eq hst).trans (congrArg _ (decide_eq_true hg)))
    · exact Port.framed_acquiring_bad h ((Port.periodGood_eq hst).trans (congrArg _ (decide_eq_false hg)))
    · exact Port.framed_locked_good h ((Port.periodGood_eq hst).trans (congrArg _ (decide_eq_true hg)))
    · exact Port.framed_locked_bad h ((Port.periodGood_eq hst).trans (congrArg _ (decide_eq_false hg)))
  · let x := s.atTime t
    have event := State.frameWatchExpired_portEvent (s := x) hw due hpow
    obtain ⟨rest, told, feed, none⟩ := event.told
    have port : (x.frameWatchExpired f).port f = { (s.port f).cleared with lock := (s.port f).lock.afterWatch } := event.port
    refine ⟨x.frameWatchExpired f, State.happens_leaves hp rfl, by simp [x], fun h => ?_, fun h => ?_, ?_, ?_, ?_, ?_, ?_, ?_,
      ⟨rest, told.2, feed, none⟩, event.others, by simp [x], by simp [x], by simp [x], by simp [x], by simp [x], by simp [x], by simp [x]⟩
    · rw [port, h]
      rfl
    · rw [port, h]
      rfl
    all_goals rw [port]; rfl

end

section
/-! # Proofs: the controller follows the camera's lock, its timers and the dismissal (R39 to R47) -/

namespace Sys2Proof.Machine

/-! ## The controller's record after a change -/

/-- R36: what a change sets, and the edge stamps that it keeps. -/
theorem State.changeRvc_record (s : State) (c : RvcChange) :
    (s.changeRvc c).rvc.state = c.state ∧ (s.changeRvc c).rvc.reason = c.reason ∧ (s.changeRvc c).rvc.heldView = c.heldView
      ∧ (s.changeRvc c).rvc.cueDeadline = c.cueDeadline ∧ (s.changeRvc c).rvc.holdTimer = c.holdTimer := by
  rw [s.changeRvc_keeps c]
  exact ⟨rfl, rfl, rfl, rfl, rfl⟩

theorem State.changeRvc_edges (s : State) (c : RvcChange) : (s.changeRvc c).rvc.reverseStamp = s.rvc.reverseStamp
    ∧ (s.changeRvc c).rvc.notReverseStamp = s.rvc.notReverseStamp ∧ (s.changeRvc c).rvc.latestEdge = s.rvc.latestEdge := by
  rw [s.changeRvc_keeps c]
  exact ⟨rfl, rfl, rfl⟩

/-- R42: a change from FAULT to LIVE leaves no fault chime. -/
theorem State.changeRvc_hushed {s : State} {c : RvcChange} (h : s.rvc.state = .fault) (hc : c.state = .live) :
    (s.changeRvc c).rvc.faultChime = none := by
  have still : s.crosses c = false := by simp [State.crosses, h, hc]
  rw [State.changeRvc_eq, still, h, hc]
  show (s.turned c).rvc.faultChime = none
  rw [State.turned_rvc, State.recorded_hushed h]

/-- The engine's installation leaves the front view. -/
theorem State.install_frontView (s : State) : s.install.cmp.frontView = s.cmp.frontView := by
  have h := s.install_facing
  simp only [State.facing, Prod.mk.injEq] at h
  exact h.2.1

theorem State.frameToGuide_frontView (s : State) (l : Lock) : (s.frameToGuide l).cmp.frontView = s.cmp.frontView := by
  unfold State.frameToGuide
  split
  · exact s.install_frontView
  · rfl

/-! ## The camera's lock (R40, R41) -/

/-- R40: the frame start that completes the lock. -/
theorem State.frameStart_locks {s : State} (he : (s.port .cam).enabled = true) (hl : (s.port .cam).lock ≠ .locked)
    (hq : ((s.port .cam).framed s.timebase).lock = .locked) :
    s.frameStart .cam = ((s.takesPort .cam ((s.port .cam).framed s.timebase)).camLocked).frameToGuide .locked := by
  unfold State.frameStart
  dsimp only
  rw [if_pos he, if_pos rfl, State.handLock_cam, if_neg (by rw [hq]; exact hl), if_pos hq, hq]

/-- R41: the frame start whose period breaks the lock. -/
theorem State.frameStart_unlocks {s : State} (he : (s.port .cam).enabled = true) (hl : (s.port .cam).lock = .locked)
    (hq : ((s.port .cam).framed s.timebase).lock = .acquiring) :
    s.frameStart .cam = ((s.takesPort .cam ((s.port .cam).framed s.timebase)).camLeft).frameToGuide .acquiring := by
  unfold State.frameStart
  dsimp only
  rw [if_pos he, if_pos rfl, State.handLock_cam, if_neg (by rw [hl, hq]; decide), if_neg (by rw [hq]; decide), if_pos hl, hq]

theorem State.frameWatchExpired_unlocks {s : State} {e : Stamp} (hw : (s.port .cam).watch = some e) (due : reached s.timebase e = true)
    (hl : (s.port .cam).lock = .locked) :
    s.frameWatchExpired .cam = (s.takesPort .cam { (s.port .cam).cleared with lock := .lost }).camLeft := by
  have taken := State.handLock_cam s { (s.port .cam).cleared with lock := .lost }
  rw [State.frameWatchExpired_due hw due, hl]
  rw [hl] at taken
  refine taken.trans ?_
  rw [if_neg (show Lock.locked ≠ .lost by decide), if_neg (show Lock.lost ≠ .locked by decide), if_pos rfl]

theorem State.camLocked_live {s : State} (h : s.rvc.state = .cueing ∨ s.rvc.state = .fault) : s.camLocked = s.enterLive .pictureUp := by
  rcases h with h | h <;> simp only [State.camLocked, h]

theorem State.camLocked_stays {s : State} (h : s.rvc.state = .off ∨ s.rvc.state = .held) : s.camLocked = s := by
  rcases h with h | h <;> simp only [State.camLocked, h]

theorem State.camLeft_fault {s : State} (h : s.rvc.state = .live) : s.camLeft = s.enterFault .pictureLost := if_pos h

theorem State.camLeft_stays {s : State} (h : s.rvc.state = .off ∨ s.rvc.state = .held ∨ s.rvc.state = .fault) : s.camLeft = s :=
  if_neg (by rcases h with h | h | h <;> rw [h] <;> decide)

/-- R41: what the loss of the picture leaves. -/
theorem State.camLeft_leaves {s y : State} (hr : y.rvc = s.rvc) : (s.rvc.state = .live → y.camLeft.rvc.state = .fault
      ∧ y.camLeft.rvc.reason = .pictureLost ∧ y.camLeft.cmp.frontView = .fault)
    ∧ (s.rvc.state = .off ∨ s.rvc.state = .held ∨ s.rvc.state = .fault → y.camLeft.rvc = s.rvc) := by
  refine ⟨fun h => ?_, fun h => ?_⟩
  · rw [State.camLeft_fault (by rw [hr]; exact h)]
    obtain ⟨state, reason, -⟩ := y.changeRvc_record ⟨.fault, .pictureLost, .none, none, none⟩
    exact ⟨state, reason, (y.changeRvc_frontView ⟨.fault, .pictureLost, .none, none, none⟩).1⟩
  · rw [State.camLeft_stays (by rw [hr]; exact h), hr]

/-! ## The entry to OFF (R43 to R48) -/

/-- R48: what an entry to OFF leaves. -/
theorem State.enterOff_entersOff {s : State} (h : s.rvc.state ≠ .off) (reason : RvcReason) : (s.enterOff reason).entersOff s reason := by
  have hne : (⟨.off, reason, .none, none, none⟩ : RvcChange).state ≠ s.rvc.state := fun he => h he.symm
  obtain ⟨ns, posted, tells, route, feed, -⟩ := s.changeRvc_tellsAll _ hne
  obtain ⟨state, hreason, view, cue, hold⟩ := s.changeRvc_record ⟨.off, reason, .none, none, none⟩
  obtain ⟨mode, follow⟩ := State.changeRvc_idle (c := ⟨.off, reason, .none, none, none⟩) h rfl
  have time : (s.enterOff reason).timebase = s.timebase := by simp
  refine ⟨⟨ns, by rw [time]; exact posted.2, tells, route, by rw [time]; exact feed⟩, State.changeRvc_sounds s _ hne (fun he => by cases he), state, hreason,
    view, cue, hold, s.changeRvc_camPower _, (s.changeRvc_frontView _).1, mode, follow, by simp, by simp, by simp, by simp, by simp, by simp⟩

end Sys2Proof.Machine

open Sys2Proof Sys2Proof.Machine

/-- Settles O24: the camera's lock (`State.camEvent`), and the changes that the timers and the dismissal make (`State.changeRvc_tellsAll`). -/
theorem cameraLockTimersAndDismissDriveTheController : Obligations.CameraLockTimersAndDismissDriveTheController := by
  refine ⟨fun t s st hp he hpow hl hgood hst hper => ?_, fun t s e hp hpow hl hw due => ?_, fun t s st hp he hpow hl hbad hst hper => ?_,
    fun t s e hp hs hc due => ?_, fun t s e hp hs hh due => ?_, fun t s hask hm hs => ?_, fun t s hask hm hs => ?_⟩
  · let x := s.atTime t
    let q := (s.port .cam).framed t
    have event := State.frameStart_cam (s := x) he hpow
    obtain ⟨ns, told, tells⟩ := event.tells
    have judged := (Port.periodGood_eq (p := s.port .cam) (now := t) hst).trans (congrArg _ (decide_eq_true hper))
    have hq : q.lock = .locked := ((Port.framed_acquiring_good hl judged).2.2 (by omega)).1
    have locks : x.frameStart .cam = ((x.takesPort .cam q).camLocked).frameToGuide .locked :=
      State.frameStart_locks (s := x) he (by rw [show (x.port .cam).lock = .acquiring from hl]; decide) hq
    have hr : (x.takesPort .cam q).rvc = s.rvc := x.takesPort_rvc .cam q
    refine ⟨x.frameStart .cam, State.happens_leaves hp rfl, by simp [x], ⟨ns, told.2, tells⟩, event.sounds, fun h => ?_, fun h => ?_, fun h => ?_⟩
    · obtain ⟨state, reason, -, cue, -⟩ := (x.takesPort .cam q).changeRvc_record ⟨.live, .pictureUp, .none, none, none⟩
      rw [locks, State.camLocked_live (by rw [hr]; exact h), State.frameToGuide_rvc, State.frameToGuide_frontView]
      exact ⟨state, reason, cue, (State.changeRvc_frontView _ _).1⟩
    · rw [locks, State.camLocked_live (by rw [hr]; exact .inr h), State.frameToGuide_rvc]
      exact State.changeRvc_hushed (by rw [hr]; exact h) rfl
    · rw [locks, State.camLocked_stays (by rw [hr]; exact h), State.frameToGuide_rvc, hr]
  · let x := s.atTime t
    have event := State.frameWatchExpired_cam (s := x) hw due hpow
    obtain ⟨ns, told, tells⟩ := event.tells
    refine ⟨x.frameWatchExpired .cam, State.happens_leaves hp rfl, by simp [x], ⟨ns, told.2, tells⟩, event.sounds, ?_⟩
    rw [State.frameWatchExpired_unlocks (s := x) hw due hl]
    exact State.camLeft_leaves (x.takesPort_rvc .cam _)
  · let x := s.atTime t
    let q := (s.port .cam).framed t
    have event := State.frameStart_cam (s := x) he hpow
    obtain ⟨ns, told, tells⟩ := event.tells
    have judged := (Port.periodGood_eq (p := s.port .cam) (now := t) hst).trans (congrArg _ (decide_eq_false hper))
    have hq : q.lock = .acquiring := ((Port.framed_locked_bad hl judged).2.2 (by omega)).1
    refine ⟨x.frameStart .cam, State.happens_leaves hp rfl, by simp [x], ⟨ns, told.2, tells⟩, event.sounds, ?_⟩
    rw [State.frameStart_unlocks (s := x) he hl hq, State.frameToGuide_rvc, State.frameToGuide_frontView]
    exact State.camLeft_leaves (x.takesPort_rvc .cam _)
  · let x := s.atTime t
    have hne : (⟨.fault, .noPicture, .none, none, none⟩ : RvcChange).state ≠ x.rvc.state := by
      rw [show x.rvc.state = .cueing from hs]
      decide
    obtain ⟨ns, posted, tells, -⟩ := x.changeRvc_tellsAll _ hne
    obtain ⟨state, reason, view, cue, -⟩ := x.changeRvc_record ⟨.fault, .noPicture, .none, none, none⟩
    obtain ⟨front, shown⟩ := x.changeRvc_frontView ⟨.fault, .noPicture, .none, none, none⟩
    have expires : x.cueExpired = x.enterFault .noPicture := if_pos ⟨hs, by rw [show x.rvc.cueDeadline = some e from hc]; exact due⟩
    refine ⟨x.enterFault .noPicture, State.happens_leaves hp expires, by simp [x], state, ⟨ns, posted.2, tells⟩,
      State.changeRvc_sounds x _ hne (fun _ => .inl hs), reason, cue, view, front, shown, (x.changeRvc_edges _).1, ?_, ?_, ?_, ?_, ?_, ?_, ?_⟩ <;> simp [x]
  · let x := s.atTime t
    have expires : x.holdExpired = x.enterOff .holdExpired := if_pos ⟨hs, by rw [show x.rvc.holdTimer = some e from hh]; exact due⟩
    have off : x.rvc.state ≠ .off := by
      rw [show x.rvc.state = .held from hs]
      decide
    exact ⟨x.enterOff .holdExpired, State.happens_leaves hp expires, by simp [x], State.enterOff_entersOff off _, by simp [x]⟩
  · let x := s.atTime t
    have off : x.rvc.state ≠ .off := by
      rw [show x.rvc.state = .held from hs]
      decide
    exact ⟨x.enterOff .dismissed, State.request_leaves hask rfl (.inl hm) (if_pos hs), by simp [x], State.enterOff_entersOff off _, by simp [x]⟩
  · exact State.request_onlyReplies hask rfl (.inl hm) (if_neg hs)

end

section
/-! # Proofs: the gear line and a confirmed level (R28, R29, R37, R38, R43) -/

namespace Sys2Proof.Machine

/-- What an event at a pin leaves of a running part. -/
theorem State.pin_leaves {s s1 : State} {t : Stamp} {record act : State → State} (hp : s.phase = .running) (h : act (s.atTime t) = s1) :
    s.pinEvent t record act = .next s1.settle := by
  rw [State.pinEvent, if_pos hp]
  exact State.happens_leaves hp h

theorem levelOf_not (high : Bool) : levelOf high ≠ levelOf (!high) := by
  cases high <;> decide

/-! ## The controller's answer to a confirmed level -/

/-- What the controller tells and asks for when it takes a confirmed level. -/
structure State.answersGear (s' s : State) : Prop where
  told : ∃ ns, s'.posted s ns ∧ s'.rvc.tells s.rvc ns ∧ ofMatter .route 1 ns = s'.cmp.front.routeTold s.cmp.front .fro ∧ ofKind .mode ns = []
  sounds : s'.soundsFrom s

theorem Row.routeTold_self (r : Row) (o : Output) : r.routeTold r o = [] := if_pos ⟨rfl, rfl⟩

theorem State.answersGear_refl (s : State) : s.answersGear s :=
  ⟨⟨[], State.posted_nil rfl rfl, Rvc.tells_nil _, (Row.routeTold_self _ _).symm, rfl⟩, State.soundsFrom_still rfl rfl⟩

theorem State.changeRvc_answersGear {s : State} {c : RvcChange} (hne : c.state ≠ s.rvc.state) (hf : c.state ≠ .fault) : (s.changeRvc c).answersGear s := by
  obtain ⟨ns, posted, tells, route, -, kinds⟩ := s.changeRvc_tellsAll c hne
  exact ⟨⟨ns, posted, tells, route, ofKind_none kinds (by decide)⟩, State.changeRvc_sounds s c hne (fun h => absurd h hf)⟩

/-! ## A confirmed REVERSE (R38, R46) -/

theorem State.confirmedReverse_engages {s : State} (h : s.rvc.state = .off ∨ s.rvc.state = .held) :
    s.confirmedReverse = if (s.port .cam).lock = .locked then s.enterLive .gearReverse else s.enterCueing := by
  rcases h with h | h <;> simp only [State.confirmedReverse, h]

theorem State.confirmedReverse_stays {s : State} (h : s.rvc.state = .cueing ∨ s.rvc.state = .live ∨ s.rvc.state = .fault) : s.confirmedReverse = s := by
  rcases h with h | h | h <;> simp only [State.confirmedReverse, h]

/-- A confirmed level changes the controller to a state that is neither its own nor FAULT, or leaves it. -/
def State.changesOrStays (s' s : State) : Prop :=
  s' = s ∨ ∃ c : RvcChange, c.state ≠ s.rvc.state ∧ c.state ≠ .fault ∧ s' = s.changeRvc c

theorem State.changesOrStays.answersGear {s' s : State} (h : s'.changesOrStays s) : s'.answersGear s := by
  obtain rfl | ⟨c, hne, hf, rfl⟩ := h
  · exact s'.answersGear_refl
  · exact State.changeRvc_answersGear hne hf

/-- R37: the edges stay as they were recorded. -/
theorem State.changesOrStays.edges {s' s : State} (h : s'.changesOrStays s) : s'.rvc.reverseStamp = s.rvc.reverseStamp
    ∧ s'.rvc.notReverseStamp = s.rvc.notReverseStamp ∧ s'.rvc.latestEdge = s.rvc.latestEdge := by
  obtain rfl | ⟨c, -, -, rfl⟩ := h
  · exact ⟨rfl, rfl, rfl⟩
  · exact s.changeRvc_edges c

/-- R26: a controller that enters OFF leaves camera power to preview. -/
theorem State.changesOrStays.power {s' s : State} (h : s'.changesOrStays s) (hs : s.rvc.state ≠ .off) (off : s'.rvc.state = .off) :
    s'.fdp.camPower = s.cmp.preview := by
  obtain rfl | ⟨c, -, -, rfl⟩ := h
  · exact absurd off hs
  · rw [(s.changeRvc_record c).1] at off
    rw [State.changeRvc_camPower, off]
    rfl

theorem State.confirmedReverse_changesOrStays (s : State) : s.confirmedReverse.changesOrStays s := by
  have engages (h : s.rvc.state = .off ∨ s.rvc.state = .held) : s.confirmedReverse.changesOrStays s := by
    have other : RvcState.live ≠ s.rvc.state ∧ RvcState.cueing ≠ s.rvc.state := by
      rcases h with h | h <;> rw [h] <;> decide
    rw [State.confirmedReverse_engages h]
    split
    · exact .inr ⟨_, other.1, (fun he => by cases he), rfl⟩
    · exact .inr ⟨_, other.2, (fun he => by cases he), rfl⟩
  cases h : s.rvc.state with
  | off => exact engages (.inl h)
  | held => exact engages (.inr h)
  | cueing => exact .inl (State.confirmedReverse_stays (.inl h))
  | live => exact .inl (State.confirmedReverse_stays (.inr (.inl h)))
  | fault => exact .inl (State.confirmedReverse_stays (.inr (.inr h)))

/-! ## A confirmed NOT_REVERSE (R43) -/

theorem State.exitSpeedReached_iff (s : State) : s.exitSpeedReached = true ↔ s.speedFresh = true ∧ calExitSpeed s.cal.working ≤ s.vin.speed := by
  rw [State.exitSpeedReached, Bool.and_eq_true, decide_eq_true_iff]
  rfl

theorem State.release_off {s : State} {v : HeldView} (h : calHoldTime s.cal.working = 0) : s.release v = s.enterOff .gearReleased := if_pos h

theorem State.release_exits {s : State} {v : HeldView} (h : calHoldTime s.cal.working ≠ 0) (he : s.exitSpeedReached = true) :
    s.release v = s.enterOff .speedExit := (if_neg h).trans (if_pos he)

theorem State.release_holds {s : State} {v : HeldView} (h : calHoldTime s.cal.working ≠ 0) (he : s.exitSpeedReached = false) :
    s.release v = s.enterHeld v := (if_neg h).trans (if_neg (Bool.eq_false_iff.1 he))

theorem State.confirmedNotReverse_cueing {s : State} (h : s.rvc.state = .cueing) : s.confirmedNotReverse = s.enterOff .gearReleased := by
  simp only [State.confirmedNotReverse, h]

theorem State.confirmedNotReverse_releases {s : State} (h : s.rvc.state = .live ∨ s.rvc.state = .fault) :
    s.confirmedNotReverse = s.release (if s.rvc.state = .live then .camera else .fault) := by
  rcases h with h | h <;> simp [State.confirmedNotReverse, h]

theorem State.confirmedNotReverse_stays {s : State} (h : s.rvc.state = .off ∨ s.rvc.state = .held) : s.confirmedNotReverse = s := by
  rcases h with h | h <;> simp only [State.confirmedNotReverse, h]

theorem State.confirmedNotReverse_changesOrStays (s : State) : s.confirmedNotReverse.changesOrStays s := by
  have releases (h : s.rvc.state = .live ∨ s.rvc.state = .fault) : s.confirmedNotReverse.changesOrStays s := by
    have other : RvcState.off ≠ s.rvc.state ∧ RvcState.held ≠ s.rvc.state := by
      rcases h with h | h <;> rw [h] <;> decide
    rw [State.confirmedNotReverse_releases h, State.release]
    generalize (if s.rvc.state = .live then HeldView.camera else .fault) = view
    (repeat' split)
    · exact .inr ⟨_, other.1, (fun he => by cases he), rfl⟩
    · exact .inr ⟨_, other.1, (fun he => by cases he), rfl⟩
    · exact .inr ⟨_, other.2, (fun he => by cases he), rfl⟩
  cases h : s.rvc.state with
  | off => exact .inl (State.confirmedNotReverse_stays (.inl h))
  | held => exact .inl (State.confirmedNotReverse_stays (.inr h))
  | cueing => exact .inr ⟨_, (by rw [h]; exact fun he => by cases he), (fun he => by cases he), State.confirmedNotReverse_cueing h⟩
  | live => exact releases (.inl h)
  | fault => exact releases (.inr h)

/-! ## The wake (R9) -/

/-- R23, R25: the ports of the three feeds are enabled and wait for their first frame start; CAM is not touched. -/
theorem State.enableFeeds_port (s : State) : (∀ f, f ≠ .cam → s.enableFeeds.port f = { (s.port f).cleared with enabled := true })
    ∧ s.enableFeeds.port .cam = s.port .cam ∧ s.enableFeeds.fdp.camPower = s.fdp.camPower := by
  refine ⟨fun f hf => ?_, rfl, rfl⟩
  cases f with
  | cam => exact absurd rfl hf
  | _ => rfl

theorem State.runEffects_port (s : State) : (∀ f, f ≠ .cam → s.runEffects.port f = { (s.port f).cleared with enabled := true })
    ∧ s.runEffects.port .cam = s.port .cam ∧ s.runEffects.fdp.camPower = s.fdp.camPower := by
  unfold State.port
  rw [s.runEffects_fdp]
  exact s.enableFeeds_port

/-- R9: what the wake leaves of what the controller reads and tells. -/
structure State.wakesTo (w g : State) (level : Gear) : Prop where
  told : ∃ ns, w.posted { g with cli := { g.cli with mode := w.cli.mode } } ns ∧ ofKinds ns (fun k => k = .link ∨ k = .mode)
    ∧ ofKind .mode ns = if level = .reverse ∧ g.cli.mode = .standby then [(0, .mode .run .reverseWake)] else []
  mode : w.cli.mode = if level = .reverse then .run else g.cli.mode
  cam : w.port .cam = g.port .cam
  front : w.cmp.front.effective = g.cmp.front.effective ∧ w.cmp.front.cause = g.cmp.front.cause
  preview : w.cmp.preview = g.cmp.preview

theorem linkTold_kinds (s' s : State) (i : Seat) : ofKinds (s'.linkTold s i) (· = .link) := by
  unfold State.linkTold
  split
  · intro n hn
    cases hn
  · intro n hn
    rw [List.mem_singleton.1 hn]
    rfl

theorem State.reverseWake_wakes (g : State) (level : Gear) : (g.reverseWake level).wakesTo g level := by
  have view := g.reverseWake_view level
  have cam : (g.reverseWake level).port .cam = g.port .cam := by
    unfold State.reverseWake
    split
    · exact (g.setMode .run).runEffects_port.2.1
    · rfl
  refine ⟨?_, ?_, cam, ⟨congrArg (fun v => v.front.effective) view, congrArg (fun v => v.front.cause) view⟩, congrArg SourceView.preview view⟩
  · unfold State.reverseWake
    split
    · next h =>
      have told := g.enterRun_posts .reverseWake
      have links : ofKinds ((g.enterRun .reverseWake).linkTold g .s1 ++ (g.enterRun .reverseWake).linkTold g .s2) (· = .link) :=
        ofKinds_append (linkTold_kinds _ _ _) (linkTold_kinds _ _ _)
      rw [State.enterRun_mode]
      refine ⟨_, told, ofKinds_append (fun n hn => .inl (links n hn)) (fun n hn => ?_), ?_⟩
      · rw [List.mem_singleton.1 hn]
        exact .inr rfl
      · rw [ofKind_append, ofKind_none links (by decide)]
        rfl
    · exact ⟨[], State.posted_nil rfl rfl, (fun n hn => by cases hn), rfl⟩
  · unfold State.reverseWake
    cases hm : g.cli.mode <;> cases level <;> simp [hm]

/-! ## A raw edge (R28) -/

theorem State.gearEdge_same {s : State} {raw : Bool} (h : s.vin.gearRaw = raw) : s.gearEdge raw = s := if_pos h.symm

theorem State.gearEdge_cancels {s : State} {raw : Bool} (h : s.vin.gearRaw ≠ raw) (hc : s.vin.candidate ≠ none) :
    s.gearEdge raw = { s with vin := { s.vin with gearRaw := raw, candidate := none } } := by
  obtain ⟨c, hc⟩ := Option.ne_none_iff_exists'.1 hc
  simp only [State.gearEdge, if_neg (Ne.symm h), hc]
  rfl

theorem State.gearEdge_begins {s : State} {raw : Bool} (h : s.vin.gearRaw ≠ raw) (hc : s.vin.candidate = none) (hg : s.vin.gear = levelOf (!raw)) :
    s.gearEdge raw = { s with vin := { s.vin with gearRaw := raw, candidate := some ⟨levelOf raw, s.timebase, afterMs s.timebase (calDebounce s.cal.working)⟩ } } := by
  have other : levelOf raw ≠ s.vin.gear := by
    rw [hg]
    exact levelOf_not raw
  simp only [State.gearEdge, if_neg (Ne.symm h), hc, if_neg other]
  rfl

/-! ## The expiry of a debounce timer (R29, R37) -/

theorem Rvc.record_fields (r : Rvc) (level : Gear) (edge : Stamp) : (r.record level edge).state = r.state ∧ (r.record level edge).reason = r.reason
    ∧ (r.record level edge).faultChime = r.faultChime ∧ (r.record level edge).holdTimer = r.holdTimer ∧ (r.record level edge).latestEdge = some level := by
  cases level <;> exact ⟨rfl, rfl, rfl, rfl, rfl⟩

/-- R37: the part when a level is confirmed: the controller has recorded its edge, and the part has woken. -/
def State.confirming (s : State) (level : Gear) (edge : Stamp) : State :=
  let w := (s.setGear s.vin.gearRaw level none).reverseWake level
  { w with rvc := w.rvc.record level edge }

theorem State.debounceExpired_due {s : State} {level : Gear} {edge expiry : Stamp} (h : s.vin.candidate = some ⟨level, edge, expiry⟩)
    (due : reached s.timebase expiry = true) :
    s.debounceExpired = match level with
      | .reverse => (s.confirming .reverse edge).confirmedReverse
      | .notReverse => (s.confirming .notReverse edge).confirmedNotReverse := by
  simp only [State.debounceExpired, h, due, if_true]
  cases level <;> rfl

/-- What the controller finds when it takes a confirmed level. -/
structure State.confirms (r s : State) (level : Gear) (edge : Stamp) : Prop where
  timebase : r.timebase = s.timebase
  told : ∃ ns, r.posted { s with cli := { s.cli with mode := r.cli.mode } } ns ∧ ofKinds ns (fun k => k = .link ∨ k = .mode)
    ∧ ofKind .mode ns = if level = .reverse ∧ s.cli.mode = .standby then [(0, .mode .run .reverseWake)] else []
  mode : r.cli.mode = if level = .reverse then .run else s.cli.mode
  queue : r.cli.queue = s.cli.queue
  vin : r.vin = { s.vin with gear := level, candidate := none }
  rvc : r.rvc = s.rvc.record level edge
  cam : r.port .cam = s.port .cam
  front : r.cmp.front.effective = s.cmp.front.effective ∧ r.cmp.front.cause = s.cmp.front.cause
  preview : r.cmp.preview = s.cmp.preview
  mnu : r.mnu = s.mnu
  sct : r.sct = s.sct
  chu : r.chu = s.chu
  cal : r.cal = s.cal
  pending : r.pending = s.pending

theorem State.confirming_confirms (s : State) (level : Gear) (edge : Stamp) : (s.confirming level edge).confirms s level edge := by
  have wakes := (s.setGear s.vin.gearRaw level none).reverseWake_wakes level
  obtain ⟨ns, told, kinds, modes⟩ := wakes.told
  exact {
    timebase := by simp [State.confirming, State.setGear]
    told := ⟨ns, told, kinds, modes⟩
    mode := wakes.mode
    queue := by simp [State.confirming, State.setGear]
    vin := by simp [State.confirming, State.setGear]
    rvc := by simp [State.confirming, State.setGear]
    cam := wakes.cam
    front := wakes.front
    preview := wakes.preview
    mnu := by simp [State.confirming, State.setGear]
    sct := by simp [State.confirming, State.setGear]
    chu := by simp [State.confirming, State.setGear]
    cal := by simp [State.confirming, State.setGear]
    pending := by simp [State.confirming, State.setGear] }

theorem State.soundsFrom_before {s' r s : State} (h : s'.soundsFrom r) (state : r.rvc.state = s.rvc.state) (fault : r.rvc.faultChime = s.rvc.faultChime)
    (chu : r.chu = s.chu) (cal : r.cal = s.cal) : s'.soundsFrom s := by
  unfold State.soundsFrom at *
  rw [state, fault, chu, cal] at h
  exact h

theorem Rvc.tells_before {r' r r0 : Rvc} {ns : List (Nat × NoticeBody)} (h : r'.tells r ns) (state : r.state = r0.state) : r'.tells r0 ns := by
  unfold Rvc.tells at *
  rwa [state] at h

theorem Row.routeTold_before {r r0 : Row} (h : r.effective = r0.effective ∧ r.cause = r0.cause) (r' : Row) (o : Output) :
    r'.routeTold r o = r'.routeTold r0 o := by
  unfold Row.routeTold
  rw [h.1, h.2]

/-- What a confirmed level tells and asks for, whole: the wake's notices, then the controller's. -/
theorem State.confirms.answered {s r z : State} {level : Gear} {edge : Stamp} (h : r.confirms s level edge) (answers : z.answersGear r)
    (hm : z.cli.mode = r.cli.mode) :
    (∃ ns, z.cli = ({ s.cli with mode := z.cli.mode } : Cli).postAll s.timebase ns ∧ z.rvc.tells s.rvc ns
      ∧ ofKind .mode ns = (if level = .reverse ∧ s.cli.mode = .standby then [(0, .mode .run .reverseWake)] else [])
      ∧ ofMatter .route 1 ns = z.cmp.front.routeTold s.cmp.front .fro) ∧ z.soundsFrom s := by
  obtain ⟨wake, told1, kinds, modes⟩ := h.told
  obtain ⟨change, told2, tells, route, mode⟩ := answers.told
  obtain ⟨state, -, fault, -⟩ := s.rvc.record_fields level edge
  have hstate : r.rvc.state = s.rvc.state := by rw [h.rvc, state]
  have hfault : r.rvc.faultChime = s.rvc.faultChime := by rw [h.rvc, fault]
  refine ⟨⟨wake ++ change, ?_, ?_, ?_, ?_⟩, State.soundsFrom_before answers.sounds hstate hfault h.chu h.cal⟩
  · rw [hm]
    exact (State.posted_trans told1 told2).2
  · have told := Rvc.tells_within (Rvc.tells_before tells hstate) (before := wake) (after := [])
      (fun n hn => by rcases kinds n hn with hk | hk <;> rw [hk] <;> decide) rfl
    simpa using told
  · rw [ofKind_append, modes, mode, List.append_nil]
  · rw [ofMatter_append, ofMatter_none kinds (by decide), List.nil_append, route]
    exact Row.routeTold_before h.front _ _

/-! ## A confirmed REVERSE, whole (R38, R46) -/

theorem State.confirmedReverse_leaves {s : State} (h : s.rvc.state = .off ∨ s.rvc.state = .held) :
    s.confirmedReverse.rvc.reason = .gearReverse ∧ s.confirmedReverse.rvc.heldView = .none ∧ s.confirmedReverse.rvc.holdTimer = none
    ∧ ((s.port .cam).lock = .locked → s.confirmedReverse.rvc.state = .live ∧ s.confirmedReverse.rvc.cueDeadline = none)
    ∧ ((s.port .cam).lock ≠ .locked → s.confirmedReverse.rvc.state = .cueing
        ∧ s.confirmedReverse.rvc.cueDeadline = some (afterMs s.timebase (calCueDeadline s.cal.working))) := by
  rw [State.confirmedReverse_engages h]
  split
  · next hl =>
    obtain ⟨state, reason, view, cue, hold⟩ := s.changeRvc_record ⟨.live, .gearReverse, .none, none, none⟩
    exact ⟨reason, view, hold, fun _ => ⟨state, cue⟩, fun hn => absurd hl hn⟩
  · next hl =>
    obtain ⟨state, reason, view, cue, hold⟩ :=
      s.changeRvc_record ⟨.cueing, .gearReverse, .none, some (afterMs s.timebase (calCueDeadline s.image)), none⟩
    exact ⟨reason, view, hold, fun hn => absurd hn hl, fun _ => ⟨state, cue⟩⟩

/-- R26, R102: a controller that leaves OFF has the camera powered and shown. -/
theorem State.confirmedReverse_shows {s : State} (h : s.rvc.state = .off) : s.confirmedReverse.fdp.camPower = true
    ∧ s.confirmedReverse.cmp.front.effective = .cam ∧ s.confirmedReverse.cmp.front.cause = .reverse ∧ s.confirmedReverse.cmp.preview = false := by
  have engages {c : RvcChange} (hc : c.state ≠ .off) : (s.changeRvc c).fdp.camPower = true ∧ (s.changeRvc c).cmp.front.effective = .cam
      ∧ (s.changeRvc c).cmp.front.cause = .reverse ∧ (s.changeRvc c).cmp.preview = false := by
    refine ⟨?_, State.changeRvc_engages h hc⟩
    rw [State.changeRvc_camPower, decide_eq_true hc]
    rfl
  rw [State.confirmedReverse_engages (.inl h)]
  split <;> exact engages (fun he => by cases he)

/-! ## A confirmed NOT_REVERSE, whole (R43) -/

theorem State.confirmedNotReverse_leaves {s : State} (h : s.rvc.state = .live ∨ s.rvc.state = .fault) :
    (calHoldTime s.cal.working = 0 → s.confirmedNotReverse.rvc.state = .off ∧ s.confirmedNotReverse.rvc.reason = .gearReleased)
    ∧ (calHoldTime s.cal.working ≠ 0 → s.speedFresh = true → calExitSpeed s.cal.working ≤ s.vin.speed →
        s.confirmedNotReverse.rvc.state = .off ∧ s.confirmedNotReverse.rvc.reason = .speedExit)
    ∧ (calHoldTime s.cal.working ≠ 0 → (s.speedFresh = false ∨ s.vin.speed < calExitSpeed s.cal.working) →
        s.confirmedNotReverse.rvc.state = .held ∧ s.confirmedNotReverse.rvc.reason = .gearReleased
        ∧ s.confirmedNotReverse.rvc.heldView = (if s.rvc.state = .live then .camera else .fault)
        ∧ s.confirmedNotReverse.rvc.holdTimer = some (afterMs s.timebase (calHoldTime s.cal.working))) := by
  rw [State.confirmedNotReverse_releases h]
  refine ⟨fun h0 => ?_, fun h0 fresh fast => ?_, fun h0 slow => ?_⟩
  · rw [State.release_off h0]
    obtain ⟨state, reason, -⟩ := s.changeRvc_record ⟨.off, .gearReleased, .none, none, none⟩
    exact ⟨state, reason⟩
  · rw [State.release_exits h0 (s.exitSpeedReached_iff.2 ⟨fresh, fast⟩)]
    obtain ⟨state, reason, -⟩ := s.changeRvc_record ⟨.off, .speedExit, .none, none, none⟩
    exact ⟨state, reason⟩
  · have stays : s.exitSpeedReached = false := by
      rw [Bool.eq_false_iff]
      intro he
      obtain ⟨fresh, fast⟩ := s.exitSpeedReached_iff.1 he
      rcases slow with slow | slow
      · rw [fresh] at slow
        cases slow
      · omega
    rw [State.release_holds h0 stays]
    obtain ⟨state, reason, view, -, hold⟩ := s.changeRvc_record ⟨.held, .gearReleased, if s.rvc.state = .live then .camera else .fault, none,
      some (afterMs s.timebase (calHoldTime s.image))⟩
    exact ⟨state, reason, view, hold⟩

end Sys2Proof.Machine

open Sys2Proof Sys2Proof.Machine

/-- Settles O23: the edges by the cases of `State.gearEdge`; a confirmed level by what the controller finds (`State.confirms`) and what it answers
(`State.answersGear`). -/
theorem gearEdgesAndConfirmedGear : Obligations.GearEdgesAndConfirmedGear := by
  refine ⟨fun t high s hp => ⟨fun h => ?_, fun h hc => ?_, fun h hc hg => ?_⟩, fun t s level edge expiry hp hc due => ?_⟩
  · exact State.pin_leaves hp (record := recordOf (.gearEdge t high)) (act := eventOf (.gearEdge t high)) (State.gearEdge_same (s := s.atTime t) h)
  · exact State.pin_leaves hp (record := recordOf (.gearEdge t high)) (act := eventOf (.gearEdge t high)) (State.gearEdge_cancels (s := s.atTime t) h hc)
  · exact State.pin_leaves hp (record := recordOf (.gearEdge t high)) (act := eventOf (.gearEdge t high)) (State.gearEdge_begins (s := s.atTime t) h hc hg)
  · have confirmed := State.debounceExpired_due (s := s.atTime t) hc due
    cases level with
    | reverse =>
      have found := (s.atTime t).confirming_confirms .reverse edge
      generalize (s.atTime t).confirming .reverse edge = r at confirmed found
      have answers := r.confirmedReverse_changesOrStays
      obtain ⟨told, sounds⟩ := found.answered answers.answersGear (by simp)
      obtain ⟨reverse, notReverse, latest⟩ := answers.edges
      have state : r.rvc.state = s.rvc.state := by rw [found.rvc]; rfl
      have cam : r.port .cam = s.port .cam := found.cam
      refine ⟨r.confirmedReverse, State.happens_leaves hp confirmed, by simp [found.timebase], by simp [found.vin], by rw [latest, found.rvc]; rfl, told, sounds,
        fun _ => ⟨by rw [reverse, found.rvc]; rfl, by rw [notReverse, found.rvc]; rfl, by simp [found.mode], fun h => ?_, fun h => ?_, fun h => ?_⟩,
        (fun h => by cases h), by simp [found.queue], by simp [found.mnu], by simp [found.sct], by simp [found.cal], by simp [found.pending]⟩
      · have leaves := State.confirmedReverse_leaves (s := r) (by rw [state]; exact h)
        rw [cam, found.timebase, found.cal] at leaves
        exact leaves
      · rw [State.confirmedReverse_stays (by rw [state]; exact h), found.rvc]
        exact ⟨rfl, rfl⟩
      · exact State.confirmedReverse_shows (by rw [state]; exact h)
    | notReverse =>
      have found := (s.atTime t).confirming_confirms .notReverse edge
      generalize (s.atTime t).confirming .notReverse edge = r at confirmed found
      have answers := r.confirmedNotReverse_changesOrStays
      obtain ⟨told, sounds⟩ := found.answered answers.answersGear (by simp)
      obtain ⟨reverse, notReverse, latest⟩ := answers.edges
      have state : r.rvc.state = s.rvc.state := by rw [found.rvc]; rfl
      refine ⟨r.confirmedNotReverse, State.happens_leaves hp confirmed, by simp [found.timebase], by simp [found.vin], by rw [latest, found.rvc]; rfl, told,
        sounds, (fun h => by cases h),
        fun _ => ⟨by rw [notReverse, found.rvc]; rfl, by rw [reverse, found.rvc]; rfl, by simp [found.mode], fun h => ?_, fun h => ?_, fun h => ?_, fun h off => ?_⟩,
        by simp [found.queue], by simp [found.mnu], by simp [found.sct], by simp [found.cal], by simp [found.pending]⟩
      · obtain ⟨hstate, reason, -, cue, -⟩ := r.changeRvc_record ⟨.off, .gearReleased, .none, none, none⟩
        rw [State.confirmedNotReverse_cueing (by rw [state]; exact h)]
        exact ⟨hstate, reason, cue⟩
      · have leaves := State.confirmedNotReverse_leaves (s := r) (by rw [state]; exact h)
        rw [State.speedFresh, found.vin, found.timebase, found.cal, state] at leaves
        exact leaves
      · rw [State.confirmedNotReverse_stays (by rw [state]; exact h), found.rvc]
        exact ⟨rfl, rfl, rfl⟩
      · rw [answers.power (by rw [state]; exact h) off, found.preview]
        rfl

end

section
/-! # Proofs: backlight values handed to a link, volume and backlight policy (R86, R87, R143 to R147) -/

namespace Sys2Proof.Machine

/-! ## What a link makes of a backlight value (R86, R87) -/

theorem Link.takeBacklight_deaf {l : Link} (h : l.state ≠ .streaming) (v : Nat) : l.takeBacklight v = (l, .notStreaming) := if_pos h

theorem Link.takeBacklight_appends {l : Link} (h : l.state = .streaming) (hq : ∀ x ∈ l.queue, x.isBacklight = false) (v : Nat) :
    l.takeBacklight v = if l.queue.length < 4 then (l.append (.backlight v), .taken) else (l, .full) := by
  have absent : l.queue.find? (·.isBacklight) = none := List.find?_eq_none.2 (fun x hx => by simp [hq x hx])
  rw [Link.takeBacklight, if_neg (fun hn => hn h), absent]
  rfl

theorem Command.isBacklight_kind (c : Command) (v : Nat) : ({ c with kind := .backlight v } : Command).isBacklight = true := rfl

theorem commands_without {xs : List Command} (h : ∀ x ∈ xs, x.isBacklight = false) (v : Nat) :
    xs.map (fun q => if q.isBacklight then { q with kind := .backlight v } else q) = xs := by
  conv_rhs => rw [← List.map_id xs]
  exact List.map_congr_left (fun x hx => by simp [h x hx])

/-- R87: the one BACKLIGHT command of a queue takes the value while it has not been sent. -/
theorem Link.takeBacklight_finds {l : Link} {before after : List Command} {c : Command} (h : l.state = .streaming)
    (hq : l.queue = before ++ c :: after) (hc : c.isBacklight = true) (hx : ∀ x ∈ before ++ after, x.isBacklight = false) (v : Nat) :
    l.takeBacklight v = if c.tries = 0 then ({ l with queue := before ++ { c with kind := .backlight v } :: after }, .taken)
      else (l, .inFlight) := by
  have hb : ∀ x ∈ before, x.isBacklight = false := fun x hm => hx x (List.mem_append_left _ hm)
  have ha : ∀ x ∈ after, x.isBacklight = false := fun x hm => hx x (List.mem_append_right _ hm)
  have found : l.queue.find? (·.isBacklight) = some c := by
    rw [hq, List.find?_append, List.find?_eq_none.2 (fun x hm => by simp [hb x hm]), Option.none_or, List.find?_cons_of_pos hc]
  have mapped : l.queue.map (fun q => if q.isBacklight then { q with kind := .backlight v } else q)
      = before ++ { c with kind := .backlight v } :: after := by
    rw [hq, List.map_append, List.map_cons, commands_without hb, commands_without ha, if_pos hc]
  rw [Link.takeBacklight, if_neg (fun hn => hn h), found]
  dsimp only
  rw [mapped]

/-! ## The backlight target (R145) -/

/-- What a recomputed target leaves of the seat's record: all but the target and what stands with the link. -/
theorem State.recomputeTarget_seat (s : State) (i : Seat) : ∃ next lastSent, (s.recomputeTarget i).seat i
    = { s.seat i with target := (s.seat i).targetNow s.sct.dimmer, next := next, lastSent := lastSent } := by
  unfold State.recomputeTarget
  dsimp only
  split
  · rw [State.handBacklight, State.seat_setSeat_same, State.seat_setSeat_same]
    cases ((State.link _ i).takeBacklight _).2 with
    | _ => exact ⟨_, _, rfl⟩
  · rw [State.seat_setSeat_same]
    exact ⟨_, _, rfl⟩

theorem State.recomputeTarget_other (s : State) {i j : Seat} (h : j ≠ i) :
    (s.recomputeTarget i).seat j = s.seat j ∧ (s.recomputeTarget i).link j = s.link j := by
  unfold State.recomputeTarget
  dsimp only
  split
  · exact ⟨by rw [State.handBacklight, State.seat_setSeat_other _ h]; exact State.seat_setSeat_other _ h _, State.link_setLink_other _ h _⟩
  · exact ⟨State.seat_setSeat_other _ h _, rfl⟩

/-- R145: the target as the manual writes it. -/
theorem backlightTarget_eq (policy : BacklightPolicy) (T dimmer : Nat) (ambient : Option Nat) (offset : Int) :
    (backlightTarget policy T dimmer ambient offset : Int) = max 5 (min 100 (backlightBase policy T dimmer ambient + 5 * offset)) := by
  unfold backlightTarget clampInt
  split
  · omega
  · split <;> omega

/-! ## The owners of the seat requests (R143, R146) -/

theorem ownZoneLevelSet_refuses {p : List Byte} (s : State) (h : byteAt p 0 = 0 ∨ 2 < byteAt p 0) :
    ownZoneLevelSet p s = (s, refuse .badValue) := by
  rw [ownZoneLevelSet, seatOf_eq_none h]

theorem ownZoneLevelSet_sets {p : List Byte} {i : Seat} (s : State) (h : byteAt p 0 = seatNo i) :
    ownZoneLevelSet p s = (let volume := min (byteAt p 1) 60
      if volume = (s.seat i).volume then (s, ok (u8 volume ++ i8 (s.seat i).offset))
      else ((s.setSeat i { s.seat i with volume := volume }).post (seatNo i) (.level volume (s.seat i).offset),
        ok (u8 volume ++ i8 (s.seat i).offset))) := by
  have clamp : (if 60 < byteAt p 1 then 60 else byteAt p 1) = min (byteAt p 1) 60 := by split <;> omega
  simp only [ownZoneLevelSet, h, seatOf_seatNo, clamp]
  split
  · next same => rw [same]
  · cases i <;> rfl

theorem ownBacklightPolicySet_refuses {p : List Byte} (s : State)
    (h : byteAt p 0 = 0 ∨ 2 < byteAt p 0 ∨ 2 < byteAt p 1 ∨ 100 < byteAt p 2) : ownBacklightPolicySet p s = (s, refuse .badValue) := by
  unfold ownBacklightPolicySet
  cases hi : seatOf (byteAt p 0) with
  | none => rfl
  | some i =>
    have known : ¬ (byteAt p 0 = 0 ∨ 2 < byteAt p 0) := fun hn => by simp [seatOf_eq_none hn] at hi
    dsimp only
    repeat' split
    · rfl
    · rfl
    · omega

theorem ownBacklightPolicySet_sets {p : List Byte} {i : Seat} (s : State) (h : byteAt p 0 = seatNo i) (h1 : byteAt p 1 ≤ 2)
    (h2 : byteAt p 2 ≤ 100) :
    ownBacklightPolicySet p s
      = (let s' := (s.setSeat i { s.seat i with policy := policyOf (byteAt p 1), threshold := byteAt p 2 }).recomputeTarget i
        (s', ok (u8 (s'.seat i).target))) := by
  simp only [ownBacklightPolicySet, h, seatOf_seatNo, if_neg (Nat.not_lt.2 h1), if_neg (Nat.not_lt.2 h2)]

end Sys2Proof.Machine

open Sys2Proof Sys2Proof.Machine

/-- Settles O44. -/
theorem backlightHandingHasFiveOutcomes : Obligations.BacklightHandingHasFiveOutcomes := by
  intro i s v
  refine ⟨_, rfl, rfl, fun h => ?_, fun before c after h hq hc hx => ?_, fun h hq => ?_, rfl, rfl, rfl, rfl⟩
  · rw [Link.takeBacklight_deaf h]
    exact ⟨rfl, rfl⟩
  · rw [Link.takeBacklight_finds h hq hc hx]
    exact ⟨fun h0 => by rw [if_pos h0]; exact ⟨rfl, rfl⟩, fun h0 => by rw [if_neg h0]; exact ⟨rfl, rfl⟩⟩
  · rw [Link.takeBacklight_appends h hq]
    exact ⟨fun h4 => by rw [if_pos h4]; exact ⟨rfl, rfl⟩, fun h4 => by rw [if_neg (Nat.not_lt.2 h4)]; exact ⟨rfl, rfl⟩⟩

/-- Settles O43. -/
theorem seatRequestsSetLevelAndPolicy : Obligations.SeatRequestsSetLevelAndPolicy := by
  refine ⟨fun t i s n v hask hm hn => ⟨fun same => ?_, fun change => ?_⟩, fun t s n v hask hm hn => ?_,
    fun t i s n p T hask hm hn hp hT => ?_, fun t s n p T hask hm hbad => ?_, fun policy T dimmer ambient offset => ?_⟩
  · exact State.request_onlyReplies hask rfl (.inl hm) ((ownZoneLevelSet_sets (p := [n, v]) (i := i) _ hn).trans (if_pos same))
  · exact State.request_leaves hask rfl (.inl hm) ((ownZoneLevelSet_sets (p := [n, v]) (i := i) _ hn).trans (if_neg change))
  · exact State.request_onlyReplies hask rfl (.inl hm) (ownZoneLevelSet_refuses _ hn)
  · let x := (s.atTime t).setSeat i { s.seat i with policy := policyOf p.toNat, threshold := T.toNat }
    obtain ⟨next, lastSent, seat⟩ := x.recomputeTarget_seat i
    have record : x.seat i = { s.seat i with policy := policyOf p.toNat, threshold := T.toNat } := State.seat_setSeat_same _ _ _
    have target : ((x.recomputeTarget i).seat i).target
        = backlightTarget (policyOf p.toNat) T.toNat s.sct.dimmer (s.seat i).ambient (s.seat i).offset := by
      rw [seat, record]
      rfl
    refine ⟨x.recomputeTarget i, ?_, by simp [x], by rw [seat, record], by rw [seat, record], target, by rw [seat, record],
      by rw [seat, record], fun j hj => ?_, State.recomputeTarget_link_state _ i i, by simp [x], by simp [x], by simp [x], by simp [x],
      by simp [x], by simp [x], by simp [x], by simp [x], by simp [x], by simp [x]⟩
    · rw [← target]
      exact State.request_leaves hask rfl (.inl hm) (ownBacklightPolicySet_sets (i := i) _ hn hp hT)
    · obtain ⟨hs, hl⟩ := x.recomputeTarget_other hj
      exact ⟨hs.trans (State.seat_setSeat_other _ hj _), hl⟩
  · exact State.request_onlyReplies hask rfl (.inl hm) (ownBacklightPolicySet_refuses _ hbad)
  · rw [backlightTarget_eq]
    cases policy <;> cases ambient <;> rfl

end

section
/-! # Proofs: CALIBRATION WRITE and the programming of a slot (R160, R166, R168, R169) -/

namespace Sys2Proof.Machine

/-! ## A value enters the working copy (R166) -/

theorem ownCalibrationWrite_busy {p : List Byte} {s : State} (h : s.cal.flight ≠ none) : ownCalibrationWrite p s = (s, refuse .busy) :=
  if_pos (Option.isSome_iff_ne_none.2 h)

theorem ownCalibrationWrite_idle {p : List Byte} {s : State} (h : s.cal.flight = none) :
    ownCalibrationWrite p s = match fieldOffset (byteAt p 0) (byteAt p 1) with
      | none => (s, refuse .badValue)
      | some _ => match storedValue s.image (byteAt p 0) (byteAt p 1) (i32At p 2) with
        | none => (s, refuse .badValue)
        | some v => (s.writeField (byteAt p 0) (byteAt p 1) v, ok (i32 v)) := by
  simp only [ownCalibrationWrite, h]
  rfl

theorem setField_at {im : List Int} {no index k : Nat} (h : fieldOffset no index = some k) (v : Int) : setField im no index v = im.set k v := by
  simp only [setField, h]

theorem fieldOffset_duckLevel {index k : Nat} (h : fieldOffset 37 index = some k) : fieldOffset 37 0 = some k := by
  have single : index = 0 := by
    simp [fieldOffset, fieldTable, fieldOffsetIn] at h
    exact h.1
  rw [← single]
  exact h

theorem calDuckLevel_set {im : List Int} {index k : Nat} (h : fieldOffset 37 index = some k) (hk : k < im.length) (v : Int) :
    calDuckLevel (im.set k v) = v := by
  rw [calDuckLevel, fieldOffset_read (fieldOffset_duckLevel h)]
  simp [hk]

theorem Duck.released_eq (d : Duck) (now : Stamp) (old level : Int) :
    d.released now old level = if d.ducking = false ∨ level = old then d else if d.gain = level then { d with timer := none }
      else if d.gain = old then { d with timer := some (afterMs now 10) } else d := by
  unfold Duck.released
  cases d.ducking <;> simp [eq_comm]

theorem Duck.released_same (d : Duck) (now : Stamp) (level : Int) : d.released now level level = d := by
  rw [Duck.released_eq, if_pos (.inr rfl)]

/-- R160: what a write does to the chime unit; a field that is not the duck level leaves the goal of the ducking zones. -/
theorem State.writeField_duck (s : State) (no index : Nat) (v : Int) (i : Seat) :
    (s.writeField no index v).chu.duck.get i
      = (s.chu.duck.get i).released s.timebase (calDuckLevel s.cal.working) (calDuckLevel (setField s.cal.working no index v)) := by
  by_cases h37 : no = 37
  · subst h37
    exact Two.get_map _ _ i
  · rw [calDuckLevel_setField h37, Duck.released_same, State.writeField]
    dsimp only
    rw [if_neg h37]
    split
    · rw [State.trackingTrigger_chu]
    · rfl

/-- R65, R166: a guide field is a trigger. -/
theorem State.writeField_gle (s : State) (no index : Nat) (v : Int) : (s.writeField no index v).gle
    = if 11 ≤ no ∧ no ≤ 16 then (({ s with cal := { s.cal with working := setField s.cal.working no index v } } : State).trackingTrigger).gle
      else s.gle := by
  unfold State.writeField
  simp only [isGuideField, Bool.and_eq_true, decide_eq_true_eq]
  split
  · rfl
  · split <;> rfl

theorem State.writeField_chu (s : State) (no index : Nat) (v : Int) :
    (s.writeField no index v).chu = { s.chu with duck := (s.writeField no index v).chu.duck } := by
  unfold State.writeField
  dsimp only
  split
  · simp
  · split <;> rfl

theorem State.writeField_cal (s : State) (no index : Nat) (v : Int) :
    (s.writeField no index v).cal = { s.cal with working := setField s.cal.working no index v } := by
  unfold State.writeField
  dsimp only
  split
  · rw [State.trackingTrigger_cal]
    rfl
  · split <;> rfl

/-! ## Slots (R164, R168) -/

theorem Cal.lowestBlank_none {c : Cal} (h : ∀ n, (c.slot n).judged ≠ .blank) : c.lowestBlank = none := by
  have h1 : c.slot1.judged ≠ .blank := h .g1
  have h2 : c.slot2.judged ≠ .blank := h .g2
  have h3 : c.slot3.judged ≠ .blank := h .g3
  simp [Cal.lowestBlank, Slot.consumed, h1, h2, h3]

theorem Cal.lowestBlank_some {c : Cal} {n : SlotNo} (h : (c.slot n).judged = .blank)
    (below : ∀ m : SlotNo, m.number < n.number → (c.slot m).judged ≠ .blank) : c.lowestBlank = some n := by
  cases n with
  | g1 =>
    have h1 : c.slot1.judged = .blank := h
    simp [Cal.lowestBlank, Slot.consumed, h1]
  | g2 =>
    have h1 : c.slot1.judged ≠ .blank := below .g1 (by decide)
    have h2 : c.slot2.judged = .blank := h
    simp [Cal.lowestBlank, Slot.consumed, h1, h2]
  | g3 =>
    have h1 : c.slot1.judged ≠ .blank := below .g1 (by decide)
    have h2 : c.slot2.judged ≠ .blank := below .g2 (by decide)
    have h3 : c.slot3.judged = .blank := h
    simp [Cal.lowestBlank, Slot.consumed, h1, h2, h3]

theorem ownCalibrationProgram_off {p : List Byte} {s : State} (h : s.rvc.state = .off) : ownCalibrationProgram p s
    = if s.cal.flight ≠ none then (s, refuse .busy) else match s.cal.lowestBlank with
      | none => (s, refuse .exhausted)
      | some n => ({ s with cal := s.cal.startProgram n s.timebase }, ⟨.started, u8 n.number⟩) := by
  simp only [ownCalibrationProgram, State.rvcOff, h, Option.isSome_iff_ne_none]
  rfl

theorem ownCalibrationProgram_reverse {p : List Byte} {s : State} (h : s.rvc.state ≠ .off) :
    ownCalibrationProgram p s = (s, refuse .refusedReverse) := by
  simp [ownCalibrationProgram, State.rvcOff, h]

/-! ## The completion (R169) -/

theorem State.programmed_due {s : State} {f : Programming} (h : s.cal.flight = some f) (due : reached s.timebase f.ends = true)
    (fault : Option FaultyCells) : s.programmed fault
      = { s with cal := { s.cal.setSlot f.slot (f.result fault) with flight := none },
                 cli := s.cli.post s.timebase 0 (.calibration (decide ((f.result fault).judged = SlotState.good)) f.slot.number) } := by
  simp only [State.programmed, h, due]
  rfl

/-- R169: a slot that holds what the snapshot holds is GOOD. -/
theorem Programming.result_whole {f : Programming} {fault : Option FaultyCells} (h : fault = none ∨ fault = some ⟨f.image, f.check⟩) :
    f.result fault = ⟨.written f.image f.check, .good⟩ := by
  rcases h with rfl | rfl
  · rfl
  · simp [Programming.result]

theorem Programming.result_faulty {f : Programming} {c : FaultyCells} (h : ¬ (some c = none ∨ some c = some ⟨f.image, f.check⟩)) :
    f.result (some c) = ⟨.written c.image c.check, .bad⟩ := by
  have differs : ¬ (c.image = f.image ∧ c.check = f.check) := fun ⟨hi, hc⟩ => h (.inr (by rw [← hi, ← hc]))
  simp only [Programming.result, if_neg differs]

end Sys2Proof.Machine

open Sys2Proof Sys2Proof.Machine

/-- Settles O48. -/
theorem calibrationWriteStoresAnAdmittedValue : Obligations.CalibrationWriteStoresAnAdmittedValue := by
  intro t s p hask hlen no index
  refine ⟨fun busy => State.request_onlyReplies hask (lengthIs_true hlen) (.inr rfl) (ownCalibrationWrite_busy busy), fun idle bad => ?_,
    fun k v idle hk hv => ?_⟩
  · refine State.request_onlyReplies hask (lengthIs_true hlen) (.inr rfl) ((ownCalibrationWrite_idle (s := s.atTime t) idle).trans ?_)
    rcases bad with bad | bad
    · rw [show fieldOffset (byteAt p 0) (byteAt p 1) = none from bad]
      rfl
    · rw [show storedValue (s.atTime t).image (byteAt p 0) (byteAt p 1) (i32At p 2) = none from bad]
      split <;> rfl
  · let x := s.atTime t
    let x1 := x.writeField no index v
    have howner : ownCalibrationWrite p x = (x1, ok (i32 v)) := by
      rw [ownCalibrationWrite_idle (s := x) idle, show fieldOffset (byteAt p 0) (byteAt p 1) = some k from hk,
        show storedValue x.image (byteAt p 0) (byteAt p 1) (i32At p 2) = some v from hv]
    have hcal : x1.cal = { s.cal with working := s.cal.working.set k v } := by
      rw [State.writeField_cal, setField_at hk]
      rfl
    have hgle := State.writeField_gle x no index v
    rw [State.trackingTrigger_eq] at hgle
    have hduck := State.writeField_duck x no index v
    rw [setField_at hk] at hduck
    refine ⟨x1, State.request_leaves hask (lengthIs_true hlen) (.inr rfl) howner, by simp [x1, x], hcal,
      fun hn => hgle.trans (if_neg hn), fun h1 h2 hm hf => ?_, fun h1 h2 hm hf => ?_, fun hm => ?_, fun h37 => ?_,
      ⟨State.writeField_chu x no index v, fun h37 hlt => ?_, fun i => ?_⟩, by simp [x1, x], by simp [x1, x], by simp [x1, x],
      by simp [x1, x], by simp [x1, x], by simp [x1, x], by simp [x1, x], by simp [x1, x], by simp [x1, x]⟩
    · obtain ⟨inp, hi⟩ := Option.ne_none_iff_exists'.1 hf
      rw [hgle, if_pos ⟨h1, h2⟩]
      simp [x, hm, hi]
    · rw [hgle, if_pos ⟨h1, h2⟩, hcal, setField_at hk]
      simp [x, hm, hf]
      rfl
    · rw [hgle]
      simp [x, hm]
    · have goal : calDuckLevel (s.cal.working.set k v) = calDuckLevel s.cal.working := by
        rw [← setField_at hk, calDuckLevel_setField h37]
      have kept (i : Seat) : x1.chu.duck.get i = s.chu.duck.get i := by
        refine (hduck i).trans ?_
        rw [show calDuckLevel (x.cal.working.set k v) = calDuckLevel x.cal.working from goal]
        exact Duck.released_same _ _ _
      have ducks : x1.chu.duck = s.chu.duck := congrArg₂ Two.mk (kept .s1) (kept .s2)
      rw [State.writeField_chu]
      exact congrArg (fun d => { s.chu with duck := d }) ducks
    · rw [hcal]
      rw [h37] at hk
      exact calDuckLevel_set hk hlt v
    · rw [hcal, hduck i, Duck.released_eq]
      rfl

/-- Settles O49. -/
theorem programmingFillsTheLowestBlankSlot : Obligations.ProgrammingFillsTheLowestBlankSlot := by
  refine ⟨fun t s hask hr => ?_, fun t s hask hr hf => ?_, fun t s hask hr hf hn => ?_, fun t s n hask hr hf hb below => ?_,
    fun t s f fault hp hf due => ⟨fun whole => ?_, fun c hc bad => ?_⟩⟩
  · exact State.request_onlyReplies hask rfl (.inr rfl) (ownCalibrationProgram_reverse hr)
  · exact State.request_onlyReplies hask rfl (.inr rfl) ((ownCalibrationProgram_off (s := s.atTime t) hr).trans (if_pos hf))
  · refine State.request_onlyReplies hask rfl (.inr rfl) ((ownCalibrationProgram_off (s := s.atTime t) hr).trans ((if_neg (not_not_intro hf)).trans ?_))
    rw [Cal.lowestBlank_none (c := (s.atTime t).cal) hn]
    rfl
  · refine State.request_leaves hask rfl (.inr rfl) ((ownCalibrationProgram_off (s := s.atTime t) hr).trans ((if_neg (not_not_intro hf)).trans ?_))
    rw [Cal.lowestBlank_some (c := (s.atTime t).cal) hb below]
    rfl
  · refine State.happens_leaves hp ((State.programmed_due (s := s.atTime t) hf due fault).trans ?_)
    rw [Programming.result_whole whole]
    rfl
  · subst hc
    refine State.happens_leaves hp ((State.programmed_due (s := s.atTime t) hf due (some c)).trans ?_)
    rw [Programming.result_faulty bad]
    rfl

end

section
/-! # Proofs: hailing, messages that are discarded, and the opening and closing of menus (R74, R76, R77, R125, R131, R134) -/

namespace Sys2Proof.Machine

theorem expired_of {timer : Option Stamp} {now e : Stamp} (h : timer = some e) (due : reached now e = true) : expired now timer = true := by
  rw [h]
  exact due

theorem State.setLink_setLink (s : State) (i : Seat) (l l' : Link) : (s.setLink i l).setLink i l' = s.setLink i l' := by
  cases i <;> rfl

theorem State.setLink_link (s : State) (i : Seat) : s.setLink i (s.link i) = s := by
  cases i <;> rfl

/-! ## The entry to HAILING (R76, R77) -/

theorem State.enterHailing_hails (s : State) (i : Seat) (l : Link) : (s.setLink i l).enterHailing i = s.hails s.timebase i l := by
  cases i <;> rfl

theorem State.enterHailing_self (s : State) (i : Seat) : s.enterHailing i = s.hails s.timebase i (s.link i) := by
  rw [← State.enterHailing_hails, State.setLink_link]

/-- R76: a link whose conditions hold enters HAILING, and any other stays. -/
theorem State.judgeHailing_setLink (s : State) (i : Seat) (l : Link) : (s.setLink i l).judgeHailing i
    = if l.state = .detached ∧ s.cli.mode = .run ∧ l.present = true ∧ l.settleTimer = none then s.hails s.timebase i l else s.setLink i l := by
  rw [← State.enterHailing_hails]
  have run : (s.setLink i l).inRun = true ↔ s.cli.mode = .run := decide_eq_true_iff
  simp only [State.judgeHailing, State.link_setLink_same, run, Option.isNone_iff_eq_none]

theorem State.hailExpired_due {s : State} {i : Seat} {e : Stamp} (h : (s.link i).state = .hailing) (ht : (s.link i).hailTimer = some e)
    (due : reached s.timebase e = true) : s.hailExpired i = if (s.link i).hailCount < 5 then
      s.setLink i { (s.link i).send msgHail with hailCount := (s.link i).hailCount + 1, hailTimer := some (afterMs s.timebase 20) }
    else s.enterRecovery i .noAnswer := if_pos ⟨h, expired_of ht due⟩

/-! ## Messages (R74) -/

theorem offersSuits_iff (body : List Byte) : offersSuits body = true ↔ 2 ≤ body.length ∧ body.length ≤ 166 := by simp [offersSuits]

theorem statusSuits_iff (body : List Byte) :
    statusSuits body = true ↔ 3 ≤ body.length ∧ byteAt body 2 ≤ 4 ∧ body.length = 3 + 2 * byteAt body 2 := by
  simp [statusSuits, and_assoc]

theorem messagePasses_message {body : List Byte} (h : body.length ≤ 255) (kind : Byte) : messagePasses (message kind body) = true
    ↔ (kind = 0x81 ∧ offersSuits body = true) ∨ ((kind = 0x82 ∨ kind = 0x83 ∨ kind = 0x85) ∧ body = [])
      ∨ (kind = 0x84 ∧ statusSuits body = true) := by
  simp only [messagePasses, openMessage_message h, Bool.or_eq_true, Bool.and_eq_true, decide_eq_true_eq, List.isEmpty_iff]
  tauto

/-! ## Menus (R125, R131, R132, R134) -/

theorem MenuContext.isOpen_iff (c : MenuContext) : c.isOpen = true ↔ c.stack ≠ [] := by
  unfold MenuContext.isOpen
  cases c.stack <;> simp

/-- R132: an open menu closes with its notice. -/
theorem State.closeMenu_open {s : State} {i : Seat} (h : (s.ctx i).stack ≠ []) (reason : CloseReason) :
    s.closeMenu i reason false = s.closesMenu s.timebase i reason := if_pos ((MenuContext.isOpen_iff _).2 h)

theorem ownMenuOpen_of {p : List Byte} {s : State} {i : Seat} (h : byteAt p 0 = seatNo i) (hid : byteAt p 1 ≤ 63) :
    ownMenuOpen p s = if (s.link i).state ≠ .streaming then (s, refuse .notNow) else match s.namedPage i (byteAt p 1) with
      | none => (s, refuse .notFound)
      | some page => (s.openMenu i page, ok []) := by
  simp only [ownMenuOpen, h, seatOf_seatNo, if_neg (Nat.not_lt.2 hid)] <;> rfl

theorem ownMenuClose_of {p : List Byte} {s : State} {i : Seat} (h : byteAt p 0 = seatNo i) :
    ownMenuClose p s = if (s.ctx i).isOpen = true then (s.closeMenu i .request false, ok []) else (s, refuse .notNow) := by
  simp only [ownMenuClose, h, seatOf_seatNo]

theorem State.namedPage_of {s : State} {i : Seat} {id : Nat} {page : Page}
    (h : if id = 0 then s.mnu.root.get i ≠ 0 ∧ findPage s.mnu.store (s.mnu.root.get i) = some page else findPage s.mnu.store id = some page) :
    s.namedPage i id = some page := by
  unfold State.namedPage State.rootPage
  split at h
  · next h0 =>
    obtain ⟨root, found⟩ := h
    rw [if_pos h0, if_neg root, found]
  · next h0 => rw [if_neg h0, h]

end Sys2Proof.Machine

open Sys2Proof Sys2Proof.Machine

/-- Settles O28. -/
theorem linkHailsAPresentPartner : Obligations.LinkHailsAPresentPartner := by
  refine ⟨fun t i s hp hm hd hs => ?_, fun t i s hp no => ?_, fun t i s e hp hm hd hpr hs due => ?_, fun t i s e hp hs due no => ?_,
    fun t i s e hp hr hh due => ?_, fun t i s e hp hh ht due hc => ?_⟩
  · exact State.pin_leaves (record := fun s => s.setPresent i true) (act := fun s => s.presenceGained i) hp ((State.judgeHailing_setLink (s.atTime t) i { s.link i with present := true }).trans (if_pos ⟨hd, hm, rfl, hs⟩))
  · refine State.pin_leaves (record := fun s => s.setPresent i true) (act := fun s => s.presenceGained i) hp ((State.judgeHailing_setLink (s.atTime t) i { s.link i with present := true }).trans (if_neg ?_))
    rintro ⟨hd, hm, -, hs⟩
    rcases no with no | no | no
    · exact absurd (no.symm.trans hm) (by decide)
    · exact no hd
    · exact no hs
  · refine State.happens_leaves hp ((if_pos (expired_of hs due)).trans ?_)
    exact (State.judgeHailing_setLink (s.atTime t) i _).trans (if_pos ⟨hd, hm, hpr, rfl⟩)
  · refine State.happens_leaves hp ((if_pos (expired_of hs due)).trans ((State.judgeHailing_setLink (s.atTime t) i _).trans (if_neg ?_)))
    rintro ⟨hd, hm, hpr, -⟩
    rcases no with no | no | no
    · exact absurd (no.symm.trans hm) (by decide)
    · exact no hd
    · exact absurd (no.symm.trans hpr) (by decide)
  · exact State.happens_leaves hp ((if_pos ⟨hr, expired_of hh due⟩).trans (State.enterHailing_self (s.atTime t) i))
  · exact State.happens_leaves hp ((State.hailExpired_due (s := s.atTime t) hh ht due).trans (if_pos hc))

/-- Settles O33. -/
theorem otherMessagesAreDiscarded : Obligations.OtherMessagesAreDiscarded := by
  refine ⟨fun t i m s hp h => ?_, fun m h => by simp only [messagePasses, h], fun kind body h => ?_, fun t i body s hp h => ?_,
    fun t i s hp h => ⟨?_, ?_⟩, fun t i body s hp h => ?_, fun t i s hp h => ?_⟩
  · exact State.happens_leaves hp (if_neg (by rw [h]; decide))
  · rw [messagePasses_message h, offersSuits_iff, statusSuits_iff]
  · exact State.happens_leaves hp (if_neg (fun ⟨_, hh⟩ => h hh))
  · exact State.happens_leaves hp (if_neg h)
  · exact State.happens_leaves hp (if_neg h)
  · exact State.happens_leaves hp (if_neg (fun ⟨_, hs⟩ => h hs))
  · refine State.happens_leaves hp (if_neg ?_)
    show ¬ (s.link i).state.takesReset = true
    rcases h with h | h <;> rw [h] <;> decide

/-- Settles O41. -/
theorem menusOpenAndClose : Obligations.MenusOpenAndClose := by
  refine ⟨fun t i s n id page hask hm hn hid hl hpage => ?_, fun t i s n id hask hm hn hid hl => ?_, fun t i s n id hask hm hn hid hl hnone => ?_,
    fun t i s n hask hm hn ho => ?_, fun t i s n hask hm hn hc => ?_, fun t i s e hp ho hi due => ?_⟩
  · refine State.request_leaves hask rfl (.inl hm) ((ownMenuOpen_of (p := [n, id]) (s := s.atTime t) hn hid).trans ((if_neg (not_not_intro hl)).trans ?_))
    rw [show (s.atTime t).namedPage i (byteAt [n, id] 1) = some page from State.namedPage_of hpage]
    rfl
  · exact State.request_onlyReplies hask rfl (.inl hm) ((ownMenuOpen_of (p := [n, id]) (s := s.atTime t) hn hid).trans (if_pos hl))
  · refine State.request_onlyReplies hask rfl (.inl hm) ((ownMenuOpen_of (p := [n, id]) (s := s.atTime t) hn hid).trans
      ((if_neg (not_not_intro hl)).trans ?_))
    rw [show (s.atTime t).namedPage i (byteAt [n, id] 1) = none from hnone]
    rfl
  · refine State.request_leaves hask rfl (.inl hm) ((ownMenuClose_of (p := [n]) (s := s.atTime t) hn).trans
      ((if_pos ((MenuContext.isOpen_iff _).2 ho)).trans ?_))
    rw [State.closeMenu_open (s := s.atTime t) ho]
    rfl
  · exact State.request_onlyReplies hask rfl (.inl hm) ((ownMenuClose_of (p := [n]) (s := s.atTime t) hn).trans
      (if_neg (fun h => (MenuContext.isOpen_iff _).1 h hc)))
  · exact State.happens_leaves hp ((if_pos (expired_of hi due)).trans (State.closeMenu_open (s := s.atTime t) ho .timeout))

end

section
/-! # Proofs: what takes a link to RECOVERY or DETACHED, and what its neighbours make of it (R75, R89 to R92) -/

namespace Sys2Proof.Machine

/-! ## A rear row is judged and stops (R99, R102, R106, R113) -/

/-- R102, R106: a rear row as its judgement leaves it. -/
def State.judgedRow (s : State) (i : Seat) (r : Row) : Row :=
  if r.effective = r.routed ∧ r.cause = .route then r
  else { r with effective := r.routed, cause := .route,
                shown := rearBanner (decide ((s.link i).state = .streaming)) (s.sourceUnlocked r.routed) r.hostBanner }

theorem State.judgeRear_cmp (s : State) (i : Seat) :
    (s.judgeRear i).cmp = { s.cmp with rear := s.cmp.rear.set i (s.judgedRow i (s.rearRow i)) } := by
  unfold State.judgeRear State.judgedRow
  dsimp only
  split
  · cases i <;> rfl
  · cases i <;> rfl

theorem State.rearRouteTakesEffect_cmp (s : State) (i : Seat) : (s.rearRouteTakesEffect i).cmp
    = { s.cmp with rear := s.cmp.rear.set i (s.judgedRow i (s.rearRow i).takePending) } := by
  rw [State.rearRouteTakesEffect, State.judgeRear_cmp, State.rearRow_setRearRow_same]
  simp only [State.setRearRow, Two.set_set]
  rfl

theorem State.judgedRow_frame (s : State) (i : Seat) (r : Row) :
    (s.judgedRow i r).frame = r.frame ∧ (s.judgedRow i r).nextFrame = r.nextFrame ∧ (s.judgedRow i r).pending = r.pending := by
  unfold State.judgedRow
  split <;> exact ⟨rfl, rfl, rfl⟩

theorem Row.takePending_keepsFrames (r : Row) :
    r.takePending.frame = r.frame ∧ r.takePending.nextFrame = r.nextFrame ∧ r.takePending.pending = none := by
  unfold Row.takePending
  split
  · next h => exact ⟨rfl, rfl, h⟩
  · exact ⟨rfl, rfl, rfl⟩

/-- R113: a row that stops touches nothing else of the compositor. -/
theorem State.stopRear_cmp (s : State) (i : Seat) : ∃ r : Row, r.frame = none ∧ r.nextFrame = none
    ∧ (s.stopRear i).cmp = { s.cmp with rear := s.cmp.rear.set i r } := by
  let x := s.setRearRow i { s.rearRow i with frame := none, nextFrame := none }
  have row : x.rearRow i = { s.rearRow i with frame := none, nextFrame := none } := State.rearRow_setRearRow_same _ _ _
  obtain ⟨hf, hn, -⟩ := x.judgedRow_frame i (x.rearRow i).takePending
  obtain ⟨pf, pn, -⟩ := (x.rearRow i).takePending_keepsFrames
  have rf : (x.rearRow i).frame = none := congrArg Row.frame row
  have rn : (x.rearRow i).nextFrame = none := congrArg Row.nextFrame row
  have judged : ((x.rearRouteTakesEffect i).rearRow i) = x.judgedRow i (x.rearRow i).takePending := by
    rw [State.rearRow, State.rearRouteTakesEffect_cmp, Two.get_set_same]
  let y := x.rearRouteTakesEffect i
  let shown := rearBanner (decide ((y.link i).state = .streaming)) (y.sourceUnlocked (y.rearRow i).effective) (y.rearRow i).hostBanner
  refine ⟨{ y.rearRow i with shown := shown }, (congrArg Row.frame judged).trans (hf.trans (pf.trans rf)), (congrArg Row.nextFrame judged).trans (hn.trans (pn.trans rn)), ?_⟩
  have stopped : (s.stopRear i).cmp = { y.cmp with rear := y.cmp.rear.set i { y.rearRow i with shown := shown } } := rfl
  have routed : y.cmp = { s.cmp with rear := s.cmp.rear.set i (y.rearRow i) } := by
    rw [judged, show y.cmp = _ from x.rearRouteTakesEffect_cmp i]
    simp only [x, State.setRearRow, Two.set_set]
  rw [stopped, routed, Two.set_set]

/-! ## The neighbours of a link that exits (R75, R89, R92) -/

theorem State.handBacklight_deaf {s : State} {i : Seat} (h : (s.link i).state ≠ .streaming) (v : Nat) (j : Seat) :
    (s.handBacklight i v).link j = s.link j := by
  rw [State.handBacklight, Link.takeBacklight_deaf h, State.setLink_link]
  rfl

theorem State.takeAmbient_deaf {s : State} {i : Seat} (h : (s.link i).state ≠ .streaming) (level : Option Nat) (j : Seat) :
    (s.takeAmbient i level).link j = s.link j := by
  unfold State.takeAmbient State.recomputeTarget
  dsimp only
  split
  · exact State.handBacklight_deaf (s := (s.setSeat i _).setSeat i _) h _ j
  · rfl

theorem State.takeAmbient_seat (s : State) (i : Seat) (level : Option Nat) :
    ((s.takeAmbient i level).seat i).volume = (s.seat i).volume ∧ ((s.takeAmbient i level).seat i).offset = (s.seat i).offset
    ∧ ∀ j, j ≠ i → (s.takeAmbient i level).seat j = s.seat j := by
  let x := s.setSeat i { s.seat i with ambient := level }
  have record : x.seat i = { s.seat i with ambient := level } := State.seat_setSeat_same _ _ _
  obtain ⟨next, lastSent, seat⟩ := x.recomputeTarget_seat i
  rw [record] at seat
  rw [show s.takeAmbient i level = x.recomputeTarget i from rfl, seat]
  exact ⟨rfl, rfl, fun j hj => ((x.recomputeTarget_other hj).1).trans (State.seat_setSeat_other _ hj _)⟩

theorem State.releaseKey_seat (s : State) (i : Seat) (quiet : Bool) :
    ((s.releaseKey i quiet).seat i).held = none ∧ ((s.releaseKey i quiet).seat i).volume = (s.seat i).volume
    ∧ ((s.releaseKey i quiet).seat i).offset = (s.seat i).offset ∧ ∀ j, j ≠ i → (s.releaseKey i quiet).seat j = s.seat j := by
  have free := State.seat_setSeat_same s i { s.seat i with held := none, repeatTimer := none, forwarded := false }
  have others (j : Seat) (hj : j ≠ i) := State.seat_setSeat_other s hj { s.seat i with held := none, repeatTimer := none, forwarded := false }
  unfold State.releaseKey
  dsimp only
  split
  · next h => exact ⟨h, rfl, rfl, fun _ _ => rfl⟩
  · have released (x : State) (hx : x.sct = (s.setSeat i { s.seat i with held := none, repeatTimer := none, forwarded := false }).sct) :
        (x.seat i).held = none ∧ (x.seat i).volume = (s.seat i).volume ∧ (x.seat i).offset = (s.seat i).offset
        ∧ ∀ j, j ≠ i → x.seat j = s.seat j := by
      have seat (j : Seat) : x.seat j = _ := congrArg (fun c : Sct => c.seat.get j) hx
      rw [(seat i).trans free]
      exact ⟨rfl, rfl, rfl, fun j hj => (seat j).trans (others j hj)⟩
    split
    · exact released _ rfl
    · exact released _ rfl

theorem State.linkFellBack_seat (s : State) (i : Seat) (quiet : Bool) :
    ((s.linkFellBack i quiet).seat i).held = none ∧ ((s.linkFellBack i quiet).seat i).next = none
    ∧ ((s.linkFellBack i quiet).seat i).volume = (s.seat i).volume ∧ ((s.linkFellBack i quiet).seat i).offset = (s.seat i).offset
    ∧ ∀ j, j ≠ i → (s.linkFellBack i quiet).seat j = s.seat j := by
  obtain ⟨held, volume, offset, others⟩ := s.releaseKey_seat i quiet
  unfold State.linkFellBack
  dsimp only
  rw [State.seat_setSeat_same]
  exact ⟨held, rfl, volume, offset, fun j hj => (State.seat_setSeat_other _ hj _).trans (others j hj)⟩

/-- R75: what a fall-back leaves of the neighbours' records. -/
structure State.LeftBy (s' s : State) (i : Seat) (streamed : Prop) : Prop where
  link : ∀ j, s'.link j = s.link j
  held : (s'.seat i).held = none
  next : (s'.seat i).next = none
  volume : (s'.seat i).volume = (s.seat i).volume
  offset : (s'.seat i).offset = (s.seat i).offset
  seats : ∀ j, j ≠ i → s'.seat j = s.seat j
  menu : streamed → (s'.ctx i).stack = []
  row : streamed → (s'.rearRow i).nextFrame = none ∧ (s'.rearRow i).frame = none
  rest : ¬ streamed → s'.rearRow i = s.rearRow i
  menus : ∀ j, j ≠ i → s'.ctx j = s.ctx j
  rows : ∀ j, j ≠ i → s'.rearRow j = s.rearRow j
  front : s'.cmp.front = s.cmp.front
  store : s'.mnu.store = s.mnu.store

theorem State.screenLost_rearRow (s : State) (i j : Seat) (quiet : Bool) : (s.screenLost i quiet).rearRow j = s.rearRow j := by
  rw [State.rearRow, State.screenLost, State.closeMenu_rear]
  rfl

theorem State.closeMenu_front (s : State) (i : Seat) (reason : CloseReason) (quiet : Bool) :
    (s.closeMenu i reason quiet).cmp.front = s.cmp.front := by
  unfold State.closeMenu
  (repeat' split) <;> rfl

theorem State.fellBack_leaves {s : State} {i : Seat} (h : (s.link i).state ≠ .streaming) (before : Link) (quiet : Bool) :
    (s.fellBack i before quiet).LeftBy s i (before.state = .streaming) := by
  let a := if before.ambient.isSome then s.takeAmbient i none else s
  let b := if before.state = .streaming then (a.stopRear i).screenLost i quiet else a
  have alink (j : Seat) : a.link j = s.link j := by
    simp only [a]
    split
    · exact State.takeAmbient_deaf h none j
    · rfl
  have aseat : (a.seat i).volume = (s.seat i).volume ∧ (a.seat i).offset = (s.seat i).offset ∧ ∀ j, j ≠ i → a.seat j = s.seat j := by
    simp only [a]
    split
    · exact s.takeAmbient_seat i none
    · exact ⟨rfl, rfl, fun _ _ => rfl⟩
  have acmp : a.cmp = s.cmp ∧ a.mnu = s.mnu := by
    simp only [a]
    split <;> simp
  have bkept : b.rsl = a.rsl ∧ b.sct = a.sct := by
    simp only [b]
    split <;> simp
  have stopped : ∃ r : Row, r.frame = none ∧ r.nextFrame = none ∧ (a.stopRear i).cmp = { s.cmp with rear := s.cmp.rear.set i r } := by
    obtain ⟨r, hf, hn, hc⟩ := a.stopRear_cmp i
    exact ⟨r, hf, hn, by rw [hc, acmp.1]⟩
  obtain ⟨r, hf, hn, hc⟩ := stopped
  have brow (j : Seat) : b.rearRow j = if before.state = .streaming then (s.cmp.rear.set i r).get j else s.rearRow j := by
    simp only [b]
    split
    · rw [State.screenLost_rearRow, State.rearRow, hc]
    · rw [State.rearRow, acmp.1]
      rfl
  have bfront : b.cmp.front = s.cmp.front := by
    simp only [b]
    split
    · rw [State.screenLost, State.closeMenu_front, hc]
    · rw [acmp.1]
  have bstore : b.mnu.store = s.mnu.store := by
    simp only [b]
    split
    · rw [State.screenLost, State.closeMenu_store, State.stopRear_mnu, acmp.2]
    · rw [acmp.2]
  have bctx (j : Seat) (hj : j ≠ i) : b.ctx j = s.ctx j := by
    simp only [b]
    split
    · rw [State.screenLost, State.closeMenu_ctx_other _ hj, State.ctx, State.stopRear_mnu, acmp.2]
      rfl
    · rw [State.ctx, acmp.2]
      rfl
  have bseat (j : Seat) : b.seat j = a.seat j := congrArg (fun c : Sct => c.seat.get j) bkept.2
  have fell : s.fellBack i before quiet = b.linkFellBack i quiet := rfl
  obtain ⟨held, next, volume, offset, others⟩ := b.linkFellBack_seat i quiet
  have cmp : (b.linkFellBack i quiet).cmp = b.cmp := by simp
  have mnu : (b.linkFellBack i quiet).mnu = b.mnu := by simp
  have row (j : Seat) : (b.linkFellBack i quiet).rearRow j = b.rearRow j := congrArg (fun c : Cmp => c.rear.get j) cmp
  have ctx (j : Seat) : (b.linkFellBack i quiet).ctx j = b.ctx j := congrArg (fun m : Mnu => m.ctx.get j) mnu
  rw [fell]
  exact {
    link := fun j => by
      rw [State.link, State.linkFellBack_rsl, bkept.1]
      exact alink j
    held := held
    next := next
    volume := by rw [volume, bseat, aseat.1]
    offset := by rw [offset, bseat, aseat.2.1]
    seats := fun j hj => by rw [others j hj, bseat, aseat.2.2 j hj]
    menu := fun streamed => by
      rw [ctx]
      simp only [b, if_pos streamed]
      exact State.closeMenu_stack _ i _ quiet
    row := fun streamed => by
      rw [row, brow, if_pos streamed, Two.get_set_same]
      exact ⟨hn, hf⟩
    rest := fun kept => by
      rw [row, brow, if_neg kept]
    menus := fun j hj => (ctx j).trans (bctx j hj)
    rows := fun j hj => by
      rw [row, brow]
      split
      · exact Two.get_set_other _ hj r
      · rfl
    front := by rw [cmp, bfront]
    store := by rw [mnu, bstore] }

/-- R75, R89: a link record without an agreement, a claim, or anything that belongs to them. -/
structure Link.atRest (l : Link) : Prop where
  agreement : l.agreement = none
  claimed : l.claimed = none
  claimTimer : l.claimTimer = none
  pollTimer : l.pollTimer = none
  queue : l.queue = []
  commandToggle : l.commandToggle = false
  keyAck : l.keyAck = false
  misses : l.misses = 0
  statusSincePoll : l.statusSincePoll = false
  partnerLocked : l.partnerLocked = false
  ambient : l.ambient = none

/-- R75: what an exit leaves, once the record that the link takes is at rest. -/
theorem State.exit_handedBack (s : State) (i : Seat) {l : Link} (hl : l.state ≠ .streaming) (rest : l.atRest)
    (staged : l.staged = (s.link i).staged) (inForce : l.inForce = (s.link i).inForce) :
    let s' := ((s.setLink i l).postLink i).fellBack i (s.link i) false
    s'.handedBack s i ∧ s'.link i = l := by
  intro s'
  have link : ((s.setLink i l).postLink i).link i = l := State.link_setLink_same _ _ _
  have left : s'.LeftBy ((s.setLink i l).postLink i) i ((s.link i).state = .streaming) :=
    State.fellBack_leaves (by rw [link]; exact hl) _ _
  have mine : s'.link i = l := (left.link i).trans link
  obtain ⟨time, told⟩ := s.exit_posts i l
  refine ⟨⟨?_, ?_, ?_, ?_, ?_, ?_, ?_, ?_, ?_, ?_, ?_, ?_, ?_, ?_, left.held, left.next, left.volume, left.offset,
    fun streamed => ⟨left.menu streamed, left.row streamed⟩, fun j hj => ⟨?_, left.seats j hj, left.menus j hj, left.rows j hj⟩,
    by simp [s'], left.front, left.store, by simp [s'], by simp [s'], by simp [s'], by simp [s'], by simp [s'], by simp [s'], by simp [s']⟩, mine⟩
  · rw [mine, show s'.timebase = s.timebase from time]
    exact told
  · rw [mine, rest.agreement]
  · rw [mine, rest.claimed]
  · rw [mine, rest.claimTimer]
  · rw [mine, rest.pollTimer]
  · rw [mine, rest.queue]
  · rw [mine, rest.commandToggle]
  · rw [mine, rest.keyAck]
  · rw [mine, rest.misses]
  · rw [mine, rest.statusSincePoll]
  · rw [mine, rest.partnerLocked]
  · rw [mine, rest.ambient]
  · rw [mine, staged]
  · rw [mine, inForce]
  · exact (left.link j).trans (State.link_setLink_other _ hj l)

theorem Link.cleared_atRest (l : Link) : l.cleared.atRest := ⟨rfl, rfl, rfl, rfl, rfl, rfl, rfl, rfl, rfl, rfl, rfl⟩

/-- R89: the entry to RECOVERY. -/
theorem State.enterRecovery_recovers (s : State) (i : Seat) (reason : LinkReason) : (s.enterRecovery i reason).recovers s i reason := by
  obtain ⟨back, link⟩ := s.exit_handedBack i (l := { (s.link i).cleared.send msgReset with
      state := .recovery, reason := reason, holdOffTimer := some (afterMs s.timebase 200) })
    (show LinkState.recovery ≠ .streaming by decide) ⟨rfl, rfl, rfl, rfl, rfl, rfl, rfl, rfl, rfl, rfl, rfl⟩ rfl rfl
  have time : (s.enterRecovery i reason).timebase = s.timebase := by simp
  have link : (s.enterRecovery i reason).link i = _ := link
  refine ⟨?_, ?_, ?_, ?_, ?_, ?_, ?_, back⟩ <;> rw [link]
  · rw [time]
  · rfl
  · rfl
  · rfl
  · rfl

/-- R91: the loss of the partner. -/
theorem State.detach_leaves {s : State} {i : Seat} (h : (s.link i).state ≠ .detached) (reason : LinkReason) :
    (s.detach i reason false).handedBack s i ∧ (s.detach i reason false).link i = (s.link i).detached reason := by
  rw [State.detach, if_neg h]
  exact s.exit_handedBack i (show LinkState.detached ≠ .streaming by decide) ⟨rfl, rfl, rfl, rfl, rfl, rfl, rfl, rfl, rfl, rfl, rfl⟩ rfl rfl

/-- R75: of the link's record before it an exit reads the state and the policies alone. -/
theorem State.handedBack_of_setLink {s' s : State} {i : Seat} {l : Link} (h : s'.handedBack (s.setLink i l) i)
    (state : l.state = (s.link i).state) (staged : l.staged = (s.link i).staged) (inForce : l.inForce = (s.link i).inForce) :
    s'.handedBack s i := by
  have link : (s.setLink i l).link i = l := State.link_setLink_same _ _ _
  have told : s'.exitTold (s.setLink i l) i = s'.exitTold s i := by
    unfold State.exitTold
    rw [link, state]
    rfl
  unfold State.handedBack at h ⊢
  rw [told, link, state, staged, inForce] at h
  obtain ⟨h1, h2, h3, h4, h5, h6, h7, h8, h9, h10, h11, h12, h13, h14, h15, h16, h17, h18, h19, h20, h21⟩ := h
  exact ⟨h1, h2, h3, h4, h5, h6, h7, h8, h9, h10, h11, h12, h13, h14, h15, h16, h17, h18, h19,
    fun j hj => ⟨(h20 j hj).1.trans (State.link_setLink_other _ hj l), (h20 j hj).2⟩, h21⟩

theorem State.recovers_of_setLink {s' s : State} {i : Seat} {l : Link} {reason : LinkReason} (h : s'.recovers (s.setLink i l) i reason)
    (state : l.state = (s.link i).state) (staged : l.staged = (s.link i).staged) (inForce : l.inForce = (s.link i).inForce)
    (outbox : l.outbox = (s.link i).outbox) (offers : l.offers = (s.link i).offers) (descriptor : l.descriptor = (s.link i).descriptor) :
    s'.recovers s i reason := by
  obtain ⟨hs, hr, hh, ho, hoff, hd, ht, back⟩ := h
  rw [State.link_setLink_same] at ho hoff hd
  exact ⟨hs, hr, hh, by rw [ho, outbox], by rw [hoff, offers], by rw [hd, descriptor], ht,
    State.handedBack_of_setLink back state staged inForce⟩

/-! ## The polls of a link (R83) -/

theorem State.pollExpired_due {s : State} {i : Seat} {e : Stamp} (h : (s.link i).state = .streaming) (ht : (s.link i).pollTimer = some e)
    (due : reached s.timebase e = true) :
    s.pollExpired i = (let misses := if (s.link i).statusSincePoll then (s.link i).misses else (s.link i).misses + 1
      let x := s.setLink i { s.link i with misses := misses }
      if 3 ≤ misses then x.enterRecovery i .keepaliveLost
      else if (s.link i).triesSpent (calTryLimit s.cal.working) then x.enterRecovery i .commandRetries
      else x.setLink i ((x.link i).poll x.timebase (x.videoPresent i))) := if_pos ⟨h, expired_of ht due⟩

/-- R83: a miss counted before a fall to RECOVERY leaves no trace there. -/
theorem State.missed_recovers (s : State) (i : Seat) (misses : Nat) (reason : LinkReason) :
    ((s.setLink i { s.link i with misses := misses }).enterRecovery i reason).recovers s i reason :=
  State.recovers_of_setLink (State.enterRecovery_recovers _ i reason) rfl rfl rfl rfl rfl rfl

theorem Link.triesSpent_of {l : Link} {c : Command} {rest : List Command} (h : l.queue = c :: rest) {limit : Nat} (hc : limit ≤ c.tries) :
    l.triesSpent limit = true := by
  simp [Link.triesSpent, h, hc]

/-! ## The states that a RESET reaches (R90) -/

theorem LinkState.takesReset_of {st : LinkState} (hd : st ≠ .detached) (hr : st ≠ .recovery) : st.takesReset = true := by
  cases st with
  | detached => exact absurd rfl hd
  | recovery => exact absurd rfl hr
  | _ => rfl

theorem LinkState.takesReset_not {st : LinkState} (h : st = .detached ∨ st = .recovery) : ¬ st.takesReset = true := by
  rcases h with rfl | rfl <;> decide

theorem ownLinkRestart_of {p : List Byte} {s : State} {i : Seat} (h : byteAt p 0 = seatNo i) : ownLinkRestart p s
    = if (s.link i).state.takesReset = true then (s.enterRecovery i .hostRequest, ok []) else (s, refuse .notNow) := by
  simp only [ownLinkRestart, h, seatOf_seatNo]

end Sys2Proof.Machine

open Sys2Proof Sys2Proof.Machine

/-- Settles O31. -/
theorem linkFallsBackWithItsReason : Obligations.LinkFallsBackWithItsReason := by
  refine ⟨fun t i s body hp hh hs hb => ?_, fun t i s e hp hc ht due => ?_, fun t i s e hp hh ht due h5 => ?_,
    fun t i s e hp hs ht due hsp hm => ?_, fun t i s e c rest hp hs ht due hm hq hc => ?_, fun t i s hp hd hr => ?_,
    fun t i s n hask hm hn hd hr => ?_, fun t i s n hask hm hn hno => ?_, fun t i s hp hd => ?_, fun t i s hp hd => ?_⟩
  · refine ⟨_, State.happens_leaves hp ((if_pos ⟨hs, hh⟩).trans ?_), by simp, State.enterRecovery_recovers (s.atTime t) i .badOffers⟩
    rw [hb]
  · exact ⟨_, State.happens_leaves hp (if_pos ⟨hc, expired_of ht due⟩), by simp, State.enterRecovery_recovers (s.atTime t) i .noAnswer⟩
  · exact ⟨_, State.happens_leaves hp ((State.hailExpired_due (s := s.atTime t) hh ht due).trans (if_neg (Nat.not_lt.2 h5))), by simp,
      State.enterRecovery_recovers (s.atTime t) i .noAnswer⟩
  · refine ⟨_, State.happens_leaves hp ((State.pollExpired_due (s := s.atTime t) hs ht due).trans (if_pos ?_)), by simp,
      State.missed_recovers (s.atTime t) i _ .keepaliveLost⟩
    show 3 ≤ if (s.link i).statusSincePoll = true then (s.link i).misses else (s.link i).misses + 1
    simp [hsp, hm]
  · refine ⟨_, State.happens_leaves hp ((State.pollExpired_due (s := s.atTime t) hs ht due).trans ((if_neg ?_).trans
      (if_pos (Link.triesSpent_of (l := s.link i) hq hc)))), by simp, State.missed_recovers (s.atTime t) i _ .commandRetries⟩
    show ¬ 3 ≤ if (s.link i).statusSincePoll = true then (s.link i).misses else (s.link i).misses + 1
    split <;> omega
  · exact ⟨_, State.happens_leaves hp (if_pos (LinkState.takesReset_of hd hr)), by simp,
      State.enterRecovery_recovers (s.atTime t) i .partnerRequest⟩
  · exact ⟨_, State.request_leaves hask rfl (.inl hm) ((ownLinkRestart_of (p := [n]) hn).trans (if_pos (LinkState.takesReset_of hd hr))),
      by simp, State.enterRecovery_recovers (s.atTime t) i .hostRequest⟩
  · exact State.request_onlyReplies hask rfl (.inl hm) ((ownLinkRestart_of (p := [n]) hn).trans (if_neg (LinkState.takesReset_not hno)))
  · let x := (s.atTime t).setPresent i false
    have record : x.link i = { s.link i with present := false } := State.link_setLink_same _ _ _
    obtain ⟨back, link⟩ := State.detach_leaves (s := x) (i := i) (by rw [record]; exact hd) .detached
    rw [record] at link
    refine ⟨x.detach i .detached false, State.pin_leaves (record := fun s => s.setPresent i false) (act := fun s => s.presenceLost i) hp rfl,
      by simp [x, State.setPresent], ?_⟩
    have back : (x.detach i .detached false).handedBack (s.atTime t) i := State.handedBack_of_setLink back rfl rfl rfl
    refine ⟨?_, ?_, ?_, ?_, ?_, ?_, ?_, ?_, ?_, back⟩ <;> rw [link] <;> rfl
  · refine State.pin_leaves (record := fun s => s.setPresent i false) (act := fun s => s.presenceLost i) hp (if_pos ?_)
    show (((s.atTime t).setPresent i false).link i).state = .detached
    rw [State.setPresent, State.link_setLink_same]
    exact hd

end

section
/-! # Proofs: output frames (R97, R99, R102, R103, R108, R109, R136) -/

namespace Sys2Proof.Machine

/-- R99: the route that is pending comes into effect. -/
theorem Row.takePending_eq (r : Row) : r.takePending = { r with routed := r.pending.getD r.routed, pending := none } := by
  obtain ⟨routed, _ | src, effective, cause, hostBanner, shown, size, geometry, nextFrame, frame⟩ := r
  · rfl
  · rfl

/-! ## The front row (R102, R105) -/

/-- R102: the front row as its judgement leaves it; with its source or its cause the guide plane is judged. -/
theorem State.judgeFront_eq (s : State) : ∃ plane,
    s.judgeFront = { s with
      cmp := { s.cmp with
        front := { s.cmp.front with
          effective := (frontSource s.rvcOff s.cmp.preview s.cmp.filmLock s.cmp.front.routed).1
          cause := (frontSource s.rvcOff s.cmp.preview s.cmp.filmLock s.cmp.front.routed).2 }
        guidePlane := plane }
      cli := s.judgeFront.cli } := by
  unfold State.judgeFront
  dsimp only
  generalize frontSource s.rvcOff s.cmp.preview s.cmp.filmLock s.cmp.front.routed = d
  split
  · next h => exact ⟨s.cmp.guidePlane, by rw [← h.1, ← h.2]⟩
  · exact ⟨_, rfl⟩

/-- R97: a front frame is composed from the row as it then stands. -/
theorem State.frontFrame_front (s : State) :
    let mode := calPanelMode s.cal.working
    let routed := s.cmp.front.pending.getD s.cmp.front.routed
    let d := frontSource s.rvcOff s.cmp.preview s.cmp.filmLock routed
    let place := geometryOf (s.sourceSize d.1) mode.width mode.height
    ∃ front plane, s.frontFrame.cmp = { s.cmp with front := front, guidePlane := plane }
      ∧ front = { s.cmp.front with
          routed := routed
          pending := none
          effective := d.1
          cause := d.2
          size := mode
          geometry := place
          nextFrame := some (afterUs s.timebase (1000000 / mode.refresh))
          frame := some ⟨mode, place, if s.cmp.frontView = .fault then none else if s.sourceLocked d.1 then d.1.feed else none,
            if plane then s.cmp.guideSet else none, none,
            if s.cmp.front.shown = 0 then none else some (calBanner s.cal.working s.cmp.front.shown)⟩ } := by
  intro mode routed d place
  obtain ⟨plane, judged⟩ := (s.setFront s.cmp.front.takePending).judgeFront_eq
  rw [Row.takePending_eq] at judged
  refine ⟨_, plane, ?_, rfl⟩
  unfold State.frontFrame State.frontRouteTakesEffect
  rw [Row.takePending_eq, judged]
  rfl

/-! ## A rear row (R97, R106) -/

theorem State.judgeRear_eq (s : State) (i : Seat) : s.judgeRear i = { s with
    cmp := { s.cmp with rear := s.cmp.rear.set i (s.judgedRow i (s.rearRow i)) }, cli := (s.judgeRear i).cli } := by
  unfold State.judgeRear State.judgedRow
  dsimp only
  split
  · cases i <;> rfl
  · cases i <;> rfl

theorem State.rearRouteTakesEffect_eq (s : State) (i : Seat) : s.rearRouteTakesEffect i = { s with
    cmp := { s.cmp with rear := s.cmp.rear.set i (s.judgedRow i (s.rearRow i).takePending) }, cli := (s.rearRouteTakesEffect i).cli } := by
  have judged := (s.setRearRow i (s.rearRow i).takePending).judgeRear_eq i
  rw [State.rearRow_setRearRow_same] at judged
  refine judged.trans ?_
  simp only [State.setRearRow, Two.set_set]
  rfl

/-- R136: the menu plane of a rear frame. -/
def State.menuShown (s : State) (i : Seat) (width height : Nat) : Option MenuPicture :=
  match (s.ctx i).stack with
  | [] => none
  | e :: _ => if s.cmp.menuPlane.get i then (findPage s.mnu.store e.page).map (fun page =>
      menuPicture page e (s.seat i).volume (s.seat i).offset width height) else none

/-- R97: a rear row as its frame start leaves it, once its route has come into effect. -/
def State.framedRow (s : State) (i : Seat) (a : Agreement) (r : Row) : Row :=
  { r with
    size := a.mode
    geometry := geometryOf (s.sourceSize r.effective) a.width a.height
    nextFrame := some (afterUs s.timebase (1000000 / a.refresh))
    frame := some ⟨a.mode, geometryOf (s.sourceSize r.effective) a.width a.height,
      if s.sourceLocked r.effective then r.effective.feed else none, none, s.menuShown i a.width a.height,
      if r.shown = 0 then none else some (calBanner s.cal.working r.shown)⟩ }

theorem State.rearFrame_cmp {s : State} {i : Seat} {a : Agreement} (h : (s.link i).agreement = some a) : (s.rearFrame i).cmp
    = { s.cmp with rear := s.cmp.rear.set i (s.framedRow i a (s.judgedRow i (s.rearRow i).takePending)) } := by
  simp only [State.rearFrame, h]
  rw [State.rearRouteTakesEffect_eq]
  generalize s.judgedRow i (s.rearRow i).takePending = r
  cases i <;> rfl

theorem State.judgedRow_routed (s : State) (i : Seat) (r : Row) : (s.judgedRow i r).effective = r.routed
    ∧ (s.judgedRow i r).cause = .route ∧ (s.judgedRow i r).routed = r.routed
    ∧ (s.judgedRow i r).shown = if r.effective = r.routed ∧ r.cause = .route then r.shown
      else rearBanner (decide ((s.link i).state = .streaming)) (s.sourceUnlocked r.routed) r.hostBanner := by
  unfold State.judgedRow
  split
  · next h => exact ⟨h.1, h.2, rfl, rfl⟩
  · exact ⟨rfl, rfl, rfl, rfl⟩

theorem rearBanner_eq (streaming unlocked host : Bool) :
    rearBanner streaming unlocked host = if streaming = true ∧ unlocked = true then 3 else if host then 4 else 0 := by
  cases streaming <;> cases unlocked <;> rfl

end Sys2Proof.Machine

open Sys2Proof Sys2Proof.Machine

/-- Settles O35. -/
theorem outputFrameTakesItsRoute : Obligations.OutputFrameTakesItsRoute := by
  refine ⟨fun t s e hp hn due => ?_, fun t i s e a hp hn due ha => ?_⟩
  · let x := s.atTime t
    obtain ⟨front, plane, cmp, row⟩ := x.frontFrame_front
    have cmp : x.frontFrame.cmp = { s.cmp with front := front, guidePlane := plane } := cmp
    have told := x.frontFrame_posts
    refine ⟨x.frontFrame, State.happens_leaves hp (if_pos (expired_of hn due)), by simp [x], ?_, told.2, by rw [cmp], by rw [cmp], by rw [cmp],
      by simp [x], by simp [x], by simp [x], by simp [x], by simp [x], by simp [x], by simp [x], by simp [x], by simp [x], by simp [x],
      by simp [x]⟩
    rw [cmp]
    exact row
  · let x := s.atTime t
    let taken := { s.rearRow i with routed := (s.rearRow i).pending.getD (s.rearRow i).routed, pending := none }
    let r := x.judgedRow i taken
    have row : (x.rearFrame i).cmp = { s.cmp with rear := s.cmp.rear.set i (x.framedRow i a r) } := by
      rw [State.rearFrame_cmp (s := x) ha, Row.takePending_eq]
      rfl
    have mine : (x.rearFrame i).rearRow i = x.framedRow i a r := by rw [State.rearRow, row, Two.get_set_same]
    obtain ⟨effective, cause, routed, shown⟩ := x.judgedRow_routed i taken
    obtain ⟨-, -, pending⟩ := x.judgedRow_frame i taken
    simp only [rearBanner_eq, decide_eq_true_eq] at shown
    refine ⟨x.rearFrame i, State.happens_leaves hp (if_pos (expired_of hn due)), by simp [x], ?_, ?_, ?_, ?_, ?_, ?_, ?_, ?_, ?_,
      (x.rearFrame_posts i).2, fun j hj => ?_, by rw [row], by simp [x], by simp [x], by simp [x], by simp [x], by simp [x],
      by simp [x], by simp [x], by simp [x], by simp [x], by simp [x], by simp [x]⟩
    · exact (congrArg Row.routed mine).trans routed
    · exact (congrArg Row.pending mine).trans pending
    · exact (congrArg Row.effective mine).trans effective
    · exact (congrArg Row.cause mine).trans cause
    · exact congrArg Row.size mine
    · exact (congrArg Row.geometry mine).trans (congrArg (fun src => geometryOf (x.sourceSize src) a.width a.height) effective)
    · exact congrArg Row.nextFrame mine
    · exact (congrArg Row.shown mine).trans shown
    · have banner : ((x.rearFrame i).rearRow i).shown = r.shown := by
        rw [mine]
        rfl
      rw [banner]
      refine (congrArg Row.frame mine).trans ?_
      rw [State.framedRow, effective]
      rfl
    · exact (congrArg (fun c : Cmp => c.rear.get j) row).trans (Two.get_set_other _ hj _)

end

section
/-! # Proofs: LINK requests, and the start of STREAMING (R80, R81, R88, R92 to R94) -/

namespace Sys2Proof.Machine

/-! ## LINK POLICY SET and LINK COMMAND (R88, R93) -/

theorem ownLinkPolicySet_of {p : List Byte} {s : State} {i : Seat} (h : byteAt p 0 = seatNo i) : ownLinkPolicySet p s
    = if 160 ≤ u16At p 1 ∧ u16At p 1 ≤ 3840 ∧ 120 ≤ u16At p 3 ∧ u16At p 3 ≤ 2160 ∧ 24 ≤ byteAt p 5 ∧ byteAt p 5 ≤ 60
      then (s.setLink i { s.link i with staged := some ⟨u16At p 1, u16At p 3, byteAt p 5⟩ }, ok []) else (s, refuse .badValue) := by
  simp only [ownLinkPolicySet, h, seatOf_seatNo]
  repeat' split
  all_goals first | rfl | omega

theorem hostCommand_of {p : List Byte} {kind : CommandKind}
    (h : byteAt p 1 = 2 ∧ byteAt p 2 ≤ 1 ∧ kind = .panelPower (decide (byteAt p 2 = 1))
      ∨ byteAt p 1 = 3 ∧ 0x80 ≤ byteAt p 2 ∧ byteAt p 2 ≤ 0xFE ∧ kind = .raw (p.getD 2 0) (p.getD 3 0) (p.getD 4 0)) :
    hostCommand p = some kind := by
  unfold hostCommand
  rcases h with ⟨h1, h2, rfl⟩ | ⟨h1, h2, h3, rfl⟩
  · rw [if_pos h1]
    rcases Nat.le_one_iff_eq_zero_or_eq_one.1 h2 with h0 | h0 <;> rw [h0] <;> rfl
  · rw [if_neg (by omega), if_pos h1, if_neg (by omega)]

theorem ownLinkCommand_of {p : List Byte} {s : State} {i : Seat} {kind : CommandKind} (h : byteAt p 0 = seatNo i)
    (hk : hostCommand p = some kind) : ownLinkCommand p s
      = if (s.link i).state ≠ .streaming then (s, refuse .notNow)
        else if 4 ≤ (s.link i).queue.length then (s, refuse .queueFull)
        else (s.setLink i ((s.link i).append kind), ok (u8 ((s.link i).queue.length + 1))) := by
  simp only [ownLinkCommand, h, seatOf_seatNo, hk]
  rfl

/-! ## LINK REOFFER (R92) -/

theorem ownLinkReoffer_of {p : List Byte} {s : State} {i : Seat} (h : byteAt p 0 = seatNo i) : ownLinkReoffer p s
    = if (s.link i).state.takesReoffer = true then (s.reoffer i, ok []) else (s, refuse .notNow) := by
  simp only [ownLinkReoffer, h, seatOf_seatNo]

theorem LinkState.takesReoffer_iff (st : LinkState) : st.takesReoffer = true ↔ st = .claiming ∨ st = .streaming ∨ st = .noMode := by
  cases st <;> decide

theorem State.reoffer_leaves (s : State) (i : Seat) :
    (s.reoffer i).handedBack s i ∧ (s.reoffer i).link i = (s.link i).cleared.hailing s.timebase :=
  s.exit_handedBack i (show LinkState.hailing ≠ .streaming by decide) ⟨rfl, rfl, rfl, rfl, rfl, rfl, rfl, rfl, rfl, rfl, rfl⟩ rfl rfl

/-! ## The descriptor (R94) -/

theorem State.readDescriptor_some {s : State} {i : Seat} {d : List Byte} (h : (s.link i).descriptor = some d) (start : Nat) :
    s.readDescriptor i start = (let piece := (d.drop start).take 32
      (s.setLink i { s.link i with readPos := start + piece.length },
        ok ([if d.length ≤ start + piece.length then 1 else 0, BitVec.ofNat 8 piece.length] ++ piece))) := by
  simp only [State.readDescriptor, h, descriptorPiece]
  by_cases last : d.length ≤ start + ((d.drop start).take 32).length
  · simp only [last, decide_true, if_true]
    rfl
  · simp only [last, decide_false, if_false]
    rfl

theorem State.readDescriptor_none {s : State} {i : Seat} (h : (s.link i).descriptor = none) (start : Nat) :
    s.readDescriptor i start = (s, refuse .notNow) := by
  simp only [State.readDescriptor, h]

theorem ownDescriptorReadStart_of {p : List Byte} {s : State} {i : Seat} (h : byteAt p 0 = seatNo i) :
    ownDescriptorReadStart p s = s.readDescriptor i 0 := by
  simp only [ownDescriptorReadStart, h, seatOf_seatNo]

theorem ownDescriptorReadContinue_of {p : List Byte} {s : State} {i : Seat} (h : byteAt p 0 = seatNo i) :
    ownDescriptorReadContinue p s = s.readDescriptor i (s.link i).readPos := by
  simp only [ownDescriptorReadContinue, h, seatOf_seatNo]

/-! ## The start of STREAMING (R80, R81, R113) -/

theorem State.judgeRearBanner_cmp (s : State) (i : Seat) : ∃ shown,
    s.judgeRearBanner i = { s with cmp := { s.cmp with rear := s.cmp.rear.set i { s.rearRow i with shown := shown } } } := ⟨_, rfl⟩

/-- R113: a row that starts has its first frame on the event; the other row is kept. -/
theorem State.startRear_row {s : State} {i : Seat} {a : Agreement} (h : (s.link i).agreement = some a) :
    ((s.startRear i).rearRow i).nextFrame = some (afterUs s.timebase (1000000 / a.refresh))
    ∧ ((s.startRear i).rearRow i).size = ⟨a.width, a.height, a.refresh⟩ ∧ ((s.startRear i).rearRow i).pending = none
    ∧ ∀ j, j ≠ i → (s.startRear i).rearRow j = s.rearRow j := by
  obtain ⟨shown, banner⟩ := s.judgeRearBanner_cmp i
  let x := s.judgeRearBanner i
  have agreed : (x.link i).agreement = some a := by
    rw [show x = _ from banner]
    exact h
  have time : x.timebase = s.timebase := rfl
  have cmp : (s.startRear i).cmp = _ := State.rearFrame_cmp agreed
  have mine : (s.startRear i).rearRow i = _ := (congrArg (fun c : Cmp => c.rear.get i) cmp).trans (Two.get_set_same _ i _)
  have others (j : Seat) (hj : j ≠ i) : (s.startRear i).rearRow j = x.rearRow j :=
    (congrArg (fun c : Cmp => c.rear.get j) cmp).trans (Two.get_set_other _ hj _)
  obtain ⟨-, -, pending⟩ := x.judgedRow_frame i (x.rearRow i).takePending
  rw [mine]
  refine ⟨rfl, rfl, pending.trans (Row.takePending_keepsFrames _).2.2, fun j hj => (others j hj).trans ?_⟩
  rw [show x = _ from banner]
  exact Two.get_set_other _ hj _

/-- R81: the part as a link enters STREAMING, but for its rear row. -/
def State.streams (s : State) (i : Seat) (a : Agreement) (video : Bool) : State :=
  let x := ((s.setLink i { s.link i with state := .streaming, agreement := some a, claimTimer := none }).postLink i)
  (x.setLink i (((s.link i).agreed a (s.seat i).target).poll s.timebase video)).setSeat i
    { s.seat i with lastSent := some (s.seat i).target, next := none }

theorem State.enterStreaming_eq (s : State) (i : Seat) (a : Agreement) : ∃ video, s.enterStreaming i a = (s.streams i a video).startRear i := by
  cases i <;> exact ⟨_, rfl⟩

end Sys2Proof.Machine

open Sys2Proof Sys2Proof.Machine

/-- Settles O34. -/
theorem linkRequestsActOnTheLink : Obligations.LinkRequestsActOnTheLink := by
  refine ⟨fun t i s p hask hlen hm hi => ⟨fun w1 w2 h1 h2 r1 r2 => ?_, fun bad => ?_⟩,
    fun t i s p kind hask hlen hm hi hk => ⟨fun hs hq => ?_, fun hs hq => ?_, fun hs => ?_⟩,
    fun t i s n hask hm hn => ⟨fun hst => ?_, fun hst => ?_⟩, fun t i s n hm hn => ⟨fun d start hd => ⟨?_, ?_⟩, fun hd => ⟨?_, ?_⟩⟩⟩
  · exact State.request_leaves hask (lengthIs_true hlen) (.inl hm)
      ((ownLinkPolicySet_of (s := s.atTime t) hi).trans (if_pos ⟨w1, w2, h1, h2, r1, r2⟩))
  · exact State.request_onlyReplies hask (lengthIs_true hlen) (.inl hm) ((ownLinkPolicySet_of (s := s.atTime t) hi).trans (if_neg (by omega)))
  · exact State.request_leaves hask (lengthIs_true hlen) (.inl hm) ((ownLinkCommand_of (s := s.atTime t) hi (hostCommand_of hk)).trans
      ((if_neg (not_not_intro hs)).trans (if_neg (Nat.not_le.2 hq))))
  · exact State.request_onlyReplies hask (lengthIs_true hlen) (.inl hm) ((ownLinkCommand_of (s := s.atTime t) hi (hostCommand_of hk)).trans
      ((if_neg (not_not_intro hs)).trans (if_pos hq)))
  · exact State.request_onlyReplies hask (lengthIs_true hlen) (.inl hm)
      ((ownLinkCommand_of (s := s.atTime t) hi (hostCommand_of hk)).trans (if_pos hs))
  · obtain ⟨back, link⟩ := State.reoffer_leaves (s.atTime t) i
    refine ⟨(s.atTime t).reoffer i, State.request_leaves hask rfl (.inl hm)
      ((ownLinkReoffer_of (p := [n]) hn).trans (if_pos ((LinkState.takesReoffer_iff _).2 hst))), by simp, ?_⟩
    refine ⟨?_, ?_, ?_, ?_, ?_, ?_, ?_, ?_, back⟩ <;> rw [link] <;> rfl
  · refine State.request_onlyReplies hask rfl (.inl hm) ((ownLinkReoffer_of (p := [n]) hn).trans (if_neg (fun ht => ?_)))
    have taken := (LinkState.takesReoffer_iff (s.link i).state).1 ht
    rcases hst with hst | hst | hst <;> rw [hst] at taken <;> simp at taken
  · rintro hask rfl
    exact State.request_leaves hask rfl (.inl hm)
      ((ownDescriptorReadStart_of (p := [n]) (s := s.atTime t) hn).trans (State.readDescriptor_some (s := s.atTime t) hd 0))
  · rintro hask rfl
    exact State.request_leaves hask rfl (.inl hm)
      ((ownDescriptorReadContinue_of (p := [n]) (s := s.atTime t) hn).trans (State.readDescriptor_some (s := s.atTime t) hd _))
  · exact fun hask => State.request_onlyReplies hask rfl (.inl hm)
      ((ownDescriptorReadStart_of (p := [n]) (s := s.atTime t) hn).trans (State.readDescriptor_none (s := s.atTime t) hd 0))
  · exact fun hask => State.request_onlyReplies hask rfl (.inl hm)
      ((ownDescriptorReadContinue_of (p := [n]) (s := s.atTime t) hn).trans (State.readDescriptor_none (s := s.atTime t) hd _))

/-- Settles O30. -/
theorem acceptStartsStreaming : Obligations.AcceptStartsStreaming := by
  intro t i s n o hp hs hc ho hq htog
  let x := s.atTime t
  let a : Agreement := ⟨n, o.width, o.height, o.refresh, o.audio, partnerId (s.link i).descriptor⟩
  obtain ⟨video, streams⟩ := x.enterStreaming_eq i a
  let y := x.streams i a video
  have agree : (x.link i).agree = some a := by
    have claimed : (x.link i).claimed = some n := hc
    have offer : (x.link i).offers[n - 1]? = some o := ho
    simp only [Link.agree, claimed, offer]
    rfl
  have link : y.link i = ((s.link i).agreed a (s.seat i).target).poll t video := by cases i <;> rfl
  have queue : ((s.link i).agreed a (s.seat i).target).queue = [⟨.panelPower true, true, 0⟩, ⟨.backlight (s.seat i).target, false, 0⟩]
      ∧ ((s.link i).agreed a (s.seat i).target).commandToggle = false := by
    simp [Link.agreed, Link.append, hq, htog]
  have polled : y.link i = { (s.link i).agreed a (s.seat i).target with
      queue := [⟨.panelPower true, true, 1⟩, ⟨.backlight (s.seat i).target, false, 0⟩], commandToggle := false,
      statusSincePoll := false, pollTimer := some (afterMs t 10), outbox := (y.link i).outbox } := by
    rw [link]
    simp only [Link.poll, Link.countTry, Link.send, queue.1, queue.2]
  have seat : y.seat i = { s.seat i with lastSent := some (s.seat i).target, next := none } := State.seat_setSeat_same _ _ _
  obtain ⟨next, size, pending, rows⟩ := State.startRear_row (s := y) (i := i) (a := a) (by rw [polled]; rfl)
  have kept : (y.startRear i).rsl = y.rsl ∧ (y.startRear i).sct = y.sct := by simp
  have links (j : Seat) : (y.startRear i).link j = y.link j := congrArg (fun r => r.get j) kept.1
  have seats (j : Seat) : (y.startRear i).seat j = y.seat j := congrArg (fun c : Sct => c.seat.get j) kept.2
  have told : (y.startRear i).posted x ((seatNo i, .link .streaming (s.link i).reason)
      :: ((y.startRear i).rearRow i).routeTold (s.rearRow i) (.ro i)) := by
    refine State.posted_trans (s1 := y) (a := [(seatNo i, .link .streaming (s.link i).reason)]) ?_ (y.startRear_posts i)
    cases i <;> exact ⟨rfl, rfl⟩
  have mine := (links i).trans polled
  have sent := (seats i).trans seat
  have record : ((y.startRear i).link i).state = .streaming ∧ ((y.startRear i).link i).reason = (s.link i).reason
      ∧ ((y.startRear i).link i).agreement = some a ∧ ((y.startRear i).link i).claimTimer = none ∧ ((y.startRear i).link i).misses = 0
      ∧ ((y.startRear i).link i).statusSincePoll = false ∧ ((y.startRear i).link i).partnerLocked = false
      ∧ ((y.startRear i).link i).pollTimer = some (afterMs t 10)
      ∧ ((y.startRear i).link i).queue = [⟨.panelPower true, true, 1⟩, ⟨.backlight (s.seat i).target, false, 0⟩]
      ∧ ((y.startRear i).link i).commandToggle = false := by
    rw [mine]
    exact ⟨rfl, rfl, rfl, rfl, rfl, rfl, rfl, rfl, rfl, rfl⟩
  obtain ⟨state, reason, agreement, claimTimer, misses, since, locked, timer, queued, toggle⟩ := record
  refine ⟨y.startRear i, State.happens_leaves hp ((if_pos hs).trans ?_), told.1, state, reason, told.2, agreement, claimTimer, misses, since,
    locked, timer, queued, toggle, by rw [sent], by rw [sent], by rw [sent], next, size, pending, fun j hj => ⟨?_, ?_, rows j hj⟩,
    ?_, ?_, ?_, ?_, ?_, ?_, ?_, ?_, ?_⟩
  · rw [agree]
    exact streams
  · exact (links j).trans ((State.link_setLink_other _ hj _).trans (State.link_setLink_other _ hj _))
  · exact (seats j).trans (State.seat_setSeat_other _ hj _)
  all_goals simp [y, x, State.streams, State.postLink]

end

section
/-! # Proofs: what the key events of a seat reach (R138 to R144) -/

namespace Sys2Proof.Machine

/-! ## A click never ends another chime (R123, R153) -/

/-- R153: a click is placed or discarded. -/
theorem State.click_eq (s : State) (i : Seat) (pattern : Nat) :
    s.click i pattern = s ∨ s.click i pattern = ({ s with chu := s.chu.formed } : State).place (s.chu.form ⟨pattern, ZoneSet.ofSeat i, 1, .click, .menu⟩) := by
  unfold State.click State.arrive
  dsimp only
  split
  · exact .inr rfl
  · exact .inl rfl

theorem State.place_eq (s : State) (ch : Chime) : ∃ chu, s.place ch = { s with chu := chu } := by
  unfold State.place State.startOn State.startBeep
  dsimp only
  split
  · exact ⟨_, rfl⟩
  · exact ⟨_, rfl⟩

/-- R123: a click changes the chime unit alone. -/
theorem State.click_chu (s : State) (i : Seat) (pattern : Nat) : ∃ chu, s.click i pattern = { s with chu := chu } := by
  rcases s.click_eq i pattern with h | h
  · exact ⟨s.chu, h⟩
  · obtain ⟨chu, placed⟩ := ({ s with chu := s.chu.formed } : State).place_eq (s.chu.form ⟨pattern, ZoneSet.ofSeat i, 1, .click, .menu⟩)
    exact ⟨chu, h.trans placed⟩

theorem State.menuClick_chu (s : State) (i : Seat) (pattern : Nat) : ∃ chu, s.menuClick i pattern = { s with chu := chu } := by
  unfold State.menuClick
  split
  · exact s.click_chu i pattern
  · exact ⟨s.chu, rfl⟩

/-! ## What a key event of a seat keeps -/

/-- What a key event of a seat keeps: the controller; the other seat with its link and menu; of its own link all but the queue and the
command toggle. -/
structure State.AtSeat (s' s : State) (i : Seat) : Prop where
  rvc : s'.rvc = s.rvc
  links : ∀ j, j ≠ i → s'.link j = s.link j
  seats : ∀ j, j ≠ i → s'.seat j = s.seat j
  menus : ∀ j, j ≠ i → s'.ctx j = s.ctx j
  link : ∃ queue toggle, s'.link i = { s.link i with queue := queue, commandToggle := toggle }

variable {s0 s : State} {i : Seat}

theorem State.AtSeat.refl (s : State) (i : Seat) : s.AtSeat s i := ⟨rfl, fun _ _ => rfl, fun _ _ => rfl, fun _ _ => rfl, _, _, rfl⟩

theorem State.AtSeat.trans {s2 : State} (h' : s2.AtSeat s i) (h : s.AtSeat s0 i) : s2.AtSeat s0 i := by
  obtain ⟨q, t, l⟩ := h.link
  obtain ⟨q', t', l'⟩ := h'.link
  exact {
    rvc := h'.rvc.trans h.rvc
    links := fun j hj => (h'.links j hj).trans (h.links j hj)
    seats := fun j hj => (h'.seats j hj).trans (h.seats j hj)
    menus := fun j hj => (h'.menus j hj).trans (h.menus j hj)
    link := ⟨q', t', by rw [l', l]⟩ }

/-- A part that holds the same links, and at most other records of the seat. -/
theorem State.AtSeat.of_kept {s2 : State} (h : s.AtSeat s0 i) (rvc : s2.rvc = s.rvc) (rsl : s2.rsl = s.rsl)
    (seats : ∀ j, j ≠ i → s2.seat j = s.seat j) (menus : ∀ j, j ≠ i → s2.ctx j = s.ctx j) : s2.AtSeat s0 i :=
  State.AtSeat.trans ⟨rvc, fun j _ => congrArg (fun r => r.get j) rsl, seats, menus, _, _, congrArg (fun r => r.get i) rsl⟩ h

theorem State.AtSeat.setSeat (h : s.AtSeat s0 i) (r : SeatRec) : (s.setSeat i r).AtSeat s0 i :=
  h.of_kept rfl rfl (fun _ hj => State.seat_setSeat_other s hj r) (fun _ _ => rfl)

theorem State.AtSeat.setCtx (h : s.AtSeat s0 i) (c : MenuContext) : (s.setCtx i c).AtSeat s0 i :=
  h.of_kept rfl rfl (fun _ _ => rfl) (fun _ hj => State.ctx_setCtx_other s hj c)

theorem State.AtSeat.post (h : s.AtSeat s0 i) (source : Nat) (b : NoticeBody) : (s.post source b).AtSeat s0 i :=
  h.of_kept rfl rfl (fun _ _ => rfl) (fun _ _ => rfl)

theorem State.AtSeat.setMenuPlane (h : s.AtSeat s0 i) (on : Bool) : (s.setMenuPlane i on).AtSeat s0 i :=
  h.of_kept rfl rfl (fun _ _ => rfl) (fun _ _ => rfl)

theorem State.AtSeat.setStore (h : s.AtSeat s0 i) (store : List Page) : (s.setStore store).AtSeat s0 i :=
  h.of_kept rfl rfl (fun _ _ => rfl) (fun _ _ => rfl)

theorem State.AtSeat.menuClick (h : s.AtSeat s0 i) (pattern : Nat) : (s.menuClick i pattern).AtSeat s0 i := by
  obtain ⟨chu, he⟩ := s.menuClick_chu i pattern
  rw [he]
  exact h.of_kept rfl rfl (fun _ _ => rfl) (fun _ _ => rfl)

theorem State.AtSeat.consumed (h : s.AtSeat s0 i) (pattern : Nat) : (s.consumed i pattern).AtSeat s0 i := by
  unfold State.consumed
  split
  · exact (h.setCtx _).menuClick pattern
  · exact h.menuClick pattern

theorem State.AtSeat.closeMenu (h : s.AtSeat s0 i) (reason : CloseReason) : (s.closeMenu i reason false).AtSeat s0 i := by
  unfold State.closeMenu
  split
  · exact ((h.setCtx _).setMenuPlane false).post _ _
  · exact h

theorem Link.takeBacklight_keeps (l : Link) (v : Nat) :
    ∃ queue toggle, (l.takeBacklight v).1 = { l with queue := queue, commandToggle := toggle } := by
  unfold Link.takeBacklight
  repeat' split
  all_goals exact ⟨_, _, rfl⟩

theorem State.AtSeat.handBacklight (h : s.AtSeat s0 i) (v : Nat) : (s.handBacklight i v).AtSeat s0 i := by
  obtain ⟨queue, toggle, link⟩ := (s.link i).takeBacklight_keeps v
  refine State.AtSeat.trans ?_ h
  exact {
    rvc := rfl
    links := fun j hj => State.link_setLink_other s hj _
    seats := fun j hj => State.seat_setSeat_other _ hj _
    menus := fun _ _ => rfl
    link := ⟨queue, toggle, (State.link_setLink_same s i _).trans link⟩ }

theorem State.AtSeat.recomputeTarget (h : s.AtSeat s0 i) : (s.recomputeTarget i).AtSeat s0 i := by
  unfold State.recomputeTarget
  dsimp only
  split
  · exact (h.setSeat _).handBacklight _
  · exact h.setSeat _

theorem State.AtSeat.volumePress (h : s.AtSeat s0 i) (dir : Dir) : (s.volumePress i dir).AtSeat s0 i := by
  unfold State.volumePress
  dsimp only
  generalize (if (s.seat i).continues dir s.timebase (calWindow s.image) then (s.seat i).step else calBaseStep s.image) = step
  split
  · exact h.setSeat _
  · exact (h.setSeat _).post _ _

theorem State.AtSeat.brightPress (h : s.AtSeat s0 i) (dir : Dir) : (s.brightPress i dir).AtSeat s0 i := by
  unfold State.brightPress
  dsimp only
  split
  · exact h
  · exact ((h.setSeat _).post _ _).recomputeTarget

/-! ## Keys in a menu (R127 to R130) -/

theorem State.AtSeat.menuPop (h : s.AtSeat s0 i) : (s.menuPop i).AtSeat s0 i := by
  unfold State.menuPop
  split
  · exact h
  · exact (h.closeMenu _).consumed 0
  · exact (h.setCtx _).consumed 0

theorem State.AtSeat.menuMove (h : s.AtSeat s0 i) (p : Page) (e : Entry) (dir : Dir) : (s.menuMove i p e dir).AtSeat s0 i := by
  unfold State.menuMove
  split
  · exact h
  · split
    · exact h
    · exact (h.setCtx _).consumed 0

theorem State.AtSeat.menuOk (h : s.AtSeat s0 i) (e : Entry) (n : Nat) (it : Item) : (s.menuOk i e n it).AtSeat s0 i := by
  unfold State.menuOk
  cases it.kind with
  | openPage target =>
    dsimp only
    split
    · split
      · exact (h.setCtx _).consumed 0
      · exact h.consumed 1
    · exact h.consumed 1
  | report code => exact (h.post _ _).consumed 0
  | toggle on => exact ((h.setStore _).post _ _).consumed 0
  | back => exact h.menuPop
  | slider _ _ _ | volume | brightness => exact h

theorem State.AtSeat.menuSide (h : s.AtSeat s0 i) (e : Entry) (n : Nat) (it : Item) (dir : Dir) : (s.menuSide i e n it dir).AtSeat s0 i := by
  unfold State.menuSide
  cases it.kind with
  | slider value max step =>
    dsimp only
    split
    · exact h
    · exact ((h.setStore _).post _ _).consumed 0
  | volume => exact (h.volumePress dir).consumed 0
  | brightness => exact (h.brightPress dir).consumed 0
  | openPage _ | report _ | toggle _ | back => exact h

theorem State.AtSeat.menuKey (h : s.AtSeat s0 i) (k : Key) : (s.menuKey i k).AtSeat s0 i := by
  unfold State.menuKey
  split
  · exact h
  split
  · exact h.menuPop
  · exact (h.closeMenu _).consumed 0
  split
  · exact h
  split
  · exact h.menuMove _ _ _
  · exact h.menuMove _ _ _
  · exact h.menuOk _ _ _
  · exact h.menuSide _ _ _ _
  · exact h.menuSide _ _ _ _
  · exact h

/-! ## Dispatch, press, release and repeat (R138 to R141) -/

theorem State.AtSeat.forwardKey (h : s.AtSeat s0 i) (k : Key) (ev : KeyEvent) : (s.forwardKey i k ev).AtSeat s0 i := (h.post _ _).setSeat _

theorem State.AtSeat.navigate (h : s.AtSeat s0 i) (k : Key) (ev : KeyEvent) : (s.navigate i k ev).AtSeat s0 i := by
  unfold State.navigate
  split
  · exact h.menuKey k
  · exact h.forwardKey k ev

theorem State.AtSeat.menuPress (h : s.AtSeat s0 i) (ev : KeyEvent) : (s.menuPress i ev).AtSeat s0 i := by
  unfold State.menuPress
  split
  · exact h.menuKey .menu
  split
  · next s' hs =>
    obtain ⟨p, -, rfl⟩ := Option.map_eq_some_iff.1 hs
    exact ((h.setCtx _).setMenuPlane true).consumed 0
  · exact h.forwardKey .menu ev

theorem State.AtSeat.dispatchKey (h : s.AtSeat s0 i) (k : Key) (ev : KeyEvent) : (s.dispatchKey i k ev).AtSeat s0 i := by
  cases k with
  | up | down | left | right | ok | back => exact h.navigate _ ev
  | menu => exact h.menuPress ev
  | volUp | volDown => exact h.volumePress _
  | brightUp | brightDown => exact h.brightPress _
  | playPause | next | previous => exact h.forwardKey _ ev

theorem State.AtSeat.releaseKey (h : s.AtSeat s0 i) : (s.releaseKey i false).AtSeat s0 i := by
  unfold State.releaseKey
  dsimp only
  split
  · exact h
  · split
    · exact (h.setSeat _).post _ _
    · exact h.setSeat _

theorem State.AtSeat.keyPress (h : s.AtSeat s0 i) (k : Key) : (s.keyPress i k).AtSeat s0 i := by
  have held : (s.holdKey i k).AtSeat s0 i := by
    unfold State.holdKey
    split
    · exact h
    · exact h.releaseKey.setSeat _
  exact (held.dispatchKey k .press).setSeat _

theorem State.AtSeat.keyRepeat (h : s.AtSeat s0 i) : (s.keyRepeat i).AtSeat s0 i := by
  unfold State.keyRepeat
  split
  · split
    · exact h
    · exact (h.dispatchKey _ .repeat).setSeat _
  · exact h

theorem State.AtSeat.keyEvent (h : s.AtSeat s0 i) (key event : Nat) : (s.keyEvent i key event).AtSeat s0 i := by
  unfold State.keyEvent
  split
  · exact h
  split
  · exact h.keyPress _
  split
  · unfold State.keyRelease
    split
    · exact h.releaseKey
    · exact h
  · exact h

theorem State.AtSeat.keyEvents (h : s.AtSeat s0 i) (body : List Byte) (e k : Nat) : (s.keyEvents i body e k).AtSeat s0 i := by
  induction e generalizing s k with
  | zero => exact h
  | succ e ih => exact ih (h.keyEvent _ _) _

end Sys2Proof.Machine
end

section
/-! # Proofs: polls and STATUS (R83 to R85, R87) -/

namespace Sys2Proof.Machine

/-! ## The poll of a link (R83) -/

theorem Link.poll_eq (l : Link) (now : Stamp) (video : Bool) : l.poll now video = { l with
    queue := (match l.queue with
      | [] => []
      | c :: rest => { c with tries := c.tries + 1 } :: rest)
    outbox := l.outbox ++ [message 0x03 (pollBody l video)]
    statusSincePoll := false
    pollTimer := some (afterMs now 10) } := by
  unfold Link.poll Link.countTry Link.send
  cases h : l.queue with
  | nil => simp only [← h]
  | cons c rest => rfl

theorem Link.triesSpent_not {l : Link} {limit : Nat} (h : ∀ c ∈ l.queue.head?, c.tries < limit) : l.triesSpent limit = false := by
  unfold Link.triesSpent
  split
  · rfl
  · next c rest hq =>
    have spare := h c (by rw [hq]; rfl)
    simpa using spare

/-! ## STATUS but for its key events (R84, R87) -/

/-- R84, R87: the part after a STATUS but for its key events; `ack`, `locked` and `toggle` are its flags. -/
def State.statused (s : State) (i : Seat) (ack locked toggle : Bool) (level : Nat) : State :=
  let a := (s.setLink i { s.link i with misses := 0, statusSincePoll := true }).takeAck i ack
  let b := (a.setLink i { a.link i with partnerLocked := locked }).takeAmbientLevel i (ambientOf level)
  b.setLink i { b.link i with keyAck := toggle }

theorem ambientOf_eq (b : Nat) : ambientOf b = if b = 255 then none else some (min b 100) := by
  unfold ambientOf
  split
  · rfl
  · split
    · rw [Nat.min_eq_right (by omega)]
    · rw [Nat.min_eq_left (by omega)]

theorem State.AtSeat.setQueue {s0 s : State} {i : Seat} (h : s.AtSeat s0 i) (queue : List Command) :
    (s.setLink i { s.link i with queue := queue }).AtSeat s0 i :=
  State.AtSeat.trans (s := s) ⟨rfl, fun _ hj => State.link_setLink_other s hj _, fun _ _ => rfl, fun _ _ => rfl, queue, (s.link i).commandToggle,
    State.link_setLink_same s i _⟩ h

theorem State.takeAck_atSeat (s : State) (i : Seat) (ack : Bool) : (s.takeAck i ack).AtSeat s i := by
  unfold State.takeAck
  split
  · unfold State.commandRemoved
    split
    · exact (State.AtSeat.refl s i).setQueue _
    · exact ((State.AtSeat.refl s i).setQueue _).handBacklight _
  · exact State.AtSeat.refl s i

/-- R84: an ambient level reaches the link's record and the seat's; a backlight value that follows reaches the queue. -/
theorem State.takeAmbientLevel_atSeat (s : State) (i : Seat) (level : Option Nat) :
    (s.takeAmbientLevel i level).AtSeat (s.setLink i { s.link i with ambient := level }) i := by
  unfold State.takeAmbientLevel
  split
  · next h =>
    rw [← h, State.setLink_link]
    exact State.AtSeat.refl s i
  · exact ((State.AtSeat.refl _ i).setSeat _).recomputeTarget

/-- R84: the link record as a STATUS leaves it, but for its queue. -/
def Link.heard (l : Link) (locked toggle : Bool) (level : Nat) : Link :=
  { l with misses := 0, statusSincePoll := true, partnerLocked := locked, ambient := ambientOf level, keyAck := toggle }

/-- R84: what a STATUS leaves of the link and of what it does not reach. -/
theorem State.statused_leaves (s : State) (i : Seat) (ack locked toggle : Bool) (level : Nat) :
    (s.statused i ack locked toggle level).AtSeat (s.setLink i ((s.link i).heard locked toggle level)) i := by
  let x := s.setLink i { s.link i with misses := 0, statusSincePoll := true }
  let a := x.takeAck i ack
  let y := a.setLink i { a.link i with partnerLocked := locked }
  let b := y.takeAmbientLevel i (ambientOf level)
  have ha : a.AtSeat x i := x.takeAck_atSeat i ack
  have hb : b.AtSeat (y.setLink i { y.link i with ambient := ambientOf level }) i := y.takeAmbientLevel_atSeat i _
  obtain ⟨qa, ta, la⟩ := ha.link
  obtain ⟨qb, tb, lb⟩ := hb.link
  have lx : x.link i = { s.link i with misses := 0, statusSincePoll := true } := State.link_setLink_same _ _ _
  have ly : y.link i = { a.link i with partnerLocked := locked } := State.link_setLink_same _ _ _
  rw [State.link_setLink_same, ly, la, lx] at lb
  exact {
    rvc := hb.rvc.trans ha.rvc
    links := fun j hj => calc
      (s.statused i ack locked toggle level).link j = b.link j := State.link_setLink_other b hj _
      _ = y.link j := (hb.links j hj).trans (State.link_setLink_other y hj _)
      _ = x.link j := (State.link_setLink_other a hj _).trans (ha.links j hj)
      _ = s.link j := State.link_setLink_other s hj _
      _ = _ := (State.link_setLink_other s hj _).symm
    seats := fun j hj => (hb.seats j hj).trans (ha.seats j hj)
    menus := fun j hj => (hb.menus j hj).trans (ha.menus j hj)
    link := ⟨qb, tb, by
      rw [State.link_setLink_same]
      refine (State.link_setLink_same b i _).trans ?_
      rw [lb]
      rfl⟩ }

/-- R85: the key events follow what the same STATUS without them does. -/
theorem State.takeStatus_eq {s : State} {i : Seat} {body : List Byte} (h : (s.link i).state = .streaming) (hb : statusSuits body = true) :
    s.takeStatus i body = (let s0 := s.statused i (bitAt body 0 0) (bitAt body 0 1) (bitAt body 0 2) (byteAt body 1)
      if bitAt body 0 2 = (s.link i).keyAck then s0 else s0.keyEvents i body (byteAt body 2) 3) := by
  let x := s.setLink i { s.link i with misses := 0, statusSincePoll := true }
  let a := x.takeAck i (bitAt body 0 0)
  let y := a.setLink i { a.link i with partnerLocked := bitAt body 0 1 }
  let b := y.takeAmbientLevel i (ambientOf (byteAt body 1))
  have taken : s.takeStatus i body = b.takeReport i body := if_pos ⟨hb, h⟩
  have held : (b.link i).keyAck = (s.link i).keyAck := by
    obtain ⟨qa, ta, la⟩ := (x.takeAck_atSeat i (bitAt body 0 0)).link
    obtain ⟨qb, tb, lb⟩ := (y.takeAmbientLevel_atSeat i (ambientOf (byteAt body 1))).link
    have lx : x.link i = { s.link i with misses := 0, statusSincePoll := true } := State.link_setLink_same _ _ _
    have ly : y.link i = { a.link i with partnerLocked := bitAt body 0 1 } := State.link_setLink_same _ _ _
    rw [State.link_setLink_same, ly, la, lx] at lb
    rw [show b.link i = _ from lb]
  rw [taken, State.takeReport]
  dsimp only
  rw [held]
  split
  · next same =>
    have kept : b = b.setLink i { b.link i with keyAck := bitAt body 0 2 } := by
      rw [same, ← held, State.setLink_link]
    exact kept
  · rfl

theorem State.takeStatus_atSeat {s : State} {i : Seat} {body : List Byte} (h : (s.link i).state = .streaming) (hb : statusSuits body = true) :
    (s.takeStatus i body).AtSeat (s.setLink i ((s.link i).heard (bitAt body 0 1) (bitAt body 0 2) (byteAt body 1))) i := by
  have left := s.statused_leaves i (bitAt body 0 0) (bitAt body 0 1) (bitAt body 0 2) (byteAt body 1)
  rw [State.takeStatus_eq h hb]
  dsimp only
  split
  · exact left
  · exact left.keyEvents body _ 3

/-- R84: an acknowledged command leaves the queue. -/
theorem State.takeAck_fits {s : State} {i : Seat} {c : Command} {rest : List Command} (hq : (s.link i).queue = c :: rest) (ht : 0 < c.tries) :
    s.takeAck i c.toggle = (s.setLink i { s.link i with queue := rest }).commandRemoved i := by
  have fits : (s.link i).acknowledges c.toggle = true := by simp [Link.acknowledges, hq, ht]
  rw [State.takeAck, if_pos fits, hq]
  rfl

theorem State.takeAck_other {s : State} {i : Seat} {ack : Bool} (h : ∀ c ∈ (s.link i).queue.head?, c.tries = 0 ∨ c.toggle ≠ ack) :
    s.takeAck i ack = s := by
  have unfit : (s.link i).acknowledges ack = false := by
    unfold Link.acknowledges
    split
    · rfl
    · next c rest hq =>
      rcases h c (by rw [hq]; rfl) with h0 | h0 <;> simp [h0]
  rw [State.takeAck, if_neg (by rw [unfit]; decide)]

theorem State.commandRemoved_none {s : State} {i : Seat} (h : (s.seat i).next = none) : s.commandRemoved i = s := by
  simp only [State.commandRemoved, h]

theorem State.commandRemoved_some {s : State} {i : Seat} {v : Nat} (h : (s.seat i).next = some v) :
    s.commandRemoved i = s.handBacklight i v := by
  simp only [State.commandRemoved, h]

/-- R84, R87: what a STATUS leaves but for its key events, in the manual's words. -/
theorem State.statused_statusFrom (s : State) (i : Seat) (flags ambient : Byte) :
    (s.statused i (flags.getLsbD 0) (flags.getLsbD 1) (flags.getLsbD 2) ambient.toNat).statusFrom s i flags ambient := by
  let l := { s.link i with misses := 0, statusSincePoll := true }
  let x := s.setLink i l
  let a := x.takeAck i (flags.getLsbD 0)
  let k := a.setLink i { a.link i with partnerLocked := flags.getLsbD 1 }
  have lx : x.link i = l := State.link_setLink_same _ _ _
  have removed (rest : List Command) : x.setLink i { x.link i with queue := rest } = s.setLink i { l with queue := rest } := by
    rw [lx]
    exact State.setLink_setLink s i _ _
  have held : (k.link i).ambient = l.ambient := by
    obtain ⟨q, t, la⟩ := (x.takeAck_atSeat i (flags.getLsbD 0)).link
    rw [lx] at la
    rw [State.link_setLink_same, show a.link i = _ from la]
  refine ⟨a, k.takeAmbientLevel i (ambientOf ambient.toNat), fun c rest hq ht hc => ⟨fun hn => ?_, fun v hv => ?_⟩, fun hno => ?_,
    ⟨fun same => ?_, fun other => ?_⟩, rfl⟩
  · refine Eq.trans ?_ (removed rest)
    rw [show a = x.takeAck i c.toggle by rw [hc], State.takeAck_fits (s := x) (by rw [lx]; exact hq) ht]
    exact State.commandRemoved_none hn
  · refine Eq.trans ?_ (congrArg (fun z : State => z.handBacklight i v) (removed rest))
    rw [show a = x.takeAck i c.toggle by rw [hc], State.takeAck_fits (s := x) (by rw [lx]; exact hq) ht]
    exact State.commandRemoved_some hv
  · exact State.takeAck_other (s := x) (by rw [lx]; exact hno)
  · rw [← ambientOf_eq] at same
    exact if_pos (held.trans same)
  · rw [← ambientOf_eq] at other ⊢
    rw [State.takeAmbientLevel, if_neg (fun he => other (held.symm.trans he))]
    exact State.recomputeTarget_retargets _ i

/-- R84: a STATUS that acknowledges the head command and brings nothing else. -/
theorem State.statused_acks {s : State} {i : Seat} {c : Command} {rest : List Command} (hq : (s.link i).queue = c :: rest) (ht : 0 < c.tries)
    (hn : (s.seat i).next = none) (ha : (s.link i).ambient = none) (hk : (s.link i).keyAck = false) :
    s.statused i c.toggle false false 255
      = s.setLink i { s.link i with queue := rest, misses := 0, statusSincePoll := true, partnerLocked := false } := by
  let x := s.setLink i { s.link i with misses := 0, statusSincePoll := true }
  have lx : x.link i = { s.link i with misses := 0, statusSincePoll := true } := State.link_setLink_same _ _ _
  let l1 := { s.link i with misses := 0, statusSincePoll := true, queue := rest }
  let l2 := { l1 with partnerLocked := false }
  have acked : x.takeAck i c.toggle = s.setLink i l1 := by
    rw [State.takeAck_fits (s := x) (by rw [lx]; exact hq) ht, lx, State.commandRemoved_none (s := x.setLink i _) hn]
    exact State.setLink_setLink s i _ _
  have locked : (x.takeAck i c.toggle).setLink i { (x.takeAck i c.toggle).link i with partnerLocked := false } = s.setLink i l2 := by
    rw [acked, State.link_setLink_same]
    exact State.setLink_setLink s i _ _
  have level : (s.setLink i l2).takeAmbientLevel i (ambientOf 255) = s.setLink i l2 :=
    if_pos ((congrArg Link.ambient (State.link_setLink_same s i l2)).trans ha)
  show (State.takeAmbientLevel _ i (ambientOf 255)).setLink i _ = _
  rw [show (x.takeAck i c.toggle).setLink i _ = _ from locked, level, State.link_setLink_same, State.setLink_setLink]
  exact congrArg (fun b => s.setLink i { l2 with keyAck := b }) hk.symm

/-- The bytes of a STATUS with its events. -/
theorem status_bytes (flags ambient : Byte) {events : List (Byte × Byte)} (h : events.length ≤ 4) :
    let body := [flags, ambient, BitVec.ofNat 8 events.length] ++ events.flatMap (fun x => [x.1, x.2])
    statusSuits body = true ∧ byteAt body 2 = events.length ∧ body.drop 3 = events.flatMap (fun x => [x.1, x.2]) := by
  intro body
  have count : byteAt body 2 = events.length := by
    show (BitVec.ofNat 8 events.length).toNat = events.length
    rw [BitVec.toNat_ofNat]
    omega
  have length : body.length = 3 + 2 * events.length := by
    simp [body, List.length_flatMap]
    omega
  exact ⟨(statusSuits_iff body).2 ⟨by omega, by omega, by omega⟩, count, rfl⟩

/-- R85: the key events of a STATUS come last, and a report whose toggle is held has none. -/
theorem State.takeStatus_events {s : State} {i : Seat} (h : (s.link i).state = .streaming) (flags ambient : Byte)
    {events : List (Byte × Byte)} (he : events.length ≤ 4) :
    let body := [flags, ambient, BitVec.ofNat 8 events.length] ++ events.flatMap (fun x => [x.1, x.2])
    let s0 := s.statused i (flags.getLsbD 0) (flags.getLsbD 1) (flags.getLsbD 2) ambient.toNat
    (flags.getLsbD 2 ≠ (s.link i).keyAck → (s.takeStatus i body).keysFrom s0 i events)
    ∧ (flags.getLsbD 2 = (s.link i).keyAck → s.takeStatus i body = s0) := by
  intro body s0
  obtain ⟨suits, count, drop⟩ := status_bytes flags ambient he
  have taken := State.takeStatus_eq h suits
  refine ⟨fun new => ?_, fun held => taken.trans (if_pos held)⟩
  rw [show s.takeStatus i body = s0.keyEvents i body (byteAt body 2) 3 from taken.trans (if_neg new), show byteAt body 2 = _ from count]
  exact State.keyEvents_keyed i body events s0 3 drop

end Sys2Proof.Machine

open Sys2Proof Sys2Proof.Machine

/-- Settles O32. -/
theorem pollsAndStatusKeepALinkAlive : Obligations.PollsAndStatusKeepALinkAlive := by
  refine ⟨fun t i s e hp hs ht due hm hc => ?_, fun t i s body hp hs hb => ?_, fun t i s flags ambient events hp hs he => ?_,
    fun t i s c rest hp hs hq ht hn hk ha => ?_⟩
  · have few : ¬ 3 ≤ if (s.link i).statusSincePoll = true then (s.link i).misses else (s.link i).misses + 1 := by
      rcases hm with ⟨h1, h2⟩ | h2
      · rw [if_pos h1]
        omega
      · split <;> omega
    refine State.happens_leaves hp ((State.pollExpired_due (s := s.atTime t) hs ht due).trans ((if_neg few).trans ((if_neg ?_).trans ?_)))
    · rw [Link.triesSpent_not (l := (s.atTime t).link i) (limit := calTryLimit (s.atTime t).cal.working) hc]
      decide
    · rw [State.link_setLink_same, Link.poll_eq, State.setLink_setLink]
      rfl
  · let x := s.atTime t
    have left : (x.takeStatus i body).AtSeat _ i := State.takeStatus_atSeat hs hb
    obtain ⟨queue, toggle, link⟩ := left.link
    rw [State.link_setLink_same] at link
    refine ⟨x.takeStatus i body, State.happens_leaves hp rfl, by simp [x], ?_, ?_, ?_, ?_, ?_, ?_, ?_, ?_,
      fun j hj => ⟨(left.links j hj).trans (State.link_setLink_other _ hj _), left.seats j hj, left.menus j hj⟩, by simp [x], by simp [x],
      by simp [x], by simp [x], left.rvc, by simp [x], by simp [x]⟩
    · rw [link]
      exact hs
    · rw [link]
      rfl
    · rw [link]
      rfl
    · rw [link]
      rfl
    · rw [link]
      rfl
    · rw [link]
      exact ambientOf_eq _
    · rw [link]
      rfl
    · rw [link]
      rfl
  · obtain ⟨new, held⟩ := State.takeStatus_events (s := s.atTime t) hs flags ambient he
    exact ⟨_, State.statused_statusFrom (s.atTime t) i flags ambient, fun h => ⟨_, State.happens_leaves hp rfl, new h⟩,
      fun h => State.happens_leaves hp (held h)⟩
  · have flag (toggle : Bool) : (if toggle then (1 : Byte) else 0).getLsbD 0 = toggle ∧ (if toggle then (1 : Byte) else 0).getLsbD 1 = false
        ∧ (if toggle then (1 : Byte) else 0).getLsbD 2 = false := by
      cases toggle <;> decide
    obtain ⟨f0, f1, f2⟩ := flag c.toggle
    have taken := (State.takeStatus_events (s := s.atTime t) hs (if c.toggle then 1 else 0) 255 (events := []) (by decide)).2 (f2.trans hk.symm)
    rw [f0, f1, f2] at taken
    exact State.happens_leaves hp (taken.trans (State.statused_acks (s := s.atTime t) hq ht hn ha hk))

end

section
/-! # Proofs: a held key repeats (R138, R139, R141 to R144) -/

namespace Sys2Proof.Machine

/-! ## Table 8-1 and Table 8-2 -/

theorem keyOf_none {code : Nat} (h : code = 0 ∨ 14 < code) : keyOf code = none := by
  rcases h with rfl | h
  · rfl
  · obtain ⟨k, rfl⟩ := Nat.exists_eq_add_of_lt h
    rw [show 14 + k + 1 = k + 15 by omega]
    rfl

theorem Key.repeatable_iff (k : Key) :
    k.repeatable = true ↔ k ∈ [Key.up, .down, .left, .right, .volUp, .volDown, .brightUp, .brightDown] := by
  cases k <;> decide

/-! ## A STATUS keeps the held key (R138) -/

theorem State.takeAck_held (s : State) (i : Seat) (ack : Bool) : ((s.takeAck i ack).seat i).held = (s.seat i).held := by
  unfold State.takeAck State.commandRemoved
  split
  · split
    · rfl
    · rw [State.handBacklight_held]
      rfl
  · rfl

theorem State.takeAmbientLevel_held (s : State) (i : Seat) (level : Option Nat) :
    ((s.takeAmbientLevel i level).seat i).held = (s.seat i).held := by
  unfold State.takeAmbientLevel
  split
  · rfl
  · exact (State.takeAmbient_held _ i level).1

theorem State.statused_held (s : State) (i : Seat) (ack locked toggle : Bool) (level : Nat) :
    ((s.statused i ack locked toggle level).seat i).held = (s.seat i).held :=
  (State.takeAmbientLevel_held _ i _).trans (State.takeAck_held _ i ack)

theorem State.statused_keeps (s : State) (i : Seat) (ack locked toggle : Bool) (level : Nat) :
    let s0 := s.statused i ack locked toggle level
    s0.timebase = s.timebase ∧ s0.cli = s.cli ∧ s0.chu = s.chu ∧ s0.mnu = s.mnu ∧ s0.cal = s.cal := by
  simp [State.statused]

/-! ## What the dispatch of one key leaves (R141) -/

theorem movedVolume_eq (v step : Nat) (dir : Dir) :
    movedVolume v step dir = match dir with | .up => min 60 (v + step) | .down => v - step := by
  cases dir with
  | up =>
    simp only [movedVolume]
    split <;> omega
  | down => rfl

/-- R142, R143: the seat's record after a volume press. -/
theorem State.volumePress_seat (s : State) (i : Seat) (dir : Dir) {step : Nat}
    (goesOn : (s.seat i).lastDir = some dir ∧ (∃ st ∈ (s.seat i).lastStamp, (s.timebase - st).toNat ≤ 1000 * calWindow s.cal.working) →
      step = (s.seat i).step)
    (begins : ¬ ((s.seat i).lastDir = some dir ∧ ∃ st ∈ (s.seat i).lastStamp, (s.timebase - st).toNat ≤ 1000 * calWindow s.cal.working) →
      step = calBaseStep s.cal.working) :
    (s.volumePress i dir).seat i = { s.seat i with
      volume := movedVolume (s.seat i).volume step dir
      step := if calStepCap s.cal.working < calBaseStep s.cal.working then calBaseStep s.cal.working
        else min (calStepCap s.cal.working) (step + 1)
      lastDir := some dir
      lastStamp := some s.timebase } := by
  obtain ⟨taken, on, off, pressed⟩ := s.volumePress_moves i dir
  have same : taken = step := by
    by_cases h : (s.seat i).lastDir = some dir ∧ ∃ st ∈ (s.seat i).lastStamp, (s.timebase - st).toNat ≤ 1000 * calWindow s.cal.working
    · rw [on h, goesOn h]
    · rw [off h, begins h]
  have either (p : Prop) [Decidable p] (moved : State) (body : NoticeBody) :
      (if p then moved else moved.post (seatNo i) body).seat i = moved.seat i := by
    split <;> rfl
  rw [same] at pressed
  rw [pressed]
  refine (either _ _ _).trans ((State.seat_setSeat_same _ _ _).trans ?_)
  rw [movedVolume_eq] <;> cases dir <;> rfl

/-- R144: the seat's record after a brightness press. -/
theorem State.brightPress_seat (s : State) (i : Seat) (dir : Dir) :
    ((s.brightPress i dir).seat i).offset = movedOffset (s.seat i).offset dir
    ∧ ((s.brightPress i dir).seat i).volume = (s.seat i).volume := by
  unfold State.brightPress
  dsimp only
  split
  · next h => exact ⟨h.symm, rfl⟩
  · obtain ⟨next, lastSent, seat⟩ :=
      ((s.setSeat i { s.seat i with offset := movedOffset (s.seat i).offset dir }).postLevel i).recomputeTarget_seat i
    have record : ((s.setSeat i { s.seat i with offset := movedOffset (s.seat i).offset dir }).postLevel i).seat i
      = { s.seat i with offset := movedOffset (s.seat i).offset dir } := State.seat_setSeat_same _ _ _
    rw [seat, record]
    exact ⟨rfl, rfl⟩

theorem movedOffset_up {o : Int} (h : o ≤ 10) : movedOffset o .up = min 10 (o + 1) := by
  simp only [movedOffset]
  split <;> omega

theorem movedOffset_down {o : Int} (h : -10 ≤ o) : movedOffset o .down = max (-10) (o - 1) := by
  simp only [movedOffset]
  split <;> omega

/-- R123: a press that the open menu consumes restarts the idle timer; its click reaches the chime unit alone. -/
theorem State.consumed_idles {s : State} {i : Seat} (h : (s.ctx i).stack ≠ []) (pattern : Nat) :
    ∃ chu, s.consumed i pattern = { s.restartIdle i with chu := chu } := by
  obtain ⟨chu, clicked⟩ := (s.restartIdle i).menuClick_chu i pattern
  exact ⟨chu, by rw [State.consumed, if_pos ((MenuContext.isOpen_iff _).2 h), clicked]⟩

/-- R127: UP or DOWN that finds an enabled item moves the focus to it. -/
theorem State.menuKey_focuses {s : State} {i : Seat} {en : Entry} {rest : List Entry} {page : Page} {f g : Nat} {k : Key}
    (h : (s.ctx i).stack = en :: rest) (hp : findPage s.mnu.store en.page = some page) (hf : en.focus = some f)
    (hk : k = .up ∧ page.enabledBelow f = some g ∨ k = .down ∧ page.enabledAbove f = some g) :
    s.menuKey i k = (s.withStack i (⟨en.page, some g, windowFor g en.top⟩ :: rest)).consumed i 0 := by
  rcases hk with ⟨rfl, hg⟩ | ⟨rfl, hg⟩
  · simp only [State.menuKey, h, hp, State.menuMove, hf, hg, State.setTop_withStack s i en _ rest h]
    rfl
  · simp only [State.menuKey, h, hp, State.menuMove, hf, hg, State.setTop_withStack s i en _ rest h]
    rfl

theorem State.keyRepeat_due {s : State} {i : Seat} {e : Stamp} {k : Key} (ht : (s.seat i).repeatTimer = some e)
    (due : reached s.timebase e = true) (hk : (s.seat i).held = some k) : s.keyRepeat i
      = (s.dispatchKey i k .repeat).withRepeat i (some (afterMs s.timebase (calRepeatPeriod s.cal.working))) := by
  rw [State.keyRepeat, if_pos (expired_of ht due), hk]
  dsimp only
  rw [State.dispatchKey_timebase, State.image, State.dispatchKey_cal]
  rfl

end Sys2Proof.Machine

open Sys2Proof Sys2Proof.Machine

/-- Settles O42. -/
theorem heldKeyRepeats : Obligations.HeldKeyRepeats := by
  refine ⟨fun t i s flags amb events hp hs he => ?_, by decide, fun code h => keyOf_none h, Key.repeatable_iff,
    fun t i s e k hp ht due hk => ?_, fun t i s e k hp ht due hk => ?_⟩
  · let x := s.atTime t
    obtain ⟨time, cli, chu, mnu, cal⟩ := x.statused_keeps i (flags.getLsbD 0) (flags.getLsbD 1) (flags.getLsbD 2) amb.toNat
    obtain ⟨none_new, none_held⟩ := State.takeStatus_events (s := x) hs flags amb (events := []) (by decide)
    obtain ⟨new, held⟩ := State.takeStatus_events (s := x) hs flags amb he
    refine ⟨_, State.happens_leaves hp ?_, time, cli, chu, mnu, cal, x.statused_held i _ _ _ _,
      fun h => ⟨_, State.happens_leaves hp rfl, new h⟩, fun h => State.happens_leaves hp (held h)⟩
    by_cases h : flags.getLsbD 2 = (s.link i).keyAck
    · exact none_held h
    · exact none_new h
  · exact ⟨_, State.happens_leaves hp (State.keyRepeat_due (s := s.atTime t) ht due hk), State.dispatchKey_dispatches _ i k .repeat⟩
  · let x := s.atTime t
    let d := x.dispatchKey i k .repeat
    let timer := some (afterMs t (calRepeatPeriod s.cal.working))
    have repeated : x.keyRepeat i = d.withRepeat i timer := State.keyRepeat_due (s := x) ht due hk
    have seat : (d.withRepeat i timer).seat i = { d.seat i with repeatTimer := timer } := State.seat_setSeat_same _ _ _
    have left : (x.keyRepeat i).AtSeat x i := (State.AtSeat.refl x i).keyRepeat
    rw [repeated] at left
    refine ⟨d.withRepeat i timer, State.happens_leaves hp repeated, by simp [d, x, State.withRepeat], ?_, by rw [seat],
      fun dir hdir step hon hoff => ?_, fun hb h1 h2 => ?_, fun hb h1 h2 => ?_, fun hnav hclosed => ?_,
      fun en rest page f g hstack hpage hf hg => ?_, left.seats, by simp [d, x, State.withRepeat], by simp [d, x, State.withRepeat],
      by simp [d, x, State.withRepeat], by simp [d, x, State.withRepeat], left.rvc, by simp [d, x, State.withRepeat],
      by simp [d, x, State.withRepeat]⟩
    · rw [seat]
      exact (State.dispatchKey_held x i k .repeat).trans hk
    · have pressed : d = x.volumePress i dir := by
        cases dir <;> simp only [d, hdir] <;> rfl
      have record : (x.volumePress i dir).seat i = _ := State.volumePress_seat x i dir hon hoff
      rw [seat, pressed, record]
      refine ⟨movedVolume_eq _ _ _, fun h1 h2 => ?_, fun h1 h2 => ?_, fun h1 => if_pos h1, rfl, rfl, rfl, by simp [x, State.withRepeat],
        by simp [x, State.withRepeat], by simp [x, State.withRepeat]⟩
      · exact (if_neg (Nat.not_lt.2 h1)).trans (Nat.min_eq_right h2)
      · exact (if_neg (Nat.not_lt.2 h1)).trans (Nat.min_eq_left (Nat.le_succ_of_le h2))
    · have pressed : d = x.brightPress i .up := by rw [show d = x.dispatchKey i k .repeat from rfl, hb]; rfl
      obtain ⟨offset, volume⟩ := x.brightPress_seat i .up
      rw [seat, pressed]
      exact ⟨offset.trans (movedOffset_up h2), volume⟩
    · have pressed : d = x.brightPress i .down := by rw [show d = x.dispatchKey i k .repeat from rfl, hb]; rfl
      obtain ⟨offset, volume⟩ := x.brightPress_seat i .down
      rw [seat, pressed]
      exact ⟨offset.trans (movedOffset_down h1), volume⟩
    · have forwarded : d = x.forwardKey i k .repeat := by
        have closed : ¬ (x.ctx i).isOpen = true := fun h => (MenuContext.isOpen_iff _).1 h hclosed
        rcases hnav with rfl | rfl | rfl | rfl <;> exact if_neg closed
      rw [seat, forwarded]
      refine ⟨rfl, ?_, rfl, rfl, rfl⟩
      rw [State.forwardKey, State.seat_setSeat_same]
    · have opened : (x.ctx i).stack ≠ [] := by
        rw [show (x.ctx i).stack = en :: rest from hstack]
        simp
      have navigated : d = x.menuKey i k := by
        rcases hg with ⟨rfl, -⟩ | ⟨rfl, -⟩ <;> exact if_pos ((MenuContext.isOpen_iff _).2 opened)
      have stack : ((x.withStack i (⟨en.page, some g, windowFor g en.top⟩ :: rest)).ctx i).stack = ⟨en.page, some g, windowFor g en.top⟩ :: rest := by
        rw [State.withStack, State.ctx_setCtx_same]
      have moved := State.menuKey_focuses (s := x) hstack hpage hf hg
      obtain ⟨chu, idled⟩ := State.consumed_idles (s := x.withStack i (⟨en.page, some g, windowFor g en.top⟩ :: rest)) (i := i)
        (by rw [stack]; simp) 0
      rw [navigated, moved, idled]
      refine ⟨?_, ?_, rfl, rfl, rfl⟩
      · cases i <;> rfl
      · cases i <;> rfl

end

section
/-! # Proofs: the start mode and the entry to RUN (R7, R30, R76, R97, R170) -/

namespace Sys2Proof.Machine

/-! ## The effects of an entry to RUN (R7) -/

theorem State.judgeHailing_link (s : State) (i : Seat) : ((s.judgeHailing i).link i).state
    = if (s.link i).state = .detached ∧ s.cli.mode = .run ∧ (s.link i).present = true ∧ (s.link i).settleTimer = none then .hailing
      else (s.link i).state := by
  have judged := s.judgeHailing_setLink i (s.link i)
  rw [State.setLink_link] at judged
  rw [judged]
  split
  · exact congrArg Link.state (Two.get_set_same _ i _)
  · rfl

theorem State.runEffects_link {s : State} (h : s.cli.mode = .run) (i : Seat) : (s.runEffects.link i).state
    = if (s.link i).state = .detached ∧ (s.link i).present = true ∧ (s.link i).settleTimer = none then .hailing else (s.link i).state := by
  let x := s.enableFeeds
  have hx : x.cli.mode = .run ∧ ∀ j, x.link j = s.link j := ⟨by simp [x, h], fun j => by simp [x, State.link]⟩
  have hy : (x.judgeHailing .s1).cli.mode = .run := by simp [x, h]
  have first := x.judgeHailing_link .s1
  have second := (x.judgeHailing .s1).judgeHailing_link .s2
  have before : (x.judgeHailing .s1).link .s2 = s.link .s2 := ((x.judgeHailing_posts .s1).2 .s2 (by decide)).trans (hx.2 .s2)
  have after : ((x.judgeHailing .s1).judgeHailing .s2).link .s1 = (x.judgeHailing .s1).link .s1 :=
    ((x.judgeHailing .s1).judgeHailing_posts .s2).2 .s1 (by decide)
  rw [before, hy] at second
  rw [hx.2 .s1, hx.1] at first
  simp only [true_and] at first second
  cases i with
  | s1 => exact (congrArg Link.state after).trans first
  | s2 => exact second

/-! ## START stands first on the board (R13, R17) -/

theorem Cli.post_head {c : Cli} {e : BoardEntry} (h : c.board.head? = some e) (now : Stamp) {source : Nat} {body : NoticeBody}
    (other : body.kind ≠ e.body.kind) : (c.post now source body).board.head? = some e := by
  obtain ⟨rest, hb⟩ := List.head?_eq_some_iff.1 h
  have kept : e.sameMatter source body = false := by
    unfold BoardEntry.sameMatter
    simp [Ne.symm other]
  unfold Cli.post
  split
  · exact h
  · split
    · simp [hb, kept]
    · split
      · simp [hb]
      · exact h

theorem Cli.postAll_head {c : Cli} {e : BoardEntry} (h : c.board.head? = some e) (t : Stamp) {ns : List (Nat × NoticeBody)}
    (others : ∀ n ∈ ns, n.2.kind ≠ e.body.kind) : (c.postAll t ns).board.head? = some e := by
  induction ns generalizing c with
  | nil => exact h
  | cons n rest ih =>
    exact ih (Cli.post_head h t (others n (List.mem_cons_self ..))) (fun n' hn => others n' (List.mem_cons_of_mem _ hn))

theorem Cli.post_first {c : Cli} {body : NoticeBody} (hs : c.selection.getD body.kind.index false = true) (hb : c.board = []) (t : Stamp)
    (source : Nat) : (c.post t source body).board = [⟨source, body, t, false⟩] := by
  unfold Cli.post
  rw [hs, hb]
  rfl

/-! ## The start mode (R170) -/

/-- R17, R30, R170: the part that runs, with its map and its gear line watched, when START has been posted. -/
def State.started (s : State) : State :=
  let x := { s with phase := .running, cli := { s.cli with mode := calStartMode s.image, lineMap := calLineMap s.image } }
  (x.post 0 (.start s.cli.startCause.notice)).watchGear

theorem State.startMode_eq (s : State) :
    s.startMode = if calStartMode s.cal.working = .run then s.started.runEffects else s.started := by
  have run : s.started.inRun = true ↔ calStartMode s.cal.working = .run := by
    unfold State.inRun State.started
    simp [State.watchGear, State.setGear, State.image]
  have starts : s.startMode = if s.started.inRun = true then s.started.runEffects else s.started := rfl
  rw [starts]
  exact if_congr run rfl rfl

theorem State.linkTold_same {s' s : State} {i : Seat} (h : (s'.link i).state = (s.link i).state) : s'.linkTold s i = [] := if_pos h

theorem State.startMode_posts (s : State) : s.startMode.posted
    { s with cli := { s.cli with mode := calStartMode s.cal.working, lineMap := calLineMap s.cal.working } }
    ((0, .start s.cli.startCause.notice) :: (s.startMode.linkTold s .s1 ++ s.startMode.linkTold s .s2)) := by
  have began : s.started.posted { s with cli := { s.cli with mode := calStartMode s.cal.working, lineMap := calLineMap s.cal.working } }
      [(0, .start s.cli.startCause.notice)] := ⟨rfl, rfl⟩
  rw [State.startMode_eq]
  split
  · exact State.posted_trans began s.started.runEffects_posts
  · rw [State.linkTold_same (s' := s.started) (s := s) (i := .s1) rfl, State.linkTold_same (s' := s.started) (s := s) (i := .s2) rfl]
    exact began

end Sys2Proof.Machine

open Sys2Proof Sys2Proof.Machine

/-- Settles O6. -/
theorem startModeBegins : Obligations.StartModeBegins := by
  intro t s hp
  let x := s.atTime t
  have starts : exec (.startModeEntry t) s = .next x.startMode.settle := if_pos hp
  have map : x.startMode.cli.lineMap = calLineMap s.cal.working := x.startMode_lineMap
  have told := x.startMode_posts.2
  have shape := x.startMode_eq
  have phase : x.startMode.phase = .running := by
    rw [shape]
    split
    · rw [State.runEffects_phase]
      rfl
    · rfl
  have mode : x.startMode.cli.mode = calStartMode s.cal.working := by
    obtain ⟨board, overflow, he⟩ := Cli.postAll_keeps ({ s.cli with mode := calStartMode s.cal.working, lineMap := calLineMap s.cal.working } : Cli)
      t ((0, .start s.cli.startCause.notice) :: (x.startMode.linkTold x .s1 ++ x.startMode.linkTold x .s2))
    rw [show x.startMode.cli = _ from told.trans he]
  have vin : x.startMode.vin = x.started.vin := by
    rw [shape]
    split <;> simp
  refine ⟨x.startMode, starts, by simp [x], phase, mode, map, ?_, fun hs hb => ?_, ?_, fun hrun => ?_, fun hst => ?_,
    by simp [x], by simp [x], by simp [x], by simp [x], by simp [x], by simp [x], by simp [x], by simp [x]⟩
  · rw [map]
    exact told
  · rw [told]
    have first := Cli.post_first (c := { s.cli with mode := calStartMode s.cal.working, lineMap := calLineMap s.cal.working })
      (body := .start s.cli.startCause.notice) hs hb t 0
    refine Cli.postAll_head (c := Cli.post _ t 0 _) (e := ⟨0, .start s.cli.startCause.notice, t, false⟩) (congrArg List.head? first) t
      (fun n hn => ?_)
    rcases List.mem_append.1 hn with hn | hn
    · rw [linkTold_kinds _ _ _ n hn]
      exact fun he => by cases he
    · rw [linkTold_kinds _ _ _ n hn]
      exact fun he => by cases he
  · rw [vin]
    rfl
  · have he : x.startMode = x.started.runEffects := shape.trans (if_pos hrun)
    have running : x.started.cli.mode = .run := by
      rw [← hrun]
      simp [State.started, State.watchGear, State.setGear, State.image, x]
    obtain ⟨ports, cam, -⟩ := x.started.runEffects_port
    rw [he]
    refine ⟨ports, cam, ?_, fun i hd hsettle => ?_⟩
    · rw [State.runEffects_cmp]
      rfl
    · rw [State.runEffects_link running]
      have link : x.started.link i = s.link i := rfl
      rw [link]
      simp only [hd, hsettle, and_true, true_and]
  · have he : x.startMode = x.started := shape.trans (if_neg (by rw [show x.cal.working = s.cal.working from rfl, hst]; decide))
    rw [he]
    exact ⟨rfl, rfl, rfl⟩

end

section
/-! # Proofs: the requests of the compositor (R98, R99, R101, R107) -/

namespace Sys2Proof.Machine

/-! ## Outputs by their number -/

theorem outputOf_outputNo (o : Output) : outputOf (outputNo o) = some o := by
  rcases o with _ | _ | _ <;> rfl

theorem outputOf_eq_none {n : Nat} (h : n = 0 ∨ 3 < n) : outputOf n = none := by
  rcases h with rfl | h
  · rfl
  · obtain ⟨m, rfl⟩ := Nat.exists_eq_add_of_lt h
    rw [show 3 + m + 1 = m + 4 by omega]
    rfl

/-! ## ROUTE SET (R98, R99) -/

theorem ownRouteSet_of {p : List Byte} {s : State} {o : Output} (ho : byteAt p 0 = outputNo o) (allowed : routeAllowed o (byteAt p 1) = true) :
    ownRouteSet p s = (s.setPending o (sourceOf (byteAt p 1)), ok []) := by
  simp only [ownRouteSet, ho, outputOf_outputNo, allowed, if_true]

theorem ownRouteSet_refuses {p : List Byte} {s : State}
    (h : byteAt p 0 = 0 ∨ 3 < byteAt p 0 ∨ 3 < byteAt p 1 ∨ byteAt p 0 = 1 ∧ byteAt p 1 = 0) : ownRouteSet p s = (s, refuse .badValue) := by
  by_cases none : byteAt p 0 = 0 ∨ 3 < byteAt p 0
  · simp only [ownRouteSet, outputOf_eq_none none]
  · have barred (o : Output) (ho : byteAt p 0 = outputNo o) : routeAllowed o (byteAt p 1) = false := by
      rcases o with _ | _ | _ <;> simp only [outputNo] at ho <;> simp only [routeAllowed, Bool.and_eq_false_iff, decide_eq_false_iff_not] <;> omega
    have named : ∃ o, byteAt p 0 = outputNo o := by
      have : byteAt p 0 = 1 ∨ byteAt p 0 = 2 ∨ byteAt p 0 = 3 := by omega
      rcases this with h1 | h2 | h3
      · exact ⟨.fro, h1⟩
      · exact ⟨.ro .s1, h2⟩
      · exact ⟨.ro .s2, h3⟩
    obtain ⟨o, ho⟩ := named
    have shut := barred o ho
    simp only [ownRouteSet, ho, outputOf_outputNo, shut, Bool.false_eq_true, if_false]

/-- R99: a route of a row that is not driven comes into effect at once, and ROUTE tells the change. -/
theorem State.setPending_idle {s : State} {i : Seat} (h : (s.link i).state ≠ .streaming) (src : Source) :
    let s1 := s.setPending (.ro i) src
    (s1.rearRow i).routed = src ∧ (s1.rearRow i).pending = none ∧ (s1.rearRow i).effective = src ∧ (s1.rearRow i).cause = .route
      ∧ s1.posted s ((s1.rearRow i).routeTold (s.rearRow i) (.ro i))
      ∧ (∀ j, j ≠ i → s1.rearRow j = s.rearRow j) ∧ s1.cmp.front = s.cmp.front := by
  intro s1
  let x := s.setRearRow i { s.rearRow i with pending := some src }
  have he : s1 = x.rearRouteTakesEffect i := if_neg (by rw [show x.link i = s.link i from rfl]; exact h)
  have mine : x.rearRow i = { s.rearRow i with pending := some src } := State.rearRow_setRearRow_same _ _ _
  have taken : (x.rearRow i).takePending = { s.rearRow i with routed := src, pending := none } := by
    rw [mine]
    rfl
  have row : s1.rearRow i = x.judgedRow i (x.rearRow i).takePending := by
    rw [he, State.rearRow, State.rearRouteTakesEffect_cmp]
    exact Two.get_set_same _ i _
  obtain ⟨effective, cause, routed, -⟩ := x.judgedRow_routed i (x.rearRow i).takePending
  obtain ⟨-, -, pending⟩ := x.judgedRow_frame i (x.rearRow i).takePending
  rw [taken] at effective routed pending
  have told := x.rearRouteTakesEffect_posts i
  rw [← he, mine] at told
  refine ⟨by rw [row, taken]; exact routed, by rw [row, taken]; exact pending, by rw [row, taken]; exact effective,
    by rw [row]; exact cause, ⟨told.1, told.2⟩, fun j hj => ?_, ?_⟩
  · rw [he, State.rearRow, State.rearRouteTakesEffect_cmp]
    exact (Two.get_set_other _ hj _).trans (Two.get_set_other _ hj _)
  · rw [he, State.rearRouteTakesEffect_cmp]
    rfl

/-! ## CAMERA PREVIEW (R101) -/

theorem State.judgeCameraPower_cut {s : State} (hw : (!s.rvcOff || s.cmp.preview) = false) (hp : s.fdp.camPower = true) :
    (s.judgeCameraPower.port .cam).enabled = false ∧ (s.judgeCameraPower.port .cam).lock = .noSignal := by
  rcases s.judgeCameraPower_cases with ⟨hn, -⟩ | ⟨hn, -, -⟩ | ⟨-, -, he⟩
  · rw [hw, hp] at hn
    cases hn
  · rw [hw] at hn
    cases hn
  · rw [he, State.disablePort, State.clearPort_eq, State.takesPort_port_same]
    exact ⟨rfl, rfl⟩

theorem State.judgeCameraPower_fed {s : State} (hw : (!s.rvcOff || s.cmp.preview) = true) (hp : s.fdp.camPower = false) :
    (s.judgeCameraPower.port .cam).enabled = true ∧ (s.judgeCameraPower.port .cam).lock = .noSignal
      ∧ (s.judgeCameraPower.port .cam).format = some (calCamFormat s.cal.working) := by
  rcases s.judgeCameraPower_cases with ⟨hn, -⟩ | ⟨-, -, he⟩ | ⟨hn, -, -⟩
  · rw [hw, hp] at hn
    cases hn
  · rw [he]
    exact ⟨rfl, rfl, rfl⟩
  · rw [hw] at hn
    cases hn

/-- R26, R101: preview with the front row and the camera power it asks for. -/
theorem State.setPreview_acts {s : State} (off : s.rvcOff = true) (on : Bool) :
    let s1 := s.setPreview on
    s1.cmp.preview = on ∧ s1.fdp.camPower = on
      ∧ (s1.cmp.front.effective, s1.cmp.front.cause) = frontSource true on s.cmp.filmLock s.cmp.front.routed
      ∧ (∃ rest, s1.posted s (s1.cmp.front.routeTold s.cmp.front .fro ++ rest) ∧ ofKinds rest powerKinds
          ∧ (s.fdp.camPower = true → ofKind .feed rest = s1.feedTold s s.timebase .cam))
      ∧ (on = true → s.fdp.camPower = false → (s1.port .cam).enabled = true ∧ (s1.port .cam).lock = .noSignal
          ∧ (s1.port .cam).format = some (calCamFormat s.cal.working))
      ∧ (on = false → s.fdp.camPower = true → (s1.port .cam).enabled = false ∧ (s1.port .cam).lock = .noSignal) := by
  intro s1
  let x : State := { s with cmp := { s.cmp with preview := on } }
  let y := x.judgeFront
  obtain ⟨plane, judged⟩ := x.judgeFront_eq
  have judged : y = { x with cmp := { x.cmp with front := { x.cmp.front with
      effective := (frontSource s.rvcOff on s.cmp.filmLock s.cmp.front.routed).1
      cause := (frontSource s.rvcOff on s.cmp.filmLock s.cmp.front.routed).2 }, guidePlane := plane }, cli := y.cli } := judged
  rw [off] at judged
  have faced := y.judgeCameraPower_facing
  have front : s1.cmp.front = y.cmp.front := congrArg (·.1) faced
  have preview : s1.cmp.preview = y.cmp.preview := congrArg (·.2.2.1) faced
  have yoff : y.rvcOff = true := by
    rw [judged]
    exact off
  have ypreview : y.cmp.preview = on := by rw [judged]
  have yfdp : y.fdp = s.fdp := by rw [judged]
  have want : (!y.rvcOff || y.cmp.preview) = on := by rw [yoff, ypreview]; rfl
  obtain ⟨rest, power, kinds, feed⟩ := y.judgeCameraPower_told
  have rowTold := x.judgeFront_posts
  refine ⟨preview.trans ypreview, (y.judgeCameraPower_camPower).trans want, ?_, ⟨rest, ?_, kinds, fun hp => ?_⟩, fun hon hp => ?_, fun hoff hp => ?_⟩
  · rw [front, judged]
  · rw [front]
    exact State.posted_trans ⟨rowTold.1, rowTold.2⟩ power
  · have told := feed (by rw [yfdp]; exact hp)
    rw [told]
    have clock : y.timebase = s.timebase := by rw [judged]
    unfold State.feedTold
    rw [State.port, State.port, yfdp, clock]
    rfl
  · have fed := y.judgeCameraPower_fed (want.trans hon) (by rw [yfdp]; exact hp)
    rw [show y.cal = s.cal by rw [judged]] at fed
    exact fed
  · exact y.judgeCameraPower_cut (want.trans hoff) (by rw [yfdp]; exact hp)

/-! ## BANNER SET (R107) -/

theorem State.setBanner_ro (s : State) (i : Seat) (on : Bool) (shown : Nat)
    (h : rearBanner (decide ((s.link i).state = .streaming)) (s.sourceUnlocked (s.rearRow i).effective) on = shown) :
    let row := { s.rearRow i with hostBanner := on, shown := shown }
    s.setBanner (.ro i) on = { s with cmp := { s.cmp with rear := s.cmp.rear.set i row } } := by
  rw [← h]
  cases i <;> rfl

theorem ownBannerSet_of {p : List Byte} {s : State} {o : Output} (ho : byteAt p 0 = outputNo o) (hb : byteAt p 1 = 0 ∨ byteAt p 1 = 4)
    (free : o = .fro → s.rvcOff = true) : ownBannerSet p s = (s.setBanner o (decide (byteAt p 1 = 4)), ok []) := by
  simp only [ownBannerSet, ho, outputOf_outputNo]
  rw [if_neg (by omega), if_neg (fun h => by rw [free h.1] at h; exact absurd h.2 (by decide))]

theorem ownBannerSet_refuses {p : List Byte} {s : State} (h : byteAt p 0 = 0 ∨ 3 < byteAt p 0 ∨ (byteAt p 1 ≠ 0 ∧ byteAt p 1 ≠ 4)) :
    ownBannerSet p s = (s, refuse .badValue) := by
  unfold ownBannerSet
  cases ho : outputOf (byteAt p 0) with
  | none => rfl
  | some o =>
    rcases h with h | h | h
    · rw [outputOf_eq_none (.inl h)] at ho
      cases ho
    · rw [outputOf_eq_none (.inr h)] at ho
      cases ho
    · exact if_pos h

theorem ownBannerSet_inReverse {p : List Byte} {s : State} (ho : byteAt p 0 = 1) (hb : byteAt p 1 = 0 ∨ byteAt p 1 = 4)
    (busy : s.rvcOff = false) : ownBannerSet p s = (s, refuse .refusedReverse) := by
  simp only [ownBannerSet, ho, outputOf]
  rw [if_neg (by omega), if_pos ⟨trivial, by rw [busy]; rfl⟩]

theorem State.rvcOff_of {s : State} (h : s.rvc.state = .off) : s.rvcOff = true := by
  unfold State.rvcOff
  rw [h]
  rfl

theorem State.rvcOff_not {s : State} (h : s.rvc.state ≠ .off) : s.rvcOff = false := decide_eq_false h

end Sys2Proof.Machine

open Sys2Proof Sys2Proof.Machine

/-- Settles O37. -/
theorem compositorRequestsSetTheRows : Obligations.CompositorRequestsSetTheRows := by
  refine ⟨fun t s src h hm hl hu => ?_, fun t i s out src h hm ho hu hs => ?_, fun t i s out src h hm ho hu hs => ?_, fun t s out src h hm bad => ?_,
    fun t s v h hm bad => ?_, fun t s v h hm hv busy => ?_, fun t s v h hm hv off => ?_, fun t s out b h hm bad => ?_, fun t s b h hm hb busy => ?_,
    fun t s b h hm hb off view => ?_, fun t i s out b h hm ho hb => ?_⟩
  · refine State.request_leaves h rfl (.inl hm) (ownRouteSet_of (s := s.atTime t) (p := [1, src]) (o := .fro) rfl ?_)
    exact Bool.and_eq_true_iff.2 ⟨decide_eq_true hl, decide_eq_true hu⟩
  · refine State.request_leaves h rfl (.inl hm) ((ownRouteSet_of (s := s.atTime t) (p := [out, src]) (o := .ro i) ho (decide_eq_true hu)).trans (congrArg (·, ok []) ?_))
    exact if_pos hs
  · obtain ⟨routed, pending, effective, cause, told, others, front⟩ := (s.atTime t).setPending_idle hs (sourceOf src.toNat)
    refine ⟨_, State.request_leaves h rfl (.inl hm) (ownRouteSet_of (s := s.atTime t) (p := [out, src]) (o := .ro i) ho (decide_eq_true hu)),
      by simp, routed, pending, effective, cause, told.2, others, front, by simp, by simp, by simp, by simp, by simp, by simp, by simp,
      by simp, by simp, by simp, by simp⟩
  · exact State.request_onlyReplies h rfl (.inl hm) (ownRouteSet_refuses (s := s.atTime t) bad)
  · exact State.request_onlyReplies h rfl (.inl hm) (if_pos bad)
  · refine State.request_onlyReplies h rfl (.inl hm) ((if_neg (Nat.not_lt.2 hv)).trans (if_pos ?_))
    rw [State.rvcOff_not (s := s.atTime t) busy]
    rfl
  · have idle : (s.atTime t).rvcOff = true := State.rvcOff_of off
    obtain ⟨preview, power, source, ⟨rest, told, kinds, feed⟩, fed, cut⟩ := (s.atTime t).setPreview_acts idle (decide (v.toNat = 1))
    refine ⟨_, State.request_leaves h rfl (.inl hm) ((if_neg (Nat.not_lt.2 hv)).trans (if_neg (by rw [idle]; decide))),
      by simp, preview, power, source, ⟨rest, told.2, ofKind_none kinds (by decide), fun _ => feed⟩,
      fun hon hp => fed (decide_eq_true hon) hp, fun hoff hp => cut (by rw [hoff]; rfl) hp,
      by simp, by simp, by simp, by simp, by simp, by simp, by simp, by simp, by simp⟩
  · exact State.request_onlyReplies h rfl (.inl hm) (ownBannerSet_refuses (s := s.atTime t) bad)
  · exact State.request_onlyReplies h rfl (.inl hm) (ownBannerSet_inReverse (s := s.atTime t) rfl hb (State.rvcOff_not busy))
  · have idle : (s.atTime t).rvcOff = true := State.rvcOff_of off
    refine State.request_leaves h rfl (.inl hm) ((ownBannerSet_of (s := s.atTime t) (p := [1, b]) (o := .fro) rfl hb (fun _ => idle)).trans (congrArg (·, ok []) ?_))
    have shown : frontBanner s.cmp.frontView (s.atTime t).rvcOff (decide (b.toNat = 4)) = b.toNat := by
      rw [view, idle]
      rcases hb with hb | hb <;> rw [hb] <;> rfl
    exact congrArg (fun n => (s.atTime t).setFront { s.cmp.front with hostBanner := decide (b.toNat = 4), shown := n }) shown

  · refine State.request_leaves h rfl (.inl hm) ((ownBannerSet_of (s := s.atTime t) (p := [out, b]) (o := .ro i) ho hb (fun he => by cases he)).trans
      (congrArg (·, ok []) ?_))
    let shown := if (s.link i).state = .streaming ∧ s.sourceUnlocked (s.rearRow i).effective = true then 3 else b.toNat
    have kept : rearBanner (decide ((s.link i).state = .streaming)) (s.sourceUnlocked (s.rearRow i).effective) (decide (b.toNat = 4)) = shown := by
      rw [rearBanner_eq]
      simp only [decide_eq_true_eq]
      refine if_congr Iff.rfl rfl ?_
      rcases hb with hb | hb <;> rw [hb] <;> rfl
    have judged := (s.atTime t).setBanner_ro i (decide (b.toNat = 4)) shown kept
    exact judged

end

section
/-! # Proofs: pages, items and the menus that show them (R116 to R119, R124, R132) -/

namespace Sys2Proof.Machine

/-! ## Adjustment (R124) -/

/-- R124: a menu whose top entry stands on a page, adjusted to it. -/
def Page.adjusted (p : Page) (c : MenuContext) : MenuContext :=
  match c.stack with
  | [] => c
  | e :: rest => if e.page = p.id then { c with stack := p.adjust e :: rest } else c

theorem State.adjustSeat_eq (s : State) (p : Page) (i : Seat) : s.adjustSeat p i = s.setCtx i (p.adjusted (s.ctx i)) := by
  have kept : s = s.setCtx i (s.ctx i) := by cases i <;> rfl
  unfold State.adjustSeat Page.adjusted
  cases hs : (s.ctx i).stack with
  | nil => exact kept
  | cons e rest =>
    dsimp only
    split
    · rfl
    · exact kept

theorem State.adjustBoth_eq (s : State) (p : Page) : s.adjustBoth p
    = { s with mnu := { s.mnu with ctx := ⟨p.adjusted (s.ctx .s1), p.adjusted (s.ctx .s2)⟩ } } := by
  unfold State.adjustBoth
  rw [State.adjustSeat_eq, State.adjustSeat_eq]
  rfl

theorem State.adjustBoth_ctx (s : State) (p : Page) (i : Seat) : (s.adjustBoth p).ctx i = p.adjusted (s.ctx i) := by
  rw [State.adjustBoth_eq]
  cases i <;> rfl

theorem Page.adjusted_shows {p : Page} {c : MenuContext} {e : Entry} {rest : List Entry} (hc : c.stack = e :: rest) (he : e.page = p.id) :
    p.adjusted c = { c with stack := p.adjust e :: rest } := by
  unfold Page.adjusted
  rw [hc]
  exact if_pos he

theorem Page.adjusted_other {p : Page} {c : MenuContext} (h : ∀ e ∈ c.stack.head?, e.page ≠ p.id) : p.adjusted c = c := by
  unfold Page.adjusted
  cases hc : c.stack with
  | nil => rfl
  | cons e rest => exact if_neg (h e (by rw [hc]; exact rfl))

/-! ## Menus that close with a page (R117, R118, R132) -/

/-- R117, R132: the menus that are to close with PAGE_REMOVED, seat 1 first. -/
def State.closesMenus (s : State) (closes : Seat → Bool) : State :=
  let first := if closes .s1 then s.closesMenu s.timebase .s1 .pageRemoved else s
  if closes .s2 then first.closesMenu s.timebase .s2 .pageRemoved else first

theorem State.closesMenus_leaves (s : State) (closes : Seat → Bool) :
    (s.closesMenus closes).timebase = s.timebase ∧ (s.closesMenus closes).mnu.store = s.mnu.store ∧ (s.closesMenus closes).mnu.root = s.mnu.root
    ∧ (∀ i, (s.closesMenus closes).ctx i = if closes i then ⟨[], none⟩ else s.ctx i)
    ∧ (s.closesMenus closes).cli
        = s.cli.postAll s.timebase ([Seat.s1, .s2].flatMap (fun i => if closes i then [(seatNo i, .menuClosed .pageRemoved)] else []))
    ∧ (s.closesMenus closes).keepsAllButMenus s := by
  unfold State.closesMenus
  refine ⟨?_, ?_, ?_, fun i => ?_, ?_, ?_⟩
  · cases closes .s1 <;> cases closes .s2 <;> rfl
  · cases closes .s1 <;> cases closes .s2 <;> rfl
  · cases closes .s1 <;> cases closes .s2 <;> rfl
  · cases i <;> cases h1 : closes .s1 <;> cases h2 : closes .s2 <;> simp only [h1, h2] <;> rfl
  · cases h1 : closes .s1 <;> cases h2 : closes .s2 <;> simp only [List.flatMap_cons, h1, h2] <;> rfl
  · cases closes .s1 <;> cases closes .s2 <;> exact ⟨rfl, rfl, rfl, rfl, rfl, rfl, rfl, rfl, rfl, rfl, rfl⟩

theorem State.closeMenu_closed {s : State} {i : Seat} (h : (s.ctx i).stack = []) (reason : CloseReason) (quiet : Bool) :
    s.closeMenu i reason quiet = s := if_neg (by rw [MenuContext.isOpen_iff, h]; exact fun hn => hn rfl)

/-- Two seats that close one after the other close the menus that are to. -/
theorem State.closesMenus_of {s : State} {closes : Seat → Bool} {first second : State}
    (h1 : first = if closes .s1 then s.closesMenu s.timebase .s1 .pageRemoved else s)
    (h2 : second = if closes .s2 then first.closesMenu first.timebase .s2 .pageRemoved else first) : second = s.closesMenus closes := by
  have clock : first.timebase = s.timebase := by
    rw [h1]
    split <;> rfl
  rw [h2, clock, h1]
  rfl

theorem State.closeIfHolds_eq (s : State) (id : Nat) (i : Seat) : s.closeIfHolds id i
    = if (s.ctx i).stack.any (fun e => e.page = id) then s.closesMenu s.timebase i .pageRemoved else s := by
  unfold State.closeIfHolds
  split
  · next h =>
    obtain ⟨e, he, -⟩ := List.any_eq_true.1 h
    exact State.closeMenu_open (List.ne_nil_of_mem he) _
  · rfl

theorem State.closeMenu_eq (s : State) (i : Seat) :
    s.closeMenu i .pageRemoved false = if decide ((s.ctx i).stack ≠ []) then s.closesMenu s.timebase i .pageRemoved else s := by
  by_cases h : (s.ctx i).stack = []
  · rw [State.closeMenu_closed h, if_neg (by simp [h])]
  · rw [State.closeMenu_open h, if_pos (by simp [h])]

theorem State.closesMenu_ctx_s2 (s : State) (t : Stamp) (reason : CloseReason) : (s.closesMenu t .s1 reason).ctx .s2 = s.ctx .s2 := rfl

/-- R117: the menus that hold a page close. -/
theorem State.closeIfHolds_both (s : State) (id : Nat) : (s.closeIfHolds id .s1).closeIfHolds id .s2
    = s.closesMenus (fun i => (s.ctx i).stack.any (fun e => e.page = id)) := by
  refine State.closesMenus_of (s.closeIfHolds_eq id .s1) ?_
  have other : (s.closeIfHolds id .s1).ctx .s2 = s.ctx .s2 := by
    rw [State.closeIfHolds_eq]
    split <;> rfl
  rw [State.closeIfHolds_eq, other]

/-- R118: the open menus close. -/
theorem State.closeMenu_both (s : State) : (s.closeMenu .s1 .pageRemoved false).closeMenu .s2 .pageRemoved false
    = s.closesMenus (fun i => decide ((s.ctx i).stack ≠ [])) := by
  refine State.closesMenus_of (s.closeMenu_eq .s1) ?_
  rw [State.closeMenu_eq (s.closeMenu .s1 .pageRemoved false), State.closeMenu_ctx_other s (by decide)]

/-! ## PAGE LOAD, PAGE REMOVE (R116, R117) -/

theorem ownPageLoad_refuses {p : List Byte} {s : State} {raw : RawPage} (hw : walkPage p = some raw) (hc : raw.check = none) :
    ownPageLoad p s = (s, refuse .badValue) := by
  simp only [ownPageLoad, hw, Option.bind_some, hc]

theorem ownPageLoad_full {p : List Byte} {s : State} {raw : RawPage} {page : Page} (hw : walkPage p = some raw) (hc : raw.check = some page)
    (full : hasSpace s.mnu.store page = false) : ownPageLoad p s = (s, refuse .noSpace) := by
  simp only [ownPageLoad, hw, Option.bind_some, hc, full, Bool.false_eq_true, if_false]

/-- R116: a page that is present is replaced, and the menus that show it are adjusted. -/
def State.pageLoaded (s : State) (page : Page) : State :=
  if (findPage s.mnu.store page.id).isSome then (s.setStore (putPage s.mnu.store page)).adjustBoth page
  else s.setStore (putPage s.mnu.store page)

theorem ownPageLoad_loads {p : List Byte} {s : State} {raw : RawPage} {page : Page} (hw : walkPage p = some raw) (hc : raw.check = some page)
    (space : hasSpace s.mnu.store page = true) : ownPageLoad p s = (s.pageLoaded page, ok (storeCounts (s.pageLoaded page).mnu.store)) := by
  simp only [ownPageLoad, hw, Option.bind_some, hc, space, if_true]
  rfl

theorem State.pageLoaded_leaves (s : State) (page : Page) : (s.pageLoaded page).timebase = s.timebase
    ∧ (s.pageLoaded page).mnu.store = putPage s.mnu.store page ∧ (s.pageLoaded page).mnu.root = s.mnu.root ∧ (s.pageLoaded page).cli = s.cli
    ∧ (s.pageLoaded page).keepsAllButMenus s ∧ ∀ i, (s.pageLoaded page).ctx i
      = if (findPage s.mnu.store page.id).isSome then page.adjusted (s.ctx i) else s.ctx i := by
  unfold State.pageLoaded
  split
  · refine ⟨by simp, ?_, ?_, by simp, ?_, fun i => State.adjustBoth_ctx _ page i⟩
    · rw [State.adjustBoth_eq]
      rfl
    · rw [State.adjustBoth_eq]
      rfl
    · rw [State.adjustBoth_eq]
      exact ⟨rfl, rfl, rfl, rfl, rfl, rfl, rfl, rfl, rfl, rfl, rfl⟩
  · exact ⟨rfl, rfl, rfl, rfl, ⟨rfl, rfl, rfl, rfl, rfl, rfl, rfl, rfl, rfl, rfl, rfl⟩, fun _ => rfl⟩

/-- R117: a page leaves the store, and the menus that hold it close. -/
def State.pageRemoved (s : State) (id : Nat) : State :=
  (s.setStore (s.mnu.store.filter (fun q => !decide (q.id = id)))).closesMenus (fun i => (s.ctx i).stack.any (fun e => e.page = id))

theorem ownPageRemove_removes {p : List Byte} {s : State} {id : Nat} {page : Page} (h : byteAt p 0 = id) (h1 : 1 ≤ id) (h63 : id ≤ 63)
    (hp : findPage s.mnu.store id = some page) :
    ownPageRemove p s = (s.pageRemoved id, ok (storeCounts (s.pageRemoved id).mnu.store)) := by
  simp only [ownPageRemove, h, hp, State.closeIfHolds_both]
  exact if_neg (by omega)

theorem ownPageRemove_absent {p : List Byte} {s : State} {id : Nat} (h : byteAt p 0 = id) (h1 : 1 ≤ id) (h63 : id ≤ 63)
    (hp : findPage s.mnu.store id = none) : ownPageRemove p s = (s, refuse .notFound) := by
  simp only [ownPageRemove, h, hp]
  exact if_neg (by omega)

theorem Cli.postAll_queue (c : Cli) (t : Stamp) (ns : List (Nat × NoticeBody)) : (c.postAll t ns).queue = c.queue := by
  obtain ⟨board, overflow, he⟩ := c.postAll_keeps t ns
  rw [he]

/-! ## ITEM SET (R119) -/

theorem heldValue_byte (kind : ItemKind) : u8 (heldValue kind) = [match kind with
    | .toggle on => if on then 1 else 0
    | .slider v _ _ => BitVec.ofNat 8 v
    | _ => 0] := by
  rcases kind with _ | _ | on | _ | _ | _ | _
  case toggle => cases on <;> rfl
  all_goals rfl

/-- R119: the kind of an item once its value is in its range. -/
theorem setKind_of {k kind : ItemKind} {value : Nat} (h : match k with
      | .toggle _ => value ≤ 1 ∧ kind = .toggle (decide (value = 1))
      | .slider _ top step => kind = .slider (min value top) top step
      | k => kind = k) : setKind k value = some kind := by
  cases k with
  | toggle on =>
    obtain ⟨hv, rfl⟩ := h
    obtain rfl | rfl : value = 0 ∨ value = 1 := by omega
    · rfl
    · rfl
  | slider v top step =>
    obtain rfl := h
    have clamp : (if top < value then top else value) = min value top := by split <;> omega
    simp only [setKind, clamp]
  | _ =>
    obtain rfl := h
    rfl

theorem findPage_setItem_some {store : List Page} {id : Nat} {page : Page} (h : findPage store id = some page) (on n : Nat) (it : Item) :
    ∃ q, findPage (setItem store on n it) id = some q :=
  Option.isSome_iff_exists.1 ((findPage_setItem on n it id).trans (Option.isSome_iff_exists.2 ⟨page, h⟩))

section
variable {p : List Byte} {s : State} {id n flag value : Nat} {page : Page} {it : Item}

theorem ownItemSet_noPage (h0 : byteAt p 0 = id) (h2 : byteAt p 2 = flag) (hflag : flag ≤ 1) (hp : findPage s.mnu.store id = none) :
    ownItemSet p s = (s, refuse .notFound) := by
  simp only [ownItemSet, h0, h2, hp]
  exact if_neg (by omega)

theorem ownItemSet_noItem (h0 : byteAt p 0 = id) (h1 : byteAt p 1 = n) (h2 : byteAt p 2 = flag) (hflag : flag ≤ 1)
    (hp : findPage s.mnu.store id = some page) (hit : page.item n = none) : ownItemSet p s = (s, refuse .notFound) := by
  simp only [ownItemSet, h0, h1, h2, hp, hit]
  exact if_neg (by omega)

theorem ownItemSet_badValue (h0 : byteAt p 0 = id) (h1 : byteAt p 1 = n) (h2 : byteAt p 2 = flag) (h3 : byteAt p 3 = value) (hflag : flag ≤ 1)
    (hp : findPage s.mnu.store id = some page) (hit : page.item n = some it) (hk : setKind it.kind value = none) :
    ownItemSet p s = (s, refuse .badValue) := by
  simp only [ownItemSet, h0, h1, h2, h3, hp, hit, hk]
  exact if_neg (by omega)

theorem ownItemSet_sets {kind : ItemKind} (h0 : byteAt p 0 = id) (h1 : byteAt p 1 = n) (h2 : byteAt p 2 = flag) (h3 : byteAt p 3 = value)
    (hflag : flag ≤ 1) (hp : findPage s.mnu.store id = some page) (hit : page.item n = some it) (hk : setKind it.kind value = some kind) :
    ownItemSet p s
      = (s.changeItem page.id n it { it with kind := kind, enabled := decide (flag = 1) }, ok (u8 (heldValue kind))) := by
  simp only [ownItemSet, h0, h1, h2, h3, hp, hit, hk]
  exact if_neg (by omega)

end

/-- R119, R124: an item that changes, with the menus that show its page when its enabled flag does. -/
theorem State.changeItem_leaves {s : State} {page : Page} {id : Nat} (hp : findPage s.mnu.store id = some page) (n : Nat) (old new : Item) :
    let s1 := s.changeItem page.id n old new
    s1.timebase = s.timebase ∧ s1.mnu.store = setItem s.mnu.store page.id n new ∧ s1.mnu.root = s.mnu.root
      ∧ (old.enabled = new.enabled → s1.mnu.ctx = s.mnu.ctx)
      ∧ (old.enabled ≠ new.enabled → ∃ q, findPage s1.mnu.store id = some q ∧ q.id = id ∧ ∀ i, s1.ctx i = q.adjusted (s.ctx i))
      ∧ s1.cli = s.cli ∧ s1.keepsAllButMenus s := by
  intro s1
  obtain ⟨q, hq⟩ := findPage_setItem_some hp page.id n new
  let x := s.setStore (setItem s.mnu.store page.id n new)
  have found : findPage x.mnu.store page.id = some q := by
    rw [findPage_id hp]
    exact hq
  have shape : s1 = if old.enabled = new.enabled then x else x.adjustBoth q := by
    have unfolded : s1 = if old.enabled = new.enabled then x else match findPage x.mnu.store page.id with
      | none => x
      | some p => x.adjustBoth p := rfl
    rw [unfolded, found]
  rw [shape]
  split
  · next h => exact ⟨rfl, rfl, rfl, fun _ => rfl, fun hn => absurd h hn, rfl, ⟨rfl, rfl, rfl, rfl, rfl, rfl, rfl, rfl, rfl, rfl, rfl⟩⟩
  · next h =>
    rw [State.adjustBoth_eq]
    refine ⟨rfl, rfl, rfl, fun he => absurd he h, fun _ => ⟨q, hq, findPage_id hq, fun i => ?_⟩, rfl,
      ⟨rfl, rfl, rfl, rfl, rfl, rfl, rfl, rfl, rfl, rfl, rfl⟩⟩
    cases i <;> rfl

end Sys2Proof.Machine

open Sys2Proof Sys2Proof.Machine

/-- Settles O38. -/
theorem pagesEnterAndLeaveTheStore : Obligations.PagesEnterAndLeaveTheStore := by
  refine ⟨fun t s p raw page h hm hw hc space => ?_, fun t s p raw h hm hw hc => ?_, fun t s p raw page h hm hw hc full => ?_,
    fun t s id page h hm h1 h63 hp => ?_, fun t s id h hm bad => ?_, fun t s id h hm h1 h63 hp => ?_, fun t s h hm => ?_⟩
  · let x := s.atTime t
    obtain ⟨clock, store, root, cli, rest, ctx⟩ := x.pageLoaded_leaves page
    refine ⟨x.pageLoaded page, State.request_leaves h (by rw [hw]; rfl) (.inl hm) (ownPageLoad_loads (s := x) hw hc space),
      clock, store, root, fun i e rest hs he hf => ?_, fun i hother => ?_, cli, rest⟩
    · have present : (findPage s.mnu.store page.id).isSome = true := Option.isSome_iff_ne_none.2 hf
      have adjusted : (x.pageLoaded page).ctx i = page.adjusted (s.ctx i) := (ctx i).trans (if_pos present)
      rw [adjusted, Page.adjusted_shows hs he]
      exact ⟨rfl, rfl⟩
    · refine (ctx i).trans ?_
      split
      · exact Page.adjusted_other hother
      · rfl
  · exact State.request_onlyReplies h (by rw [hw]; rfl) (.inl hm) (ownPageLoad_refuses hw hc)
  · exact State.request_onlyReplies h (by rw [hw]; rfl) (.inl hm) (ownPageLoad_full (s := s.atTime t) hw hc full)
  · let x := s.atTime t
    let closes : Seat → Bool := fun i => (s.ctx i).stack.any (fun e => e.page = id.toNat)
    have holds (i : Seat) : closes i = true ↔ ∃ e ∈ (s.ctx i).stack, e.page = id.toNat := by
      simp only [closes, List.any_eq_true, decide_eq_true_eq]
    obtain ⟨clock, store, root, ctx, cli, rest⟩ :=
      (x.setStore (s.mnu.store.filter (fun q => !decide (q.id = id.toNat)))).closesMenus_leaves closes
    refine ⟨x.pageRemoved id.toNat, State.request_leaves h rfl (.inl hm) (ownPageRemove_removes (s := x) rfl h1 h63 hp), clock, store, root, fun i hi => ?_, fun i hi => ?_, cli.trans ?_, ?_, rest⟩
    · have shut : (x.pageRemoved id.toNat).ctx i = ⟨[], none⟩ := (ctx i).trans (if_pos ((holds i).2 hi))
      rw [shut]
      exact ⟨rfl, rfl⟩
    · refine (ctx i).trans (if_neg (fun hc => ?_))
      obtain ⟨e, he, hid⟩ := (holds i).1 hc
      exact hi e he hid
    · simp only [holds]
      rfl
    · exact (congrArg Cli.queue cli).trans (Cli.postAll_queue _ _ _)
  · exact State.request_onlyReplies h rfl (.inl hm) (if_pos bad)
  · exact State.request_onlyReplies h rfl (.inl hm) (ownPageRemove_absent (s := s.atTime t) rfl h1 h63 hp)
  · let x := s.atTime t
    obtain ⟨clock, store, root, ctx, cli, rest⟩ := (x.setStore []).closesMenus_leaves (fun i => decide ((s.ctx i).stack ≠ []))
    have clears : ownPageClear [] x = ((x.setStore []).closesMenus (fun i => decide ((s.ctx i).stack ≠ [])), ok []) :=
      congrArg (·, ok []) (x.setStore []).closeMenu_both
    refine ⟨_, State.request_leaves h rfl (.inl hm) clears, clock, store, root, fun i => ?_, cli.trans ?_, ?_, rest⟩
    · rw [ctx i]
      by_cases hs : (s.ctx i).stack = []
      · rw [if_neg (by simp [hs])]
        exact hs
      · rw [if_pos (by simp [hs])]
    · simp only [decide_eq_true_eq]
      rfl
    · exact (congrArg Cli.queue cli).trans (Cli.postAll_queue _ _ _)

/-- Settles O39. -/
theorem itemSetChangesOneItem : Obligations.ItemSetChangesOneItem := by
  intro t s pg n flag value h hm
  let x := s.atTime t
  refine ⟨fun bad => State.request_onlyReplies h rfl (.inl hm) (if_pos bad), fun hflag hp => ?_,
    fun page hflag hp => ⟨fun hit => ?_, fun it on hit hk hv => ?_, fun it kind hit hkind => ?_⟩⟩
  · exact State.request_onlyReplies h rfl (.inl hm) (ownItemSet_noPage (s := x) rfl rfl hflag hp)
  · exact State.request_onlyReplies h rfl (.inl hm) (ownItemSet_noItem (s := x) rfl rfl rfl hflag hp hit)
  · refine State.request_onlyReplies h rfl (.inl hm) (ownItemSet_badValue (s := x) rfl rfl rfl rfl hflag hp hit ?_)
    rw [hk]
    exact (if_neg (show ¬ value.toNat = 0 by omega)).trans (if_neg (show ¬ value.toNat = 1 by omega))
  · obtain ⟨clock, store, root, same, shown, cli, rest⟩ := State.changeItem_leaves (s := x) hp n.toNat it
      { it with kind := kind, enabled := decide (flag.toNat = 1) }
    have sets : ownItemSet [pg, n, flag, value] x = _ :=
      ownItemSet_sets rfl rfl rfl rfl hflag hp hit (setKind_of hkind)
    refine ⟨_, (State.request_leaves h rfl (.inl hm) sets).trans ?_, clock, store, root, same, fun hn => ?_, cli, rest⟩
    · rw [heldValue_byte]
      cases kind <;> rfl
    · obtain ⟨q, hq, hid, ctx⟩ := shown hn
      refine ⟨q, hq, fun i => ⟨fun e rest hs he => ⟨q.adjust e, q.adjust_adjusts e, ?_⟩, fun hother => ?_⟩⟩
      · exact (ctx i).trans (Page.adjusted_shows hs (he.trans hid.symm))
      · exact (ctx i).trans (Page.adjusted_other (fun e he hp' => hother e he (hp'.trans hid)))

end

section
/-! # Proofs: the selection of an offer (R78, R79, R80, R82) -/

namespace Sys2Proof.Machine

/-! ## The best offer (R79) -/

/-- R79: a numbered offer comes before another: its pixel rate is larger, or equal with the lower number. -/
def ranks (f g : Nat × Offer) : Prop := g.2.rate < f.2.rate ∨ (g.2.rate = f.2.rate ∧ f.1 ≤ g.1)

theorem ranks_refl (f : Nat × Offer) : ranks f f := .inr ⟨rfl, le_rfl⟩

theorem ranks_trans {f g h : Nat × Offer} (hfg : ranks f g) (hgh : ranks g h) : ranks f h := by
  unfold ranks at *
  omega

/-- What `Link.best` holds after one more offer, of the next number, ranks before what it held and before that offer. -/
theorem Link.best_step (l : Link) {o : Offer} {k : Nat} {found : Option (Nat × Offer)} (earlier : ∀ f ∈ found, f.1 < k) :
    ∃ found', (∀ os, l.best (o :: os) k found = l.best os (k + 1) found') ∧ (∀ f ∈ found', f.1 < k + 1)
      ∧ (found' = none → found = none ∧ ¬ l.admits o = true)
      ∧ (∀ f ∈ found', (∀ g ∈ found, ranks f g) ∧ (l.admits o = true → ranks f (k, o))) := by
  cases found with
  | none =>
    refine ⟨if l.admits o && true then some (k, o) else none, fun _ => rfl, ?_⟩
    cases ho : l.admits o
    · exact ⟨(fun f hf => by cases hf), fun _ => ⟨rfl, by decide⟩, (fun f hf => by cases hf)⟩
    · refine ⟨fun f hf => ?_, (fun h => by cases h), fun f hf => ⟨(fun g hg => by cases hg), fun _ => ?_⟩⟩
      · obtain rfl := Option.some.inj hf
        exact Nat.lt_succ_self k
      · obtain rfl := Option.some.inj hf
        exact ranks_refl _
  | some g =>
    have hg : g.1 < k := earlier g rfl
    refine ⟨if l.admits o && decide (g.2.rate < o.rate) then some (k, o) else some g, fun _ => rfl, ?_⟩
    by_cases better : l.admits o = true ∧ g.2.rate < o.rate
    · rw [if_pos (by simp [better])]
      refine ⟨fun f hf => ?_, (fun h => by cases h), fun f hf => ⟨fun g' hg' => ?_, fun _ => ?_⟩⟩
      · obtain rfl := Option.some.inj hf
        exact Nat.lt_succ_self k
      · obtain rfl := Option.some.inj hf
        obtain rfl := Option.some.inj hg'
        exact .inl better.2
      · obtain rfl := Option.some.inj hf
        exact ranks_refl _
    · rw [if_neg (by simpa using better)]
      refine ⟨fun f hf => ?_, (fun h => by cases h), fun f hf => ⟨fun g' hg' => ?_, fun ho => ?_⟩⟩
      · obtain rfl := Option.some.inj hf
        exact Nat.lt_succ_of_lt hg
      · obtain rfl := Option.some.inj hf
        obtain rfl := Option.some.inj hg'
        exact ranks_refl _
      · obtain rfl := Option.some.inj hf
        have slower : ¬ g.2.rate < o.rate := fun h => better ⟨ho, h⟩
        unfold ranks
        dsimp only
        omega

/-- R79: what is found ranks before every offer that is admitted; when nothing is found, none is. -/
theorem Link.best_ranks (l : Link) {os : List Offer} {k : Nat} {found : Option (Nat × Offer)} (earlier : ∀ f ∈ found, f.1 < k) :
    (l.best os k found = none → found = none ∧ ∀ o ∈ os, ¬ l.admits o = true)
    ∧ ∀ f, l.best os k found = some f → (∀ g ∈ found, ranks f g) ∧ ∀ m o, os[m]? = some o → l.admits o = true → ranks f (k + m, o) := by
  induction os generalizing k found with
  | nil =>
    refine ⟨fun h => ⟨h, (fun o ho => by cases ho)⟩, fun f hf => ⟨fun g hg => ?_, (fun m o ho => by cases ho)⟩⟩
    obtain rfl : f = g := Option.some.inj (Eq.trans (Eq.symm hf) hg)
    exact ranks_refl f
  | cons o rest ih =>
    obtain ⟨found', step, later, empty, ahead⟩ := l.best_step (o := o) earlier
    obtain ⟨none', some'⟩ := ih later
    rw [step rest]
    refine ⟨fun h => ?_, fun f hf => ?_⟩
    · obtain ⟨hn, hrest⟩ := none' h
      obtain ⟨hfound, ho⟩ := empty hn
      exact ⟨hfound, List.forall_mem_cons.2 ⟨ho, hrest⟩⟩
    · obtain ⟨head, tail⟩ := some' f hf
      cases hfound' : found' with
      | none =>
        obtain ⟨hn, hno⟩ := empty hfound'
        refine ⟨(fun g hg => by rw [hn] at hg; cases hg), fun m o' hm ha => ?_⟩
        cases m with
        | zero =>
          obtain rfl := Option.some.inj hm
          exact absurd ha hno
        | succ m =>
          rw [show k + (m + 1) = k + 1 + m by omega]
          exact tail m o' hm ha
      | some f' =>
        obtain ⟨overFound, overO⟩ := ahead f' hfound'
        have first : ranks f f' := head f' hfound'
        refine ⟨fun g hg => ranks_trans first (overFound g hg), fun m o' hm ha => ?_⟩
        cases m with
        | zero =>
          obtain rfl := Option.some.inj hm
          exact ranks_trans first (overO ha)
        | succ m =>
          rw [show k + (m + 1) = k + 1 + m by omega]
          exact tail m o' hm ha

theorem Link.choose_none {l : Link} (h : l.choose = none) : ∀ o ∈ l.offers, ¬ l.candidate o := by
  have none' := ((l.best_ranks (os := l.offers) (k := 1) (found := none) (fun f hf => by cases hf)).1 (Option.map_eq_none_iff.1 h)).2
  exact fun o ho hc => none' o ho ((l.admits_iff o).2 hc)

/-- R79: the offer chosen is the candidate with the largest pixel rate, the lowest number among equals. -/
theorem Link.choose_some {l : Link} {n : Nat} (h : l.choose = some n) : ∃ o, 1 ≤ n ∧ l.offers[n - 1]? = some o ∧ l.candidate o
    ∧ ∀ m o', 1 ≤ m → l.offers[m - 1]? = some o' → l.candidate o' → o'.rate < o.rate ∨ (o'.rate = o.rate ∧ n ≤ m) := by
  obtain ⟨⟨m, o⟩, hb, rfl⟩ := Option.map_eq_some_iff.1 h
  have ahead := ((l.best_ranks (os := l.offers) (k := 1) (found := none) (fun f hf => by cases hf)).2 _ hb).2
  rcases l.best_found hb with hf | ⟨hk, ho, ha⟩
  · cases hf
  · refine ⟨o, hk, ho, (l.admits_iff o).1 ha, fun m' o' hm' ho' hc' => ?_⟩
    have beaten := ahead (m' - 1) o' ho' ((l.admits_iff o').2 hc')
    rw [Nat.add_sub_cancel' hm'] at beaten
    exact beaten

/-! ## Selection (R79, R82) -/

/-- R79, R82: the record of a link once the class has been read. -/
def Link.selected (l : Link) (now : Stamp) : Link :=
  match l.choose with
  | some n => { l.send (msgClaim n) with claimed := some n, claimTimer := some (afterMs now 100) }
  | none => { l with claimed := none, claimTimer := none, state := .noMode }

theorem Link.selected_selectedAt {l : Link} (hc : l.state = .claiming) (now : Stamp) : (l.selected now).selectedAt now l.cable := by
  unfold Link.selected
  cases hn : l.choose
  all_goals dsimp only
  case none => exact ⟨rfl, .inl ⟨Link.choose_none (l := l) hn, rfl, rfl, rfl⟩⟩
  case some n =>
    obtain ⟨o, h1, ho, hcand, ahead⟩ := Link.choose_some hn
    exact ⟨rfl, .inr ⟨n, o, hc, rfl, h1, ho, hcand, rfl, List.getLast?_concat, ahead⟩⟩

theorem Link.selected_keeps (l : Link) (now : Stamp) : (l.selected now).offers = l.offers ∧ (l.selected now).descriptor = l.descriptor
    ∧ (l.selected now).readPos = l.readPos ∧ (l.selected now).hailTimer = l.hailTimer ∧ (l.selected now).inForce = l.inForce := by
  unfold Link.selected
  split <;> exact ⟨rfl, rfl, rfl, rfl, rfl⟩

/-- R75, R82: the notice of a link that has no mode. -/
def noModeTold (i : Seat) (l : Link) (reason : LinkReason) : List (Nat × NoticeBody) :=
  if l.state = .noMode then [(seatNo i, .link .noMode reason)] else []

/-- R79, R82: a selection of a link in CLAIMING. -/
theorem State.select_eq (s : State) (i : Seat) {l : Link} (hc : l.state = .claiming) :
    let l' := { l with cable := calCable s.cal.working i }.selected s.timebase
    (s.setLink i l).select i = { s.setLink i l' with cli := s.cli.postAll s.timebase (noModeTold i l' l.reason) } := by
  intro l'
  have read : { (s.setLink i l).link i with cable := calCable (s.setLink i l).image i } = { l with cable := calCable s.cal.working i } := by
    rw [State.link_setLink_same]
    rfl
  unfold State.select
  rw [read]
  simp only [l', Link.selected]
  cases hn : Link.choose { l with cable := calCable s.cal.working i } with
  | some n =>
    have idle : noModeTold i { ({ l with cable := calCable s.cal.working i } : Link).send (msgClaim n) with
        claimed := some n, claimTimer := some (afterMs s.timebase 100) } l.reason = [] :=
      if_neg (by show ¬ l.state = .noMode; rw [hc]; decide)
    dsimp only
    rw [idle, State.setLink_setLink]
    rfl
  | none =>
    dsimp only
    rw [State.setLink_setLink]
    cases i <;> rfl

/-- R79, R82: what a selection leaves of the part. -/
theorem State.select_leaves (s : State) (i : Seat) {l : Link} (hc : l.state = .claiming) :
    let l' := { l with cable := calCable s.cal.working i }.selected s.timebase
    let s1 := (s.setLink i l).select i
    s1.link i = l' ∧ s1.onlyLinkChanged s i ∧ s1.cli = s.cli.postAll s.timebase (noModeTold i l' l.reason) ∧ s1.timebase = s.timebase := by
  intro l' s1
  have he : s1 = { s.setLink i l' with cli := s.cli.postAll s.timebase (noModeTold i l' l.reason) } := s.select_eq i hc
  have queue : s1.cli.queue = s.cli.queue := by
    rw [he]
    exact Cli.postAll_queue _ _ _
  refine ⟨?_, ⟨fun j hj => ?_, queue, ?_⟩, ?_, ?_⟩
  · rw [he]
    exact Two.get_set_same _ i _
  · rw [he]
    exact Two.get_set_other _ hj _
  · rw [he]
    exact ⟨rfl, rfl, rfl, rfl, rfl, rfl, rfl, rfl, rfl, rfl⟩
  · rw [he]
  · rw [he]
    rfl

/-- R79, R93: the record of a link in HAILING that takes offers, before the class is read. -/
def State.offered (s : State) (i : Seat) (os : List Offer) (d : List Byte) : Link :=
  { s.link i with offers := os, descriptor := some d, readPos := 0, state := .claiming, hailTimer := none,
                  inForce := (s.link i).staged.getD (calSeatPolicy s.cal.working) }

/-- R78, R79: good OFFERS in HAILING enter CLAIMING, with its LINK notice, and the offers are selected from. -/
theorem State.takeOffers_selects {s : State} {i : Seat} {body : List Byte} {os : List Offer} {d : List Byte} (hl : (s.link i).state = .hailing)
    (hsuits : offersSuits body = true) (hparse : parseOffers body = some (os, d)) :
    let told : State := { s with cli := s.cli.post s.timebase (seatNo i) (.link .claiming (s.link i).reason) }
    s.takeOffers i body = (told.setLink i (s.offered i os d)).select i := by
  intro told
  let l0 : Link := { s.link i with offers := os, descriptor := some d, readPos := 0 }
  have taken : s.takeOffers i body = (s.setLink i l0).enterClaiming i := by
    unfold State.takeOffers
    rw [if_pos ⟨hsuits, hl⟩, hparse]
  have enters : (s.setLink i l0).enterClaiming i = (((s.setLink i l0).setLink i (s.offered i os d)).postLink i).select i := by
    unfold State.enterClaiming State.offered
    rw [State.link_setLink_same]
    cases hs : (s.link i).staged <;> simp only [l0, hs] <;> rfl
  rw [taken, enters, State.setLink_setLink]
  cases i <;> rfl

theorem Link.rejectClaimed_of {l : Link} {n : Nat} (hn : l.claimed = some n) :
    l.rejectClaimed = { l with offers := l.offers.modify (n - 1) (fun o => { o with rejected := true }) } := by
  unfold Link.rejectClaimed
  split
  · next h =>
    rw [hn] at h
    cases h
  · next m h =>
    rw [hn] at h
    cases h
    rfl

theorem State.takeReject_selects {s : State} {i : Seat} {n : Nat} (hl : (s.link i).state = .claiming) (hn : (s.link i).claimed = some n) :
    s.takeReject i = (s.setLink i { s.link i with
      offers := (s.link i).offers.modify (n - 1) (fun o => { o with rejected := true }), claimTimer := none }).select i := by
  unfold State.takeReject
  rw [if_pos hl, Link.rejectClaimed_of hn]

/-! ## OFFERS (R78) -/

/-- Table 11-9: the six bytes of an offer. -/
def Offer.bytes (o : Offer) : List Byte := u16 o.width ++ u16 o.height ++ u8 o.refresh ++ flag o.audio

theorem byteAt_append_right (p q : List Byte) (k : Nat) : byteAt (p ++ q) (p.length + k) = byteAt q k := by
  unfold byteAt
  rw [List.getD_append_right _ _ _ _ (Nat.le_add_right ..), Nat.add_sub_cancel_left]

theorem byteAt_append_end (p q : List Byte) : byteAt (p ++ q) p.length = byteAt q 0 := byteAt_append_right p q 0

/-- R78: an offer whose fields are within their ranges. -/
def Offer.sound (o : Offer) : Prop := 160 ≤ o.width ∧ o.width ≤ 3840 ∧ 120 ≤ o.height ∧ o.height ≤ 2160 ∧ 24 ≤ o.refresh ∧ o.refresh ≤ 60
  ∧ o.rejected = false

theorem offerAt_bytes {o : Offer} (h : o.sound) (p q : List Byte) : offerAt (p ++ (o.bytes ++ q)) p.length = some o := by
  obtain ⟨w1, w2, h1, h2, r1, r2, fresh⟩ := h
  have at' (k : Nat) : byteAt (p ++ (o.bytes ++ q)) (p.length + k) = byteAt (o.bytes ++ q) k := byteAt_append_right _ _ _
  have bytes : o.bytes ++ q = [BitVec.ofNat 8 (o.width / 256), BitVec.ofNat 8 o.width, BitVec.ofNat 8 (o.height / 256), BitVec.ofNat 8 o.height,
      BitVec.ofNat 8 o.refresh, if o.audio then 1 else 0] ++ q := by
    cases ha : o.audio <;> simp only [Offer.bytes, ha, flag] <;> rfl
  have width : u16At (p ++ (o.bytes ++ q)) p.length = o.width := by
    have high : byteAt (o.bytes ++ q) 0 = o.width / 256 % 256 := by rw [bytes]; rfl
    have low : byteAt (o.bytes ++ q) 1 = o.width % 256 := by rw [bytes]; rfl
    rw [u16At, byteAt_append_end, at' 1, high, low]
    omega
  have height : u16At (p ++ (o.bytes ++ q)) (p.length + 2) = o.height := by
    have high : byteAt (o.bytes ++ q) 2 = o.height / 256 % 256 := by rw [bytes]; rfl
    have low : byteAt (o.bytes ++ q) 3 = o.height % 256 := by rw [bytes]; rfl
    rw [u16At, at' 2, Nat.add_assoc, at' 3, high, low]
    omega
  have refresh : byteAt (p ++ (o.bytes ++ q)) (p.length + 4) = o.refresh := by
    have low : byteAt (o.bytes ++ q) 4 = o.refresh % 256 := by rw [bytes]; rfl
    rw [at' 4, low]
    omega
  have audio : byteAt (p ++ (o.bytes ++ q)) (p.length + 5) = if o.audio then 1 else 0 := by
    rw [at' 5, bytes]
    cases o.audio <;> rfl
  unfold offerAt
  simp only [width, height, refresh, audio]
  obtain ⟨w, h, r, a, x⟩ := o
  obtain rfl : x = false := fresh
  cases a
  · exact if_pos ⟨w1, w2, h1, h2, r1, r2, Nat.zero_le 1⟩
  · exact if_pos ⟨w1, w2, h1, h2, r1, r2, le_refl 1⟩

theorem Offer.bytes_length (o : Offer) : o.bytes.length = 6 := by
  unfold Offer.bytes
  cases o.audio <;> rfl

theorem offersFrom_bytes {os : List Offer} (h : ∀ o ∈ os, o.sound) (p q : List Byte) :
    offersFrom (p ++ (os.flatMap Offer.bytes ++ q)) os.length p.length = some os := by
  induction os generalizing p with
  | nil => rfl
  | cons o rest ih =>
    obtain ⟨ho, hrest⟩ := List.forall_mem_cons.1 h
    have here := offerAt_bytes ho p (rest.flatMap Offer.bytes ++ q)
    have there := ih hrest (p ++ o.bytes)
    rw [List.length_append, Offer.bytes_length] at there
    have split : p ++ ((o :: rest).flatMap Offer.bytes ++ q) = p ++ (o.bytes ++ (rest.flatMap Offer.bytes ++ q)) := by
      simp only [List.flatMap_cons, List.append_assoc]
    rw [List.append_assoc] at there
    rw [split, List.length_cons, offersFrom, here, there]

theorem offers_length (os : List Offer) : (os.flatMap Offer.bytes).length = 6 * os.length := by
  induction os with
  | nil => rfl
  | cons o rest ih => rw [List.flatMap_cons, List.length_append, ih, Offer.bytes_length, List.length_cons]; omega

theorem parseOffers_bytes {os : List Offer} {d : List Byte} (h1 : 1 ≤ os.length) (h6 : os.length ≤ 6) (hd : d.length ≤ 128)
    (h : ∀ o ∈ os, o.sound) : parseOffers (u8 os.length ++ os.flatMap Offer.bytes ++ u8 d.length ++ d) = some (os, d) := by
  let front := u8 os.length ++ os.flatMap Offer.bytes
  have long : front.length = 1 + 6 * os.length := by rw [List.length_append, offers_length]; rfl
  have body : u8 os.length ++ os.flatMap Offer.bytes ++ u8 d.length ++ d = front ++ (u8 d.length ++ d) := List.append_assoc ..
  have count : byteAt (front ++ (u8 d.length ++ d)) 0 = os.length := by
    have low : byteAt (front ++ (u8 d.length ++ d)) 0 = os.length % 256 := rfl
    omega
  have tail : byteAt (front ++ (u8 d.length ++ d)) (1 + 6 * os.length) = d.length := by
    rw [← long, byteAt_append_end]
    have low : byteAt (u8 d.length ++ d) 0 = d.length % 256 := rfl
    omega
  have size : (front ++ (u8 d.length ++ d)).length = 2 + 6 * os.length + d.length := by
    simp only [List.length_append, long, u8, List.length_singleton]
    omega
  have read : offersFrom (front ++ (u8 d.length ++ d)) os.length 1 = some os := by
    have := offersFrom_bytes h (u8 os.length) (u8 d.length ++ d)
    rw [← List.append_assoc] at this
    exact this
  have left : (front ++ (u8 d.length ++ d)).drop (2 + 6 * os.length) = d := by
    rw [show 2 + 6 * os.length = front.length + 1 by omega, ← List.drop_drop, List.drop_left]
    rfl
  rw [body]
  simp only [parseOffers, count, tail, size, read, left]
  exact if_neg (by omega)

end Sys2Proof.Machine

open Sys2Proof Sys2Proof.Machine

/-- Settles O29. -/
theorem selectionClaimsTheLargestRate : Obligations.SelectionClaimsTheLargestRate := by
  refine ⟨fun t i s body os d hp hl hsuits hparse => ?_, fun t i s n hp hl hn h1 => ?_, fun os d h1 h6 hd h => parseOffers_bytes h1 h6 hd h⟩
  · let x := s.atTime t
    let told : State := { x with cli := s.cli.post t (seatNo i) (.link .claiming (s.link i).reason) }
    obtain ⟨link, ⟨others, queue, rest⟩, cli, clock⟩ := told.select_leaves i (l := x.offered i os d) rfl
    obtain ⟨offers, descriptor, readPos, hailTimer, inForce⟩ :=
      Link.selected_keeps { x.offered i os d with cable := calCable s.cal.working i } t
    have chosen := Link.selected_selectedAt (l := { x.offered i os d with cable := calCable s.cal.working i }) rfl t
    have kept : told.cli.queue = s.cli.queue := Cli.postAll_queue s.cli t [(seatNo i, .link .claiming (s.link i).reason)]
    refine ⟨(told.setLink i (x.offered i os d)).select i, (State.happens_leaves hp (State.takeOffers_selects (s := x) hl hsuits hparse)),
      clock, ?_, ?_, ?_, ?_, ?_, ?_, ⟨others, queue.trans kept, rest⟩, ?_⟩
    · rw [link]
      exact offers
    · rw [link]
      exact descriptor
    · rw [link]
      exact readPos
    · rw [link]
      exact hailTimer
    · rw [link]
      exact inForce
    · rw [link]
      exact chosen
    · rw [link]
      exact cli
  · let x := s.atTime t
    let l : Link := { s.link i with
      offers := (s.link i).offers.modify (n - 1) (fun o => { o with rejected := true }), claimTimer := none }
    obtain ⟨link, unchanged, cli, clock⟩ := x.select_leaves i (l := l) hl
    obtain ⟨offers, descriptor, -, -, inForce⟩ := Link.selected_keeps { l with cable := calCable s.cal.working i } t
    have chosen := Link.selected_selectedAt (l := { l with cable := calCable s.cal.working i }) hl t
    refine ⟨(x.setLink i l).select i, (State.happens_leaves hp (State.takeReject_selects (s := x) hl hn)), clock, ?_, ?_, ?_, ?_, unchanged, ?_⟩
    · rw [link]
      exact offers
    · rw [link]
      exact descriptor
    · rw [link]
      exact inForce
    · rw [link]
      exact chosen
    · rw [link]
      exact cli

end

section
/-! # Proofs: what a chain of operations announces, matter by matter (R13, R22, R75, R104) -/

namespace Sys2Proof.Machine

/-! ## The matters a notice may tell of -/

/-- R22, R75, R104: what posts a notice for each change: the lock of a port, what an output shows, the state of a link. -/
inductive Matter where
  | feed (f : Feed)
  | front
  | link (i : Seat)
  | row (i : Seat)

def Matter.kind : Matter → NoticeKind
  | .feed _ => .feed
  | .front => .route
  | .link _ => .link
  | .row _ => .route

def Matter.source : Matter → Nat
  | .feed f => feedNo f
  | .front => 1
  | .link i => seatNo i
  | .row i => outputNo (.ro i)

theorem Matter.eq_of_notice {m n : Matter} (hk : m.kind = n.kind) (hs : m.source = n.source) : m = n := by
  cases m with
  | feed f =>
    cases n with
    | feed g => cases f <;> cases g <;> first | rfl | exact absurd hs (by decide)
    | _ => cases hk
  | front =>
    cases n with
    | front => rfl
    | row i => cases i <;> exact absurd hs (by decide)
    | _ => cases hk
  | link i =>
    cases n with
    | link j => cases i <;> cases j <;> first | rfl | exact absurd hs (by decide)
    | _ => cases hk
  | row i =>
    cases n with
    | row j => cases i <;> cases j <;> first | rfl | exact absurd hs (by decide)
    | front => cases i <;> exact absurd hs (by decide)
    | _ => cases hk

/-- The notice of a change of a matter, and none without a change. -/
def State.told (s' s : State) : Matter → List (Nat × NoticeBody)
  | .feed f => s'.feedTold s s.timebase f
  | .front => s'.cmp.front.routeTold s.cmp.front .fro
  | .link i => s'.linkTold s i
  | .row i => (s'.rearRow i).routeTold (s.rearRow i) (.ro i)

/-- A matter of which nothing is to be told. -/
def State.sameFor (s' s : State) : Matter → Prop
  | .feed f => (s'.port f).lock = (s.port f).lock
  | .front => s'.cmp.front.effective = s.cmp.front.effective ∧ s'.cmp.front.cause = s.cmp.front.cause
  | .link i => (s'.link i).state = (s.link i).state ∧ (s'.link i).reason = (s.link i).reason
  | .row i => (s'.rearRow i).effective = (s.rearRow i).effective ∧ (s'.rearRow i).cause = (s.rearRow i).cause

theorem State.told_shape (s' s : State) (m : Matter) : s'.told s m = [] ∨ ∃ body : NoticeBody, body.kind = m.kind ∧ s'.told s m = [(m.source, body)] := by
  have either (p : Prop) [Decidable p] (n : Nat × NoticeBody) : (if p then [] else [n]) = [] ∨ (if p then [] else [n]) = [n] := by
    split
    · exact .inl rfl
    · exact .inr rfl
  cases m with
  | feed f => exact (either _ _).imp_right (fun h => ⟨_, rfl, h⟩)
  | front => exact (either _ _).imp_right (fun h => ⟨_, rfl, h⟩)
  | link i => exact (either _ _).imp_right (fun h => ⟨_, rfl, h⟩)
  | row i => exact (either _ _).imp_right (fun h => ⟨_, rfl, h⟩)

theorem State.told_kinds (s' s : State) (m : Matter) : ofKinds (s'.told s m) (· = m.kind) := by
  rcases s'.told_shape s m with h | ⟨body, hk, h⟩ <;> rw [h]
  · exact fun n hn => by cases hn
  · intro n hn
    rw [List.mem_singleton.1 hn]
    exact hk

theorem State.told_self (s' s : State) (m : Matter) : ofMatter m.kind m.source (s'.told s m) = s'.told s m := by
  rcases s'.told_shape s m with h | ⟨body, hk, h⟩ <;> rw [h]
  · rfl
  · rw [ofMatter_cons, if_pos ⟨hk, rfl⟩]
    rfl

theorem State.told_other (s' s : State) {m n : Matter} (h : n ≠ m) : ofMatter n.kind n.source (s'.told s m) = [] := by
  rcases s'.told_shape s m with ht | ⟨body, hk, ht⟩ <;> rw [ht]
  · rfl
  · rw [ofMatter_cons, if_neg (fun hn => h (Matter.eq_of_notice (hn.1.symm.trans hk) hn.2.symm))]
    rfl

theorem State.sameFor_refl (s : State) (m : Matter) : s.sameFor s m := by
  cases m <;> simp only [State.sameFor, and_self]

theorem State.told_of_sameFor {s' s : State} {m : Matter} (h : s'.sameFor s m) : s'.told s m = [] := by
  cases m with
  | feed f => exact if_pos h
  | front => exact if_pos h
  | link i => exact if_pos h.1
  | row i => exact if_pos h

/-- What is told of a matter that a later operation leaves. -/
theorem State.told_keep_after {s s1 s2 : State} {m : Matter} (h : s2.sameFor s1 m) : s2.told s m = s1.told s m := by
  cases m with
  | feed f => simp only [State.told, State.feedTold, show (s2.port f).lock = (s1.port f).lock from h]
  | front => simp only [State.told, Row.routeTold, h.1, h.2]
  | link i => simp only [State.told, State.linkTold, h.1, h.2]
  | row i => simp only [State.told, Row.routeTold, h.1, h.2]

/-- What is told of a matter that an earlier operation has left. -/
theorem State.told_keep_before {s s1 s2 : State} {m : Matter} (ht : s1.timebase = s.timebase) (h : s1.sameFor s m) : s2.told s m = s2.told s1 m := by
  cases m with
  | feed f => simp only [State.told, State.feedTold, show (s1.port f).lock = (s.port f).lock from h, ht]
  | front => simp only [State.told, Row.routeTold, h.1, h.2]
  | link i => simp only [State.told, State.linkTold, h.1]
  | row i => simp only [State.told, Row.routeTold, h.1, h.2]

theorem State.sameFor_trans {s s1 s2 : State} {m : Matter} (h2 : s2.sameFor s1 m) (h1 : s1.sameFor s m) : s2.sameFor s m := by
  cases m with
  | feed f => exact Eq.trans h2 h1
  | _ => exact ⟨h2.1.trans h1.1, h2.2.trans h1.2⟩

/-! ## The ledger -/

/-- The kinds that are posted beside the matters, unless the operations are quiet. -/
def asideKinds (loud : Bool) (k : NoticeKind) : Prop := loud = true ∧ (k = .menuClosed ∨ k = .key ∨ k = .chime ∨ k = .guide)

/-- The operations between two states have posted a list that tells of each matter what has changed, in which they touch some matters
alone. -/
structure State.Announces (loud : Bool) (s' s : State) (touched : Matter → Prop) (ns : List (Nat × NoticeBody)) : Prop where
  posted : s'.posted s ns
  told : ∀ m : Matter, ofMatter m.kind m.source ns = s'.told s m
  kept : ∀ m, ¬ touched m → s'.sameFor s m
  kinds : ofKinds ns (fun k => k = .feed ∨ k = .route ∨ k = .link ∨ asideKinds loud k)

variable {loud : Bool} {s s1 s2 : State}

theorem asideKinds_matter {m : Matter} : ¬ asideKinds loud m.kind := by
  rintro ⟨-, h⟩
  cases m <;> simp [Matter.kind] at h

/-- Operations that touch no matter in common announce one after the other. -/
theorem State.Announces.trans {p q : Matter → Prop} {a b : List (Nat × NoticeBody)} (h2 : s2.Announces loud s1 q b) (h1 : s1.Announces loud s p a)
    (apart : ∀ m, p m → ¬ q m) : s2.Announces loud s (fun m => p m ∨ q m) (a ++ b) where
  posted := State.posted_trans h1.posted h2.posted
  told m := by
    rw [ofMatter_append, h1.told, h2.told]
    by_cases hp : p m
    · have later := h2.kept m (apart m hp)
      rw [State.told_of_sameFor later, List.append_nil, State.told_keep_after later]
    · have earlier := h1.kept m hp
      rw [State.told_of_sameFor earlier, List.nil_append, State.told_keep_before h1.posted.1 earlier]
  kept m hm := State.sameFor_trans (h2.kept m (fun hq => hm (.inr hq))) (h1.kept m (fun hp => hm (.inl hp)))
  kinds := ofKinds_append h1.kinds h2.kinds

/-- An operation that leaves every matter. -/
theorem State.announces_aside {ns : List (Nat × NoticeBody)} (hp : s1.posted s ns) (kinds : ofKinds ns (asideKinds loud))
    (same : ∀ m, s1.sameFor s m) : s1.Announces loud s (fun _ => False) ns where
  posted := hp
  told m := by rw [ofMatter_none kinds asideKinds_matter, State.told_of_sameFor (same m)]
  kept m _ := same m
  kinds n hn := .inr (.inr (.inr (kinds n hn)))

/-- An operation that touches one matter, and tells of it before all else. -/
theorem State.announces_one {m : Matter} {rest : List (Nat × NoticeBody)} (hp : s1.posted s (s1.told s m ++ rest))
    (kinds : ofKinds rest (asideKinds loud)) (same : ∀ n, n ≠ m → s1.sameFor s n) : s1.Announces loud s (· = m) (s1.told s m ++ rest) where
  posted := hp
  told n := by
    rw [ofMatter_append, ofMatter_none kinds asideKinds_matter, List.append_nil]
    by_cases hn : n = m
    · rw [hn, State.told_self]
    · rw [State.told_other _ _ hn, State.told_of_sameFor (same n hn)]
  kept := same
  kinds := by
    refine ofKinds_append (fun n hn => ?_) (fun n hn => .inr (.inr (.inr (kinds n hn))))
    rw [State.told_kinds _ _ m n hn]
    cases m with
    | feed f => exact .inl rfl
    | front => exact .inr (.inl rfl)
    | link i => exact .inr (.inr (.inl rfl))
    | row i => exact .inr (.inl rfl)

theorem State.Announces.refl (s : State) : s.Announces loud s (fun _ => False) [] :=
  State.announces_aside (State.posted_nil rfl rfl) (fun n hn => by cases hn) s.sameFor_refl

/-- What is touched may be taken for more. -/
theorem State.Announces.mono {p q : Matter → Prop} {a : List (Nat × NoticeBody)} (h : s1.Announces loud s p a) (hpq : ∀ m, p m → q m) :
    s1.Announces loud s q a := ⟨h.posted, h.told, fun m hm => h.kept m (fun hp => hm (hpq m hp)), h.kinds⟩

/-- A matter that is found as it was has not been touched. -/
theorem State.Announces.narrow {p q : Matter → Prop} {a : List (Nat × NoticeBody)} (h : s1.Announces loud s p a)
    (still : ∀ m, p m → ¬ q m → s1.sameFor s m) : s1.Announces loud s q a :=
  ⟨h.posted, h.told, fun m hm => by
    by_cases hp : p m
    · exact still m hp hm
    · exact h.kept m hp, h.kinds⟩

/-! ## What keeps every matter -/

theorem State.sameFor_front {s' s : State} (h : s'.sourceView = s.sourceView) : s'.sameFor s .front :=
  ⟨congrArg (fun v => v.front.effective) h, congrArg (fun v => v.front.cause) h⟩

theorem State.sameFor_row {s' s : State} (h : s'.sourceView = s.sourceView) (i : Seat) : s'.sameFor s (.row i) := by
  have routing (x : State) : (x.rearRow i).routing = x.sourceView.rear.get i := by cases i <;> rfl
  have same : (s'.rearRow i).routing = (s.rearRow i).routing := by rw [routing, routing, h]
  exact ⟨congrArg Routing.effective same, congrArg Routing.cause same⟩

theorem State.sameFor_all {s' s : State} (fdp : s'.fdp = s.fdp) (rsl : ∀ i, s'.link i = s.link i) (view : s'.sourceView = s.sourceView) (m : Matter) :
    s'.sameFor s m := by
  cases m with
  | feed f =>
    show (s'.fdp.port f).lock = _
    rw [fdp]
    rfl
  | front => exact State.sameFor_front view
  | link i =>
    show (s'.link i).state = _ ∧ (s'.link i).reason = _
    rw [rsl i]
    exact ⟨rfl, rfl⟩
  | row i => exact State.sameFor_row view i

/-! ## The operations -/

theorem State.closeMenu_announces (s : State) (i : Seat) (reason : CloseReason) (quiet : Bool) :
    ∃ ns, (s.closeMenu i reason quiet).Announces (!quiet) s (fun _ => False) ns := by
  have same (m : Matter) : (s.closeMenu i reason quiet).sameFor s m := State.sameFor_all (by simp) (by simp [State.link]) (by simp) m
  cases quiet with
  | false =>
    refine ⟨_, State.announces_aside (s.closeMenu_posts i reason) (fun n hn => ?_) same⟩
    split at hn
    · cases hn
    · rw [List.mem_singleton.1 hn]
      exact ⟨rfl, .inl rfl⟩
  | true =>
    refine ⟨[], State.announces_aside (State.posted_nil (by simp) ?_) (fun n hn => by cases hn) same⟩
    unfold State.closeMenu
    split <;> rfl

theorem State.releaseKey_view (s : State) (i : Seat) (quiet : Bool) : (s.releaseKey i quiet).sourceView = s.sourceView := by
  unfold State.releaseKey
  dsimp only
  split
  · rfl
  · split <;> rfl

theorem State.releaseKey_announces (s : State) (i : Seat) (quiet : Bool) :
    ∃ ns, (s.releaseKey i quiet).Announces (!quiet) s (fun _ => False) ns := by
  have same (m : Matter) : (s.releaseKey i quiet).sameFor s m := State.sameFor_all (by simp) (by simp [State.link]) (s.releaseKey_view i quiet) m
  cases quiet with
  | false =>
    refine ⟨_, State.announces_aside (s.releaseKey_posts i) (fun n hn => ?_) same⟩
    split at hn
    · split at hn
      · rw [List.mem_singleton.1 hn]
        exact ⟨rfl, .inr (.inl rfl)⟩
      · cases hn
    · cases hn
  | true => exact ⟨[], State.announces_aside (State.posted_nil (by simp) (s.releaseKey_quiet_cli i)) (fun n hn => by cases hn) same⟩

theorem State.linkFellBack_announces (s : State) (i : Seat) (quiet : Bool) :
    ∃ ns, (s.linkFellBack i quiet).Announces (!quiet) s (fun _ => False) ns := by
  obtain ⟨ns, released⟩ := s.releaseKey_announces i quiet
  exact ⟨ns, State.posted_same released.posted rfl rfl, released.told, released.kept, released.kinds⟩

theorem State.stopRear_announces (s : State) (i : Seat) : ∃ ns, (s.stopRear i).Announces loud s (· = .row i) ns := by
  refine ⟨_, State.announces_one (rest := []) ?_ (fun n hn => by cases hn) (fun m hm => ?_)⟩
  · rw [List.append_nil]
    exact s.stopRear_posts i
  · obtain ⟨r, -, -, cmp⟩ := s.stopRear_cmp i
    cases m with
    | feed f =>
      show ((s.stopRear i).fdp.port f).lock = _
      rw [State.stopRear_fdp]
      rfl
    | front =>
      show (s.stopRear i).cmp.front.effective = _ ∧ (s.stopRear i).cmp.front.cause = _
      rw [cmp]
      exact ⟨rfl, rfl⟩
    | link j =>
      show ((s.stopRear i).rsl.get j).state = _ ∧ ((s.stopRear i).rsl.get j).reason = _
      rw [State.stopRear_rsl]
      exact ⟨rfl, rfl⟩
    | row j =>
      have hj : j ≠ i := fun he => hm (by rw [he])
      show ((s.stopRear i).cmp.rear.get j).effective = _ ∧ ((s.stopRear i).cmp.rear.get j).cause = _
      rw [cmp, Two.get_set_other _ hj]
      exact ⟨rfl, rfl⟩

theorem State.takeAmbient_announces {s : State} {i : Seat} (h : (s.link i).state ≠ .streaming) :
    ∃ ns, (s.takeAmbient i none).Announces loud s (fun _ => False) ns :=
  ⟨[], State.announces_aside (State.posted_nil (by simp) (by simp)) (fun n hn => by cases hn)
    (State.sameFor_all (by simp) (State.takeAmbient_deaf h none) (by simp [State.sourceView, State.rvcOff, State.speedFresh]))⟩

/-- R75: what a fall-back of a link that is not driven announces: the row that stops. -/
theorem State.fellBack_announces {s : State} {i : Seat} (h : (s.link i).state ≠ .streaming) (before : Link) (quiet : Bool) :
    ∃ ns, (s.fellBack i before quiet).Announces (!quiet) s (fun m => m = .row i ∧ before.state = .streaming) ns := by
  let a := if before.ambient.isSome then s.takeAmbient i none else s
  let b := if before.state = .streaming then (a.stopRear i).screenLost i quiet else a
  have first : ∃ ns, a.Announces (!quiet) s (fun _ => False) ns := by
    by_cases hb : before.ambient.isSome = true
    · have he : a = s.takeAmbient i none := if_pos hb
      rw [he]
      exact State.takeAmbient_announces h
    · have he : a = s := if_neg hb
      rw [he]
      exact ⟨[], State.Announces.refl s⟩
  have second : ∃ ns, b.Announces (!quiet) a (fun m => m = .row i ∧ before.state = .streaming) ns := by
    by_cases hb : before.state = .streaming
    · have he : b = (a.stopRear i).screenLost i quiet := if_pos hb
      obtain ⟨ns, stops⟩ := a.stopRear_announces (loud := !quiet) i
      obtain ⟨ms, closes⟩ := (a.stopRear i).closeMenu_announces i (if (a.stopRear i).inRun then .screenLost else .standby) quiet
      rw [he]
      exact ⟨_, (closes.trans stops (fun _ _ hf => hf)).mono (fun m hm => ⟨hm.resolve_right id, hb⟩)⟩
    · have he : b = a := if_neg hb
      rw [he]
      exact ⟨[], (State.Announces.refl a).mono (fun m hm => hm.elim)⟩
  obtain ⟨ns1, h1⟩ := first
  obtain ⟨ns2, h2⟩ := second
  obtain ⟨ns3, h3⟩ := b.linkFellBack_announces i quiet
  exact ⟨_, ((h3.trans (h2.trans h1 (fun _ hf => hf.elim)) (fun _ _ hf => hf)).mono (fun m hm => (hm.resolve_right id).resolve_left id))⟩

/-- R75, R91: what a link that is detached announces: its own state, and the row that stops. -/
theorem State.detach_announces (s : State) (i : Seat) (reason : LinkReason) (quiet : Bool) :
    ∃ ns, (s.detach i reason quiet).Announces (!quiet) s (fun m => m = .link i ∨ m = .row i) ns := by
  by_cases hd : (s.link i).state = .detached
  · have he : s.detach i reason quiet = s := if_pos hd
    rw [he]
    exact ⟨[], (State.Announces.refl s).mono (fun m hm => hm.elim)⟩
  · let l := (s.link i).detached reason
    let x := (s.setLink i l).postLink i
    have he : s.detach i reason quiet = x.fellBack i (s.link i) quiet := if_neg hd
    have link : x.link i = l := State.link_setLink_same _ _ _
    have told : x.told s (.link i) = [(seatNo i, .link .detached reason)] := by
      show x.linkTold s i = _
      unfold State.linkTold
      rw [link]
      exact if_neg (fun hs => hd hs.symm)
    have exits : x.Announces (!quiet) s (· = .link i) (x.told s (.link i) ++ []) := by
      refine State.announces_one ?_ (fun n hn => by cases hn) (fun m hm => ?_)
      · rw [told]
        exact ⟨rfl, by
          show (s.cli.post _ _ (.link ((s.setLink i l).link i).state ((s.setLink i l).link i).reason)) = _
          rw [State.link_setLink_same]
          rfl⟩
      · cases m with
        | feed f => exact rfl
        | front => exact ⟨rfl, rfl⟩
        | row j => exact ⟨rfl, rfl⟩
        | link j =>
          have hj : j ≠ i := fun he => hm (by rw [he])
          have other : x.link j = s.link j := State.link_setLink_other _ hj l
          exact ⟨congrArg Link.state other, congrArg Link.reason other⟩
    obtain ⟨ns, falls⟩ := State.fellBack_announces (s := x) (i := i) (by rw [link]; exact fun h => by cases h) (s.link i) quiet
    rw [he]
    exact ⟨_, (falls.trans exits (fun m hm hr => by rw [hm] at hr; cases hr.1)).mono (fun m hm => hm.imp_right And.left)⟩

theorem State.endAll_posts (s : State) (l : List Chime) : (s.endAll l).postedOnly s chimeOnly := by
  induction l generalizing s with
  | nil => exact State.postedOnly_nil _ rfl rfl
  | cons ch rest ih => exact State.postedOnly_trans (s.endChime_posts ch .cancelled) (ih _)

theorem State.chimesStandby_posts (s : State) : s.chimesStandby.postedOnly s chimeOnly := State.postedOnly_of (State.endAll_posts _ _) rfl rfl

theorem State.chimesStandby_announces (s : State) : ∃ ns, s.chimesStandby.Announces true s (fun _ => False) ns := by
  obtain ⟨ns, told, kinds⟩ := s.chimesStandby_posts
  exact ⟨ns, State.announces_aside told (fun n hn => ⟨rfl, .inr (.inr (.inl (kinds n hn)))⟩)
    (State.sameFor_all (by simp) (by simp [State.link]) (by simp [State.sourceView, State.rvcOff, State.speedFresh]))⟩

theorem State.compositorStandby_announces (s : State) : ∃ ns, s.compositorStandby.Announces loud s (· = .front) ns := by
  let x : State := { s with cmp := { s.cmp with preview := false } }
  have told := x.frontRouteTakesEffect_posts
  have posted : s.compositorStandby.posted s (s.compositorStandby.told s .front) := ⟨told.1, told.2⟩
  refine ⟨_, State.announces_one (rest := []) (by rw [List.append_nil]; exact posted) (fun n hn => by cases hn) (fun m hm => ?_)⟩
  have rows : s.compositorStandby.cmp.rear = s.cmp.rear := by
    obtain ⟨plane, judged⟩ := (x.setFront x.cmp.front.takePending).judgeFront_eq
    show (x.setFront x.cmp.front.takePending).judgeFront.cmp.rear = _
    rw [judged]
    rfl
  cases m with
  | feed f =>
    show (s.compositorStandby.fdp.port f).lock = _
    rw [State.compositorStandby_fdp]
    rfl
  | front => exact absurd rfl hm
  | link i =>
    show (s.compositorStandby.rsl.get i).state = _ ∧ (s.compositorStandby.rsl.get i).reason = _
    rw [State.compositorStandby_rsl]
    exact ⟨rfl, rfl⟩
  | row i =>
    show (s.compositorStandby.cmp.rear.get i).effective = _ ∧ (s.compositorStandby.cmp.rear.get i).cause = _
    rw [rows]
    exact ⟨rfl, rfl⟩

/-- R22: a port that takes a record tells the change of its lock. -/
theorem State.clearPort_announces (s : State) (f : Feed) (enabled : Bool) (quiet : loud = true ∨ f ≠ .cam) :
    ∃ ns, (s.clearPort f enabled).Announces loud s (· = .feed f) ns := by
  obtain ⟨rest, told, kinds, none'⟩ := s.clearPort_posts f enabled
  refine ⟨_, State.announces_one (m := .feed f) told (fun n hn => ?_) (fun m hm => ?_)⟩
  · rcases quiet with hl | hf
    · exact ⟨hl, .inr (.inr (.inr (kinds n hn)))⟩
    · rw [none' hf] at hn
      cases hn
  · cases m with
    | feed g =>
      have hg : g ≠ f := fun he => hm (by rw [he])
      show ((s.clearPort f enabled).port g).lock = _
      rw [State.clearPort_eq, State.takesPort_port_other _ _ _ hg]
    | front => exact State.sameFor_front (by simp)
    | link i =>
      show ((s.clearPort f enabled).rsl.get i).state = _ ∧ ((s.clearPort f enabled).rsl.get i).reason = _
      simp [State.link]
    | row i => exact State.sameFor_row (by simp) i

end Sys2Proof.Machine
end

section
/-! # Proofs: MODE SET (R7, R8, R91, R114, R135, R163) -/

namespace Sys2Proof.Machine

/-! ## What an entry to STANDBY announces -/

/-- R26: camera power that is no longer wanted goes off, and the CAM port with it. -/
theorem State.judgeCameraPower_announces {s : State} (hw : (!s.rvcOff || s.cmp.preview) = false) :
    ∃ ns, s.judgeCameraPower.Announces true s (· = .feed .cam) ns := by
  rcases s.judgeCameraPower_cases with ⟨-, he⟩ | ⟨hn, -, -⟩ | ⟨-, -, he⟩
  · rw [he]
    exact ⟨[], (State.Announces.refl s).mono (fun m hm => hm.elim)⟩
  · rw [hw] at hn
    cases hn
  · let x : State := { s with fdp := { s.fdp with camPower := false } }
    obtain ⟨ns, clears⟩ := x.clearPort_announces .cam false (loud := true) (.inl rfl)
    have powered : x.Announces true s (fun _ => False) [] := State.announces_aside (State.posted_nil rfl rfl) (fun n hn => by cases hn)
      (fun m => by cases m with
        | feed f => cases f <;> rfl
        | _ => exact ⟨rfl, rfl⟩)
    rw [he]
    exact ⟨_, (clears.trans powered (fun _ hf => hf.elim)).mono (fun m hm => hm.resolve_left id)⟩

/-- The matters of the feed ports but CAM. -/
def Matter.ofPorts (m : Matter) : Prop := m = .feed .uif ∨ m = .feed .ff1 ∨ m = .feed .ff2

theorem State.disableFeeds_announces (s : State) : ∃ ns, s.disableFeeds.Announces true s Matter.ofPorts ns := by
  obtain ⟨a, uif⟩ := s.clearPort_announces .uif false (loud := true) (.inl rfl)
  obtain ⟨b, ff1⟩ := (s.clearPort .uif false).clearPort_announces .ff1 false (loud := true) (.inl rfl)
  obtain ⟨c, ff2⟩ := ((s.clearPort .uif false).clearPort .ff1 false).clearPort_announces .ff2 false (loud := true) (.inl rfl)
  have two := ff1.trans uif (fun m hm hn => by rw [hm] at hn; cases hn)
  have three := ff2.trans two (fun m hm hn => by rw [hn] at hm; rcases hm with h | h <;> cases h)
  exact ⟨_, three.mono (fun m hm => or_assoc.1 hm)⟩

/-- The matters of the links and of the rows they drive. -/
def Matter.ofLinks (m : Matter) : Prop := ∃ i, m = .link i ∨ m = .row i

theorem State.detachBoth_announces (s : State) (reason : LinkReason) (quiet : Bool) :
    ∃ ns, ((s.detach .s1 reason quiet).detach .s2 reason quiet).Announces (!quiet) s Matter.ofLinks ns := by
  obtain ⟨a, first⟩ := s.detach_announces .s1 reason quiet
  obtain ⟨b, second⟩ := (s.detach .s1 reason quiet).detach_announces .s2 reason quiet
  have both := second.trans first (fun m hm hn => by
    rcases hm with rfl | rfl
    · rcases hn with h | h <;> cases h
    · rcases hn with h | h <;> cases h)
  exact ⟨_, both.mono (fun m hm => hm.elim (fun h => ⟨.s1, h⟩) (fun h => ⟨.s2, h⟩))⟩

theorem State.quieted_announces (s : State) : ∃ ns, s.quieted.Announces true (s.setMode .standby) Matter.ofLinks ns := by
  obtain ⟨a, detaches⟩ := (s.setMode .standby).detachBoth_announces .detached false
  generalize hx : ((s.setMode .standby).detach .s1 .detached false).detach .s2 .detached false = x at detaches
  obtain ⟨b, close1⟩ := x.closeMenu_announces .s1 .standby false
  obtain ⟨c, close2⟩ := (x.closeMenu .s1 .standby false).closeMenu_announces .s2 .standby false
  generalize hy : (x.closeMenu .s1 .standby false).closeMenu .s2 .standby false = y at close2
  obtain ⟨d, release1⟩ := y.releaseKey_announces .s1 false
  obtain ⟨e, release2⟩ := (y.releaseKey .s1 false).releaseKey_announces .s2 false
  obtain ⟨f, chimes⟩ := ((y.releaseKey .s1 false).releaseKey .s2 false).chimesStandby_announces
  have menus := (close2.trans close1 (fun _ _ h => h)).trans detaches (fun _ _ h => h.elim id id)
  have keys := (release2.trans release1 (fun _ _ h => h)).trans menus (fun _ _ h => h.elim id id)
  have all := chimes.trans keys (fun _ _ h => h)
  have he : s.quieted = ((y.releaseKey .s1 false).releaseKey .s2 false).chimesStandby := by
    rw [← hy, ← hx]
    rfl
  rw [he]
  exact ⟨_, all.mono (fun m hm => ((hm.resolve_right id).resolve_right (fun h => h.elim id id)).resolve_right (fun h => h.elim id id))⟩

/-! ## What an entry to STANDBY leaves -/

theorem State.detach_link (s : State) (i : Seat) (reason : LinkReason) (quiet : Bool) :
    ((s.detach i reason quiet).link i).state = .detached ∧ ((s.detach i reason quiet).link i).staged = (s.link i).staged
    ∧ ∀ j, j ≠ i → (s.detach i reason quiet).link j = s.link j := by
  by_cases hd : (s.link i).state = .detached
  · rw [show s.detach i reason quiet = s from if_pos hd]
    exact ⟨hd, rfl, fun _ _ => rfl⟩
  · let l := (s.link i).detached reason
    let x := (s.setLink i l).postLink i
    have link : x.link i = l := State.link_setLink_same _ _ _
    have left := State.fellBack_leaves (s := x) (i := i) (by rw [link]; exact fun h => by cases h) (s.link i) quiet
    rw [show s.detach i reason quiet = x.fellBack i (s.link i) quiet from if_neg hd, left.link i, link]
    exact ⟨rfl, rfl, fun j hj => (left.link j).trans (State.link_setLink_other _ hj l)⟩

theorem State.detach_levels (s : State) (i : Seat) (reason : LinkReason) (quiet : Bool) (j : Seat) :
    ((s.detach i reason quiet).seat j).volume = (s.seat j).volume ∧ ((s.detach i reason quiet).seat j).offset = (s.seat j).offset := by
  by_cases hd : (s.link i).state = .detached
  · rw [show s.detach i reason quiet = s from if_pos hd]
    exact ⟨rfl, rfl⟩
  · let l := (s.link i).detached reason
    let x := (s.setLink i l).postLink i
    have link : x.link i = l := State.link_setLink_same _ _ _
    have left := State.fellBack_leaves (s := x) (i := i) (by rw [link]; exact fun h => by cases h) (s.link i) quiet
    rw [show s.detach i reason quiet = x.fellBack i (s.link i) quiet from if_neg hd]
    by_cases hj : j = i
    · rw [hj]
      exact ⟨left.volume, left.offset⟩
    · rw [left.seats j hj]
      exact ⟨rfl, rfl⟩

theorem State.detach_store (s : State) (i : Seat) (reason : LinkReason) (quiet : Bool) : (s.detach i reason quiet).mnu.store = s.mnu.store := by
  by_cases hd : (s.link i).state = .detached
  · rw [show s.detach i reason quiet = s from if_pos hd]
  · let l := (s.link i).detached reason
    let x := (s.setLink i l).postLink i
    have link : x.link i = l := State.link_setLink_same _ _ _
    have left := State.fellBack_leaves (s := x) (i := i) (by rw [link]; exact fun h => by cases h) (s.link i) quiet
    rw [show s.detach i reason quiet = x.fellBack i (s.link i) quiet from if_neg hd]
    exact left.store

/-- R140: both keys are released. -/
theorem State.releaseBoth_seat (s : State) (quiet : Bool) (i : Seat) : let s' := (s.releaseKey .s1 quiet).releaseKey .s2 quiet
    (s'.seat i).held = none ∧ (s'.seat i).volume = (s.seat i).volume ∧ (s'.seat i).offset = (s.seat i).offset := by
  intro s'
  obtain ⟨held1, volume1, offset1, others1⟩ := s.releaseKey_seat .s1 quiet
  obtain ⟨held2, volume2, offset2, others2⟩ := (s.releaseKey .s1 quiet).releaseKey_seat .s2 quiet
  cases i with
  | s1 =>
    rw [others2 .s1 (by decide)]
    exact ⟨held1, volume1, offset1⟩
  | s2 =>
    rw [others1 .s2 (by decide)] at volume2 offset2
    exact ⟨held2, volume2, offset2⟩

/-- R91, R135, R140, R163: the links, the menus, the keys and the chimes of a part that enters STANDBY. -/
structure State.Quieted (s' s : State) : Prop where
  detached : ∀ i, (s'.link i).state = .detached
  staged : ∀ i, (s'.link i).staged = (s.link i).staged
  closed : ∀ i, (s'.ctx i).stack = []
  held : ∀ i, (s'.seat i).held = none
  volume : ∀ i, (s'.seat i).volume = (s.seat i).volume
  offset : ∀ i, (s'.seat i).offset = (s.seat i).offset
  store : s'.mnu.store = s.mnu.store
  root : s'.mnu.root = s.mnu.root
  voices : s'.chu.voice1 = none ∧ s'.chu.voice2 = none ∧ s'.chu.queue = [] ∧ s'.chu.table = s.chu.table

theorem State.quieted_leaves (s : State) : s.quieted.Quieted s := by
  let a := (s.setMode .standby).detach .s1 .detached false
  let b := a.detach .s2 .detached false
  let c := (b.closeMenu .s1 .standby false).closeMenu .s2 .standby false
  let d := (c.releaseKey .s1 false).releaseKey .s2 false
  have he : s.quieted = d.chimesStandby := rfl
  obtain ⟨detached1, staged1, others1⟩ := (s.setMode .standby).detach_link .s1 .detached false
  obtain ⟨detached2, staged2, others2⟩ := a.detach_link .s2 .detached false
  have rsl : s.quieted.rsl = b.rsl := by
    rw [he]
    simp [d, c]
  have link (i : Seat) : s.quieted.link i = b.link i := congrArg (fun r : Two Link => r.get i) rsl
  have mnu : s.quieted.mnu = c.mnu := by
    rw [he]
    simp [d]
  have sct : s.quieted.sct = d.sct := by
    rw [he]
    simp
  have csct : c.sct = b.sct := by simp [c]
  have seat (i : Seat) : s.quieted.seat i = d.seat i := congrArg (fun x : Sct => x.seat.get i) sct
  have cseat (i : Seat) : c.seat i = b.seat i := congrArg (fun x : Sct => x.seat.get i) csct
  have released (i : Seat) := c.releaseBoth_seat false i
  have levels (i : Seat) : (b.seat i).volume = (s.seat i).volume ∧ (b.seat i).offset = (s.seat i).offset :=
    ⟨(a.detach_levels .s2 .detached false i).1.trans ((s.setMode .standby).detach_levels .s1 .detached false i).1,
      (a.detach_levels .s2 .detached false i).2.trans ((s.setMode .standby).detach_levels .s1 .detached false i).2⟩
  refine {
    detached := fun i => ?_
    staged := fun i => ?_
    closed := fun i => ?_
    held := fun i => by rw [seat]; exact (released i).1
    volume := fun i => by rw [seat, (released i).2.1, cseat, (levels i).1]
    offset := fun i => by rw [seat, (released i).2.2, cseat, (levels i).2]
    store := ?_
    root := ?_
    voices := ?_ }
  · rw [link]
    cases i with
    | s1 =>
      rw [others2 .s1 (by decide)]
      exact detached1
    | s2 => exact detached2
  · rw [link]
    cases i with
    | s1 =>
      rw [others2 .s1 (by decide)]
      exact staged1
    | s2 => exact staged2.trans (congrArg Link.staged (others1 .s2 (by decide)))
  · have closes : s.quieted.ctx i = c.ctx i := congrArg (fun m : Mnu => m.ctx.get i) mnu
    rw [closes]
    cases i with
    | s1 => rw [State.closeMenu_ctx_other _ (by decide), State.closeMenu_stack]
    | s2 => rw [State.closeMenu_stack]
  · rw [mnu, State.closeMenu_store, State.closeMenu_store, State.detach_store, State.detach_store]
    rfl
  · rw [mnu, State.closeMenu_root, State.closeMenu_root, State.detach_root, State.detach_root]
    rfl
  · rw [he, State.chimesStandby, State.endAll_chu]
    refine ⟨rfl, rfl, rfl, ?_⟩
    simp [d, c, b, a, State.setMode]

theorem State.quieted_off {s : State} (off : s.rvc.state = .off) : s.quieted.rvc.state = .off := by
  rcases s.quieted_touches.calm.rvc with h | h
  · rw [h]
    exact off
  · rw [h]
    exact off

/-- R114: preview, the front route and the front frames at an entry to STANDBY. -/
theorem State.compositorStandby_front (s : State) : s.compositorStandby.cmp.preview = false ∧ s.compositorStandby.cmp.front.nextFrame = none
    ∧ s.compositorStandby.cmp.front.frame = none ∧ s.compositorStandby.cmp.front.pending = none := by
  let x : State := { s with cmp := { s.cmp with preview := false } }
  obtain ⟨plane, judged⟩ := (x.setFront x.cmp.front.takePending).judgeFront_eq
  refine ⟨s.compositorStandby_faces.1, rfl, rfl, ?_⟩
  show (x.setFront x.cmp.front.takePending).judgeFront.cmp.front.pending = none
  rw [judged, Row.takePending_eq]
  rfl

/-- R23, R26: a port that is disabled. -/
theorem State.disableFeeds_port (s : State) {f : Feed} (h : f ≠ .cam) : (s.disableFeeds.port f).enabled = false
    ∧ (s.disableFeeds.port f).lock = .noSignal ∧ (s.disableFeeds.port f).format = (s.port f).format := by
  have ports : s.disableFeeds.fdp = ((s.fdp.setPort .uif { (s.port .uif).cleared with enabled := false }).setPort .ff1
      { (s.port .ff1).cleared with enabled := false }).setPort .ff2 { (s.port .ff2).cleared with enabled := false } := by
    unfold State.disableFeeds State.disablePort
    simp only [State.clearPort_eq, State.takesPort_fdp, State.port]
    rfl
  rw [State.port, ports]
  cases f with
  | cam => exact absurd rfl h
  | _ => exact ⟨rfl, rfl, rfl⟩

theorem State.judgeCameraPower_port (s : State) {f : Feed} (h : f ≠ .cam) : s.judgeCameraPower.port f = s.port f := by
  rcases s.judgeCameraPower_cases with ⟨-, he⟩ | ⟨-, -, he⟩ | ⟨-, -, he⟩ <;> rw [he]
  · cases f with
    | cam => exact absurd rfl h
    | _ => rfl
  · rw [State.disablePort, State.clearPort_eq, State.takesPort_port_other _ _ _ h]
    cases f with
    | cam => exact absurd rfl h
    | _ => rfl

/-- The part that enters STANDBY, before its MODE notice. -/
def State.stoodBy (s : State) : State := s.quieted.compositorStandby.judgeCameraPower.disableFeeds

theorem State.stoodBy_announces {s : State} (off : s.rvc.state = .off) :
    ∃ ns, s.stoodBy.Announces true (s.setMode .standby) (fun _ => True) ns := by
  obtain ⟨a, quiets⟩ := s.quieted_announces
  obtain ⟨b, stops⟩ := s.quieted.compositorStandby_announces (loud := true)
  have want : (!s.quieted.compositorStandby.rvcOff || s.quieted.compositorStandby.cmp.preview) = false := by
    have idle : s.quieted.compositorStandby.rvcOff = true := State.rvcOff_of (by rw [State.compositorStandby_rvc]; exact State.quieted_off off)
    rw [idle, s.quieted.compositorStandby_front.1]
    rfl
  obtain ⟨c, unpowers⟩ := State.judgeCameraPower_announces want
  obtain ⟨d, disables⟩ := s.quieted.compositorStandby.judgeCameraPower.disableFeeds_announces
  have front := stops.trans quiets (fun m hm hn => by
    rw [hn] at hm
    obtain ⟨i, h | h⟩ := hm <;> cases h)
  have power := unpowers.trans front (fun m hm hn => by
    rw [hn] at hm
    rcases hm with ⟨i, h | h⟩ | h <;> cases h)
  have ports := disables.trans power (fun m hm hn => by
    rcases hn with rfl | rfl | rfl
    · rcases hm with (⟨i, h | h⟩ | h) | h <;> cases h
    · rcases hm with (⟨i, h | h⟩ | h) | h <;> cases h
    · rcases hm with (⟨i, h | h⟩ | h) | h <;> cases h)
  exact ⟨_, ports.mono (fun _ _ => trivial)⟩

/-- R7, R26: the feed ports of a part that has entered STANDBY. -/
theorem State.stoodBy_ports {s : State} (off : s.rvc.state = .off) : s.stoodBy.fdp.camPower = false
    ∧ ∀ f, f ≠ .cam → (s.stoodBy.port f).enabled = false ∧ (s.stoodBy.port f).lock = .noSignal ∧ (s.stoodBy.port f).format = (s.port f).format := by
  have fdp : s.quieted.compositorStandby.fdp = s.fdp := (State.compositorStandby_fdp _).trans s.quieted_touches.calm.fdp
  have idle : s.quieted.compositorStandby.rvcOff = true :=
    State.rvcOff_of (by rw [State.compositorStandby_rvc]; exact State.quieted_off off)
  have preview := s.quieted.compositorStandby_front.1
  unfold State.stoodBy
  generalize s.quieted.compositorStandby = x at fdp idle preview
  refine ⟨?_, fun f hf => ?_⟩
  · rw [(State.disableFeeds_fdp _).2.2, State.judgeCameraPower_camPower, idle, preview]
    rfl
  · have disabled := x.judgeCameraPower.disableFeeds_port hf
    have port : x.port f = s.port f := congrArg (fun d => d.port f) fdp
    rw [State.judgeCameraPower_port _ hf, port] at disabled
    exact disabled

/-- R7, R114: the front row of a part that has entered STANDBY. -/
theorem State.stoodBy_front (s : State) : s.stoodBy.cmp.preview = false ∧ s.stoodBy.cmp.front.nextFrame = none
    ∧ s.stoodBy.cmp.front.frame = none ∧ s.stoodBy.cmp.front.pending = none := by
  have stops := s.quieted.compositorStandby_front
  unfold State.stoodBy
  generalize s.quieted.compositorStandby = x at stops
  have one (y : State) (f : Feed) : (y.disablePort f).facing = y.facing := y.takesPort_facing f { (y.port f).cleared with enabled := false }
  have faced : x.judgeCameraPower.disableFeeds.facing = x.facing :=
    (one _ .ff2).trans ((one _ .ff1).trans ((one x.judgeCameraPower .uif).trans x.judgeCameraPower_facing))
  rw [show x.judgeCameraPower.disableFeeds.cmp.front = x.cmp.front from congrArg (·.1) faced,
    show x.judgeCameraPower.disableFeeds.cmp.preview = x.cmp.preview from congrArg (·.2.2.1) faced]
  exact stops

/-- R7: the compositor and the ports leave what the links, the menus, the keys and the chimes hold. -/
theorem State.stoodBy_quiet (s : State) : s.stoodBy.Quieted s := by
  have quiet := s.quieted_leaves
  unfold State.stoodBy
  generalize s.quieted = q at quiet
  have rsl : q.compositorStandby.judgeCameraPower.disableFeeds.rsl = q.rsl := by simp
  have mnu : q.compositorStandby.judgeCameraPower.disableFeeds.mnu = q.mnu := by simp
  have sct : q.compositorStandby.judgeCameraPower.disableFeeds.sct = q.sct := by simp
  have chu : q.compositorStandby.judgeCameraPower.disableFeeds.chu = q.chu := by simp
  generalize q.compositorStandby.judgeCameraPower.disableFeeds = x at rsl mnu sct chu
  have link (i : Seat) : x.link i = q.link i := congrArg (fun r : Two Link => r.get i) rsl
  have seat (i : Seat) : x.seat i = q.seat i := congrArg (fun c : Sct => c.seat.get i) sct
  have ctx (i : Seat) : x.ctx i = q.ctx i := congrArg (fun m : Mnu => m.ctx.get i) mnu
  exact {
    detached := fun i => by rw [link]; exact quiet.detached i
    staged := fun i => by rw [link]; exact quiet.staged i
    closed := fun i => by rw [ctx]; exact quiet.closed i
    held := fun i => by rw [seat]; exact quiet.held i
    volume := fun i => by rw [seat]; exact quiet.volume i
    offset := fun i => by rw [seat]; exact quiet.offset i
    store := by rw [mnu]; exact quiet.store
    root := by rw [mnu]; exact quiet.root
    voices := by rw [chu]; exact quiet.voices }

theorem State.stoodBy_rest (s : State) : s.stoodBy.vin = s.vin ∧ s.stoodBy.cal = s.cal ∧ s.stoodBy.pending = s.pending
    ∧ s.stoodBy.rvc = s.quieted.rvc := by
  simp [State.stoodBy, State.quieted, State.setMode]

/-! ## MODE SET (R8) -/

theorem PartMode.eq_of_code {m : PartMode} (h : m.code = 1) : m = .standby := by
  cases m
  · cases h
  · rfl

end Sys2Proof.Machine

open Sys2Proof Sys2Proof.Machine

/-- Settles O20. -/
theorem modeSetChangesThePartMode : Obligations.ModeSetChangesThePartMode := by
  refine ⟨fun t s v h bad => State.request_onlyReplies h rfl (.inr rfl) (if_pos bad), fun t s v h hv => ?_, fun t s h hm busy => ?_,
    fun t s h hm => ?_, fun t s h hm off => ?_⟩
  · have small : ¬ 1 < v.toNat := by
      rw [hv]
      cases s.cli.mode <;> decide
    exact State.request_onlyReplies h rfl (.inr rfl) ((if_neg small).trans (if_pos hv))
  · refine State.request_onlyReplies h rfl (.inr rfl) ?_
    simp only [ownModeSet, State.rvcOff_not (s := s.atTime t) busy]
    rw [show (s.atTime t).cli.mode = .run from hm]
    rfl
  · let x := s.atTime t
    have enters : ownModeSet [0] x = (x.enterRun .request, ok []) := by
      unfold ownModeSet
      rw [show x.cli.mode = .standby from hm]
      rfl
    have told := x.enterRun_posts .request
    obtain ⟨ports, cam, power⟩ := (x.setMode .run).runEffects_port
    have run : (x.setMode .run).cli.mode = .run := rfl
    refine ⟨_, State.request_leaves h rfl (.inr rfl) enters, by simp [x, State.enterRun, State.postMode, State.setMode], x.enterRun_mode .request,
      by simp [x, State.enterRun, State.postMode, State.setMode], told.2, ports, cam, power, ?_, fun i => ?_, ?_, ?_, ?_, ?_, ?_, ?_, ?_, ?_⟩
    · exact State.runEffects_cmp _
    · exact State.runEffects_link run i
    all_goals simp [x, State.enterRun, State.postMode, State.setMode]
  · let x := s.atTime t
    have idle : x.rvcOff = true := State.rvcOff_of off
    have enters : ownModeSet [1] x = (x.stoodBy.postMode .request, ok []) := by
      unfold ownModeSet
      rw [show x.cli.mode = .run from hm, idle]
      rfl
    obtain ⟨before, announces⟩ := State.stoodBy_announces (s := x) off
    obtain ⟨power, ports⟩ := State.stoodBy_ports (s := x) off
    obtain ⟨preview, nextFrame, frame, pending⟩ := x.stoodBy_front
    obtain ⟨vin, cal, programs, rvc⟩ := x.stoodBy_rest
    have quiet := x.stoodBy_quiet
    have state : x.stoodBy.rvc.state = .off := by
      rw [rvc]
      exact State.quieted_off (s := x) off
    generalize x.stoodBy = y at *
    have mode : y.cli.mode = .standby := by
      obtain ⟨board, overflow, he⟩ := Cli.postAll_keeps ((x.setMode .standby).cli) t before
      rw [show y.cli = _ from announces.posted.2.trans he]
      rfl
    have told : (y.postMode .request).posted (x.setMode .standby) (before ++ [(0, .mode .standby .request)]) := by
      have last : (y.postMode .request).posted y [(0, .mode .standby .request)] := by
        rw [State.postMode, mode]
        exact State.posted_one _ _ _
      exact State.posted_trans announces.posted last
    refine ⟨_, State.request_leaves h rfl (.inr rfl) enters, told.1, ?_, ?_, ⟨before, told.2, ?_, fun f => announces.told (.feed f),
      announces.told .front, fun i => ⟨announces.told (.link i), announces.told (.row i)⟩⟩, ports, power, preview, nextFrame, frame, pending,
      fun i => ⟨quiet.detached i, quiet.staged i, quiet.closed i, quiet.held i, quiet.volume i, quiet.offset i⟩, quiet.voices.1, quiet.voices.2.1,
      quiet.voices.2.2.1, quiet.voices.2.2.2, quiet.store, quiet.root, state, vin, cal, programs⟩
    · rw [State.postMode, State.post_cli_mode]
      exact mode
    · rw [told.2, Cli.postAll_queue]
      rfl
    · refine ofKind_none announces.kinds ?_
      rintro (h | h | h | ⟨-, h⟩) <;> simp at h

end

section
/-! # Proofs: RESTART and the warm restart (R11, R12, R91, R114, R148, R149, R163) -/

namespace Sys2Proof.Machine

/-! ## Chimes (R149, R163) -/

theorem State.startOn_records (s : State) (ch : Chime) (v : Voice) {x : Chime} (h : x ∈ (s.startOn ch v).chu.records) :
    x = ch ∨ x ∈ s.chu.records := by
  obtain ⟨p, gap, hc, he⟩ := s.startOn_voice ch v
  have begun : voiceChimes (some p) = [ch] := by rw [voiceChimes, hc]
  rw [he] at h
  cases v with
  | v1 =>
    simp only [Chu.records, Chu.setVoice, begun, List.mem_append, List.mem_singleton] at h ⊢
    tauto
  | v2 =>
    simp only [Chu.records, Chu.setVoice, begun, List.mem_append, List.mem_singleton] at h ⊢
    tauto

theorem State.fillOnce_records (s : State) {x : Chime} (h : x ∈ s.fillOnce.chu.records) : x ∈ s.chu.records := by
  unfold State.fillOnce at h
  split at h
  · exact h
  · next ch hc =>
    have waiting : ch ∈ s.chu.queue := List.mem_of_find?_eq_some hc
    rcases State.startOn_records _ ch _ h with rfl | left
    · exact List.mem_append_right _ waiting
    · simp only [Chu.records, List.mem_append] at left ⊢
      exact left.imp_right List.mem_of_mem_erase

theorem State.fill_records (s : State) {ch : Chime} (h : ch ∈ s.fill.chu.records) : ch ∈ s.chu.records :=
  s.fillOnce_records (s.fillOnce.fillOnce_records h)

/-- R163: the chimes that are left at a warm restart. -/
theorem State.chimesWarm_records (s : State) {ch : Chime} (h : ch ∈ s.chimesWarm.chu.records) : ch.origin = .reverse ∨ ch.origin = .park := by
  have kept := State.fill_records _ h
  have survives (v : Option Playing) (hc : ch ∈ voiceChimes (if voiceHas v survivesWarm then v else none)) : survivesWarm ch = true := by
    cases v with
    | none => cases hc
    | some p =>
      split at hc
      · next hv =>
        rw [List.mem_singleton.1 hc]
        exact hv
      · cases hc
  have survivor : survivesWarm ch = true := by
    simp only [Chu.records, List.mem_append] at kept
    rcases kept with (h1 | h2) | hq
    · exact survives _ h1
    · exact survives _ h2
    · exact (List.mem_filter.1 hq).2
  simpa only [survivesWarm, Bool.or_eq_true, decide_eq_true_eq] using survivor

/-! ## Seats (R148) -/

/-- R148: a seat's record as a warm restart leaves it, for a record before it and a base step. -/
structure SeatRec.Warmed (r' r : SeatRec) (base : Nat) : Prop where
  held : r'.held = none
  next : r'.next = none
  volume : r'.volume = r.volume
  offset : r'.offset = r.offset
  step : r'.step = base
  lastDir : r'.lastDir = none

theorem State.seatWarm_seat (s : State) (i : Seat) : ((s.seatWarm i).seat i).Warmed (s.seat i) (calBaseStep s.cal.working)
    ∧ ∀ j, j ≠ i → (s.seatWarm i).seat j = s.seat j := by
  obtain ⟨held, volume, offset, others⟩ := s.releaseKey_seat i true
  unfold State.seatWarm
  dsimp only
  rw [State.seat_setSeat_same]
  refine ⟨⟨held, rfl, volume, offset, ?_, rfl⟩, fun j hj => (State.seat_setSeat_other _ hj _).trans (others j hj)⟩
  show calBaseStep (s.releaseKey i true).cal.working = _
  simp

theorem State.recomputeTarget_warmed {s : State} {i : Seat} (h : (s.link i).state ≠ .streaming) {r : SeatRec} {base : Nat}
    (hr : (s.seat i).Warmed r base) : ((s.recomputeTarget i).seat i).Warmed r base ∧ (s.recomputeTarget i).rsl = s.rsl := by
  obtain ⟨next, lastSent, seat⟩ := s.recomputeTarget_seat i
  let x := s.setSeat i { s.seat i with target := (s.seat i).targetNow s.sct.dimmer }
  have none' : ((s.recomputeTarget i).seat i).next = none := by
    unfold State.recomputeTarget
    dsimp only
    split
    · rw [State.handBacklight, State.seat_setSeat_same, Link.takeBacklight_deaf (l := x.link i) h]
      rfl
    · rw [State.seat_setSeat_same]
      exact hr.next
  refine ⟨?_, ?_⟩
  · rw [seat] at none' ⊢
    exact ⟨hr.held, none', hr.volume, hr.offset, hr.step, hr.lastDir⟩
  · unfold State.recomputeTarget
    dsimp only
    split
    · rw [State.handBacklight, Link.takeBacklight_deaf (l := x.link i) h]
      show (x.setLink i (x.link i)).rsl = s.rsl
      rw [State.setLink_link]
      rfl
    · rfl

theorem State.takeAmbient_warmed {s : State} {i : Seat} (h : (s.link i).state ≠ .streaming) {r : SeatRec} {base : Nat}
    (hr : (s.seat i).Warmed r base) : ((s.takeAmbient i none).seat i).Warmed r base := by
  let x := s.setSeat i { s.seat i with ambient := none }
  have record : x.seat i = { s.seat i with ambient := none } := State.seat_setSeat_same _ _ _
  refine (State.recomputeTarget_warmed (s := x) h ?_).1
  rw [record]
  exact ⟨hr.held, hr.next, hr.volume, hr.offset, hr.step, hr.lastDir⟩

theorem State.linkFellBack_warmed {s : State} {i : Seat} {r : SeatRec} {base : Nat} (hr : (s.seat i).Warmed r base) (quiet : Bool) :
    ((s.linkFellBack i quiet).seat i).Warmed r base := by
  have free : s.releaseKey i quiet = s := by
    unfold State.releaseKey
    dsimp only
    rw [hr.held]
  unfold State.linkFellBack
  rw [free]
  dsimp only
  rw [State.seat_setSeat_same]
  exact ⟨hr.held, rfl, hr.volume, hr.offset, hr.step, hr.lastDir⟩

/-! ## Links (R91) -/

/-- R91, R148: a fall-back of a link whose seat and menu have been emptied leaves them so, and the store with them. -/
theorem State.fellBack_warmed {s : State} {i : Seat} (h : (s.link i).state ≠ .streaming) {r : SeatRec} {base : Nat}
    (hr : (s.seat i).Warmed r base) (hc : (s.ctx i).stack = []) (before : Link) (quiet : Bool) :
    ((s.fellBack i before quiet).seat i).Warmed r base ∧ (s.fellBack i before quiet).mnu = s.mnu := by
  let a := if before.ambient.isSome then s.takeAmbient i none else s
  let b := if before.state = .streaming then (a.stopRear i).screenLost i quiet else a
  have fell : s.fellBack i before quiet = b.linkFellBack i quiet := rfl
  have aseat : (a.seat i).Warmed r base := by
    simp only [a]
    split
    · exact State.takeAmbient_warmed h hr
    · exact hr
  have amnu : a.mnu = s.mnu := by
    simp only [a]
    split <;> simp
  have bsct : b.sct = a.sct := by
    simp only [b]
    split <;> simp
  have bmnu : b.mnu = s.mnu := by
    simp only [b]
    split
    · have closed : ((a.stopRear i).ctx i).stack = [] := by
        rw [State.ctx, State.stopRear_mnu, amnu]
        exact hc
      rw [State.screenLost, State.closeMenu_closed closed, State.stopRear_mnu, amnu]
    · exact amnu
  have bseat : b.seat i = a.seat i := congrArg (fun c : Sct => c.seat.get i) bsct
  rw [fell]
  refine ⟨State.linkFellBack_warmed (by rw [bseat]; exact aseat) quiet, ?_⟩
  rw [State.linkFellBack_mnu, bmnu]

/-- R91: the link's record at a warm restart. -/
def Link.warmed (l : Link) (now : Stamp) : Link :=
  let sent := if l.present then l.send msgReset else l
  let reset := { sent with staged := none, settleTimer := some (afterMs now 200) }
  if l.state = .detached then reset else reset.detached .hostRequest

theorem Link.warmed_leaves (l : Link) (now : Stamp) : (l.warmed now).state = .detached ∧ (l.warmed now).staged = none
    ∧ (l.warmed now).settleTimer = some (afterMs now 200) ∧ (l.warmed now).present = l.present
    ∧ (l.warmed now).outbox = l.outbox ++ (if l.present = true then [message 0x04 []] else [])
    ∧ (l.state ≠ .detached → (l.warmed now).reason = .hostRequest) ∧ (l.state = .detached → (l.warmed now).reason = l.reason) := by
  unfold Link.warmed
  have sent : ∃ x : Link, (if l.present then l.send msgReset else l) = x ∧ x.state = l.state ∧ x.reason = l.reason ∧ x.present = l.present
      ∧ x.outbox = l.outbox ++ (if l.present = true then [message 0x04 []] else []) := by
    by_cases hp : l.present = true
    · rw [if_pos hp, if_pos hp]
      exact ⟨_, rfl, rfl, rfl, rfl, rfl⟩
    · rw [if_neg hp, if_neg hp]
      exact ⟨_, rfl, rfl, rfl, rfl, (List.append_nil _).symm⟩
  obtain ⟨x, hx, state, reason, present, outbox⟩ := sent
  rw [hx]
  split
  · next hd => exact ⟨state.trans hd, rfl, rfl, present, outbox, fun hn => absurd hd hn, fun _ => reason⟩
  · next hd => exact ⟨rfl, rfl, rfl, present, outbox, fun _ => rfl, fun hn => absurd hn hd⟩

/-! ## Rows (R114) -/

/-- R114: a rear row that shows its route, with none pending. -/
def Row.settled (r : Row) : Prop := r.pending = none ∧ r.effective = r.routed ∧ r.cause = .route

theorem Row.settled_plain {r : Row} (h : r.settled) : r.takePending.routing.plain = r.routing := by
  obtain ⟨pending, effective, cause⟩ := h
  rw [Row.takePending_eq, pending]
  simp only [Row.routing, Routing.plain, effective, cause, Option.getD_none]

/-- R113: a settled row that stops shows what it showed. -/
theorem State.stopRear_settled {s : State} {i : Seat} (h : (s.rearRow i).settled) : (s.stopRear i).sourceView = s.sourceView := by
  let r : Row := { s.rearRow i with frame := none, nextFrame := none }
  have settled : r.settled := h
  have cleared : (s.setRearRow i r).sourceView = s.sourceView := State.setRearRow_view_same rfl
  have judged : ((s.setRearRow i r).setRearRow i r.takePending).judgeRear i = (s.setRearRow i r).rearRouteTakesEffect i := by
    rw [State.rearRouteTakesEffect, State.rearRow_setRearRow_same]
  have view : ((s.setRearRow i r).rearRouteTakesEffect i).sourceView = s.sourceView := by
    rw [← judged, State.judgeRear_view, State.setRearRow_view, State.rearRow_setRearRow_same, Two.set_set, Row.settled_plain settled, cleared]
    have same : r.routing = s.sourceView.rear.get i := by cases i <;> rfl
    rw [same, Two.set_get]
  exact (State.judgeRearBanner_view _ i).trans view

theorem State.sourceView_of {s' s : State} (cmp : s'.cmp = s.cmp) (rvc : s'.rvc = s.rvc) (vin : s'.vin = s.vin) : s'.sourceView = s.sourceView := by
  simp only [State.sourceView, State.rvcOff, State.speedFresh, cmp, rvc, vin]

theorem State.fellBack_settled {s : State} {i : Seat} (h : (s.rearRow i).settled) (before : Link) (quiet : Bool) :
    (s.fellBack i before quiet).sourceView = s.sourceView := by
  let a := if before.ambient.isSome then s.takeAmbient i none else s
  let b := if before.state = .streaming then (a.stopRear i).screenLost i quiet else a
  have fell : s.fellBack i before quiet = b.linkFellBack i quiet := rfl
  have acmp : a.cmp = s.cmp ∧ a.rvc = s.rvc ∧ a.vin = s.vin := by
    simp only [a]
    split <;> simp
  have row : (a.rearRow i).settled := by
    rw [State.rearRow, acmp.1]
    exact h
  have aview : a.sourceView = s.sourceView := State.sourceView_of acmp.1 acmp.2.1 acmp.2.2
  have bview : b.sourceView = s.sourceView := by
    simp only [b]
    split
    · rw [State.screenLost, State.closeMenu_view, State.stopRear_settled row, aview]
    · exact aview
  rw [fell, ← bview]
  exact State.sourceView_of (by simp) (by simp) (by simp)

/-! ## The warm restart of a link (R91) -/

theorem State.linkWarm_eq (s : State) (i : Seat) : s.linkWarm i = if (s.link i).state = .detached then s.setLink i ((s.link i).warmed s.timebase)
    else ((s.setLink i ((s.link i).warmed s.timebase)).postLink i).fellBack i
      (let sent := if (s.link i).present then (s.link i).send msgReset else s.link i
       { sent with staged := none, settleTimer := some (afterMs s.timebase 200) }) true := by
  unfold State.linkWarm State.detach Link.warmed
  have state : ∀ l : Link, (if l.present then l.send msgReset else l).state = l.state := by
    intro l
    split <;> rfl
  simp only [State.link_setLink_same, state, State.setLink_setLink]
  split
  · rfl
  · rfl

/-- R91, R114, R148: what the warm restart of a link leaves, once its seat, its menu and its row have been restarted. -/
theorem State.linkWarm_leaves {s : State} {i : Seat} {r : SeatRec} {base : Nat} (hr : (s.seat i).Warmed r base) (hc : (s.ctx i).stack = [])
    (settled : (s.rearRow i).settled) :
    (s.linkWarm i).link i = (s.link i).warmed s.timebase ∧ (∀ j, j ≠ i → (s.linkWarm i).link j = s.link j)
    ∧ ((s.linkWarm i).seat i).Warmed r base ∧ (∀ j, j ≠ i → (s.linkWarm i).seat j = s.seat j)
    ∧ (s.linkWarm i).mnu = s.mnu ∧ (∀ j, j ≠ i → (s.linkWarm i).rearRow j = s.rearRow j) ∧ (s.linkWarm i).sourceView = s.sourceView := by
  rw [State.linkWarm_eq]
  generalize hl : (s.link i).warmed s.timebase = l
  have detached : l.state = .detached := by
    rw [← hl]
    exact ((s.link i).warmed_leaves s.timebase).1
  split
  · exact ⟨State.link_setLink_same _ _ _, fun j hj => State.link_setLink_other _ hj _, hr, fun _ _ => rfl, rfl, fun _ _ => rfl, rfl⟩
  · let x := (s.setLink i l).postLink i
    have link : x.link i = l := State.link_setLink_same _ _ _
    have dark : (x.link i).state ≠ .streaming := by
      rw [link, detached]
      exact fun h => by cases h
    generalize (let sent := if (s.link i).present then (s.link i).send msgReset else s.link i
       { sent with staged := none, settleTimer := some (afterMs s.timebase 200) } : Link) = before
    have left := State.fellBack_leaves dark before true
    obtain ⟨seat, mnu⟩ := State.fellBack_warmed (s := x) dark hr hc before true
    exact ⟨(left.link i).trans link, fun j hj => (left.link j).trans (State.link_setLink_other _ hj l), seat, left.seats, mnu, left.rows,
      State.fellBack_settled (s := x) settled before true⟩

/-- R75, R91: the warm restart of a link announces its own state alone, when its row shows what it showed. -/
theorem State.linkWarm_announces {s : State} {i : Seat} (view : (s.linkWarm i).sourceView = s.sourceView) :
    ∃ ns, (s.linkWarm i).Announces false s (· = .link i) ns := by
  let sent := if (s.link i).present then (s.link i).send msgReset else s.link i
  let x := s.setLink i { sent with staged := none, settleTimer := some (afterMs s.timebase 200) }
  have kept : sent.state = (s.link i).state ∧ sent.reason = (s.link i).reason := by
    simp only [sent]
    split
    · exact ⟨rfl, rfl⟩
    · exact ⟨rfl, rfl⟩
  have began : x.Announces false s (fun _ => False) [] := by
    refine State.announces_aside (State.posted_nil rfl rfl) (fun n hn => by cases hn) (fun m => ?_)
    cases m with
    | feed f => exact rfl
    | front => exact ⟨rfl, rfl⟩
    | row j => exact ⟨rfl, rfl⟩
    | link j =>
      by_cases hj : j = i
      · rw [hj]
        have link : x.link i = _ := State.link_setLink_same _ _ _
        exact ⟨(congrArg Link.state link).trans kept.1, (congrArg Link.reason link).trans kept.2⟩
      · have link : x.link j = s.link j := State.link_setLink_other _ hj _
        exact ⟨congrArg Link.state link, congrArg Link.reason link⟩
  obtain ⟨ns, detaches⟩ := x.detach_announces i .hostRequest true
  have all : (s.linkWarm i).Announces false s (fun m => False ∨ (m = .link i ∨ m = .row i)) ([] ++ ns) := detaches.trans began (fun _ hf => hf.elim)
  refine ⟨_, all.narrow (fun m hm hn => ?_)⟩
  rcases hm with hm | hm | hm
  · exact hm.elim
  · exact absurd hm hn
  · rw [hm]
    exact State.sameFor_row view i

/-! ## The warm restart of the compositor (R114) -/

theorem State.judgeFront_announces (s : State) : ∃ ns, s.judgeFront.judgeFrontBanner.Announces loud s (· = .front) ns := by
  obtain ⟨plane, judged⟩ := s.judgeFront_eq
  have told := s.judgeFront_posts
  refine ⟨_, State.announces_one (m := .front) (rest := []) ?_ (fun n hn => by cases hn) (fun m hm => ?_)⟩
  · rw [List.append_nil]
    exact ⟨told.1, told.2⟩
  · show s.judgeFront.sameFor s m
    rw [judged]
    cases m with
    | front => exact absurd rfl hm
    | feed f => exact rfl
    | _ => exact ⟨rfl, rfl⟩

theorem State.judgeRear_announces (s : State) (i : Seat) : ∃ ns, ((s.judgeRear i).judgeRearBanner i).Announces loud s (· = .row i) ns := by
  have told := s.judgeRear_posts i
  have view : ((s.judgeRear i).judgeRearBanner i).sourceView = (s.judgeRear i).sourceView := State.judgeRearBanner_view _ _
  have row := State.sameFor_row view i
  have same : ((s.judgeRear i).judgeRearBanner i).told s (.row i) = (s.judgeRear i).told s (.row i) := State.told_keep_after row
  refine ⟨_, State.announces_one (m := .row i) (rest := []) ?_ (fun n hn => by cases hn) (fun m hm => ?_)⟩
  · rw [List.append_nil, same]
    exact ⟨told.1, told.2⟩
  · cases m with
    | feed f =>
      show ((s.judgeRear i).fdp.port f).lock = _
      rw [State.judgeRear_fdp]
      rfl
    | front =>
      refine State.sameFor_trans (State.sameFor_front view) ?_
      rw [State.judgeRear_eq]
      exact ⟨rfl, rfl⟩
    | link j =>
      show ((s.judgeRear i).rsl.get j).state = _ ∧ ((s.judgeRear i).rsl.get j).reason = _
      rw [State.judgeRear_rsl]
      exact ⟨rfl, rfl⟩
    | row j =>
      have hj : j ≠ i := fun he => hm (by rw [he])
      refine State.sameFor_trans (State.sameFor_row view j) ?_
      rw [State.judgeRear_eq]
      show ((s.cmp.rear.set i _).get j).effective = _ ∧ ((s.cmp.rear.set i _).get j).cause = _
      rw [Two.get_set_other _ hj]
      exact ⟨rfl, rfl⟩

/-- R114: the three rows with the routes of the working calibration, before they are judged. -/
def State.rerouted (s : State) : State :=
  ((s.setFront (s.cmp.front.warm (calRoute s.cal.working 1))).setRearRow .s1 ((s.rearRow .s1).warm (calRoute s.cal.working 2))).setRearRow .s2
    ((s.rearRow .s2).warm (calRoute s.cal.working 3))

theorem State.compositorWarm_eq (s : State) : s.compositorWarm
    = ((((s.rerouted.judgeFront.judgeFrontBanner).judgeRear .s1).judgeRearBanner .s1).judgeRear .s2).judgeRearBanner .s2 := rfl

/-- The matters of the compositor. -/
def Matter.ofRows (m : Matter) : Prop := m = .front ∨ ∃ i, m = .row i

theorem State.compositorWarm_announces (s : State) : ∃ ns, s.compositorWarm.Announces false s Matter.ofRows ns := by
  have began : s.rerouted.Announces false s (fun _ => False) [] := by
    refine State.announces_aside (State.posted_nil rfl rfl) (fun n hn => by cases hn) (fun m => ?_)
    cases m with
    | feed f => exact rfl
    | row j => cases j <;> exact ⟨rfl, rfl⟩
    | _ => exact ⟨rfl, rfl⟩
  obtain ⟨a, front⟩ := s.rerouted.judgeFront_announces (loud := false)
  generalize hx : s.rerouted.judgeFront.judgeFrontBanner = x at front
  obtain ⟨b, first⟩ := x.judgeRear_announces (loud := false) .s1
  obtain ⟨c, second⟩ := ((x.judgeRear .s1).judgeRearBanner .s1).judgeRear_announces (loud := false) .s2
  have one := front.trans began (fun _ hf => hf.elim)
  have two := first.trans one (fun m hm hn => by
    rw [hn] at hm
    rcases hm with h | h
    · exact h
    · cases h)
  have three := second.trans two (fun m hm hn => by
    rw [hn] at hm
    rcases hm with (h | h) | h
    · exact h
    · cases h
    · cases h)
  rw [State.compositorWarm_eq, hx]
  refine ⟨_, three.mono (fun m hm => ?_)⟩
  rcases hm with ((h | h) | h) | h
  · exact h.elim
  · exact .inl h
  · exact .inr ⟨.s1, h⟩
  · exact .inr ⟨.s2, h⟩

/-- R99, R106: a rear row without a pending route is settled once it is judged. -/
theorem State.judgeRear_settles {s : State} {i : Seat} (h : (s.rearRow i).pending = none) :
    let s' := (s.judgeRear i).judgeRearBanner i
    (s'.rearRow i).settled ∧ (s'.rearRow i).routed = (s.rearRow i).routed ∧ (∀ j, j ≠ i → s'.rearRow j = s.rearRow j)
      ∧ s'.cmp.front = s.cmp.front ∧ s'.cmp.preview = s.cmp.preview := by
  intro s'
  let r := s.judgedRow i (s.rearRow i)
  obtain ⟨effective, cause, routed, -⟩ := s.judgedRow_routed i (s.rearRow i)
  obtain ⟨-, -, pending⟩ := s.judgedRow_frame i (s.rearRow i)
  have judged : (s.judgeRear i).cmp = { s.cmp with rear := s.cmp.rear.set i r } := by
    rw [State.judgeRear_eq]
  have mine : (s.judgeRear i).rearRow i = r := by
    rw [State.rearRow, judged]
    exact Two.get_set_same _ i _
  obtain ⟨shown, hs⟩ : ∃ shown, s'.cmp = { (s.judgeRear i).cmp with rear := (s.judgeRear i).cmp.rear.set i { (s.judgeRear i).rearRow i with shown := shown } } :=
    ⟨_, rfl⟩
  have cmp : s'.cmp = { s.cmp with rear := s.cmp.rear.set i { r with shown := shown } } := by
    rw [hs, mine, judged]
    simp only [Two.set_set]
  have row : s'.rearRow i = { r with shown := shown } := by
    rw [State.rearRow, cmp]
    exact Two.get_set_same _ i _
  refine ⟨?_, ?_, fun j hj => ?_, by rw [cmp], by rw [cmp]⟩
  · rw [row]
    exact ⟨pending.trans h, effective.trans routed.symm, cause⟩
  · rw [row]
    exact routed
  · rw [State.rearRow, cmp]
    exact Two.get_set_other _ hj _

/-- R114: the rows after a warm restart hold the routes of the working calibration, and the rear rows show them. -/
theorem State.compositorWarm_rows (s : State) : s.compositorWarm.cmp.front.routed = calRoute s.cal.working 1
    ∧ (s.compositorWarm.rearRow .s1).routed = calRoute s.cal.working 2 ∧ (s.compositorWarm.rearRow .s2).routed = calRoute s.cal.working 3
    ∧ (∀ i, (s.compositorWarm.rearRow i).settled) ∧ s.compositorWarm.cmp.preview = s.cmp.preview := by
  obtain ⟨plane, judged⟩ := s.rerouted.judgeFront_eq
  have xrow (i : Seat) : s.rerouted.judgeFront.judgeFrontBanner.rearRow i = s.rerouted.rearRow i := by
    show s.rerouted.judgeFront.cmp.rear.get i = _
    rw [judged]
    rfl
  have xfront : s.rerouted.judgeFront.judgeFrontBanner.cmp.front.routed = calRoute s.cal.working 1
      ∧ s.rerouted.judgeFront.judgeFrontBanner.cmp.preview = s.cmp.preview := by
    show s.rerouted.judgeFront.cmp.front.routed = _ ∧ s.rerouted.judgeFront.cmp.preview = _
    rw [judged]
    exact ⟨rfl, rfl⟩
  rw [State.compositorWarm_eq]
  generalize s.rerouted.judgeFront.judgeFrontBanner = x at xrow xfront
  obtain ⟨settled1, routed1, others1, front1, preview1⟩ := State.judgeRear_settles (s := x) (i := .s1) (by rw [xrow]; rfl)
  generalize (x.judgeRear .s1).judgeRearBanner .s1 = y at settled1 routed1 others1 front1 preview1
  have yrow : y.rearRow .s2 = s.rerouted.rearRow .s2 := (others1 .s2 (by decide)).trans (xrow .s2)
  obtain ⟨settled2, routed2, others2, front2, preview2⟩ := State.judgeRear_settles (s := y) (i := .s2) (by rw [yrow]; rfl)
  have kept := others2 .s1 (by decide)
  refine ⟨by rw [front2, front1]; exact xfront.1, ?_, ?_, fun i => ?_, by rw [preview2, preview1]; exact xfront.2⟩
  · rw [kept, routed1, xrow]
    rfl
  · rw [routed2, yrow]
    rfl
  · cases i with
    | s1 =>
      rw [kept]
      exact settled1
    | s2 => exact settled2

/-! ## The warm restart (R12) -/

/-- R115, R120, R135: the menus at a warm restart. -/
theorem State.menusWarm_leaves (s : State) : s.menusWarm.mnu.store = [] ∧ s.menusWarm.mnu.root = ⟨0, 0⟩ ∧ ∀ i, (s.menusWarm.ctx i).stack = [] := by
  refine ⟨rfl, rfl, fun i => ?_⟩
  show (((s.closeMenu .s1 .request true).closeMenu .s2 .request true).ctx i).stack = []
  cases i with
  | s1 => rw [State.closeMenu_ctx_other _ (by decide), State.closeMenu_stack]
  | s2 => rw [State.closeMenu_stack]

theorem State.menusWarm_announces (s : State) : s.menusWarm.Announces false s (fun _ => False) [] := by
  refine State.announces_aside (State.posted_nil (by simp) s.menusWarm_cli) (fun n hn => by cases hn) (State.sameFor_all (by simp) (by simp [State.link]) s.menusWarm_view)

theorem State.seatsWarm_announces (s : State) : ((s.seatWarm .s1).seatWarm .s2).Announces false s (fun _ => False) [] := by
  refine State.announces_aside (State.posted_nil (by simp) ?_) (fun n hn => by cases hn)
    (State.sameFor_all (by simp) (by simp [State.link]) (State.sourceView_of (by simp) (by simp) (by simp)))
  rw [State.seatWarm_cli, State.seatWarm_cli]

theorem State.feedsWarm_announces (s : State) : ∃ ns, s.feedsWarm.Announces false s Matter.ofPorts ns := by
  obtain ⟨a, uif⟩ := s.clearPort_announces .uif (s.port .uif).enabled (loud := false) (.inr (by decide))
  generalize hx : s.clearPort .uif (s.port .uif).enabled = x at uif
  obtain ⟨b, ff1⟩ := x.clearPort_announces .ff1 (x.port .ff1).enabled (loud := false) (.inr (by decide))
  generalize hy : x.clearPort .ff1 (x.port .ff1).enabled = y at ff1
  obtain ⟨c, ff2⟩ := y.clearPort_announces .ff2 (y.port .ff2).enabled (loud := false) (.inr (by decide))
  have two := ff1.trans uif (fun m hm hn => by rw [hm] at hn; cases hn)
  have three := ff2.trans two (fun m hm hn => by rw [hn] at hm; rcases hm with h | h <;> cases h)
  have he : s.feedsWarm = y.clearPort .ff2 (y.port .ff2).enabled := by
    rw [← hy, ← hx]
    rfl
  rw [he]
  exact ⟨_, three.mono (fun m hm => or_assoc.1 hm)⟩

theorem State.bannerOf_pending (s : State) (f : Feed) (i j : Seat) : ((s.bannerOf f i).rearRow j).pending = (s.rearRow j).pending := by
  unfold State.bannerOf
  split
  · cases i <;> cases j <;> rfl
  · rfl

/-- R22, R106: a change of a lock judges the banner of a rear row, and leaves its pending route. -/
theorem State.takesPort_pendingRoute (s : State) {f : Feed} (hf : f ≠ .cam) (q : Port) (j : Seat) :
    ((s.takesPort f q).rearRow j).pending = (s.rearRow j).pending := by
  unfold State.takesPort
  split
  · rfl
  · unfold State.lockChanged
    dsimp only
    rw [if_neg hf, State.lockToCompositor_eq, if_neg hf, State.bannerOf_pending, State.bannerOf_pending]
    rfl

theorem State.feedsWarm_settled {s : State} {i : Seat} (h : (s.rearRow i).settled) : (s.feedsWarm.rearRow i).settled := by
  have routing (x : State) : (x.rearRow i).routing = x.sourceView.rear.get i := by cases i <;> rfl
  have same : (s.feedsWarm.rearRow i).routing = (s.rearRow i).routing := by rw [routing, routing, State.feedsWarm_view]
  have pending : (s.feedsWarm.rearRow i).pending = (s.rearRow i).pending := by
    unfold State.feedsWarm
    simp only [State.clearPort_eq]
    rw [State.takesPort_pendingRoute _ (by decide), State.takesPort_pendingRoute _ (by decide), State.takesPort_pendingRoute _ (by decide)]
  obtain ⟨hp, he, hc⟩ := h
  have effective : (s.feedsWarm.rearRow i).effective = (s.rearRow i).effective := congrArg Routing.effective same
  have routed : (s.feedsWarm.rearRow i).routed = (s.rearRow i).routed := congrArg Routing.routed same
  have cause : (s.feedsWarm.rearRow i).cause = (s.rearRow i).cause := congrArg Routing.cause same
  exact ⟨pending.trans hp, by rw [effective, routed, he], cause.trans hc⟩

/-- R23: the ports at a warm restart. -/
theorem State.feedsWarm_port (s : State) : (∀ f, f ≠ .cam → (s.feedsWarm.port f).lock = .noSignal ∧ (s.feedsWarm.port f).enabled = (s.port f).enabled
      ∧ (s.feedsWarm.port f).format = (s.port f).format)
    ∧ s.feedsWarm.port .cam = s.port .cam ∧ s.feedsWarm.fdp.camPower = s.fdp.camPower ∧ s.feedsWarm.gle = s.gle := by
  have ports : s.feedsWarm.fdp = ((s.fdp.setPort .uif { (s.port .uif).cleared with enabled := (s.port .uif).enabled }).setPort .ff1
      { (s.port .ff1).cleared with enabled := (s.port .ff1).enabled }).setPort .ff2
      { (s.port .ff2).cleared with enabled := (s.port .ff2).enabled } := by
    simp only [State.feedsWarm, State.clearPort_eq, State.takesPort_fdp, State.port]
    rfl
  refine ⟨fun f hf => ?_, ?_, ?_, ?_⟩
  · rw [State.port, ports]
    cases f with
    | cam => exact absurd rfl hf
    | _ => exact ⟨rfl, rfl, rfl⟩
  · rw [State.port, ports]
    rfl
  · rw [ports]
    rfl
  · unfold State.feedsWarm
    simp only [State.clearPort_eq]
    rw [State.takesPort_gle _ _ _ (by decide), State.takesPort_gle _ _ _ (by decide), State.takesPort_gle _ _ _ (by decide)]

/-- The part in a warm restart, before the links restart. -/
def State.outputsWarm (s : State) : State := (((s.menusWarm.seatWarm .s1).seatWarm .s2).compositorWarm).feedsWarm

theorem State.outputsWarm_announces (s : State) : ∃ ns, s.outputsWarm.Announces false s (fun m => m.ofRows ∨ m.ofPorts) ns := by
  have menus := s.menusWarm_announces
  have seats := s.menusWarm.seatsWarm_announces
  obtain ⟨a, rows⟩ := ((s.menusWarm.seatWarm .s1).seatWarm .s2).compositorWarm_announces
  obtain ⟨b, ports⟩ := ((s.menusWarm.seatWarm .s1).seatWarm .s2).compositorWarm.feedsWarm_announces
  have quiet := seats.trans menus (fun _ hf => hf.elim)
  have shown := rows.trans quiet (fun _ hf => hf.elim (fun h => h.elim) (fun h => h.elim))
  have all := ports.trans shown (fun m hm hn => by
    rcases hm with hm | hm
    · exact hm.elim id id
    · rcases hm with rfl | ⟨i, rfl⟩
      · rcases hn with h | h | h <;> cases h
      · rcases hn with h | h | h <;> cases h)
  exact ⟨_, all.mono (fun m hm => hm.imp_left (fun h => h.elim (fun hf => (hf.elim id id).elim) id))⟩

/-- R91, R114, R115, R148: what the links find at a warm restart. -/
structure State.ReadyToDetach (s' s : State) : Prop where
  seats : ∀ i, (s'.seat i).Warmed (s.seat i) (calBaseStep s.cal.working)
  menus : ∀ i, (s'.ctx i).stack = []
  rows : ∀ i, (s'.rearRow i).settled

theorem State.outputsWarm_ready (s : State) : s.outputsWarm.ReadyToDetach s := by
  obtain ⟨-, -, closed⟩ := s.menusWarm_leaves
  have sct : s.outputsWarm.sct = ((s.menusWarm.seatWarm .s1).seatWarm .s2).sct := by simp [State.outputsWarm]
  have mnu : s.outputsWarm.mnu = s.menusWarm.mnu := by simp [State.outputsWarm]
  have same (i : Seat) : s.menusWarm.seat i = s.seat i := congrArg (fun c : Sct => c.seat.get i) s.menusWarm_sct
  have cal : s.menusWarm.cal = s.cal := s.menusWarm_cal
  obtain ⟨warm1, others1⟩ := s.menusWarm.seatWarm_seat .s1
  obtain ⟨warm2, others2⟩ := (s.menusWarm.seatWarm .s1).seatWarm_seat .s2
  refine ⟨fun i => ?_, fun i => ?_, fun i => ?_⟩
  · rw [show s.outputsWarm.seat i = ((s.menusWarm.seatWarm .s1).seatWarm .s2).seat i from congrArg (fun c : Sct => c.seat.get i) sct, ← same i, ← cal]
    cases i with
    | s1 =>
      rw [others2 .s1 (by decide)]
      exact warm1
    | s2 =>
      rw [others1 .s2 (by decide), State.seatWarm_cal] at warm2
      exact warm2
  · rw [show s.outputsWarm.ctx i = s.menusWarm.ctx i from congrArg (fun m : Mnu => m.ctx.get i) mnu]
    exact closed i
  · exact State.feedsWarm_settled ((State.compositorWarm_rows _).2.2.2.1 i)

/-- R114: what the outputs and the ports hold in a warm restart. -/
theorem State.outputsWarm_leaves (s : State) : s.outputsWarm.mnu.store = [] ∧ s.outputsWarm.mnu.root = ⟨0, 0⟩ ∧ s.outputsWarm.rsl = s.rsl
    ∧ s.outputsWarm.chu = s.chu ∧ s.outputsWarm.vin = s.vin ∧ s.outputsWarm.rvc = s.rvc ∧ s.outputsWarm.gle = s.gle ∧ s.outputsWarm.cal = s.cal
    ∧ s.outputsWarm.pending = s.pending := by
  have mnu : s.outputsWarm.mnu = s.menusWarm.mnu := by simp [State.outputsWarm]
  have gle : s.outputsWarm.gle = s.gle := by
    rw [State.outputsWarm, (State.feedsWarm_port _).2.2.2]
    simp
  rw [mnu, gle]
  exact ⟨rfl, rfl, by simp [State.outputsWarm], by simp [State.outputsWarm], by simp [State.outputsWarm], by simp [State.outputsWarm], rfl,
    by simp [State.outputsWarm], by simp [State.outputsWarm]⟩

/-- R23, R114: the ports and the routes in a warm restart. -/
theorem State.outputsWarm_shows (s : State) :
    ((∀ f, f ≠ .cam → (s.outputsWarm.port f).lock = .noSignal ∧ (s.outputsWarm.port f).enabled = (s.port f).enabled
        ∧ (s.outputsWarm.port f).format = (s.port f).format)
      ∧ s.outputsWarm.port .cam = s.port .cam ∧ s.outputsWarm.fdp.camPower = s.fdp.camPower)
    ∧ s.outputsWarm.sourceView.front.routed = calRoute s.cal.working 1 ∧ (s.outputsWarm.sourceView.rear.get .s1).routed = calRoute s.cal.working 2
    ∧ (s.outputsWarm.sourceView.rear.get .s2).routed = calRoute s.cal.working 3 ∧ s.outputsWarm.sourceView.preview = s.cmp.preview := by
  have fdp : ((s.menusWarm.seatWarm .s1).seatWarm .s2).compositorWarm.fdp = s.fdp := by simp
  have cal : ((s.menusWarm.seatWarm .s1).seatWarm .s2).cal = s.cal := by simp
  have preview : ((s.menusWarm.seatWarm .s1).seatWarm .s2).cmp.preview = s.cmp.preview := by
    rw [State.seatWarm_cmp, State.seatWarm_cmp]
    exact congrArg SourceView.preview s.menusWarm_view
  unfold State.outputsWarm
  generalize (s.menusWarm.seatWarm .s1).seatWarm .s2 = x at *
  obtain ⟨ports, cam, power, -⟩ := x.compositorWarm.feedsWarm_port
  obtain ⟨front, first, second, -, kept⟩ := x.compositorWarm_rows
  rw [State.feedsWarm_view]
  generalize x.compositorWarm = y at *
  have port (f : Feed) : y.port f = s.port f := congrArg (fun d => d.port f) fdp
  rw [cal] at front first second
  refine ⟨⟨fun f hf => ?_, cam.trans (port .cam), power.trans (congrArg Fdp.camPower fdp)⟩, front, first, second, kept.trans preview⟩
  rw [← port f]
  exact ports f hf

/-! ## Links, targets and chimes of a warm restart -/

/-- The two links of a part in a warm restart, and the targets behind them. -/
def State.linksWarm (x : State) : State := (((x.linkWarm .s1).linkWarm .s2).recomputeTarget .s1).recomputeTarget .s2

/-- R91, R148: what the links of a part in a warm restart leave. -/
theorem State.linksWarm_leaves {x s : State} (ready : x.ReadyToDetach s) :
    (∀ i, x.linksWarm.link i = (x.link i).warmed x.timebase)
    ∧ (∀ i, (x.linksWarm.seat i).Warmed (s.seat i) (calBaseStep s.cal.working)) ∧ x.linksWarm.mnu = x.mnu
    ∧ x.linksWarm.sourceView = x.sourceView
    ∧ ∃ ns, x.linksWarm.Announces false x (fun m => ∃ i, m = .link i) ns := by
  unfold State.linksWarm
  obtain ⟨link1, others1, seat1, seats1, mnu1, rows1, view1⟩ := State.linkWarm_leaves (ready.seats .s1) (ready.menus .s1) (ready.rows .s1)
  obtain ⟨a, told1⟩ := State.linkWarm_announces view1
  have clock : (x.linkWarm .s1).timebase = x.timebase := by simp
  generalize x.linkWarm .s1 = y at *
  have second : (y.seat .s2).Warmed (s.seat .s2) (calBaseStep s.cal.working) := by
    rw [seats1 .s2 (by decide)]
    exact ready.seats .s2
  have closed : (y.ctx .s2).stack = [] := by
    rw [State.ctx, mnu1]
    exact ready.menus .s2
  have settled : (y.rearRow .s2).settled := by
    rw [rows1 .s2 (by decide)]
    exact ready.rows .s2
  obtain ⟨link2, others2, seat2, seats2, mnu2, -, view2⟩ := State.linkWarm_leaves second closed settled
  obtain ⟨b, told2⟩ := State.linkWarm_announces view2
  have both := told2.trans told1 (fun m hm hn => by rw [hm] at hn; cases hn)
  have links (i : Seat) : (y.linkWarm .s2).link i = (x.link i).warmed x.timebase := by
    cases i with
    | s1 => exact (others2 .s1 (by decide)).trans link1
    | s2 => rw [link2, others1 .s2 (by decide), clock]
  have seats (i : Seat) : ((y.linkWarm .s2).seat i).Warmed (s.seat i) (calBaseStep s.cal.working) := by
    cases i with
    | s1 =>
      rw [seats2 .s1 (by decide)]
      exact seat1
    | s2 => exact seat2
  have view : (y.linkWarm .s2).sourceView = x.sourceView := view2.trans view1
  have mnu : (y.linkWarm .s2).mnu = x.mnu := mnu2.trans mnu1
  generalize y.linkWarm .s2 = z at *
  have dark (i : Seat) : (z.link i).state ≠ .streaming := by
    rw [links i, ((x.link i).warmed_leaves x.timebase).1]
    exact fun h => by cases h
  obtain ⟨target1, rsl1⟩ := State.recomputeTarget_warmed (dark .s1) (seats .s1)
  have kept1 (i : Seat) : (z.recomputeTarget .s1).link i = z.link i := congrArg (fun r : Two Link => r.get i) rsl1
  have next2 : ((z.recomputeTarget .s1).seat .s2).Warmed (s.seat .s2) (calBaseStep s.cal.working) := by
    rw [(z.recomputeTarget_other (i := .s1) (j := .s2) (by decide)).1]
    exact seats .s2
  obtain ⟨target2, rsl2⟩ := State.recomputeTarget_warmed (i := .s2) (by rw [kept1]; exact dark .s2) next2
  have kept2 (i : Seat) : ((z.recomputeTarget .s1).recomputeTarget .s2).link i = z.link i :=
    (congrArg (fun r : Two Link => r.get i) rsl2).trans (kept1 i)
  have still : ((z.recomputeTarget .s1).recomputeTarget .s2).sourceView = z.sourceView := State.sourceView_of (by simp) (by simp) (by simp)
  have aside : ((z.recomputeTarget .s1).recomputeTarget .s2).Announces false z (fun _ => False) [] :=
    State.announces_aside (State.posted_nil (by simp) (by simp)) (fun n hn => by cases hn) (State.sameFor_all (by simp) kept2 still)
  refine ⟨fun i => (kept2 i).trans (links i), fun i => ?_, by simp [mnu], still.trans view,
    _, (aside.trans both (fun _ _ hf => hf)).mono (fun m hm => ?_)⟩
  · cases i with
    | s1 =>
      rw [((z.recomputeTarget .s1).recomputeTarget_other (i := .s2) (j := .s1) (by decide)).1]
      exact target1
    | s2 => exact target2
  · rcases hm with (h | h) | h
    · exact ⟨.s1, h⟩
    · exact ⟨.s2, h⟩
    · exact h.elim

theorem State.linksWarm_rest (x : State) : x.linksWarm.timebase = x.timebase ∧ x.linksWarm.fdp = x.fdp ∧ x.linksWarm.vin = x.vin ∧ x.linksWarm.rvc = x.rvc
    ∧ x.linksWarm.gle = x.gle ∧ x.linksWarm.cal = x.cal ∧ x.linksWarm.pending = x.pending := by
  simp [State.linksWarm]

/-! ## RESTART (R11) -/

theorem State.warmRestart_eq (s : State) :
    s.warmRestart = ({ s with cli := s.cli.warm } : State).outputsWarm.linksWarm.chimesWarm.post 0 (.start .warm) := rfl

theorem State.replySent_restart {s : State} {q : Request} {rest : List Request} (h : s.cli.queue = q :: rest)
    (hr : s.cli.isRestartReply q = true) : s.replySent = ({ s with cli := { s.cli with queue := rest } } : State).warmRestart := by
  simp only [State.replySent, h, hr, if_true]

/-- R12, R13: what a warm restart announces, and what it leaves. -/
structure State.WarmOf (s1 s : State) (before : List (Nat × NoticeBody)) : Prop where
  posted : s1.posted { s with cli := s.cli.warm } (before ++ [(0, .start .warm)])
  told : ∀ m : Matter, ofMatter m.kind m.source before = s1.told s m
  kinds : ∀ n ∈ before, n.2.kind = .link ∨ n.2.kind = .feed ∨ n.2.kind = .route
  link : ∀ i, s1.link i = (s.link i).warmed s.timebase
  seat : ∀ i, (s1.seat i).Warmed (s.seat i) (calBaseStep s.cal.working)
  menu : ∀ i, (s1.ctx i).stack = []
  store : s1.mnu.store = []
  root : s1.mnu.root = ⟨0, 0⟩
  routes : s1.cmp.front.routed = calRoute s.cal.working 1 ∧ (s1.rearRow .s1).routed = calRoute s.cal.working 2
    ∧ (s1.rearRow .s2).routed = calRoute s.cal.working 3
  preview : s1.cmp.preview = s.cmp.preview
  port : ∀ f, f ≠ .cam → (s1.port f).lock = .noSignal ∧ (s1.port f).enabled = (s.port f).enabled ∧ (s1.port f).format = (s.port f).format
  cam : s1.port .cam = s.port .cam
  power : s1.fdp.camPower = s.fdp.camPower
  chimes : ∀ ch ∈ s1.chu.records, ch.origin = .reverse ∨ ch.origin = .park
  rest : s1.vin = s.vin ∧ s1.rvc = s.rvc ∧ s1.gle = s.gle ∧ s1.cal = s.cal ∧ s1.pending = s.pending

theorem State.warmRestart_leaves (s : State) : ∃ before, s.warmRestart.WarmOf s before := by
  let w : State := { s with cli := s.cli.warm }
  obtain ⟨a, outputs⟩ := w.outputsWarm_announces
  have ready := w.outputsWarm_ready
  obtain ⟨store, root, rsl, -, vin, rvc, gle, cal, pending⟩ := w.outputsWarm_leaves
  obtain ⟨⟨ports, cam, power⟩, front, first, second, preview⟩ := w.outputsWarm_shows
  have he : s.warmRestart = w.outputsWarm.linksWarm.chimesWarm.post 0 (.start .warm) := rfl
  have clock : w.outputsWarm.timebase = s.timebase := outputs.posted.1
  rw [he]
  generalize w.outputsWarm = x at *
  obtain ⟨links, seats, mnu, view, b, told⟩ := State.linksWarm_leaves ready
  obtain ⟨-, fdp, vin2, rvc2, gle2, cal2, pending2⟩ := x.linksWarm_rest
  generalize x.linksWarm = y at *
  have chimes (ch : Chime) (hc : ch ∈ y.chimesWarm.chu.records) := y.chimesWarm_records hc
  have quiet : y.chimesWarm.Announces false y (fun _ => False) [] :=
    State.announces_aside (State.posted_nil (by simp) (by simp)) (fun n hn => by cases hn)
      (State.sameFor_all (by simp) (by simp [State.link]) (State.sourceView_of (by simp) (by simp) (by simp)))
  have frame : y.chimesWarm.rsl = y.rsl ∧ y.chimesWarm.sct = y.sct ∧ y.chimesWarm.mnu = y.mnu ∧ y.chimesWarm.cmp = y.cmp
      ∧ y.chimesWarm.fdp = y.fdp ∧ y.chimesWarm.vin = y.vin ∧ y.chimesWarm.rvc = y.rvc ∧ y.chimesWarm.gle = y.gle ∧ y.chimesWarm.cal = y.cal
      ∧ y.chimesWarm.pending = y.pending := by simp
  have all := (quiet.trans (told.trans outputs (fun m hm hn => by
    obtain ⟨i, rfl⟩ := hn
    rcases hm with (h | ⟨j, h⟩) | (h | h | h) <;> cases h)) (fun _ _ hf => hf))
  generalize hz : y.chimesWarm = z at *
  obtain ⟨zrsl, zsct, zmnu, zcmp, zfdp, zvin, zrvc, zgle, zcal, zpending⟩ := frame
  have zview : z.sourceView = x.sourceView := (State.sourceView_of zcmp zrvc zvin).trans view
  have link (i : Seat) : z.link i = (s.link i).warmed s.timebase := by
    rw [State.link, zrsl, ← clock]
    refine (links i).trans ?_
    rw [State.link, rsl]
    rfl
  have seat (i : Seat) : z.seat i = y.seat i := congrArg (fun c : Sct => c.seat.get i) zsct
  have menus : z.mnu = x.mnu := zmnu.trans mnu
  have ports' : z.fdp = x.fdp := zfdp.trans fdp
  have port (f : Feed) : z.port f = x.port f := congrArg (fun d => d.port f) ports'
  have rear (i : Seat) : (z.rearRow i).routed = (x.sourceView.rear.get i).routed := by
    rw [← zview]
    cases i <;> rfl
  refine ⟨_, {
    posted := State.posted_trans all.posted (State.posted_one z 0 (.start .warm))
    told := all.told
    kinds := fun n hn => ?_
    link := link
    seat := fun i => by
      show (z.seat i).Warmed _ _
      rw [seat]
      exact seats i
    menu := fun i => by
      show (z.ctx i).stack = []
      rw [State.ctx, menus]
      exact ready.menus i
    store := by
      show z.mnu.store = []
      rw [menus, store]
    root := by
      show z.mnu.root = _
      rw [menus, root]
    routes := ⟨(congrArg (fun v => v.front.routed) zview).trans front, (rear .s1).trans first, (rear .s2).trans second⟩
    preview := (congrArg SourceView.preview zview).trans preview
    port := fun f hf => by
      show (z.port f).lock = _ ∧ (z.port f).enabled = _ ∧ (z.port f).format = _
      rw [port]
      exact ports f hf
    cam := (port .cam).trans cam
    power := (congrArg Fdp.camPower ports').trans power
    chimes := chimes
    rest := ⟨zvin.trans (vin2.trans vin), zrvc.trans (rvc2.trans rvc), zgle.trans (gle2.trans gle), zcal.trans (cal2.trans cal),
      zpending.trans (pending2.trans pending)⟩ }⟩
  rcases all.kinds n hn with h | h | h | ⟨h, -⟩
  · exact .inr (.inl h)
  · exact .inr (.inr h)
  · exact .inl h
  · cases h

end Sys2Proof.Machine

open Sys2Proof Sys2Proof.Machine

/-- Settles O14: the warm restart announces matter by matter (`State.Announces`), and START is posted last. -/
theorem restartLeadsToAWarmRestart : Obligations.RestartLeadsToAWarmRestart := by
  refine ⟨fun t s h => State.request_leaves h rfl (.inr rfl) rfl, fun s h => ?_, fun t f q rest s hp htx due hf hq hw hcode hreply => ?_⟩
  · unfold Cli.nextRequest
    rw [h]
    rfl
  · let x : State := { s.atTime t with cli := { s.cli with tx := none, queue := rest } }
    have restarts : (s.atTime t).frameEnded = x.warmRestart := by
      rw [State.frameEnded_due (s := s.atTime t) htx due, if_pos hf]
      refine State.replySent_restart (q := q) hq ?_
      show (s.cli.warmPending && decide (q.code = 0x03) && decide (q.reply = some (ok []))) = true
      rw [hw, hcode, hreply]
      rfl
    obtain ⟨before, warm⟩ := x.warmRestart_leaves
    generalize x.warmRestart = s1 at restarts warm
    obtain ⟨clock, cli⟩ := warm.posted
    obtain ⟨board, overflow, kept⟩ := Cli.postAll_keeps x.cli.warm t (before ++ [(0, .start .warm)])
    have he : s1.cli = { x.cli.warm with board := board, overflow := overflow } := cli.trans kept
    refine ⟨s1, State.happens_leaves hp restarts, clock, by rw [he]; rfl, by rw [he]; rfl, by rw [he]; rfl, by rw [he]; rfl, ?_,
      ⟨before, cli, warm.kinds, fun f => warm.told (.feed f), warm.told .front, fun i => ⟨warm.told (.link i), warm.told (.row i)⟩⟩,
      fun i => ?_, warm.store, warm.root, fun i => ?_, warm.routes.1, warm.routes.2.1, warm.routes.2.2, warm.preview, warm.port, warm.chimes,
      warm.cam, warm.power, warm.rest⟩
    · rw [he]
      exact ⟨rfl, rfl, rfl, rfl, rfl, rfl⟩
    · obtain ⟨-, -, -, -, outbox, left, stays⟩ := (s.link i).warmed_leaves t
      rw [warm.link i]
      exact ⟨left, stays, outbox⟩
    · obtain ⟨detached, staged, settle, present, -⟩ := (s.link i).warmed_leaves t
      have seat := warm.seat i
      rw [warm.link i]
      exact ⟨warm.menu i, seat.held, seat.next, seat.volume, seat.offset, seat.step, seat.lastDir, detached, staged, settle, present⟩

end

section
/-! # Proofs: a vehicle report (R31, R32, R45, R100) -/

namespace Sys2Proof.Machine

/-! ## The fields of a report (R31) -/

theorem clampInt_ne_iff {lo hi x : Int} : clampInt lo hi x ≠ x ↔ x < lo ∨ hi < x := by
  unfold clampInt
  split
  · omega
  · split <;> omega

/-- R31: the clamped-mask. -/
theorem readReport_clamped (p : List Byte) : (readReport p).clamped
    = (if bitAt p 0 0 ∧ 3000 < u16At p 1 then 1 else 0) + (if bitAt p 0 1 ∧ (i16At p 3 < -7800 ∨ 7800 < i16At p 3) then 2 else 0)
      + (if bitAt p 0 2 ∧ 100 < byteAt p 5 then 4 else 0) + (if bitAt p 0 3 ∧ 5000 < u16At p 6 ∧ u16At p 6 ≠ 65535 then 8 else 0) := by
  have steering : decide (clampInt (-7800) 7800 (i16At p 3) = i16At p 3) = !decide (i16At p 3 < -7800 ∨ 7800 < i16At p 3) := by
    rw [← decide_not]
    exact decide_eq_decide.2 (by rw [← clampInt_ne_iff, not_not])
  simp [readReport, bit, steering, and_assoc]

/-- R31: the present fields, clamped. -/
theorem readReport_fields (p : List Byte) : (readReport p).speed = (if bitAt p 0 0 then some (min (u16At p 1) 3000) else none)
    ∧ (readReport p).steering = (if bitAt p 0 1 then some (if i16At p 3 < -7800 then -7800 else if 7800 < i16At p 3 then 7800 else i16At p 3) else none)
    ∧ (readReport p).dimmer = (if bitAt p 0 2 then some (min (byteAt p 5) 100) else none)
    ∧ (readReport p).obstacle
      = (if bitAt p 0 3 then some (if u16At p 6 = 65535 then none else some (min (u16At p 6) 5000)) else none) := ⟨rfl, rfl, rfl, rfl⟩

/-- R32: the values held after a report. -/
theorem Vin.take_readReport (v : Vin) (p : List Byte) (t : Stamp) : v.take (readReport p) t = { v with
    speed := if bitAt p 0 0 then min (u16At p 1) 3000 else v.speed
    speedWatch := if bitAt p 0 0 then some (afterMs t 500) else v.speedWatch
    steering := if bitAt p 0 1 then (if i16At p 3 < -7800 then -7800 else if 7800 < i16At p 3 then 7800 else i16At p 3) else v.steering
    steeringWatch := if bitAt p 0 1 then some (afterMs t 300) else v.steeringWatch
    dimmer := if bitAt p 0 2 then min (byteAt p 5) 100 else v.dimmer
    obstacle := if bitAt p 0 3 then (if u16At p 6 = 65535 then none else some (min (u16At p 6) 5000)) else v.obstacle
    obstacleWatch := if bitAt p 0 3 then some (afterMs t 400) else v.obstacleWatch } := by
  obtain ⟨speed, steering, dimmer, obstacle⟩ := readReport_fields p
  have value {α : Type} (b : Bool) (x y : α) : (if b then some x else none).getD y = if b then x else y := by cases b <;> rfl
  have present {α : Type} (b : Bool) (x : α) : (if b then some x else none).isSome = b := by cases b <;> rfl
  simp only [Vin.take, speed, steering, dimmer, obstacle, value, present]

/-! ## The film lock and the controller (R45, R100) -/

/-- A change of the controller leaves the film lock. -/
@[simp] theorem State.changeRvc_filmLock (s : State) (c : RvcChange) : (s.changeRvc c).cmp.filmLock = s.cmp.filmLock := by
  have view := congrArg SourceView.filmLock (s.changeRvc_view c)
  rw [SourceView.handed] at view
  split at view <;> exact view

/-- R102: outside OFF the film lock changes nothing of the front row. -/
theorem State.setFilmLock_front_of_reverse {s : State} (hr : s.rvc.state ≠ .off) (effective : s.cmp.front.effective = .cam)
    (cause : s.cmp.front.cause = .reverse) (engaged : Bool) : (s.setFilmLock engaged).cmp.front = s.cmp.front := by
  have decided (lock : Bool) : frontSource s.rvcOff s.cmp.preview lock s.cmp.front.routed = (.cam, .reverse) := by
    simp [frontSource, State.rvcOff, hr]
  unfold State.setFilmLock
  split
  · rfl
  · obtain ⟨plane, judged⟩ := ({ s with cmp := { s.cmp with filmLock := engaged } } : State).judgeFront_eq
    rw [judged]
    show ({ s.cmp.front with
      effective := (frontSource s.rvcOff s.cmp.preview engaged s.cmp.front.routed).1
      cause := (frontSource s.rvcOff s.cmp.preview engaged s.cmp.front.routed).2 } : Row) = s.cmp.front
    rw [decided, ← effective, ← cause]

theorem Rvc.tells_still {r' r : Rvc} {ns : List (Nat × NoticeBody)} (h : r' = r) (hns : ofKind .reverse ns = []) : r'.tells r ns :=
  ⟨fun _ => hns, fun hne => absurd (by rw [h]) hne⟩

/-- What a report leaves once its speed has been handed on: the film lock, and the end of HELD. -/
structure State.takesSpeed (s' s : State) (filmLock : Bool) (exits : Prop) : Prop where
  filmLock : s'.cmp.filmLock = filmLock
  off : exits → s'.rvc.state = .off ∧ s'.rvc.reason = .speedExit ∧ s'.gle.mode = .idle ∧ s'.gle.followUp = false
  stays : ¬ exits → s'.rvc = s.rvc ∧ s'.gle = s.gle ∧ s'.fdp = s.fdp
  told : s.sourceLaw → ∃ ns, s'.posted s ns ∧ s'.rvc.tells s.rvc ns ∧ ofMatter .route 1 ns = s'.cmp.front.routeTold s.cmp.front .fro
  sounds : s'.soundsFrom s

theorem State.takesSpeed_refl {s : State} {exits : Prop} (h : ¬ exits) : s.takesSpeed s s.cmp.filmLock exits where
  filmLock := rfl
  off := fun he => absurd he h
  stays := fun _ => ⟨rfl, rfl, rfl⟩
  told := fun _ => ⟨[], State.posted_nil rfl rfl, Rvc.tells_nil _, (Row.routeTold_self _ _).symm⟩
  sounds := State.soundsFrom_still rfl rfl

/-- R45, R100: a fresh speed judges the film lock, and may end HELD. -/
theorem State.speed_takesSpeed {s : State} (fresh : s.speedFresh = true) : (s.speedToCompositor.freshSpeed).takesSpeed s
    (decide (calLockSpeed s.cal.working ≤ s.vin.speed)) (s.rvc.state = .held ∧ calExitSpeed s.cal.working ≤ s.vin.speed) := by
  have told := s.setFilmLock_posts (decide (calLockSpeed s.cal.working ≤ s.vin.speed))
  have lock := s.setFilmLock_filmLock (decide (calLockSpeed s.cal.working ≤ s.vin.speed))
  rw [show s.speedToCompositor = s.setFilmLock (decide (calLockSpeed s.cal.working ≤ s.vin.speed)) from rfl]
  generalize hy : s.setFilmLock (decide (calLockSpeed s.cal.working ≤ s.vin.speed)) = y at *
  have rvc : y.rvc = s.rvc := by rw [← hy]; simp
  have cal : y.cal = s.cal := by rw [← hy]; simp
  have vin : y.vin = s.vin := by rw [← hy]; simp
  have chu : y.chu = s.chu := by rw [← hy]; simp
  have gle : y.gle = s.gle := by rw [← hy]; simp
  have fdp : y.fdp = s.fdp := by rw [← hy]; simp
  have reached : (y.rvc.state = .held ∧ y.exitSpeedReached = true) ↔ (s.rvc.state = .held ∧ calExitSpeed s.cal.working ≤ s.vin.speed) := by
    rw [State.exitSpeedReached, State.speedFresh, State.image, rvc, cal, vin, show s.vin.speedWatch.isSome = true from fresh]
    simp
  unfold State.freshSpeed
  rw [if_congr reached rfl rfl]
  split
  · next h =>
    have held : y.rvc.state ≠ .off := by rw [rvc, h.1]; decide
    have hne : RvcState.off ≠ y.rvc.state := fun he => held he.symm
    obtain ⟨state, reason, -⟩ := y.changeRvc_record ⟨.off, .speedExit, .none, none, none⟩
    refine ⟨(y.changeRvc_filmLock _).trans lock, fun _ => ⟨state, reason, State.changeRvc_idle held rfl⟩, fun hn => absurd h hn, fun law => ?_,
      State.soundsFrom_before (State.changeRvc_sounds y ⟨.off, .speedExit, .none, none, none⟩ hne (fun he => by cases he)) (by rw [rvc]) (by rw [rvc]) chu cal⟩
    obtain ⟨ns, posted, tells, route, -⟩ := y.changeRvc_tellsAll ⟨.off, .speedExit, .none, none, none⟩ hne
    obtain ⟨effective, cause⟩ := State.front_of_reverse law (by rw [h.1]; decide)
    have front : y.cmp.front = s.cmp.front := by
      rw [← hy]
      exact State.setFilmLock_front_of_reverse (by rw [h.1]; decide) effective cause _
    rw [front, Row.routeTold_self] at told
    exact ⟨ns, State.posted_trans told posted, by rw [← rvc]; exact tells, by rw [← front]; exact route⟩
  · next h =>
    exact ⟨lock, fun he => absurd he h, fun _ => ⟨rvc, gle, fdp⟩,
      fun _ => ⟨_, told, Rvc.tells_still rvc (ofKind_none (routeTold_kinds _ _ _) (by decide)), ofMatter_routeTold _ _ .fro⟩, State.soundsFrom_still rvc chu⟩

/-! ## The dimmer (R145, R147) -/

@[simp] theorem State.recomputeTarget_dimmer (s : State) (i : Seat) : (s.recomputeTarget i).sct.dimmer = s.sct.dimmer := by
  unfold State.recomputeTarget
  dsimp only
  split <;> rfl

/-- R145, R147: the seat's target and link after a new dimmer, from the record and the link before it. -/
def State.dimmedFrom (s' s : State) (d : Nat) (i : Seat) : Prop :=
  let r := s.seat i
  let target := backlightTarget r.policy r.threshold d r.ambient r.offset
  let far := ∀ ref, r.next.or r.lastSent = some ref → 2 ≤ ((target : Int) - (ref : Int)).natAbs
  let answer := (s.link i).takeBacklight target
  (far → s'.link i = answer.1 ∧ s'.seat i = ({ r with target := target } : SeatRec).handed target answer.2)
    ∧ (¬ far → s'.link i = s.link i ∧ s'.seat i = { r with target := target })

theorem State.dimmedFrom_of {s' s0 s : State} {d : Nat} {i : Seat} (h : s'.dimmedFrom s0 d i) (sct : s0.sct = s.sct) (rsl : s0.rsl = s.rsl) :
    s'.dimmedFrom s d i := by
  unfold State.dimmedFrom State.seat State.link at *
  rw [sct, rsl] at h
  exact h

/-- R145: a new dimmer recomputes the target of either seat. -/
theorem State.takeDimmer_dimmed (s : State) (d : Nat) (i : Seat) : (s.takeDimmer d).dimmedFrom s d i := by
  unfold State.dimmedFrom
  intro r target far answer
  let x : State := { s with sct := { s.sct with dimmer := d } }
  have alone (y : State) (hs : y.seat i = s.seat i) (hl : y.link i = s.link i) (hd : y.sct.dimmer = d) :
      (far → (y.recomputeTarget i).link i = answer.1 ∧ (y.recomputeTarget i).seat i = ({ r with target := target } : SeatRec).handed target answer.2)
      ∧ (¬ far → (y.recomputeTarget i).link i = s.link i ∧ (y.recomputeTarget i).seat i = { r with target := target }) := by
    obtain ⟨hands, keeps⟩ := y.recomputeTarget_retargets i
    rw [hs, hl, hd] at hands
    rw [hs, hd] at keeps
    refine ⟨fun h => ?_, fun h => ?_⟩
    · rw [hands h]
      exact ⟨State.link_setLink_same _ _ _, State.seat_setSeat_same _ _ _⟩
    · rw [keeps h]
      exact ⟨hl, State.seat_setSeat_same _ _ _⟩
  cases i with
  | s1 =>
    obtain ⟨seat, link⟩ := (x.recomputeTarget .s1).recomputeTarget_other (i := .s2) (j := .s1) (by decide)
    show (far → ((x.recomputeTarget .s1).recomputeTarget .s2).link .s1 = _ ∧ ((x.recomputeTarget .s1).recomputeTarget .s2).seat .s1 = _)
      ∧ (¬ far → ((x.recomputeTarget .s1).recomputeTarget .s2).link .s1 = _ ∧ ((x.recomputeTarget .s1).recomputeTarget .s2).seat .s1 = _)
    rw [seat, link]
    exact alone x rfl rfl rfl
  | s2 =>
    obtain ⟨seat, link⟩ := x.recomputeTarget_other (i := .s1) (j := .s2) (by decide)
    exact alone (x.recomputeTarget .s1) seat link (by simp [x])

/-! ## What follows the speed (R65, R145, R158) -/

/-- R32: the part after the steering angle, the dimmer and the obstacle distance of a report have been handed on. -/
def State.afterSpeed (y : State) (steers : Bool) (dims : Option Nat) (nears : Bool) : State :=
  let z := if steers then y.trackingTrigger else y
  let w := dims.elim z z.takeDimmer
  if nears then w.judgePark else w

theorem State.deliver_eq (s : State) (r : Report) : s.deliver r
    = (if r.speed.isSome then s.speedToCompositor.freshSpeed else s).afterSpeed r.steering.isSome r.dimmer r.obstacle.isSome := by
  unfold State.deliver
  cases r.dimmer <;> rfl

/-- R65: the engine after a trigger in TRACKING. -/
def State.triggered (y : State) : Gle :=
  if y.gle.mode = .tracking then
    (match y.gle.inFlight with
      | none => { y.gle with inFlight := some y.guideInput }
      | some _ => { y.gle with followUp := true })
  else y.gle

theorem State.guideInput_of {a b : State} (vin : a.vin = b.vin) (cal : a.cal = b.cal) (fdp : a.fdp = b.fdp) :
    a.guideInput = b.guideInput := by
  have image : a.camImage = b.camImage := by simp only [State.camImage, State.image, State.port, cal, fdp]
  unfold State.guideInput State.steeringFresh State.image
  rw [vin, cal, image]

/-- The fields that the rest of a report leaves, and what it posts. -/
theorem State.afterSpeed_leaves (y : State) (steers : Bool) (dims : Option Nat) (nears : Bool) :
    let s' := y.afterSpeed steers dims nears
    (s'.timebase = y.timebase ∧ s'.vin = y.vin ∧ s'.cmp = y.cmp ∧ s'.mnu = y.mnu ∧ s'.cal = y.cal ∧ s'.pending = y.pending ∧ s'.rvc.keeps y.rvc)
    ∧ s'.gle = (if steers then y.triggered else y.gle) ∧ s'.postedOnly y chimeOnly := by
  intro s'
  obtain ⟨z, hz⟩ : ∃ z, z = if steers then y.trackingTrigger else y := ⟨_, rfl⟩
  obtain ⟨w, hw⟩ : ∃ w, w = dims.elim z z.takeDimmer := ⟨_, rfl⟩
  have hs : s' = if nears then w.judgePark else w := by rw [hw, hz]; rfl
  have steered : z = { y with gle := if steers then y.triggered else y.gle } := by
    rw [hz]
    cases steers with
    | false => rfl
    | true => exact y.trackingTrigger_eq
  have dimmed : w.timebase = z.timebase ∧ w.cli = z.cli ∧ w.vin = z.vin ∧ w.rvc = z.rvc ∧ w.gle = z.gle ∧ w.cmp = z.cmp ∧ w.mnu = z.mnu
      ∧ w.cal = z.cal ∧ w.pending = z.pending := by
    rw [hw]
    cases dims <;> simp
  obtain ⟨time, cli, vin, rvc, gle, cmp, mnu, cal, pending⟩ := dimmed
  rw [steered] at time cli vin rvc gle cmp mnu cal pending
  rw [hs]
  cases nears with
  | false => exact ⟨⟨time, vin, cmp, mnu, cal, pending, by rw [if_neg (by decide), rvc]⟩, gle, State.postedOnly_nil _ time cli⟩
  | true =>
    have keeps := w.judgePark_keeps
    rw [rvc] at keeps
    refine ⟨⟨?_, ?_, ?_, ?_, ?_, ?_, keeps⟩, ?_, State.postedOnly_trans (State.postedOnly_nil _ time cli) w.judgePark_posts⟩ <;> simpa

/-- R145, R147: a dimmer that is present recomputes the targets; without one seats and links stay. -/
theorem State.afterSpeed_seats (y : State) (steers : Bool) (dims : Option Nat) (nears : Bool) :
    (∀ d, dims = some d → (y.afterSpeed steers dims nears).sct.dimmer = d ∧ ∀ i, (y.afterSpeed steers dims nears).dimmedFrom y d i)
    ∧ (dims = none → (y.afterSpeed steers dims nears).sct = y.sct ∧ (y.afterSpeed steers dims nears).rsl = y.rsl) := by
  obtain ⟨z, hz⟩ : ∃ z, z = if steers then y.trackingTrigger else y := ⟨_, rfl⟩
  obtain ⟨w, hw⟩ : ∃ w, w = dims.elim z z.takeDimmer := ⟨_, rfl⟩
  have hs : y.afterSpeed steers dims nears = if nears then w.judgePark else w := by rw [hw, hz]; rfl
  have kept : (y.afterSpeed steers dims nears).sct = w.sct ∧ (y.afterSpeed steers dims nears).rsl = w.rsl := by
    rw [hs]
    cases nears <;> simp
  have before : z.sct = y.sct ∧ z.rsl = y.rsl := by
    rw [hz]
    cases steers <;> simp
  refine ⟨fun d hd => ?_, fun hn => ?_⟩
  · subst hd
    have dimmer : (z.takeDimmer d).sct.dimmer = d := by simp [State.takeDimmer]
    refine ⟨by rw [kept.1, hw]; exact dimmer, fun i => ?_⟩
    have h := State.dimmedFrom_of (z.takeDimmer_dimmed d i) before.1 before.2
    unfold State.dimmedFrom State.seat State.link at *
    rw [kept.1, kept.2, hw]
    exact h
  · subst hn
    rw [kept.1, kept.2, hw]
    exact before

/-- R158: the part as the chime unit hears it before the judgement of the park beep. -/
theorem State.afterSpeed_sounds (y : State) (steers : Bool) (dims : Option Nat) (nears : Bool) :
    ∃ m : State, (m.rvc = y.rvc ∧ m.chu = y.chu ∧ m.timebase = y.timebase ∧ m.vin = y.vin ∧ m.cal = y.cal)
      ∧ m.hearsAs (y.afterSpeed steers dims nears) ∧ (nears = true → (y.afterSpeed steers dims nears).parkJudgedFrom m)
      ∧ (nears = false → (y.afterSpeed steers dims nears).chu = m.chu) := by
  obtain ⟨z, hz⟩ : ∃ z, z = if steers then y.trackingTrigger else y := ⟨_, rfl⟩
  obtain ⟨w, hw⟩ : ∃ w, w = dims.elim z z.takeDimmer := ⟨_, rfl⟩
  have hs : y.afterSpeed steers dims nears = if nears then w.judgePark else w := by rw [hw, hz]; rfl
  have before : z.rvc = y.rvc ∧ z.chu = y.chu ∧ z.timebase = y.timebase ∧ z.vin = y.vin ∧ z.cal = y.cal := by
    rw [hz]
    cases steers <;> simp
  have kept : w.rvc = z.rvc ∧ w.chu = z.chu ∧ w.timebase = z.timebase ∧ w.vin = z.vin ∧ w.cal = z.cal := by
    rw [hw]
    cases dims <;> simp
  rw [hs]
  refine ⟨w, by simpa [kept] using before, ?_⟩
  cases nears with
  | false => exact ⟨⟨rfl, rfl, rfl, rfl⟩, (fun h => by cases h), fun _ => rfl⟩
  | true => exact ⟨⟨by simp, by simp, by simp, by simp⟩, fun _ => w.judgePark_parkJudgedFrom, (fun h => by cases h)⟩

end Sys2Proof.Machine

open Sys2Proof Sys2Proof.Machine

/-- Settles O25: what the fresh speed makes of the film lock and the controller (`State.speed_takesSpeed`), then the trigger of the
guide lines, the dimmer's targets and the judgement of the park beep (`State.afterSpeed_leaves`). -/
theorem vehicleReportTakesThePresentFields : Obligations.VehicleReportTakesThePresentFields := by
  intro t s p hask hlen
  let x : State := { s with timebase := t, vin := s.vin.take (readReport p) t }
  have vin : x.vin = _ := s.vin.take_readReport p t
  obtain ⟨speed, steering, dimmer, obstacle⟩ := readReport_fields p
  obtain ⟨y, hy⟩ : ∃ y, y = if bitAt p 0 0 then x.speedToCompositor.freshSpeed else x := ⟨_, rfl⟩
  obtain ⟨s1, hs1⟩ : ∃ s1, s1 = y.afterSpeed (bitAt p 0 1) (if bitAt p 0 2 then some (min (byteAt p 5) 100) else none) (bitAt p 0 3) := ⟨_, rfl⟩
  have given {α : Type} (b : Bool) (v : α) : (if b then some v else none).isSome = b := by cases b <;> rfl
  have delivered : x.deliver (readReport p) = s1 := by
    rw [hs1, hy, State.deliver_eq, speed, steering, dimmer, obstacle, given, given, given]
  have takes : y.takesSpeed x (if bitAt p 0 0 then decide (calLockSpeed s.cal.working ≤ min (u16At p 1) 3000) else s.cmp.filmLock)
      (s.rvc.state = .held ∧ bitAt p 0 0 = true ∧ calExitSpeed s.cal.working ≤ min (u16At p 1) 3000) := by
    rw [hy]
    cases hb : bitAt p 0 0 with
    | false => exact x.takesSpeed_refl (fun h => by cases h.2.1)
    | true =>
      have held : x.vin.speed = min (u16At p 1) 3000 := by rw [vin]; exact if_pos hb
      have fresh : x.speedFresh = true := by rw [State.speedFresh, vin, hb]; rfl
      have h := State.speed_takesSpeed fresh
      rw [held] at h
      simpa using h
  have kept : y.timebase = t ∧ y.vin = x.vin ∧ y.rsl = s.rsl ∧ y.mnu = s.mnu ∧ y.sct = s.sct ∧ y.cal = s.cal ∧ y.pending = s.pending := by
    rw [hy]
    split <;> simp [x]
  have queueAt : y.cli.queue = s.cli.queue := by
    rw [hy]
    split <;> simp [x]
  obtain ⟨time, vin', rsl, mnu, sct, cal, pending⟩ := kept
  obtain ⟨⟨time1, vin1, cmp1, mnu1, cal1, pending1, rvc1⟩, gle1, answers, posted1, chimes⟩ :=
    y.afterSpeed_leaves (bitAt p 0 1) (if bitAt p 0 2 then some (min (byteAt p 5) 100) else none) (bitAt p 0 3)
  obtain ⟨some1, none1⟩ := y.afterSpeed_seats (bitAt p 0 1) (if bitAt p 0 2 then some (min (byteAt p 5) 100) else none) (bitAt p 0 3)
  obtain ⟨m, ⟨mrvc, mchu, mtime, mvin, mcal⟩, hears, park, still⟩ :=
    y.afterSpeed_sounds (bitAt p 0 1) (if bitAt p 0 2 then some (min (byteAt p 5) 100) else none) (bitAt p 0 3)
  rw [← hs1] at *
  have state1 : s1.rvc.state = y.rvc.state ∧ s1.rvc.reason = y.rvc.reason := by rw [rvc1]; exact ⟨rfl, rfl⟩
  refine ⟨s1, ?_, time1.trans time, by rw [posted1.2, Cli.postAll_queue, queueAt], (vin1.trans vin').trans vin, ?_, fun hr hb he => ?_, fun hr => ?_, ⟨fun he => ?_, fun hn => ?_⟩, fun hb => ?_, fun hb => ?_,
    fun law => ?_, ⟨m, hears, ?_, park, still⟩, mnu1.trans mnu, cal1.trans cal, pending1.trans pending⟩
  · rw [← readReport_clamped, ← delivered]
    exact State.request_leaves hask (lengthIs_true hlen) (.inr rfl) rfl
  · rw [cmp1]
    exact takes.filmLock
  · obtain ⟨state, reason, -⟩ := takes.off ⟨hr, hb, he⟩
    rw [state1.1, state1.2]
    exact ⟨state, reason⟩
  · rw [state1.1, state1.2, (takes.stays (fun he => hr he.1)).1]
    exact ⟨rfl, rfl⟩
  · obtain ⟨-, -, mode, follow⟩ := takes.off he
    have rests : y.triggered = y.gle := if_neg (by rw [mode]; decide)
    rw [gle1, rests, ite_self]
    exact ⟨mode, follow⟩
  · have input : y.guideInput = ({ s with vin := s1.vin } : State).guideInput := State.guideInput_of vin1.symm cal (takes.stays hn).2.2
    rw [gle1, State.triggered, input, (takes.stays hn).2.1]
    show (if bitAt p 0 1 = true then (if s.gle.mode = .tracking then _ else s.gle) else s.gle) = _
    by_cases hb : bitAt p 0 1 = true
    · simp only [hb, if_true, true_and]
      rfl
    · simp [hb]
  · obtain ⟨h1, h2⟩ := some1 _ (if_pos hb)
    exact ⟨h1, fun i => State.dimmedFrom_of (h2 i) sct rsl⟩
  · obtain ⟨h1, h2⟩ := none1 (if_neg (by rw [hb]; decide))
    exact ⟨h1.trans sct, h2.trans rsl⟩
  · obtain ⟨ns, posted, tells, route⟩ := takes.told law
    have all := State.posted_trans posted posted1
    refine ⟨ns ++ answers, all.2, ?_, ?_⟩
    · rw [rvc1]
      exact Rvc.tells_within (before := []) tells (fun n hn => by cases hn) (ofKind_none chimes (by decide))
    · rw [ofMatter_append, route, ofMatter_none chimes (by decide), List.append_nil, cmp1]
  · exact State.soundsFrom_of takes.sounds mrvc mchu mtime mvin mcal rfl rfl rfl

end

section
/-! # Proofs: the guide arithmetic, the pending set and its installation (R56 to R72) -/

namespace Sys2Proof.Machine

/-! ## The curvature (R57, R59) -/

theorem roundDiv_shiftBy (a n : Int) (ha : 0 ≤ a) (hn : 0 ≤ n) : roundDiv (600 * a + n) 600 = a + roundDiv n 600 :=
  roundDiv_shift a n 600 (by decide) ha hn

/-- R57: below 4800 the magnitude lies between two entries of the table. -/
theorem GuideInput.magnitude_rounded (i : GuideInput) {a : Nat} (h : a < 4800) (h0 : 0 ≤ i.k (a / 600)) (h1 : i.k (a / 600) ≤ i.k (a / 600 + 1)) :
    isRounded (i.magnitude a - i.k (a / 600)) ((i.k (a / 600 + 1) - i.k (a / 600)) * ((a : Int) - 600 * (a / 600 : Nat))) 600 := by
  have rest : ((a - 600 * (a / 600) : Nat) : Int) = (a : Int) - 600 * (a / 600 : Nat) := by omega
  have positive : 0 ≤ (i.k (a / 600 + 1) - i.k (a / 600)) * ((a : Int) - 600 * (a / 600 : Nat)) := by
    rw [← rest]
    exact mul_nonneg (by omega) (Int.natCast_nonneg _)
  rw [GuideInput.magnitude, if_neg (by omega), rest, roundDiv_shiftBy _ _ h0 positive, add_sub_cancel_left]
  exact roundDiv_isRounded _ _ (by decide)

theorem GuideInput.curvatureK_curves (i : GuideInput) : i.curvedBy i.curvatureK := by
  unfold GuideInput.curvedBy GuideInput.curvatureK
  cases i.angle with
  | none => rfl
  | some a =>
    refine ⟨i.magnitude a.natAbs, fun h => ?_, fun h => ?_, fun h => ?_, fun h => ?_, fun h h0 h1 => i.magnitude_rounded h h0 h1⟩
    · dsimp only
      rw [if_neg (by omega), if_neg (by omega)]
    · dsimp only
      rw [if_neg (by omega), if_pos h]
    · exact if_pos h
    · exact if_pos h

/-! ## The lines, their segments and the crossbars (R58, R61 to R63) -/

theorem GuideInput.points_length (i : GuideInput) (k side : Int) : (i.points k side).length = i.pointCount := by
  simp [GuideInput.points]

theorem GuideInput.points_lineOf (i : GuideInput) (k side : Int) : i.lineOf k side (i.points k side) := by
  refine ⟨i.points_length k side, fun n hn => ⟨lateral k (250 * n), roundDiv_isRounded _ _ (by decide), ?_⟩⟩
  have read : (i.points k side).getD n none = i.point k side n := by
    rw [i.points_length] at hn
    simp [GuideInput.points, hn]
  rw [read]
  exact i.project_projects _ _

/-- R61: the band that holds a distance: the first of the bands in use that reaches it. -/
theorem GuideInput.bandOf_holds (i : GuideInput) {d : Nat} (h0 : 0 < d) (h : d ≤ i.band i.bandCount) :
    1 ≤ i.bandOf d ∧ i.bandOf d ≤ i.bandCount ∧ i.band (i.bandOf d - 1) < d ∧ d ≤ i.band (i.bandOf d) := by
  have used : 0 < i.bandCount := Nat.pos_of_ne_zero (fun hn => by rw [hn] at h; exact absurd h (by simpa [GuideInput.band] using h0.ne'))
  unfold GuideInput.bandOf
  split
  · next n found =>
    obtain ⟨reaches, before⟩ := List.find?_range_eq_some.1 found
    obtain ⟨hlt, before⟩ := before
    have reaches := of_decide_eq_true reaches
    refine ⟨by omega, by simpa using hlt, ?_, reaches⟩
    cases n with
    | zero => simpa [GuideInput.band] using h0
    | succ m => simpa using before m (by omega)
  · next none =>
    have last := List.find?_eq_none.1 none (i.bandCount - 1) (List.mem_range.2 (by omega))
    rw [Nat.sub_add_cancel used] at last
    exact absurd h (by simpa using last)

theorem GuideInput.segments_segmentsOf (i : GuideInput) (points : List (Option Pt)) (h : points.length = i.pointCount) :
    i.segmentsOf points ((List.range (i.pointCount - 1)).map (i.segment points)) := by
  have some1 : i.pointCount = i.band i.bandCount / 250 + 1 := rfl
  refine ⟨by rw [List.length_map, List.length_range]; omega, fun j hj => ?_⟩
  rw [List.length_map, List.length_range] at hj
  have inUse : 250 * (j + 1) ≤ i.band i.bandCount := by omega
  obtain ⟨h1, h2, h3, h4⟩ := i.bandOf_holds (by omega) inUse
  exact ⟨i.segment points j, i.bandOf (250 * (j + 1)), by simp [hj], h1, h2, h3, h4, rfl, judgeEnds_drawn _ _ _ _⟩

/-- R56 to R64. -/
theorem GuideInput.compute_resultOf (i : GuideInput) : i.compute.resultOf i := by
  refine ⟨rfl, i.curvatureK_curves, i.points_lineOf _ _, i.points_lineOf _ _, i.segments_segmentsOf _ (i.points_length _ _),
    i.segments_segmentsOf _ (i.points_length _ _), by simp [GuideInput.compute], fun n hn => ?_⟩
  exact ⟨i.crossbar i.compute.leftPoints i.compute.rightPoints n, by simp [GuideInput.compute, hn], rfl, rfl, judgeEnds_drawn _ _ _ _⟩

/-! ## What is drawn lies in the image (R64) -/

/-- A quotient between two integers is rounded between them. -/
theorem isRounded_between {m n lo hi : Int} {d : Nat} (hd : 0 < d) (h : isRounded m n d) (h1 : d * lo ≤ n) (h2 : n ≤ d * hi) :
    lo ≤ m ∧ m ≤ hi := by
  have pos : (0 : Int) < d := by exact_mod_cast hd
  unfold isRounded at h
  have near : 2 * n - d ≤ 2 * d * m ∧ 2 * d * m ≤ 2 * n + d := by
    split at h <;> omega
  obtain ⟨below, above⟩ := near
  constructor
  · by_contra hc
    have : d * m ≤ d * (lo - 1) := mul_le_mul_of_nonneg_left (by omega) pos.le
    nlinarith
  · by_contra hc
    have : d * (hi + 1) ≤ d * m := mul_le_mul_of_nonneg_left (by omega) pos.le
    nlinarith

/-- A place between two coordinates of the image, by its share of the way, lies in the image. -/
theorem weighted_within {av bv hi : Int} {t d : Nat} (ht : t ≤ d) (ha : 0 ≤ av ∧ av ≤ hi) (hb : 0 ≤ bv ∧ bv ≤ hi) :
    0 ≤ av * d + (bv - av) * t ∧ av * d + (bv - av) * t ≤ d * hi := by
  obtain ⟨ha0, ha1⟩ := ha
  obtain ⟨hb0, hb1⟩ := hb
  obtain ⟨rest, rfl⟩ := Nat.exists_eq_add_of_le ht
  have split : av * ((t + rest : Nat) : Int) + (bv - av) * t = av * rest + bv * t := by push_cast; ring
  have whole : ((t + rest : Nat) : Int) * hi = hi * rest + hi * t := by push_cast; ring
  rw [split, whole]
  exact ⟨by positivity, add_le_add (mul_le_mul_of_nonneg_right ha1 (by positivity)) (mul_le_mul_of_nonneg_right hb1 (by positivity))⟩

/-- On the nearer border the other coordinate has not yet passed its own border `y`. -/
theorem slanted_within {av bv y hi : Int} {t d tv dv : Nat} (hdv : dv = (bv - av).natAbs) (htv : tv = (y - av).natAbs)
    (side : (av ≤ y ∧ y ≤ bv) ∨ (bv ≤ y ∧ y ≤ av)) (nearer : t * dv ≤ tv * d) (ha : 0 ≤ av ∧ av ≤ hi) (hy : 0 ≤ y ∧ y ≤ hi) :
    0 ≤ av * d + (bv - av) * t ∧ av * d + (bv - av) * t ≤ d * hi := by
  have nearer : (t : Int) * dv ≤ tv * d := by exact_mod_cast nearer
  have way : (0 : Int) ≤ (t : Int) * dv := by positivity
  have low : (0 : Int) ≤ av * d := mul_nonneg ha.1 (by positivity)
  have high : av * d ≤ hi * d := mul_le_mul_of_nonneg_right ha.2 (by positivity)
  have yLow : (0 : Int) ≤ y * d := mul_nonneg hy.1 (by positivity)
  have yHigh : y * d ≤ hi * d := mul_le_mul_of_nonneg_right hy.2 (by positivity)
  rcases side with ⟨h1, h2⟩ | ⟨h1, h2⟩
  · have e1 : (dv : Int) = bv - av := by omega
    have e2 : (tv : Int) = y - av := by omega
    rw [e1] at way nearer
    rw [e2] at nearer
    constructor <;> linarith
  · have e1 : (dv : Int) = av - bv := by omega
    have e2 : (tv : Int) = av - y := by omega
    rw [e1] at way nearer
    rw [e2] at nearer
    constructor <;> linarith

/-- The border that an outside coordinate violates. -/
def borderOf (b : Int) (size : Nat) : Int := if b < 0 then 0 else (size : Int) - 1

/-- R64: the crossing with the border that one coordinate violates, when the other stays inside or reaches its own border no sooner. -/
theorem crossing_within {au av bu bv p q : Int} {w h : Nat} (hu : 0 ≤ au ∧ au < w) (hv : 0 ≤ av ∧ av < h) (out : bu < 0 ∨ (w : Int) ≤ bu)
    (near : (bv < 0 ∨ (h : Int) ≤ bv) →
      (borderOf bu w - au).natAbs * (bv - av).natAbs ≤ (borderOf bv h - av).natAbs * (bu - au).natAbs)
    (on : p = borderOf bu w)
    (other : isRounded q (av * (bu - au).natAbs + (bv - av) * (borderOf bu w - au).natAbs) (bu - au).natAbs) :
    0 ≤ p ∧ p < w ∧ 0 ≤ q ∧ q < h := by
  have inside : 0 ≤ p ∧ p < w ∧ (borderOf bu w - au).natAbs ≤ (bu - au).natAbs ∧ 0 < (bu - au).natAbs := by
    rw [on, borderOf]
    split <;> omega
  obtain ⟨p0, p1, share, pos⟩ := inside
  have within : 0 ≤ av * (bu - au).natAbs + (bv - av) * (borderOf bu w - au).natAbs
      ∧ av * (bu - au).natAbs + (bv - av) * (borderOf bu w - au).natAbs ≤ (bu - au).natAbs * ((h : Int) - 1) := by
    by_cases hb : bv < 0 ∨ (h : Int) ≤ bv
    · have side : ((av ≤ borderOf bv h ∧ borderOf bv h ≤ bv) ∨ (bv ≤ borderOf bv h ∧ borderOf bv h ≤ av))
          ∧ 0 ≤ borderOf bv h ∧ borderOf bv h ≤ (h : Int) - 1 := by
        rw [borderOf]
        split <;> omega
      exact slanted_within rfl rfl side.1 (near hb) (by omega) side.2
    · exact weighted_within share (by omega) (by omega)
  obtain ⟨q0, q1⟩ := isRounded_between (lo := 0) pos other (by rw [mul_zero]; exact within.1) within.2
  omega

/-- R64: the end that replaces an outside end lies in the image. -/
theorem crossesAt_isIn {a b : Pt} {w h : Nat} {c : Int × Int} (ha : a.isIn w h) (hb : ¬ b.isIn w h) (hc : crossesAt a b w h c) :
    0 ≤ c.1 ∧ c.1 < w ∧ 0 ≤ c.2 ∧ c.2 < h := by
  obtain ⟨u0, u1, v0, v1⟩ := ha
  obtain ⟨onlyU, onlyV, both⟩ := hc
  by_cases hu : b.u < 0 ∨ (w : Int) ≤ b.u
  · by_cases hv : b.v < 0 ∨ (h : Int) ≤ b.v
    · obtain ⟨nearU, nearV, corner⟩ := both hu hv
      rcases lt_trichotomy ((borderOf b.u w - a.u).natAbs * (b.v - a.v).natAbs) ((borderOf b.v h - a.v).natAbs * (b.u - a.u).natAbs) with lt | eq | gt
      · obtain ⟨on, other⟩ := nearU lt
        exact crossing_within ⟨u0, u1⟩ ⟨v0, v1⟩ hu (fun _ => lt.le) on other
      · rw [corner eq]
        dsimp only
        split <;> split <;> omega
      · obtain ⟨on, other⟩ := nearV gt
        obtain ⟨h1, h2, h3, h4⟩ := crossing_within ⟨v0, v1⟩ ⟨u0, u1⟩ hv (fun _ => gt.le) on other
        exact ⟨h3, h4, h1, h2⟩
    · obtain ⟨on, other⟩ := onlyU hu hv
      exact crossing_within ⟨u0, u1⟩ ⟨v0, v1⟩ hu (fun h => absurd h hv) on other
  · have hv : b.v < 0 ∨ (h : Int) ≤ b.v := by
      rw [Pt.isIn] at hb
      omega
    obtain ⟨on, other⟩ := onlyV hv hu
    obtain ⟨h1, h2, h3, h4⟩ := crossing_within ⟨v0, v1⟩ ⟨u0, u1⟩ hv (fun h => absurd h hu) on other
    exact ⟨h3, h4, h1, h2⟩

/-- What is drawn lies in the image. -/
def Drawn.lies (d : Drawn) (w h : Nat) : Prop :=
  0 ≤ d.u1 ∧ d.u1 < w ∧ 0 ≤ d.v1 ∧ d.v1 < h ∧ 0 ≤ d.u2 ∧ d.u2 < w ∧ 0 ≤ d.v2 ∧ d.v2 < h

/-- R63, R64: both drawn ends lie in the image. -/
theorem judgeEnds_lies {p q : Option Pt} {w h : Nat} {d : Drawn} (hd : judgeEnds p q w h = some d) : d.lies w h := by
  obtain ⟨missing, ends⟩ := judgeEnds_drawn w h p q
  rw [hd] at missing ends
  cases p with
  | none => cases missing (.inl rfl)
  | some a =>
    cases q with
    | none => cases missing (.inr rfl)
    | some b =>
      obtain ⟨whole, second, first, outside⟩ := ends a b rfl rfl
      by_cases ha : a.isIn w h
      · obtain ⟨a1, a2, a3, a4⟩ := id ha
        by_cases hb : b.isIn w h
        · obtain ⟨b1, b2, b3, b4⟩ := id hb
          cases whole ha hb
          exact ⟨a1, a2, a3, a4, b1, b2, b3, b4⟩
        · obtain ⟨c, crosses, hc⟩ := second ha hb
          obtain ⟨c1, c2, c3, c4⟩ := crossesAt_isIn ha hb crosses
          cases hc
          exact ⟨a1, a2, a3, a4, c1, c2, c3, c4⟩
      · by_cases hb : b.isIn w h
        · obtain ⟨b1, b2, b3, b4⟩ := id hb
          obtain ⟨c, crosses, hc⟩ := first ha hb
          obtain ⟨c1, c2, c3, c4⟩ := crossesAt_isIn hb ha crosses
          cases hc
          exact ⟨c1, c2, c3, c4, b1, b2, b3, b4⟩
        · cases outside ha hb

/-- R112: the strokes of a set are the drawn segments and crossbars. -/
theorem GuideInput.strokes_lie (i : GuideInput) {x : Colour × Drawn} (hx : x ∈ i.compute.strokes) : x.2.lies i.imageWidth i.imageHeight := by
  have segments (points : List (Option Pt)) {y : GuideSegment} {d : Drawn}
      (hy : y ∈ (List.range (i.pointCount - 1)).map (i.segment points)) (hd : y.drawn = some d) : d.lies i.imageWidth i.imageHeight := by
    obtain ⟨j, -, rfl⟩ := List.mem_map.1 hy
    exact judgeEnds_lies hd
  rw [GuideSet.strokes, List.mem_append, List.mem_filterMap, List.mem_filterMap] at hx
  rcases hx with ⟨y, hy, drawn⟩ | ⟨y, hy, drawn⟩
  · obtain ⟨d, hd, rfl⟩ := Option.map_eq_some_iff.1 drawn
    rcases List.mem_append.1 hy with hy | hy
    · exact segments _ hy hd
    · exact segments _ hy hd
  · obtain ⟨d, hd, rfl⟩ := Option.map_eq_some_iff.1 drawn
    obtain ⟨n, -, rfl⟩ := List.mem_map.1 hy
    exact judgeEnds_lies hd

/-! ## Installation (R67 to R70) -/

/-- R68, R70: what the installation of a pending set leaves. -/
theorem State.install_installs {s : State} {g : GuideSet} (h : s.gle.pending = some g) :
    s.install.gle = { s.gle with installed := some g, pending := none, setNumber := (s.gle.setNumber + 1) % 65536 }
    ∧ s.install.cmp.guideSet = some g
    ∧ s.install.cli = (if s.gle.installed.map (fun x => x.input.type) = some g.input.type then s.cli
        else s.cli.post s.timebase 0 (.guide ((s.gle.setNumber + 1) % 65536) g.input.type)) := by
  unfold State.install Gle.installedType
  simp only [h]
  by_cases same : s.gle.installed.map (fun x => x.input.type) = some g.input.type
  · simp only [same, decide_true, Bool.not_true, Bool.false_eq_true, if_false, if_true]
    exact ⟨rfl, rfl, rfl⟩
  · simp only [same, decide_false, Bool.not_false, if_true, if_false]
    exact ⟨rfl, rfl, rfl⟩

/-- R67: a computation that completes makes its set pending. -/
theorem State.computationDone_pends {s : State} {inp : GuideInput} (h : s.gle.inFlight = some inp) :
    s.computationDone = (let y : State := { s with gle := { s.gle with
        pending := some inp.compute, inFlight := if s.gle.followUp then some s.guideInput else none, followUp := false } }
      if s.gle.camLocked then y else y.install) := by
  simp only [State.computationDone, h]

/-- R68: a frame start that keeps CAM's lock installs the pending set. -/
theorem State.frameStart_installs {s : State} (he : (s.port .cam).enabled = true) (hl : (s.port .cam).lock = .locked) (hb : (s.port .cam).bad ≤ 1) :
    s.frameStart .cam = (s.setPort .cam ((s.port .cam).framed s.timebase)).install := by
  have keeps := Port.framed_keepsLock s.timebase hl hb
  unfold State.frameStart
  dsimp only
  rw [if_pos he, if_pos rfl, keeps, hl]
  rfl

/-! ## GUIDE QUERY (R71) -/

theorem ownGuideQuery_refuses {p : List Byte} (s : State) (h : 5 < byteAt p 0) : ownGuideQuery p s = (s, refuse .badValue) := if_pos h

theorem ownGuideQuery_computes {p : List Byte} (s : State) (h : byteAt p 0 ≤ 5) (flag : bitAt p 1 0 = true) : ownGuideQuery p s
    = (s.guideTrigger, ok (s.guideTrigger.gle.sectionBytes (byteAt p 0) (if s.gle.inFlight.isSome then 2 else 1))) := by
  unfold ownGuideQuery
  rw [if_neg (Nat.not_lt.2 h), if_pos flag]

theorem State.guideTrigger_begins {s : State} (h : s.gle.inFlight = none) :
    s.guideTrigger = { s with gle := { s.gle with inFlight := some s.guideInput } } := by
  simp only [State.guideTrigger, h]

theorem State.guideTrigger_marks {s : State} {inp : GuideInput} (h : s.gle.inFlight = some inp) :
    s.guideTrigger = { s with gle := { s.gle with followUp := true } } := by
  simp only [State.guideTrigger, h]

end Sys2Proof.Machine

open Sys2Proof Sys2Proof.Machine

/-- Settles O27: the arithmetic (`GuideInput.compute_resultOf`, `GuideInput.strokes_lie`), then the set's way to the compositor
(`State.install_installs`) and GUIDE QUERY. -/
theorem computationsBecomePendingThenInstalled : Obligations.ComputationsBecomePendingThenInstalled := by
  refine ⟨GuideInput.compute_resultOf, fun inp x hx => inp.strokes_lie hx, fun t s inp hp hf hl => ?_, fun t s inp hp hf hl => ?_,
    fun t s g hp he hl hb hg => ?_, fun t s n flags hask hn hflag hf => ?_, fun t s n flags inp hask hn hflag hf => ?_,
    fun t s n flags hask hn => ?_⟩
  · exact State.happens_leaves hp ((State.computationDone_pends (s := s.atTime t) hf).trans (if_pos hl))
  · let y : State := { s with timebase := t, gle := { s.gle with
      pending := some inp.compute, inFlight := if s.gle.followUp then some s.guideInput else none, followUp := false } }
    obtain ⟨gle, guideSet, cli⟩ := State.install_installs (s := y) (g := inp.compute) rfl
    have done : (s.atTime t).computationDone = y.install :=
      (State.computationDone_pends (s := s.atTime t) hf).trans (if_neg (by rw [show (s.atTime t).gle.camLocked = false from hl]; decide))
    exact ⟨y.install, State.happens_leaves hp done, by simp [y], gle, guideSet, cli, by simp [y], by simp [y], by simp [y], by simp [y], by simp [y],
      by simp [y], by simp [y], by simp [y], by simp [y]⟩
  · let y : State := (s.atTime t).setPort .cam ((s.port .cam).framed t)
    obtain ⟨gle, guideSet, cli⟩ := State.install_installs (s := y) hg
    exact ⟨y.install, State.happens_leaves hp (State.frameStart_installs (s := s.atTime t) he hl hb), by rw [gle], by rw [gle], by rw [gle]; rfl, guideSet, cli⟩
  · have asked := ownGuideQuery_computes (p := [n, flags]) (s.atTime t) hn hflag
    rw [State.guideTrigger_begins (s := s.atTime t) hf, show (s.atTime t).gle.inFlight.isSome = false by rw [show (s.atTime t).gle.inFlight = none from hf]; rfl] at asked
    exact State.request_leaves hask rfl (.inr rfl) asked
  · have asked := ownGuideQuery_computes (p := [n, flags]) (s.atTime t) hn hflag
    rw [State.guideTrigger_marks (s := s.atTime t) hf, show (s.atTime t).gle.inFlight.isSome = true by rw [show (s.atTime t).gle.inFlight = some inp from hf]; rfl] at asked
    exact State.request_leaves hask rfl (.inr rfl) asked
  · exact State.request_onlyReplies hask rfl (.inr rfl) (ownGuideQuery_refuses _ hn)

end

section
/-! # Proofs: CHIME PLAY and CHIME CANCEL (R151 to R157) -/

namespace Sys2Proof.Machine

/-! ## The queue and the handles (R151, R154) -/

theorem State.joinQueue_room {s : State} (h : s.chu.queue.length < 8) (ch : Chime) :
    s.joinQueue ch = ({ s with chu := { s.chu with queue := insertChime ch s.chu.queue } }, true) := if_pos h

theorem State.joinQueue_full {s : State} {last : Chime} (h : 8 ≤ s.chu.queue.length) (hl : s.chu.queue.getLast? = some last) (ch : Chime) :
    s.joinQueue ch = if last.priority < ch.priority then
      (({ s with chu := { s.chu with queue := insertChime ch s.chu.queue.dropLast } } : State).endChime last .dropped, true) else (s, false) := by
  rw [State.joinQueue, if_neg (show ¬ s.chu.queue.length < Config.chimeQueueSize from Nat.not_lt.2 h), hl]

theorem Chu.holdsHandle_iff (c : Chu) (h : Nat) : c.holdsHandle h = true ↔ ∃ ch ∈ c.records, ch.handle = h := by
  unfold Chu.holdsHandle Chu.records
  cases c.voice1 <;> cases c.voice2 <;> simp [voiceChimes, or_assoc]

/-- R151: the next handle is the first one that is free. -/
theorem Chu.nextHandle_first {c : Chu} {h : Nat} (h1 : 1 ≤ h) (h2 : h ≤ 255) (free : ∀ ch ∈ c.records, ch.handle ≠ h) :
    ∃ k, c.nextHandle = (c.lastHandle + k) % 255 + 1 ∧ (∀ ch ∈ c.records, ch.handle ≠ c.nextHandle)
      ∧ ∀ j < k, ∃ ch ∈ c.records, ch.handle = (c.lastHandle + j) % 255 + 1 := by
  unfold Chu.nextHandle
  split
  · next k found =>
    obtain ⟨unheld, -, before⟩ := List.find?_range_eq_some.1 found
    refine ⟨k, rfl, fun ch hc he => ?_, fun j hj => (c.holdsHandle_iff _).1 (by simpa using before j hj)⟩
    rw [(c.holdsHandle_iff _).2 ⟨ch, hc, he⟩] at unheld
    cases unheld
  · next none =>
    have held := List.find?_eq_none.1 none ((h + 509 - c.lastHandle % 255) % 255) (List.mem_range.2 (Nat.mod_lt _ (by decide)))
    rw [show (c.lastHandle + (h + 509 - c.lastHandle % 255) % 255) % 255 + 1 = h by omega] at held
    obtain ⟨ch, hc, he⟩ := (c.holdsHandle_iff h).1 (by simpa using held)
    exact absurd he (free ch hc)

/-- R154: a chime's place in the queue. -/
theorem insertChime_place (ch : Chime) (queue : List Chime) : ∃ before after, queue = before ++ after ∧ insertChime ch queue = before ++ ch :: after
    ∧ (∀ x ∈ before, ch.priority < x.priority ∨ (x.priority = ch.priority ∧ x.order ≤ ch.order))
    ∧ (∀ x ∈ after.head?, x.priority < ch.priority ∨ (x.priority = ch.priority ∧ ch.order < x.order)) := by
  induction queue with
  | nil => exact ⟨[], [], rfl, rfl, by simp, by simp⟩
  | cons q rest ih =>
    by_cases h : ch.ahead q = true
    · exact ⟨[], q :: rest, rfl, if_pos h, by simp, fun x hx => by cases hx; exact ((ch.ahead_iff q).1 h).imp_right (fun ⟨he, ho⟩ => ⟨he.symm, ho⟩)⟩
    · obtain ⟨before, after, split, inserted, ahead, behind⟩ := ih
      refine ⟨q :: before, after, by rw [split]; rfl, (if_neg h).trans (by rw [inserted]; rfl), fun x hx => ?_, behind⟩
      rcases List.mem_cons.1 hx with rfl | hx
      · rw [ch.ahead_iff] at h
        omega
      · exact ahead x hx

/-! ## The end of a chime (R151) -/

theorem State.endChime_reverse {ch : Chime} (h : ch.origin = .reverse) (s : State) (outcome : ChimeOutcome) :
    s.endChime ch outcome = { s with rvc := if s.rvc.faultChime = some ch.handle then { s.rvc with faultChime := none } else s.rvc } := by
  simp only [State.endChime, h, Rvc.chimeEnded]

theorem State.endChime_own {ch : Chime} (h : ch.origin = .park ∨ ch.origin = .menu) (s : State) (outcome : ChimeOutcome) :
    s.endChime ch outcome = s := by
  rcases h with h | h <;> simp only [State.endChime, h]

@[simp] theorem State.endChime_table (s : State) (ch : Chime) (outcome : ChimeOutcome) : (s.endChime ch outcome).chu.table = s.chu.table := by
  unfold State.endChime
  cases ch.origin <;> rfl

@[simp] theorem State.joinQueue_table (s : State) (ch : Chime) : (s.joinQueue ch).1.chu.table = s.chu.table := by
  unfold State.joinQueue
  (repeat' split) <;> simp

/-- R153: a chime that yields keeps the patterns and the moment. -/
theorem State.yieldsFrom.keeps {s' s : State} {voice : Option Playing} (h : s'.yieldsFrom s voice) :
    s'.chu.table = s.chu.table ∧ s'.timebase = s.timebase := by
  obtain ⟨free, plays⟩ := h
  cases voice with
  | none => rw [free rfl]; exact ⟨rfl, rfl⟩
  | some p =>
    obtain ⟨once, joins, drops⟩ := plays p rfl
    by_cases hc : p.chime.cls = .repeat
    · cases hj : (s.joinQueue p.chime).2 with
      | true => rw [joins hc hj]; simp
      | false => rw [drops hc hj]; simp
    · rw [once hc]; simp

/-- R152: what a HOST chime that begins on voice 1 leaves, where patterns and moment are those of `s`. -/
theorem State.withVoice_host {s' s : State} {ch : Chime} (host : ch.origin = .host) (table : s'.chu.table = s.chu.table)
    (time : s'.timebase = s.timebase) : s'.withVoice .v1 ch = { s'.chu with
      voice1 := some ⟨ch, 0, (s.chu.pattern ch.pattern).repeatCount, afterMs s.timebase ((s.chu.pattern ch.pattern).stepAt 0).dur,
        afterMs s.timebase ((s.chu.pattern ch.pattern).stepAt 0).dur⟩ } := by
  have own : ch.origin ≠ .park := by rw [host]; decide
  simp only [State.withVoice, State.begun, if_neg own, Chu.pattern, table, time, Chu.setVoice]

/-! ## An arrival (R152, R153) -/

theorem Chu.canPlace_first {c : Chu} {z : ZoneSet} (h1 : c.voice1 = none) (h2 : clear c.voice2 z) : c.canPlace z = true := by
  simp [Chu.canPlace, h1, (clashes_false_iff _ _).2 h2]

theorem Chu.canPlace_second {c : Chu} {z : ZoneSet} (h1 : clear c.voice1 z) (h2 : c.voice2 = none) : c.canPlace z = true := by
  simp [Chu.canPlace, h2, (clashes_false_iff _ _).2 h1]

/-- R153: an arrival that can be placed, or outranks every chime that blocks it, plays. -/
theorem State.arrive_plays {s : State} {r : ChimeRequest} (h : s.chu.canPlace r.zones = true
      ∨ (r.cls ≠ .click ∧ ∀ v p, s.chu.blocked v r.zones p → p.chime.priority < r.priority)) :
    (s.arrive r).2 = .playing s.chu.nextHandle := by
  unfold State.arrive
  dsimp only
  by_cases room : s.chu.canPlace r.zones = true
  · rw [if_pos room]
    rfl
  · obtain ⟨hc, ho⟩ := h.resolve_left room
    rw [if_neg room, if_neg hc, (Chu.outranks_iff _ _ _ _).2 (ho .v1), (Chu.outranks_iff _ _ _ _).2 (ho .v2)]
    rfl

/-- R153, R154: any other arrival joins the queue, or leaves no trace. -/
theorem State.arrive_joins {s : State} {r : ChimeRequest} {v : Voice} {p : Playing} (hb : s.chu.blocked v r.zones p)
    (hp : r.priority ≤ p.chime.priority) (hc : r.cls ≠ .click) :
    s.arrive r = (let joined := ({ s with chu := s.chu.formed } : State).joinQueue (s.chu.form r)
      if joined.2 then (joined.1, .waiting s.chu.nextHandle) else (s, .refused)) := by
  have room := Chu.canPlace_of_blocked _ _ _ _ hb
  have outranked : (s.chu.outranks .v1 r.zones r.priority && s.chu.outranks .v2 r.zones r.priority) = false := by
    have here : s.chu.outranks v r.zones r.priority = false := by
      rw [Bool.eq_false_iff]
      intro h
      exact absurd ((Chu.outranks_iff _ _ _ _).1 h p hb) (Nat.not_lt.2 hp)
    cases v
    · rw [here, Bool.false_and]
    · rw [here, Bool.and_false]
  unfold State.arrive
  dsimp only
  rw [room, if_neg (by decide), if_neg hc, outranked, if_neg (by decide)]
  rfl

/-! ## CHIME PLAY (R156) -/

theorem classOf_eq_none {n : Nat} (h1 : n ≠ 1) (h2 : n ≠ 2) : classOf n = none := by
  unfold classOf
  split <;> simp_all

theorem readPlay_some {pat mask prio cls : Byte} {z : ZoneSet} {c : ChimeClass} (hpat : pat.toNat ≤ 15) (hz : zonesOf mask = some z)
    (h2 : 2 ≤ prio.toNat) (h7 : prio.toNat ≤ 7) (hc : cls.toNat = 1 ∧ c = .once ∨ cls.toNat = 2 ∧ c = .repeat) :
    readPlay [pat, mask, prio, cls] = some ⟨pat.toNat, z, prio.toNat, c, .host⟩ := by
  have known : classOf (byteAt [pat, mask, prio, cls] 3) = some c := by
    rcases hc with ⟨h, rfl⟩ | ⟨h, rfl⟩ <;> rw [show byteAt [pat, mask, prio, cls] 3 = cls.toNat from rfl, h] <;> rfl
  rw [readPlay, show zonesOf ([pat, mask, prio, cls].getD 1 0) = some z from hz, known]
  exact if_pos ⟨hpat, h2, h7⟩

theorem readPlay_none {pat mask prio cls : Byte} (h : 15 < pat.toNat ∨ mask.toNat = 0 ∨ 7 < mask.toNat ∨ prio.toNat < 2 ∨ 7 < prio.toNat
    ∨ (cls.toNat ≠ 1 ∧ cls.toNat ≠ 2)) : readPlay [pat, mask, prio, cls] = none := by
  rw [readPlay, show ([pat, mask, prio, cls].getD 1 0) = mask from rfl, show byteAt [pat, mask, prio, cls] 3 = cls.toNat from rfl,
    show byteAt [pat, mask, prio, cls] 0 = pat.toNat from rfl, show byteAt [pat, mask, prio, cls] 2 = prio.toNat from rfl]
  split
  · next z c hz hc =>
    have mask0 : mask.toNat ≠ 0 := fun hm => by
      rw [zonesOf, if_pos (.inl (BitVec.eq_of_toNat_eq hm))] at hz
      cases hz
    have mask7 : ¬ 7 < mask.toNat := fun hm => by
      rw [zonesOf, if_pos (.inr hm)] at hz
      cases hz
    have known : cls.toNat = 1 ∨ cls.toNat = 2 := by
      by_contra hn
      rw [classOf_eq_none (fun h => hn (.inl h)) (fun h => hn (.inr h))] at hc
      cases hc
    exact if_neg (by omega)
  · rfl

theorem ownChimePlay_refuses {p : List Byte} (s : State) (h : readPlay p = none) : ownChimePlay p s = (s, refuse .badValue) := by
  rw [ownChimePlay, h]

theorem ownChimePlay_arrives {p : List Byte} {r : ChimeRequest} (s : State) (h : readPlay p = some r) :
    ownChimePlay p s = ((s.arrive r).1, arrivalReply (s.arrive r).2) := by
  rw [ownChimePlay, h]

/-! ## CHIME CANCEL (R157) -/

theorem isHost_iff (h : Nat) (ch : Chime) : isHost h ch = true ↔ ch.handle = h ∧ ch.origin = .host := by
  simp [isHost]

theorem ownChimeCancel_unknown {p : List Byte} {s : State} (h0 : byteAt p 0 ≠ 0)
    (absent : ∀ ch ∈ s.chu.records, ¬ (ch.handle = byteAt p 0 ∧ ch.origin = .host)) : ownChimeCancel p s = (s, refuse .notFound) := by
  have none : s.chu.records.find? (isHost (byteAt p 0)) = none := List.find?_eq_none.2 (fun ch hc hh => absent ch hc ((isHost_iff _ _).1 hh))
  rw [ownChimeCancel]
  rw [if_neg h0, none]

theorem Chu.mem_records_voice {c : Chu} {v : Voice} {p : Playing} (h : c.voice v = some p) : p.chime ∈ c.records := by
  cases v with
  | v1 => simp [Chu.records, show c.voice1 = some p from h, voiceChimes]
  | v2 => simp [Chu.records, show c.voice2 = some p from h, voiceChimes]

theorem Chu.mem_records_queue {c : Chu} {ch : Chime} (h : ch ∈ c.queue) : ch ∈ c.records := List.mem_append_right _ h

/-- R151: with the handles held once each, a handle is that of one voice, or of a chime that waits. -/
theorem Chu.handles_apart {c : Chu} (unique : (c.records.map (·.handle)).Nodup) {v : Voice} {p : Playing} (hv : c.voice v = some p) :
    (∀ w q, c.voice w = some q → q.chime.handle = p.chime.handle → w = v) ∧ ∀ ch ∈ c.queue, ch.handle ≠ p.chime.handle := by
  rw [Chu.records, List.map_append, List.map_append, List.nodup_append, List.nodup_append] at unique
  obtain ⟨⟨-, -, voices⟩, -, waiting⟩ := unique
  have handleIn {w : Voice} {q : Playing} (hw : c.voice w = some q) :
      q.chime.handle ∈ (voiceChimes (c.voice w)).map (·.handle) := by rw [hw]; exact List.mem_singleton_self _
  have playing {w : Voice} {q : Playing} (hw : c.voice w = some q) :
      q.chime.handle ∈ (voiceChimes c.voice1).map (·.handle) ++ (voiceChimes c.voice2).map (·.handle) := by
    cases w
    · exact List.mem_append_left _ (handleIn hw)
    · exact List.mem_append_right _ (handleIn hw)
  refine ⟨fun w q hw he => ?_, fun ch hc he => waiting _ (playing hv) _ (List.mem_map_of_mem hc) he.symm⟩
  cases v <;> cases w
  · rfl
  · exact absurd he.symm (voices _ (handleIn hv) _ (handleIn hw))
  · exact absurd he (voices _ (handleIn hw) _ (handleIn hv))
  · rfl

/-- R151: with the handles held once each, a handle names one record. -/
theorem Chu.record_unique {c : Chu} (unique : (c.records.map (·.handle)).Nodup) {a b : Chime} (ha : a ∈ c.records) (hb : b ∈ c.records)
    (h : a.handle = b.handle) : a = b := List.inj_on_of_nodup_map unique ha hb h

theorem ownChimeCancel_cancels {p : List Byte} {s : State} {ch : Chime} (h0 : byteAt p 0 ≠ 0) (hc : ch ∈ s.chu.records)
    (hh : ch.handle = byteAt p 0) (host : ch.origin = .host) (unique : (s.chu.records.map (·.handle)).Nodup) :
    ownChimeCancel p s = ((s.removeChime (isHost (byteAt p 0))).endChime ch .cancelled, ok []) := by
  have found : s.chu.records.find? (isHost (byteAt p 0)) = some ch := by
    cases hf : s.chu.records.find? (isHost (byteAt p 0)) with
    | none => exact absurd ((isHost_iff _ _).2 ⟨hh, host⟩) (List.find?_eq_none.1 hf ch hc)
    | some x =>
      obtain ⟨hx, -⟩ := (isHost_iff _ _).1 (List.find?_some hf)
      rw [Chu.record_unique unique (List.mem_of_find?_eq_some hf) hc (hx.trans hh.symm)]
  rw [ownChimeCancel]
  rw [if_neg h0, found]

end Sys2Proof.Machine

open Sys2Proof Sys2Proof.Machine

/-- Settles O46: CHIME PLAY by what becomes of its arrival (`State.arrive_arrives`), the queue's and the handles' rules, and CHIME CANCEL
by what the removal leaves (`State.removeChime_removes`). -/
theorem chimesArePlayedAndCancelled : Obligations.ChimesArePlayedAndCancelled := by
  refine ⟨fun t s pat mask prio cls z c hask hm hpat hz h2 h7 hc => ?_, fun t s pat mask prio cls hask hm hbad => ?_, fun s ch => ⟨fun h => ?_, fun last h hl => ?_⟩,
    fun c ⟨h, h1, h2, free⟩ => Chu.nextHandle_first h1 h2 free, insertChime_place, fun s ch outcome => ⟨fun h => State.endChime_host h outcome,
      fun h => State.endChime_reverse h s outcome, fun h => State.endChime_own h s outcome⟩, fun t s h hask hm h0 => ?_, fun t s h hask hm h0 absent => ?_,
    fun t s h v p hask hm h0 hv hh host unique => ?_, fun t s h ch hask hm h0 hq hh host unique => ?_⟩
  · let x := s.atTime t
    let r : ChimeRequest := ⟨pat.toNat, z, prio.toNat, c, .host⟩
    have notClick : r.cls ≠ .click := by
      show c ≠ .click
      rcases hc with ⟨-, rfl⟩ | ⟨-, rfl⟩
      · decide
      · decide
    have owner := ownChimePlay_arrives x (readPlay_some hpat hz h2 h7 hc)
    obtain ⟨first, second, -, outranks, -⟩ := x.arrive_arrives r
    refine ⟨fun h1 h2 => ?_, fun h1 h2 h3 => ?_, fun hb ho => ?_, fun ⟨v, p, hb, hp⟩ => ?_⟩
    · have plays := State.arrive_plays (s := x) (r := r) (.inl (Chu.canPlace_first h1 h2))
      rw [(first h1 h2).1, plays] at owner
      exact State.request_leaves hask rfl (.inl hm) owner
    · have plays := State.arrive_plays (s := x) (r := r) (.inl (Chu.canPlace_second h2 h3))
      rw [(second h1 h2 h3).1, plays] at owner
      exact State.request_leaves hask rfl (.inl hm) owner
    · have plays := State.arrive_plays (s := x) (r := r) (.inr ⟨notClick, ho⟩)
      obtain ⟨s2, s3, yields2, yields3, state, -⟩ := outranks hb notClick ho
      obtain ⟨table2, time2⟩ := yields2.keeps
      obtain ⟨table3, time3⟩ := yields3.keeps
      have began : s3.withVoice .v1 ⟨x.chu.nextHandle, r.pattern, r.zones, r.priority, r.cls, r.origin, x.chu.nextOrder⟩ = { s3.chu with
          voice1 := some ⟨⟨s.chu.nextHandle, pat.toNat, z, prio.toNat, c, .host, s.chu.nextOrder⟩, 0, (s.chu.pattern pat.toNat).repeatCount,
            afterMs t ((s.chu.pattern pat.toNat).stepAt 0).dur, afterMs t ((s.chu.pattern pat.toNat).stepAt 0).dur⟩ } :=
        State.withVoice_host rfl (table3.trans table2) (time3.trans time2)
      rw [state, plays, began] at owner
      exact ⟨s2, s3, yields2, yields3, State.request_leaves hask rfl (.inl hm) owner⟩
    · have waits := State.arrive_joins (s := x) (r := r) hb hp notClick
      refine ⟨fun room => ?_, fun last full hl => ⟨fun hlt => ?_, fun hle => ?_⟩⟩
      · rw [waits, State.joinQueue_room (s := { x with chu := x.chu.formed }) room] at owner
        exact State.request_leaves hask rfl (.inl hm) owner
      · rw [waits, (State.joinQueue_full (s := { x with chu := x.chu.formed }) full hl _).trans (if_pos hlt)] at owner
        exact State.request_leaves hask rfl (.inl hm) owner
      · rw [waits, (State.joinQueue_full (s := { x with chu := x.chu.formed }) full hl _).trans (if_neg (Nat.not_lt.2 hle))] at owner
        exact State.request_onlyReplies hask rfl (.inl hm) owner
  · exact State.request_onlyReplies hask rfl (.inl hm) (ownChimePlay_refuses _ (readPlay_none hbad))
  · exact State.joinQueue_room h ch
  · rw [State.joinQueue_full h hl]
    exact ⟨fun hp => if_pos hp, fun hp => if_neg (Nat.not_lt.2 hp)⟩
  · exact State.request_onlyReplies hask rfl (.inl hm) (if_pos h0)
  · exact State.request_onlyReplies hask rfl (.inl hm) (ownChimeCancel_unknown (s := s.atTime t) (p := [h]) h0 absent)
  · have held : p.chime ∈ s.chu.records := Chu.mem_records_voice hv
    have removed := ((s.atTime t).removeChime_removes (isHost h.toNat)).1 v p hv ((isHost_iff _ _).2 ⟨hh, host⟩) (fun w q hw hq => ?_)
    · have owner := ownChimeCancel_cancels (s := s.atTime t) (p := [h]) h0 held hh host unique
      rw [show byteAt [h] 0 = h.toNat from rfl, removed] at owner
      exact State.request_leaves hask rfl (.inl hm) owner
    · exact (Chu.handles_apart unique hv).1 w q hw (((isHost_iff _ _).1 hq).1.trans hh.symm)
  · have held := Chu.mem_records_queue hq
    have removed := ((s.atTime t).removeChime_removes (isHost h.toNat)).2 (fun v p hv => ?_)
    · have owner := ownChimeCancel_cancels (s := s.atTime t) (p := [h]) h0 held hh host unique
      have only : s.chu.queue.filter (fun x => !isHost h.toNat x) = s.chu.queue.filter (fun x => !decide (x = ch)) :=
        List.filter_congr (fun x hx => congrArg (!·) (by
          rw [Bool.eq_iff_iff, isHost_iff, decide_eq_true_iff]
          refine ⟨fun hx' => Chu.record_unique unique (Chu.mem_records_queue hx) held (hx'.1.trans hh.symm), fun he => ?_⟩
          rw [he]
          exact ⟨hh, host⟩))
      rw [show byteAt [h] 0 = h.toNat from rfl, removed, State.endChime_host host, hh, show (s.atTime t).chu.queue = s.chu.queue from rfl, only] at owner
      exact State.request_leaves hask rfl (.inl hm) owner
    · rw [Bool.eq_false_iff]
      intro hp
      exact (Chu.handles_apart unique hv).2 ch hq (hh.trans ((isHost_iff _ _).1 hp).1.symm)

end

section
/-! # Proofs: steps, the filling of free voices, park beeps and duck steps (R152, R155, R159, R160) -/

namespace Sys2Proof.Machine

/-! ## The filling of free voices (R155) -/

theorem Chu.canPlace_busy {c : Chu} (h1 : c.voice1 ≠ none) (h2 : c.voice2 ≠ none) (z : ZoneSet) : c.canPlace z = false := by
  obtain ⟨p, hp⟩ := Option.ne_none_iff_exists'.1 h1
  obtain ⟨q, hq⟩ := Option.ne_none_iff_exists'.1 h2
  simp [Chu.canPlace, hp, hq]

/-- R152: beside one voice that plays, a chime can be placed when it shares no zone with it. -/
theorem Chu.canPlace_beside {c : Chu} {v w : Voice} {p : Playing} (hvw : v ≠ w) (hv : c.voice v = none) (hw : c.voice w = some p) (z : ZoneSet) :
    c.canPlace z = !p.chime.zones.meets z := by
  cases v <;> cases w
  · exact absurd rfl hvw
  · simp [Chu.canPlace, show c.voice1 = none from hv, show c.voice2 = some p from hw, clashes]
  · simp [Chu.canPlace, show c.voice2 = none from hv, show c.voice1 = some p from hw, clashes]
  · exact absurd rfl hvw

theorem State.fillOnce_busy {s : State} (h1 : s.chu.voice1 ≠ none) (h2 : s.chu.voice2 ≠ none) : s.fillOnce = s :=
  s.fillOnce_none (fun x _ => Chu.canPlace_busy h1 h2 x.zones)

theorem State.fill_still {s : State} (h : s.fillOnce = s) : s.fill = s := by
  rw [State.fill, h, h]

/-- R152: the chime that is placed beside a voice that plays, or on voice 1 of two that are free. -/
theorem State.place_on {s : State} {v : Voice} (hv : s.chu.voice v = none) (h2 : v = .v2 → s.chu.voice1 ≠ none) (x : Chime) (queue : List Chime) :
    ({ s with chu := { s.chu with queue := queue } } : State).place x = { s with chu := { s.withVoice v x with queue := queue } } := by
  have chosen : (if s.chu.voice1.isNone then Voice.v1 else .v2) = v := by
    cases v with
    | v1 => exact if_pos (by rw [show s.chu.voice1 = none from hv]; rfl)
    | v2 => exact if_neg (by simpa using h2 rfl)
  show State.startOn _ x (if s.chu.voice1.isNone then Voice.v1 else .v2) = _
  rw [chosen, State.startOn_begins]
  cases v <;> rfl

theorem State.withVoice_busy (s : State) (v : Voice) (x : Chime) : (s.withVoice v x).voice v ≠ none := by
  cases v <;> exact Option.some_ne_none _

theorem State.withVoice_beside (s : State) {v w : Voice} (h : v ≠ w) (x : Chime) : (s.withVoice v x).voice w = s.chu.voice w := by
  cases v <;> cases w
  · exact absurd rfl h
  · rfl
  · rfl
  · exact absurd rfl h

/-- R155: beside a voice that plays, one placement fills the other. -/
theorem State.fillOnce_beside {s : State} {v w : Voice} {p : Playing} (hvw : v ≠ w) (hv : s.chu.voice v = none) (hw : s.chu.voice w = some p)
    {before after : List Chime} {x : Chime} (hq : s.chu.queue = before ++ x :: after) (hb : ∀ y ∈ before, p.chime.zones.meets y.zones = true)
    (hx : p.chime.zones.meets x.zones = false) : s.fillOnce = { s with chu := { s.withVoice v x with queue := before ++ after } } := by
  rw [s.fillOnce_some before after x hq (fun y hy => by rw [Chu.canPlace_beside hvw hv hw, hb y hy]; rfl)
    (by rw [Chu.canPlace_beside hvw hv hw, hx]; rfl)]
  refine State.place_on hv (fun h2 => ?_) x _
  subst h2
  cases w with
  | v1 => rw [show s.chu.voice1 = some p from hw]; exact Option.some_ne_none _
  | v2 => exact absurd rfl hvw

/-- Both voices play once one has been filled beside the other. -/
theorem State.fillOnce_filled {s : State} {v w : Voice} {p : Playing} (hvw : v ≠ w) (hw : s.chu.voice w = some p) (x : Chime) (queue : List Chime) :
    ({ s with chu := { s.withVoice v x with queue := queue } } : State).fillOnce = { s with chu := { s.withVoice v x with queue := queue } } := by
  have filled := s.withVoice_busy v x
  have beside : (s.withVoice v x).voice w ≠ none := by
    rw [s.withVoice_beside hvw, hw]
    exact Option.some_ne_none _
  cases v <;> cases w
  · exact absurd rfl hvw
  · exact State.fillOnce_busy filled beside
  · exact State.fillOnce_busy beside filled
  · exact absurd rfl hvw

/-- R155: beside a voice that plays there is one voice to fill. -/
theorem State.fillOnce_again {s : State} {v w : Voice} {p : Playing} (hvw : v ≠ w) (hv : s.chu.voice v = none) (hw : s.chu.voice w = some p) :
    s.fillOnce.fillOnce = s.fillOnce := by
  cases hf : s.chu.queue.find? (fun x => !p.chime.zones.meets x.zones) with
  | none =>
    have still := s.fillOnce_none (fun x hx => by simpa [Chu.canPlace_beside hvw hv hw] using List.find?_eq_none.1 hf x hx)
    rw [still, still]
  | some x =>
    obtain ⟨hx, before, after, hq, hb⟩ := List.find?_eq_some_iff_append.1 hf
    rw [State.fillOnce_beside hvw hv hw hq (fun y hy => by simpa using hb y hy) (by simpa using hx), State.fillOnce_filled hvw hw]

/-! ## The end of a step (R152) -/

theorem State.stepEnded_due {s : State} {v : Voice} {p : Playing} (hv : s.chu.voice v = some p) (own : p.chime.origin ≠ .park)
    (due : reached s.timebase p.ends = true) : s.stepEnded v = (match p.next s.timebase (s.chu.pattern p.chime.pattern) with
      | some q => s.setVoice v (some q)
      | none => s.finish v p.chime) := by
  rw [State.stepEnded, hv]
  exact if_pos ⟨own, due⟩

/-- R152: what follows the end of a step. -/
theorem Playing.next_eq (p : Playing) (now : Stamp) (pat : Pattern) :
    (p.stepIndex + 1 < pat.steps.length → p.next now pat = some (p.atStep now pat (p.stepIndex + 1) p.repeatsLeft))
    ∧ (pat.steps.length ≤ p.stepIndex + 1 → pat.repeatCount = 0 → p.next now pat = some (p.atStep now pat 0 p.repeatsLeft))
    ∧ (pat.steps.length ≤ p.stepIndex + 1 → pat.repeatCount ≠ 0 → 2 ≤ p.repeatsLeft → p.next now pat = some (p.atStep now pat 0 (p.repeatsLeft - 1)))
    ∧ (pat.steps.length ≤ p.stepIndex + 1 → pat.repeatCount ≠ 0 → p.repeatsLeft ≤ 1 → p.next now pat = none) := by
  refine ⟨fun h => if_pos h, fun h h0 => ?_, fun h h0 h2 => ?_, fun h h0 h1 => ?_⟩
  · rw [Playing.next, if_neg (Nat.not_lt.2 h), if_pos h0]
  · rw [Playing.next, if_neg (Nat.not_lt.2 h), if_neg h0, if_neg (Nat.not_le.2 h2)]
  · rw [Playing.next, if_neg (Nat.not_lt.2 h), if_neg h0, if_pos h1]

/-! ## The park beep (R159) -/

theorem isPark_iff (ch : Chime) : isPark ch = true ↔ ch.origin = .park := by simp [isPark]

/-- R159: the one voice that holds the park beep starts it. -/
theorem State.beepStarts_on {s : State} {v : Voice} {p : Playing} (hv : s.chu.voice v = some p) (park : p.chime.origin = .park)
    (due : reached s.timebase p.ends = true) (only : ∀ w q, s.chu.voice w = some q → q.chime.origin = .park → w = v) :
    s.beepStarts = s.startBeep p v := by
  have on : s.beepOn v = s.startBeep p v := by
    rw [State.beepOn, hv]
    exact if_pos ⟨park, due⟩
  unfold State.beepStarts
  cases v with
  | v1 => rw [show s.chu.voice1 = some p from hv, if_pos (show voiceHas (some p) isPark = true from (isPark_iff _).2 park), on]
  | v2 =>
    have quiet : voiceHas s.chu.voice1 isPark = false := by
      cases h1 : s.chu.voice1 with
      | none => rfl
      | some q =>
        rw [Bool.eq_false_iff]
        intro hq
        exact absurd (only .v1 q h1 ((isPark_iff _).1 hq)) (by decide)
    rw [quiet, if_neg (by decide), on]

theorem State.startBeep_near {s : State} {d : Nat} (h : s.vin.obstacle = some d) (p : Playing) (v : Voice) :
    s.startBeep p v = (let on := ((s.chu.pattern 4).stepAt 0).dur
      let gap := if d ≤ 300 then 0 else 150 + (d - 300) * 650 / 1200 - on
      { s with chu := { s.chu.setVoice v (some { p with toneEnds := afterMs s.timebase on, ends := afterMs s.timebase (on + gap) }) with
        parkGap := gap } }) := by
  simp only [State.startBeep, h]
  rfl

/-! ## Duck steps (R160) -/

theorem State.duckStep_due {s : State} {i : Seat} {e : Stamp} (h : (s.chu.duck.get i).timer = some e) (due : reached s.timebase e = true) :
    s.duckStep i = s.setDuck i ((s.chu.duck.get i).step s.timebase (calDuckLevel s.cal.working)) := by
  unfold State.duckStep
  dsimp only
  rw [h]
  exact if_pos due

theorem Duck.step_eq (d : Duck) (now : Stamp) (level : Int) : d.step now level =
    (let g := if d.ducking then (if level < d.gain then max level (d.gain - 3) else min level (d.gain + 3)) else min 0 (d.gain + 1);
      ⟨d.ducking, g, if d.ducking then (if g = level then none else some (afterMs now 10)) else if g = 0 then none else some (afterMs now 20)⟩) := by
  unfold Duck.step duckToward
  cases h : d.ducking <;> rfl

end Sys2Proof.Machine

open Sys2Proof Sys2Proof.Machine

/-- Settles O47. -/
theorem stepsBeepsAndDucksGoOn : Obligations.StepsBeepsAndDucksGoOn := by
  refine ⟨fun t v s p hp hv own due => ?_, fun s => ⟨fun h1 h2 => State.fill_still (State.fillOnce_busy h1 h2), fun v w p hvw hv hw => ⟨fun h => ?_,
    fun before x after hq hb hx => ?_⟩, fun h1 h2 => ⟨fun hq => ?_, fun x rest hq => ?_⟩⟩, fun t v s p d hp hv park due only hd => ?_,
    fun t i s e hp he due => ?_⟩
  · have ended := State.stepEnded_due (s := s.atTime t) hv own due
    obtain ⟨step, anew, once, done⟩ := p.next_eq t (s.chu.pattern p.chime.pattern)
    have finishes (h : (s.chu.pattern p.chime.pattern).steps.length ≤ p.stepIndex + 1) (h0 : (s.chu.pattern p.chime.pattern).repeatCount ≠ 0)
        (h1 : p.repeatsLeft ≤ 1) : (s.atTime t).stepEnded v = (s.atTime t).finish v p.chime := by
      rw [ended, show p.next (s.atTime t).timebase ((s.atTime t).chu.pattern p.chime.pattern) = none from done h h0 h1]
    refine ⟨fun h => ?_, fun h h0 => ?_, fun h h0 h2 => ?_, fun h h0 h1 hq host => ?_, fun h h0 h1 => ?_⟩
    · rw [show p.next (s.atTime t).timebase ((s.atTime t).chu.pattern p.chime.pattern) = _ from step h] at ended
      exact State.happens_leaves hp ended
    · rw [show p.next (s.atTime t).timebase ((s.atTime t).chu.pattern p.chime.pattern) = _ from anew h h0] at ended
      exact State.happens_leaves hp ended
    · rw [show p.next (s.atTime t).timebase ((s.atTime t).chu.pattern p.chime.pattern) = _ from once h h0 h2] at ended
      exact State.happens_leaves hp ended
    · have quiet : (((s.atTime t).setVoice v none).endChime p.chime .ended).chu.queue = [] := by
        rw [State.endChime_host host]
        cases v <;> exact hq
      have finished := finishes h h0 h1
      have still : (s.atTime t).finish v p.chime = ((s.atTime t).setVoice v none).endChime p.chime .ended := by
        refine State.fill_still (State.fillOnce_none _ (fun x hx => ?_))
        rw [quiet] at hx
        cases hx
      rw [still, State.endChime_host host] at finished
      exact State.happens_leaves hp finished
    · exact State.happens_leaves hp (finishes h h0 h1)
  · exact State.fill_still (s.fillOnce_none (fun x hx => by rw [Chu.canPlace_beside hvw hv hw, h x hx]; rfl))
  · rw [State.fill, State.fillOnce_beside hvw hv hw hq hb hx, State.fillOnce_filled hvw hw]
  · exact State.fill_still (s.fillOnce_none (fun x hx => by rw [hq] at hx; cases hx))
  · have room : s.chu.canPlace x.zones = true := by simp [Chu.canPlace, h1, h2, clashes]
    have first := (s.fillOnce_some [] rest x hq (fun y hy => by cases hy) room).trans (State.place_on (v := .v1) h1 (fun h => by cases h) x rest)
    have again := State.fillOnce_again (s := { s with chu := { s.withVoice .v1 x with queue := rest } }) (v := .v2) (w := .v1) (p := s.begun x)
      (by decide) h2 rfl
    rw [State.fill, first, State.fill, again]
  · have starts := State.beepStarts_on (s := s.atTime t) hv park due only
    rw [State.startBeep_near (s := s.atTime t) hd] at starts
    exact State.happens_leaves hp starts
  · have steps := State.duckStep_due (s := s.atTime t) he due
    rw [Duck.step_eq] at steps
    exact State.happens_leaves hp steps

end

section
/-! # Proofs: patterns, the front level and the mixes of the zones (R149, R150, R161) -/

namespace Sys2Proof.Machine

/-! ## CHIME PATTERN LOAD and FRONT LEVEL SET -/

theorem Chu.inUse_iff (c : Chu) (slot : Nat) : c.inUse slot = true ↔ ∃ ch ∈ c.records, ch.pattern = slot := by
  unfold Chu.inUse Chu.records voiceHas
  cases c.voice1 <;> cases c.voice2 <;> simp [voiceChimes, or_assoc]

theorem stepFits_iff (st : Step) : stepFits st = true
    ↔ (st.freq = 0 ∨ 200 ≤ st.freq ∧ st.freq ≤ 4000) ∧ 10 ≤ st.dur ∧ st.dur ≤ 2000 ∧ st.level ≤ 15 := by
  simp [stepFits, and_assoc]

/-- R150: what a pattern's payload has to meet. -/
def chimePatternFits (p : List Byte) : Prop :=
  byteAt p 0 ≤ 15 ∧ 1 ≤ byteAt p 1 ∧ byteAt p 1 ≤ 8 ∧ byteAt p 2 ≤ 15 ∧ ∀ k < byteAt p 1,
    (u16At p (3 + 5 * k) = 0 ∨ 200 ≤ u16At p (3 + 5 * k) ∧ u16At p (3 + 5 * k) ≤ 4000)
    ∧ 10 ≤ u16At p (5 + 5 * k) ∧ u16At p (5 + 5 * k) ≤ 2000 ∧ byteAt p (7 + 5 * k) ≤ 15

theorem readPattern_fits (p : List Byte) : (readPattern p).steps.all stepFits = true ↔ ∀ k < byteAt p 1,
    (u16At p (3 + 5 * k) = 0 ∨ 200 ≤ u16At p (3 + 5 * k) ∧ u16At p (3 + 5 * k) ≤ 4000)
    ∧ 10 ≤ u16At p (5 + 5 * k) ∧ u16At p (5 + 5 * k) ≤ 2000 ∧ byteAt p (7 + 5 * k) ≤ 15 := by
  simp only [readPattern, List.all_map, List.all_eq_true, List.mem_range, Function.comp_apply, stepFits_iff]

/-- R150: the three outcomes of CHIME PATTERN LOAD. -/
theorem ownChimePatternLoad_eq (p : List Byte) (s : State) : (¬ chimePatternFits p → ownChimePatternLoad p s = (s, refuse .badValue))
    ∧ (chimePatternFits p → s.chu.inUse (byteAt p 0) = true → ownChimePatternLoad p s = (s, refuse .busy))
    ∧ (chimePatternFits p → s.chu.inUse (byteAt p 0) = false → ownChimePatternLoad p s
        = ({ s with chu := { s.chu with table := s.chu.table.set (byteAt p 0) (readPattern p) } }, ok [])) := by
  have passes (h : chimePatternFits p) : ¬ (15 < byteAt p 0 ∨ byteAt p 1 = 0 ∨ 8 < byteAt p 1 ∨ 15 < byteAt p 2)
      ∧ ¬ (!(readPattern p).steps.all stepFits) = true := by
    obtain ⟨h0, h1, h2, h3, steps⟩ := h
    rw [(readPattern_fits p).2 steps]
    exact ⟨by omega, by decide⟩
  refine ⟨fun h => ?_, fun h busy => ?_, fun h free => ?_⟩
  · unfold ownChimePatternLoad
    split
    · rfl
    · next bounds =>
      refine if_pos ?_
      rw [Bool.not_eq_true', Bool.eq_false_iff]
      intro steps
      exact h ⟨by omega, by omega, by omega, by omega, (readPattern_fits p).1 steps⟩
  · rw [ownChimePatternLoad, if_neg (passes h).1, if_neg (passes h).2, if_pos busy]
  · rw [ownChimePatternLoad, if_neg (passes h).1, if_neg (passes h).2, if_neg (by rw [free]; decide)]

theorem ownFrontLevelSet_eq (p : List Byte) (s : State) : ownFrontLevelSet p s
    = if 60 < byteAt p 0 then (s, refuse .badValue) else ({ s with chu := { s.chu with frontLevel := byteAt p 0 } }, ok []) := rfl

/-! ## What a zone hears (R152, R161) -/

/-- R152, R159: the step that sounds in the zones that `hears` names. -/
def State.sounds (s : State) (hears : ZoneSet → Bool) (st : Step) : Prop := ∃ voice p, s.chu.voice voice = some p
  ∧ hears p.chime.zones = true ∧ st = (s.chu.pattern p.chime.pattern).stepAt p.stepIndex ∧ st.freq ≠ 0
  ∧ (p.chime.origin = .park → reached s.timebase p.toneEnds = false)

theorem Chu.soundingStep_iff (c : Chu) (now : Stamp) (p : Playing) (st : Step) : c.soundingStep now p = some st
    ↔ st = (c.pattern p.chime.pattern).stepAt p.stepIndex ∧ st.freq ≠ 0 ∧ (p.chime.origin = .park → reached now p.toneEnds = false) := by
  unfold Chu.soundingStep
  dsimp only
  generalize (c.pattern p.chime.pattern).stepAt p.stepIndex = step
  by_cases h0 : step.freq = 0
  · rw [if_pos h0]
    refine ⟨(fun h => by cases h), fun ⟨he, hf, _⟩ => absurd (by rw [he]; exact h0) hf⟩
  · rw [if_neg h0]
    have shown : some step = some st ↔ st = step ∧ st.freq ≠ 0 := by
      rw [Option.some.injEq]
      exact ⟨fun h => ⟨h.symm, h ▸ h0⟩, fun h => h.1.symm⟩
    by_cases park : p.chime.origin = .park
    · cases tone : reached now p.toneEnds with
      | true => simp [park]
      | false => simpa [park] using shown
    · simpa [park] using shown

/-- R152: of two voices without a zone in common one alone is heard in a zone. -/
theorem State.heard_iff {s : State} (apart : zonesMeet s.chu.voice1 s.chu.voice2 = false) {hears : ZoneSet → Bool}
    (meets : ∀ a b : ZoneSet, hears a = true → hears b = true → a.meets b = true) (st : Step) :
    s.chu.heard s.timebase hears = some st ↔ s.sounds hears st := by
  have on (v : Voice) {p : Playing} (hv : s.chu.voice v = some p) (only : ∀ w q, s.chu.voice w = some q → hears q.chime.zones = true → w = v)
      (hp : hears p.chime.zones = true) : s.chu.soundingStep s.timebase p = some st ↔ s.sounds hears st := by
    rw [Chu.soundingStep_iff]
    constructor
    · exact fun h => ⟨v, p, hv, hp, h⟩
    · rintro ⟨w, q, hw, hq, h⟩
      cases only w q hw hq
      cases hv.symm.trans hw
      exact h
  have silent (h : ∀ w q, s.chu.voice w = some q → ¬ hears q.chime.zones = true) : (none : Option Step) = some st ↔ s.sounds hears st :=
    ⟨(fun hn => by cases hn), fun ⟨w, q, hw, hq, _⟩ => absurd hq (h w q hw)⟩
  unfold Chu.heard
  cases h1 : s.chu.voice1 with
  | none =>
    cases h2 : s.chu.voice2 with
    | none =>
      refine silent (fun w q hw _ => ?_)
      cases w
      · exact Option.some_ne_none _ (hw.symm.trans h1)
      · exact Option.some_ne_none _ (hw.symm.trans h2)
    | some p2 =>
      dsimp only
      split
      · next heard2 =>
        refine on .v2 h2 (fun w q hw _ => ?_) heard2
        cases w
        · exact absurd (hw.symm.trans h1) (Option.some_ne_none _)
        · rfl
      · next quiet2 =>
        refine silent (fun w q hw hq => ?_)
        cases w
        · exact Option.some_ne_none _ (hw.symm.trans h1)
        · cases hw.symm.trans h2
          exact quiet2 hq
  | some p =>
    dsimp only
    split
    · next heard1 =>
      refine on .v1 h1 (fun w q hw hq => ?_) heard1
      cases w
      · rfl
      · rw [h1, show s.chu.voice2 = some q from hw, zonesMeet, meets _ _ heard1 hq] at apart
        cases apart
    · next quiet1 =>
      cases h2 : s.chu.voice2 with
      | none =>
        refine silent (fun w q hw hq => ?_)
        cases w
        · cases hw.symm.trans h1
          exact quiet1 hq
        · exact Option.some_ne_none _ (hw.symm.trans h2)
      | some p2 =>
        dsimp only
        split
        · next heard2 =>
          refine on .v2 h2 (fun w q hw hq => ?_) heard2
          cases w
          · cases hw.symm.trans h1
            exact absurd hq quiet1
          · rfl
        · next quiet2 =>
          refine silent (fun w q hw hq => ?_)
          cases w
          · cases hw.symm.trans h1
            exact quiet1 hq
          · cases hw.symm.trans h2
            exact quiet2 hq

/-- A tone is that of the step that is heard. -/
theorem map_tone_iff {o : Option Step} {P : Step → Prop} (h : ∀ st, o = some st ↔ P st) (f : Step → Tone) (tone : Tone) :
    o.map f = some tone ↔ ∃ st, P st ∧ tone = f st := by
  rw [Option.map_eq_some_iff]
  exact exists_congr (fun st => and_congr (h st) eq_comm)

/-! ## The film of a zone (R103, R161) -/

theorem State.pictureOf_iff (s : State) (r : Row) (f : Feed) :
    s.pictureOf r = some f ↔ r.effective.feed = some f ∧ (s.port f).lock = .locked := by
  unfold State.pictureOf State.sourceLocked
  cases hf : r.effective.feed with
  | none => simp
  | some g =>
    by_cases hl : (s.port g).lock = .locked
    · simp only [hl, decide_true, if_true, Option.some.injEq]
      exact ⟨fun h => ⟨h, h ▸ hl⟩, fun h => h.1⟩
    · simp only [hl, decide_false, Bool.false_eq_true, if_false, Option.some.injEq]
      exact ⟨(fun h => by cases h), fun ⟨h, hg⟩ => absurd (h ▸ hg) hl⟩

theorem State.filmTerm_iff (s : State) (i : Seat) (film : Film) : s.filmTerm i = some film
    ↔ (s.seat i).volume ≠ 0 ∧ (s.rearRow i).effective.feed = some film.feed ∧ (s.port film.feed).lock = .locked
      ∧ film.gain = ((s.seat i).volume : Int) - 60 + (s.chu.duck.get i).gain := by
  unfold State.filmTerm
  dsimp only
  by_cases hv : (s.seat i).volume = 0
  · simp [hv]
  · rw [if_neg hv, Option.map_eq_some_iff]
    constructor
    · rintro ⟨f, hf, rfl⟩
      obtain ⟨feed, lock⟩ := (s.pictureOf_iff _ _).1 hf
      exact ⟨hv, feed, lock, rfl⟩
    · rintro ⟨-, feed, lock, gain⟩
      exact ⟨film.feed, (s.pictureOf_iff _ _).2 ⟨feed, lock⟩, by rw [← gain]⟩

theorem State.carried_iff (s : State) (i : Seat) : (s.zoneMix i).carried = true
    ↔ (s.link i).state = .streaming ∧ ∃ a, (s.link i).agreement = some a ∧ a.audio = true := by
  unfold State.zoneMix
  cases (s.link i).agreement <;> simp

/-! ## The arithmetic of a sample (R161) -/

/-- R161: what a gain makes of a sample: its sign stays, and its magnitude is the product, or a neighbour of it. -/
theorem atGain_scales (g x : Int) (away : Bool) :
    let y := atGain g x away
    let product := x.natAbs ^ 20 * 10 ^ g.toNat
    let at20 := fun (k : Nat) => k ^ 20 * 10 ^ (-g).toNat
    (0 ≤ x → 0 ≤ y) ∧ (x ≤ 0 → y ≤ 0) ∧ (∀ k, at20 k = product → y.natAbs = k)
      ∧ ((∀ k, at20 k ≠ product) → ∃ k, at20 k < product ∧ product < at20 (k + 1) ∧ y.natAbs = if away then k + 1 else k) := by
  intro y product at20
  obtain ⟨floor, above⟩ := floorGain_spec g x.natAbs
  have whole (k : Nat) (h : at20 k = product) := floorGain_exact g x.natAbs k h
  obtain ⟨k0, hk0⟩ : ∃ k0, k0 = greatestUpTo (withinGain g x.natAbs) (x.natAbs * 10 ^ g.toNat) := ⟨_, rfl⟩
  obtain ⟨size, hsize⟩ : ∃ size, size = if !decide (at20 k0 = product) && away then k0 + 1 else k0 := ⟨_, rfl⟩
  have hy : y = if x < 0 then -(size : Int) else size := by rw [hsize, hk0]; rfl
  have magnitude : y.natAbs = size := by
    rw [hy]
    split <;> omega
  rw [← hk0] at floor above whole
  refine ⟨fun h => ?_, fun h => ?_, fun k h => ?_, fun h => ⟨k0, lt_of_le_of_ne floor (h k0), above, ?_⟩⟩
  · rw [hy, if_neg (by omega)]
    omega
  · rw [hy]
    split
    · omega
    · have zero : at20 0 = product := by
        have x0 : x = 0 := by omega
        simp [at20, product, x0]
      rw [hsize, whole 0 zero, zero]
      simp
  · rw [magnitude, hsize, whole k h, h]
    simp
  · rw [magnitude, hsize, decide_eq_false (h k0)]
    simp

theorem saturate16_eq (x : Int) : saturate16 x = max (-32768) (min 32767 x) := by
  unfold saturate16 clampInt
  split
  · omega
  · split <;> omega

end Sys2Proof.Machine

open Sys2Proof Sys2Proof.Machine

/-- Settles O45: the two requests, then what a zone hears (`State.heard_iff`) and what a gain makes of a sample (`atGain_scales`). -/
theorem patternAndFrontLevelAreStored : Obligations.PatternAndFrontLevelAreStored := by
  refine ⟨fun t s p hask hlen hm => ?_, fun t s v hask hm hv => ?_, fun t s v hask hm hv => ?_, fun s apart => ?_, fun g x away => ⟨fun h0 => ?_, atGain_scales g x away⟩,
    fun m n => ?_⟩
  · obtain ⟨refuses, busy, stores⟩ := ownChimePatternLoad_eq p (s.atTime t)
    have known : patternLength p = true := decide_eq_true hlen
    refine ⟨fun h => ?_, fun h used => ?_, fun h free => ?_⟩
    · exact State.request_onlyReplies hask known (.inl hm) (refuses h)
    · exact State.request_onlyReplies hask known (.inl hm) (busy h ((Chu.inUse_iff _ _).2 used))
    · refine State.request_leaves hask known (.inl hm) (stores h ?_)
      rw [Bool.eq_false_iff]
      intro used
      obtain ⟨ch, hc, he⟩ := (Chu.inUse_iff _ _).1 used
      exact free ch hc he
  · exact State.request_leaves hask rfl (.inl hm) ((ownFrontLevelSet_eq [v] (s.atTime t)).trans (if_neg (Nat.not_lt.2 hv)))
  · exact State.request_onlyReplies hask rfl (.inl hm) ((ownFrontLevelSet_eq [v] (s.atTime t)).trans (if_pos hv))
  · have front := State.heard_iff apart (hears := (·.front)) (fun a b ha hb => by simp [ZoneSet.meets, ha, hb])
    have rear (i : Seat) := State.heard_iff apart (hears := (·.hasRear i)) (fun a b ha hb => by
      cases i <;> simp_all [ZoneSet.meets, ZoneSet.hasRear])
    refine ⟨fun h => if_pos h, fun h tone => ?_, fun i => ⟨fun film => s.filmTerm_iff i film, fun tone => map_tone_iff (rear i) _ tone, s.carried_iff i⟩⟩
    rw [State.chimeOut, if_neg h]
    exact map_tone_iff front _ tone
  · rw [h0]
    exact atGain_zero x away
  · exact saturate16_eq _

end

section
/-! # Proofs: the display geometry, the planes, the banner strip and the drawn guides (R97, R103, R108, R109, R111, R112) -/

namespace Sys2Proof.Machine

/-! ## The display geometry (R109) -/

theorem evenDown_le (n : Nat) : evenDown n ≤ n := Nat.sub_le _ _

theorem geometryOf_wide {ws hs wo ho : Nat} (h : wo * hs ≤ ws * ho) : geometryOf (some (ws, hs)) wo ho
    = ⟨0, evenDown ((ho - evenDown (hs * wo / ws)) / 2), wo, evenDown (hs * wo / ws)⟩ := if_pos h

theorem geometryOf_tall {ws hs wo ho : Nat} (h : ws * ho < wo * hs) : geometryOf (some (ws, hs)) wo ho
    = ⟨evenDown ((wo - evenDown (ws * ho / hs)) / 2), 0, evenDown (ws * ho / hs), ho⟩ := if_neg (Nat.not_le.2 h)

/-- A side that is centred by an even offset stays within the output. -/
theorem centred_within {side whole : Nat} (h : side ≤ whole) : evenDown ((whole - side) / 2) + side ≤ whole := by
  have := evenDown_le ((whole - side) / 2)
  omega

/-- R109: the geometry lies within the output. -/
theorem geometryOf_within (ws hs wo ho : Nat) :
    (geometryOf (some (ws, hs)) wo ho).left + (geometryOf (some (ws, hs)) wo ho).width ≤ wo
      ∧ (geometryOf (some (ws, hs)) wo ho).top + (geometryOf (some (ws, hs)) wo ho).height ≤ ho := by
  by_cases h : wo * hs ≤ ws * ho
  · have low : hs * wo / ws ≤ ho := Nat.div_le_of_le_mul (by rw [Nat.mul_comm hs wo]; exact h)
    rw [geometryOf_wide h]
    exact ⟨by simp, centred_within ((evenDown_le _).trans low)⟩
  · have narrow : ws * ho / hs ≤ wo := Nat.div_le_of_le_mul (by rw [Nat.mul_comm hs wo]; omega)
    rw [geometryOf_tall (Nat.not_le.1 h)]
    exact ⟨centred_within ((evenDown_le _).trans narrow), by simp⟩

/-! ## The planes (R97, R103) -/

theorem FrameContent.pixel_banner {c : FrameContent} {x y : Nat} {colour : Rgb} (h : c.bannerPixel x y = some colour) : c.pixel x y = .rgb colour := by
  rw [FrameContent.pixel, h]

theorem FrameContent.pixel_menu {c : FrameContent} {x y : Nat} {colour : Rgb} (hb : c.bannerPixel x y = none)
    (h : c.menu.bind (fun m => m.pixel x y) = some colour) : c.pixel x y = .rgb colour := by
  rw [FrameContent.pixel, hb, h]

theorem FrameContent.pixel_guide {c : FrameContent} {x y : Nat} {colour : Rgb} (hb : c.bannerPixel x y = none)
    (hm : c.menu.bind (fun m => m.pixel x y) = none) (h : c.guidePixel x y = some colour) : c.pixel x y = .rgb colour := by
  rw [FrameContent.pixel, hb, hm, h]

theorem FrameContent.pixel_source {c : FrameContent} {x y : Nat} (hb : c.bannerPixel x y = none)
    (hm : c.menu.bind (fun m => m.pixel x y) = none) (h : c.guidePixel x y = none) : c.pixel x y = c.sourcePixel x y := by
  rw [FrameContent.pixel, hb, hm, h]

/-- R103: the picture stands inside the geometry. -/
theorem FrameContent.sourcePixel_inside {c : FrameContent} {x y : Nat} {f : Feed} (hf : c.picture = some f) (h : c.geometry.left ≤ x
      ∧ x < c.geometry.left + c.geometry.width ∧ c.geometry.top ≤ y ∧ y < c.geometry.top + c.geometry.height) :
    c.sourcePixel x y = .picture f (x - c.geometry.left) (y - c.geometry.top) := by
  rw [FrameContent.sourcePixel, hf]
  exact if_pos h

theorem FrameContent.sourcePixel_black {c : FrameContent} {x y : Nat} (h : c.picture = none ∨ ¬ (c.geometry.left ≤ x
      ∧ x < c.geometry.left + c.geometry.width ∧ c.geometry.top ≤ y ∧ y < c.geometry.top + c.geometry.height)) :
    c.sourcePixel x y = .rgb ⟨0, 0, 0⟩ := by
  rw [FrameContent.sourcePixel]
  cases hf : c.picture with
  | none => rfl
  | some f => exact if_neg (h.resolve_left (by rw [hf]; exact Option.some_ne_none _))

/-! ## The banner strip (R108) -/

theorem glyphScale_eq (h : Nat) : glyphScale h = max 1 (h / 16) := by
  unfold glyphScale
  split <;> omega

/-- A place lies in the cell numbered `r` of a row of cells `f` wide that begins at `c`. -/
theorem cell_iff {f : Nat} (hf : 0 < f) (c x : Int) (r : Nat) :
    (c ≤ x ∧ (x - c).toNat / f = r) ↔ c + ((f * r : Nat) : Int) ≤ x ∧ x < c + ((f * r + f : Nat) : Int) := by
  rw [Nat.div_eq_iff hf]
  rw [Nat.mul_comm r f]
  omega

/-- R108: a glyph is lit where one of its pixels, scaled, is lit. -/
theorem glyphLit_iff {f : Nat} (hf : 0 < f) (code : Nat) (cx cy x y : Int) : glyphLit code cx cy f x y = true
    ↔ ∃ row col, row < 16 ∧ col < 8 ∧ Config.glyphPixel code row col = true
      ∧ cx + ((f * col : Nat) : Int) ≤ x ∧ x < cx + ((f * col + f : Nat) : Int)
      ∧ cy + ((f * row : Nat) : Int) ≤ y ∧ y < cy + ((f * row + f : Nat) : Int) := by
  have within (n : Nat) (c z : Int) (h : c ≤ z) : z < c + n * f ↔ (z - c).toNat / f < n := by
    rw [Nat.div_lt_iff_lt_mul hf]
    have cast : ((n * f : Nat) : Int) = n * f := by push_cast; rfl
    omega
  simp only [glyphLit, Bool.and_eq_true, decide_eq_true_iff]
  constructor
  · rintro ⟨⟨⟨⟨x0, x1⟩, y0⟩, y1⟩, lit⟩
    obtain ⟨left, right⟩ := (cell_iff hf cx x _).1 ⟨x0, rfl⟩
    obtain ⟨top, foot⟩ := (cell_iff hf cy y _).1 ⟨y0, rfl⟩
    exact ⟨_, _, (within 16 cy y y0).1 y1, (within 8 cx x x0).1 x1, lit, left, right, top, foot⟩
  · rintro ⟨row, col, hr, hc, lit, left, right, top, foot⟩
    obtain ⟨x0, rfl⟩ := (cell_iff hf cx x col).2 ⟨left, right⟩
    obtain ⟨y0, rfl⟩ := (cell_iff hf cy y row).2 ⟨top, foot⟩
    exact ⟨⟨⟨⟨x0, (within 8 cx x x0).2 hc⟩, y0⟩, (within 16 cy y y0).2 hr⟩, lit⟩

/-- R108: the glyphs of a banner stand side by side. -/
theorem bannerLit_iff (text : List Nat) (cx cy : Int) (f : Nat) (x y : Int) : bannerLit text cx cy f x y = true
    ↔ ∃ (k : Nat) (code : Nat), text[k]? = some code ∧ glyphLit code (cx + 8 * f * k) cy f x y = true := by
  induction text generalizing cx with
  | nil => simp [bannerLit]
  | cons c rest ih =>
    rw [bannerLit, Bool.or_eq_true, ih]
    constructor
    · rintro (lit | ⟨k, code, hk, lit⟩)
      · exact ⟨0, c, rfl, by simpa using lit⟩
      · refine ⟨k + 1, code, hk, ?_⟩
        rw [show cx + 8 * (f : Int) * ((k + 1 : Nat) : Int) = cx + 8 * f + 8 * f * k by push_cast; ring]
        exact lit
    · rintro ⟨k, code, hk, lit⟩
      cases k with
      | zero =>
        cases hk
        exact .inl (by simpa using lit)
      | succ k =>
        refine .inr ⟨k, code, hk, ?_⟩
        rw [show cx + 8 * (f : Int) + 8 * f * k = cx + 8 * (f : Int) * ((k + 1 : Nat) : Int) by push_cast; ring]
        exact lit

/-- R108: where a banner whose glyphs begin at `left` and, one row of the scale below the strip's top, at `top + f` is lit. -/
theorem bannerLit_at (text : List Nat) (left : Int) (top : Nat) {f : Nat} (hf : 0 < f) (x y : Nat) :
    bannerLit text left ((top : Int) + f) f x y = true
      ↔ ∃ (k code row col : Nat), text[k]? = some code ∧ row < 16 ∧ col < 8 ∧ Config.glyphPixel code row col = true
        ∧ left + ((8 * f * k + f * col : Nat) : Int) ≤ x ∧ (x : Int) < left + ((8 * f * k + f * col + f : Nat) : Int)
        ∧ top + f + f * row ≤ y ∧ y < top + f + f * row + f := by
  rw [bannerLit_iff]
  have place (k col : Nat) : left + 8 * (f : Int) * k + ((f * col : Nat) : Int) = left + ((8 * f * k + f * col : Nat) : Int)
      ∧ left + 8 * (f : Int) * k + ((f * col + f : Nat) : Int) = left + ((8 * f * k + f * col + f : Nat) : Int) := by
    push_cast
    constructor <;> ring
  constructor
  · rintro ⟨k, code, hk, lit⟩
    obtain ⟨row, col, hr, hc, pixel, h1, h2, h3, h4⟩ := (glyphLit_iff hf _ _ _ _ _).1 lit
    rw [(place k col).1] at h1
    rw [(place k col).2] at h2
    exact ⟨k, code, row, col, hk, hr, hc, pixel, h1, h2, by omega, by omega⟩
  · rintro ⟨k, code, row, col, hk, hr, hc, pixel, h1, h2, h3, h4⟩
    rw [← (place k col).1] at h1
    rw [← (place k col).2] at h2
    exact ⟨k, code, hk, (glyphLit_iff hf _ _ _ _ _).2 ⟨row, col, hr, hc, pixel, h1, h2, by omega, by omega⟩⟩

theorem FrameContent.bannerPixel_strip {c : FrameContent} {text : List Nat} (h : c.banner = some text) (x y : Nat) :
    (y < c.size.height - c.size.height / 10 → c.bannerPixel x y = none)
    ∧ (c.size.height - c.size.height / 10 ≤ y → c.bannerPixel x y = some (
        if bannerLit text (((c.size.width : Int) - 8 * glyphScale (c.size.height / 10) * text.length) / 2)
          (((c.size.height - c.size.height / 10 : Nat) : Int) + glyphScale (c.size.height / 10)) (glyphScale (c.size.height / 10)) x y then white else black)) := by
  rw [FrameContent.bannerPixel, h]
  exact ⟨fun hy => if_pos hy, fun hy => if_neg (Nat.not_lt.2 hy)⟩

/-! ## Guides on the output (R111) -/

theorem mapPoint_eq (g : Geometry) (cw ch u v : Nat) :
    mapPoint g cw ch u v = (((g.left + u * g.width / cw : Nat) : Int), ((g.top + v * g.height / ch : Nat) : Int)) := by
  simp [mapPoint]

/-- R111: a part of a side, by its share of the image, lies inside the side. -/
theorem share_lt {u whole side : Nat} (hu : u < whole) (hs : 0 < side) : u * side / whole < side :=
  Nat.div_lt_of_lt_mul (Nat.mul_lt_mul_of_pos_right hu hs)

theorem roundDiv_whole (a : Int) {d : Nat} (hd : 0 < d) : roundDiv (a * d) d = a := by
  obtain ⟨low, high⟩ := isRounded_between (lo := a) (hi := a) hd (roundDiv_isRounded (a * d) d hd) (by rw [mul_comm]) (by rw [mul_comm])
  omega

/-- R111: the steps of the line between two different points. -/
theorem linePoint_steps {p q : Int × Int} (h : p ≠ q) (k : Nat) :
    ((q.2 - p.2).natAbs ≤ (q.1 - p.1).natAbs → linePoint p q k = (p.1 + (if q.1 - p.1 < 0 then -(k : Int) else k),
        roundDiv (p.2 * (max (q.1 - p.1).natAbs (q.2 - p.2).natAbs : Nat) + (q.2 - p.2) * k) (max (q.1 - p.1).natAbs (q.2 - p.2).natAbs)))
    ∧ ((q.1 - p.1).natAbs < (q.2 - p.2).natAbs → linePoint p q k = (
        roundDiv (p.1 * (max (q.1 - p.1).natAbs (q.2 - p.2).natAbs : Nat) + (q.1 - p.1) * k) (max (q.1 - p.1).natAbs (q.2 - p.2).natAbs),
        p.2 + (if q.2 - p.2 < 0 then -(k : Int) else k))) := by
  have far : max (q.1 - p.1).natAbs (q.2 - p.2).natAbs ≠ 0 := fun h0 => h (Prod.ext (by omega) (by omega))
  unfold linePoint
  exact ⟨fun hd => (if_neg far).trans (if_pos hd), fun hd => (if_neg far).trans (if_neg (Nat.not_le.2 hd))⟩

theorem linePoint_self (p : Int × Int) (k : Nat) : linePoint p p k = p := by simp [linePoint]

/-- R111: the line runs from its first end to its second. -/
theorem linePoint_ends (p q : Int × Int) : linePoint p q 0 = p ∧ linePoint p q (max (q.1 - p.1).natAbs (q.2 - p.2).natAbs) = q := by
  by_cases h : p = q
  · subst h
    exact ⟨linePoint_self p 0, linePoint_self p _⟩
  · have pos : 0 < max (q.1 - p.1).natAbs (q.2 - p.2).natAbs := Nat.pos_of_ne_zero (fun h0 => h (Prod.ext (by omega) (by omega)))
    obtain ⟨flat0, steep0⟩ := linePoint_steps h 0
    obtain ⟨flat, steep⟩ := linePoint_steps h (max (q.1 - p.1).natAbs (q.2 - p.2).natAbs)
    have whole (a b : Int) : roundDiv (a * (max (q.1 - p.1).natAbs (q.2 - p.2).natAbs : Nat)
        + (b - a) * (max (q.1 - p.1).natAbs (q.2 - p.2).natAbs : Nat)) (max (q.1 - p.1).natAbs (q.2 - p.2).natAbs) = b := by
      rw [← add_mul, add_sub_cancel]
      exact roundDiv_whole b pos
    by_cases hd : (q.2 - p.2).natAbs ≤ (q.1 - p.1).natAbs
    · rw [flat0 hd, flat hd]
      refine ⟨Prod.ext (by simp) ?_, Prod.ext ?_ (whole p.2 q.2)⟩
      · simpa using roundDiv_whole p.2 pos
      · dsimp only
        split <;> omega
    · have hd := Nat.not_le.1 hd
      rw [steep0 hd, steep hd]
      refine ⟨Prod.ext ?_ (by simp), Prod.ext (whole p.1 q.1) ?_⟩
      · simpa using roundDiv_whole p.1 pos
      · dsimp only
        split <;> omega

theorem dashOn_iff (type : GuideType) (k : Nat) : dashOn type k = true ↔ (type = .static → k % 28 < 16) := by
  cases type <;> simp [dashOn]

/-- R111, R112: the pixels that a stroke covers. -/
theorem Drawn.covers_iff (d : Drawn) (type : GuideType) (g : Geometry) (cw ch x y : Nat) :
    let p := mapPoint g cw ch d.u1 d.v1
    let q := mapPoint g cw ch d.u2 d.v2
    d.covers type g cw ch x y = true
      ↔ (g.left ≤ x ∧ x < g.left + g.width ∧ g.top ≤ y ∧ y < g.top + g.height)
        ∧ ∃ k ≤ max (q.1 - p.1).natAbs (q.2 - p.2).natAbs, (type = .static → k % 28 < 16)
          ∧ (linePoint p q k).1 - 2 ≤ x ∧ (x : Int) < (linePoint p q k).1 + 2
          ∧ (linePoint p q k).2 - 2 ≤ y ∧ (y : Int) < (linePoint p q k).2 + 2 := by
  intro p q
  unfold Drawn.covers
  simp only [Bool.and_eq_true, decide_eq_true_iff, List.any_eq_true, List.mem_range, dashOn_iff, Nat.lt_succ_iff]
  rfl

/-! ## The guide plane (R112) -/

/-- R112: the segments and crossbars of a set in the order they are drawn. -/
def GuideSet.drawing (s : GuideSet) : List (Colour × Option Drawn) :=
  (s.leftSegments ++ s.rightSegments).map (fun l => (l.colour, l.drawn)) ++ s.crossbars.map (fun b => (b.colour, b.drawn))

/-- A segment or crossbar that is drawn, with its colour. -/
def strokeOf (e : Colour × Option Drawn) : Option (Colour × Drawn) := e.2.map (fun d => (e.1, d))

theorem GuideSet.strokes_eq (s : GuideSet) : s.strokes = s.drawing.filterMap strokeOf := by
  simp only [GuideSet.strokes, GuideSet.drawing, List.filterMap_append, List.filterMap_map, List.map_append]
  rfl

/-- The last of a list whose stroke satisfies a test. -/
theorem find_last_stroke {drawing : List (Colour × Option Drawn)} {test : Colour × Drawn → Bool} :
    ((∀ e ∈ drawing, ∀ d, e.2 = some d → test (e.1, d) = false) → (drawing.filterMap strokeOf).reverse.find? test = none)
    ∧ ∀ before e after d, drawing = before ++ e :: after → e.2 = some d → test (e.1, d) = true →
        (∀ l ∈ after, ∀ d, l.2 = some d → test (l.1, d) = false) → (drawing.filterMap strokeOf).reverse.find? test = some (e.1, d) := by
  have none (l : List (Colour × Option Drawn)) (h : ∀ e ∈ l, ∀ d, e.2 = some d → test (e.1, d) = false) :
      (l.filterMap strokeOf).reverse.find? test = none := by
    rw [List.find?_eq_none]
    intro x hx
    obtain ⟨e, he, hs⟩ := List.mem_filterMap.1 (List.mem_reverse.1 hx)
    obtain ⟨d, hd, rfl⟩ := Option.map_eq_some_iff.1 hs
    rw [h e he d hd]
    decide
  refine ⟨none drawing, fun before e after d split hd ht ha => ?_⟩
  have stroke : strokeOf e = some (e.1, d) := by rw [strokeOf, hd]; rfl
  rw [split, List.filterMap_append, List.filterMap_cons_some stroke, List.reverse_append, List.reverse_cons, List.find?_append, List.find?_append,
    none after ha, List.find?_singleton, ht]
  rfl

theorem FrameContent.guidePixel_of {c : FrameContent} {set : GuideSet} (h : c.guides = some set) (x y : Nat) : c.guidePixel x y
    = ((set.drawing.filterMap strokeOf).reverse.find? (fun e =>
        e.2.covers set.input.type c.geometry set.input.imageWidth set.input.imageHeight x y)).map (fun e => e.1.rgb) := by
  rw [FrameContent.guidePixel, h, ← GuideSet.strokes_eq]

end Sys2Proof.Machine

open Sys2Proof Sys2Proof.Machine

/-- Settles O36: the geometry, the planes over each other, the banner's glyphs (`bannerLit_iff`, `glyphLit_iff`), the mapped and drawn
guides (`linePoint_steps`, `Drawn.covers_iff`) and their order. -/
theorem geometryFillsOneSideAndFits : Obligations.GeometryFillsOneSideAndFits := by
  refine ⟨fun wo ho => rfl, fun ws hs wo ho h => geometryOf_wide h, fun ws hs wo ho h => geometryOf_tall h,
    fun ws hs wo ho _ _ => geometryOf_within ws hs wo ho, by decide, fun c x y => ?_, fun c x y => ⟨fun h => ?_, fun text h => ?_⟩,
    fun g cw ch u v => ⟨mapPoint_eq g cw ch u v, fun hu hv hw hh => ?_⟩, fun p q k => ?_, Drawn.covers_iff, fun c x y => ⟨fun h => ?_, fun set h => ?_⟩⟩
  · refine ⟨fun colour h => FrameContent.pixel_banner h, fun colour hb h => FrameContent.pixel_menu hb h,
      fun colour hb hm h => FrameContent.pixel_guide hb hm h, fun hb hm h => ⟨fun f hf hin => ?_, fun hin => ?_⟩⟩
    · rw [FrameContent.pixel_source hb hm h, FrameContent.sourcePixel_inside hf hin]
    · rw [FrameContent.pixel_source hb hm h, FrameContent.sourcePixel_black hin]
  · rw [FrameContent.bannerPixel, h]
  · obtain ⟨above, strip⟩ := FrameContent.bannerPixel_strip h x y
    refine ⟨above, fun hy left low high => ?_⟩
    rw [glyphScale_eq] at strip
    have centre : ((c.size.width : Int) - 8 * (max 1 (c.size.height / 10 / 16) : Nat) * text.length) / 2 = left := by
      generalize (c.size.width : Int) - 8 * (max 1 (c.size.height / 10 / 16) : Nat) * text.length = a at low high
      omega
    have lit := bannerLit_at text left (c.size.height - c.size.height / 10) (f := max 1 (c.size.height / 10 / 16)) (by omega) x y
    have shown := strip hy
    rw [centre] at shown
    refine ⟨fun h => ?_, fun h => ?_⟩
    · rw [shown, if_pos (lit.2 h)]
      rfl
    · rw [shown, if_neg (mt lit.1 h)]
      rfl
  · have h1 := share_lt hu hw
    have h2 := share_lt hv hh
    rw [mapPoint_eq]
    dsimp only
    generalize u * g.width / cw = a at h1
    generalize v * g.height / ch = b at h2
    omega
  · obtain ⟨first, last⟩ := linePoint_ends p q
    refine ⟨fun h => ?_, first, last, fun h hd => ?_, fun hd => ?_⟩
    · subst h
      exact linePoint_self p k
    · have pos : 0 < max (q.1 - p.1).natAbs (q.2 - p.2).natAbs := Nat.pos_of_ne_zero (fun h0 => h (Prod.ext (by omega) (by omega)))
      rw [(linePoint_steps h k).1 hd]
      exact ⟨rfl, roundDiv_isRounded _ _ pos⟩
    · rw [(linePoint_steps (fun h => by rw [h] at hd; omega) k).2 hd]
      exact ⟨rfl, roundDiv_isRounded _ _ (by omega)⟩
  · rw [FrameContent.guidePixel, h]
  · obtain ⟨bare, last⟩ := find_last_stroke (drawing := set.drawing)
      (test := fun e => e.2.covers set.input.type c.geometry set.input.imageWidth set.input.imageHeight x y)
    rw [FrameContent.guidePixel_of h]
    refine ⟨fun uncovered => ?_, fun before e after split ⟨d, hd, covers⟩ uncovered => ?_⟩
    · rw [bare (fun e he d hd => Bool.eq_false_iff.2 (fun hc => uncovered e he ⟨d, hd, hc⟩))]
      rfl
    · rw [last before e after d split hd covers (fun l hl d hd => Bool.eq_false_iff.2 (fun hc => uncovered l hl ⟨d, hd, hc⟩)), Option.map_some]
      cases e.1 <;> rfl

end
